-- ==== Sys2Proof/Word.lean ====
section
/-! DEFINITION. Word.lean: the word types of the LN-T8 and the finite ranges its numbers run over. -/

namespace Sys2Proof

/-- A byte. The device is little-endian (Numbers, registers and structures, chapter 0). -/
abbrev Byte := BitVec 8
/-- A 32-bit word. -/
abbrev Word32 := BitVec 32
/-- A 64-bit word; every register is held in one, a 32-bit register in its low half. -/
abbrev Word64 := BitVec 64

/-- A PCIe function: 0 the physical function, n the virtual function n (R2, R434). -/
abbrev Fn := Fin 65
/-- A virtual function as an index: `v` stands for VF v + 1, as STB_KILLS[v] numbers them. -/
abbrev Vf := Fin 64
/-- A ring pair (R83): VF n owns ring pairs (n − 1) · 16 to (n − 1) · 16 + 15. -/
abbrev RingPair := Fin 1024
/-- A sequence-table entry (R119). -/
abbrev SeqNo := Fin 16384
/-- A pseudo-channel of the stacked memory (R233). -/
abbrev Pch := Fin 256
/-- A stack. -/
abbrev Stack := Fin 8
/-- A far-tier port (R305). -/
abbrev FarPort := Fin 2
/-- A Lenlink port (R331). -/
abbrev Port := Fin 16
/-- A mailbox: 0 the operator, 1 to 64 the tenants, 65 the BMC (R433). -/
abbrev Mbx := Fin 66
/-- A place of a command: slot s of a mailbox (R434), or 4 + s for a command of slot s that was accepted before an FLR and
whose response is discarded (R426). -/
abbrev MSlot := Fin 8
/-- An error domain: 0 core, 1 memory, 2 far tier, 3 fabric, 4 host, 5 platform (R493). -/
abbrev Domain := Fin 6
/-- A power domain (R510). -/
abbrev PwrDom := Fin 4
/-- A partition or a rood (R151). -/
abbrev Rood := Fin 16

end Sys2Proof
end

