-- ==== Sys2Proof/Syntax.lean ====
section
/-! DEFINITION. Syntax.lean: the commands of the LN-T8, one constructor per row of spec/opcode_table.json, with their
operands. A command is an access of the host, a message that arrives, an event of a pin or of the world around the device,
or one of the device's own indivisible steps; what the specification leaves to the world (bytes a DMA read brings, errors a
burst meets, temperatures, durations) is an operand. -/

namespace Sys2Proof

/-- Which BAR a host access goes through: PF BAR0, PF BAR2, or BAR0 of a VF (Table 20.4). -/
inductive BarView where
  | pf0
  | pf2
  | vf (v : Vf)
deriving DecidableEq, Repr

/-- How a DMA request fails at the host (R419, R430): no completion in time, UR, CA, a poisoned completion, or a
translation without permission. -/
inductive DmaFault where
  | timeout
  | ur
  | ca
  | poison
  | denied
deriving DecidableEq, Repr

/-- What a DMA read brings: bytes, or a failure. -/
inductive Dma where
  | data (bs : List Byte)
  | fault (k : DmaFault)
deriving DecidableEq, Repr

/-- Errors a burst meets in one of its words: the word's number (address / 64) and its bad symbols (R275). -/
abbrev WordErr := Nat × List (Nat × Byte)

/-- Atomic operations of the pool (Table 7.7). -/
inductive PoolOp where
  | add | sadd | min | max | and | or | swap | cas | setall | clrall
deriving DecidableEq, Repr

/-- What a far device reports at enumeration (R306, R307, R318): an operand of the events of its training. -/
structure FarCard where
  type3 : Bool
  multiLogical : Bool
  switch : Bool
  dynamic : Bool
  capacity : Nat
  persistent : Bool
  gpf : Bool
  serial : Nat
  latency : Option Nat
  bandwidth : Option Nat
  /-- WIDTH and RATE as FTC_PSTATE shows them. -/
  width : Nat
  rate : Nat
deriving DecidableEq, Repr

/-- What a CODE window measures on a lane (R358, R361): SNR in 0.1 dB, corrections per million coded bits, eye heights in
1/256, CTLE peaking in dB and the first DFE tap. -/
structure LaneMeas where
  snr : Nat
  corr : Nat
  eyeUp : Nat
  eyeMid : Nat
  eyeLow : Nat
  ctle : Nat
  dfe : Int
deriving DecidableEq, Repr

/-- A DMA request of the device by what issued it (R419): an SQ fetch, an operand fetch, the results of a sequence, a CQ
write, or a command of a mailbox at a buffer offset. -/
inductive DmaUse where
  | sqFetch (p : RingPair)
  | operand (p : RingPair)
  | result (e : SeqNo)
  | cqWrite (p : RingPair)
  | command (m : Mbx) (s : MSlot) (off : Nat)
deriving DecidableEq, Repr

/-- A configuration request (R410 to R412, R414, R416, R417, R421, R430). -/
inductive CfgOp where
  /-- Vendor and device ID, class code and revision, subsystem IDs, serial number. -/
  | readId | readClass | readSubsystem | readSerial
  /-- SR-IOV: InitialVFs, TotalVFs, NumVFs, First VF Offset, VF Stride and VF Device ID; SR-IOV Control; supported and set
  System Page Size. -/
  | readSriov | readSriovControl | readPageSize
  /-- The Command register; MSI-X Message Control; the PASID, ATS and Device 2 capabilities, each with its control. -/
  | readCommand | readMsix | readPasid | readAts | readTimeout
  /-- Readiness time of VF Enable in ns; AER status bit of an event number, and its clearing. -/
  | readReadiness | readAer (k : Nat) | clearAer (k : Nat)
  | readBar (k : Nat) | writeBar (k addr : Nat)
  /-- Memory Space Enable of a function, VF Memory Space Enable. -/
  | memSpace (on : Bool) | vfMemSpace (on : Bool)
  | pasidEnable (on : Bool) | atsEnable (on : Bool)
  | msixEnable (on : Bool) | msixFunctionMask (on : Bool)
  | completionTimeout (v : BitVec 4)
deriving DecidableEq, Repr

/-- A PLDM for Firmware Update command (R572). What the device itself sends (RequestFirmwareData and its completions) stands
here as the BMC's answer to it. -/
inductive PldmCmd where
  | queryDeviceIdentifiers | getFirmwareParameters
  | requestUpdate (maxTransfer : Nat)
  | passComponentTable
  | updateComponent (id : Nat)
  /-- The answer to a RequestFirmwareData. -/
  | firmwareData (bs : List Byte)
  | transferComplete | verifyComplete | applyComplete
  | activateFirmware (selfContained : Bool)
  | getStatus | cancelUpdateComponent | cancelUpdate
deriving DecidableEq, Repr

/-- A PLDM discovery or PDR request (R577). -/
inductive PldmQuery where
  | getTid | getVersion (type : Nat) | getTypes | getCommands (type : Nat) | getPdrRepositoryInfo | getPdr (record : Nat)
deriving DecidableEq, Repr

/-- An MCTP control message (R578). -/
inductive MctpCtl where
  | setEid (eid : Byte) | getEid | getVersion | getTypes | getVendor | other (cmd : Byte)
deriving DecidableEq, Repr

/-- An SPDM request (R574). -/
inductive SpdmReq where
  | getVersion | getCapabilities | negotiateAlgorithms | getDigests
  | getCertificate (slot off len : Nat)
  | challenge (nonce : List Byte)
  | keyExchange | finish | endSession | heartbeat | keyUpdate
  | other (code : Byte)
deriving DecidableEq, Repr

/-- A JTAG instruction (R618): IDCODE, one that drives pins (EXTEST, CLAMP and others), a private one of Plinov, or any other. -/
inductive JtagInstr where
  | idcode | drivesPins | privateOne | other
deriving DecidableEq, Repr


/-- The commands of the device: one constructor per row of spec/opcode_table.json. -/
inductive Instr where
  /-- REGISTER_WRITE (R9): A host write to a register field that has no row of its own applies under its access code. -/
  | registerWrite (v : BarView) (off size val : Nat)
  /-- REG_SIZE (R6): A register access of the wrong size or alignment has no effect, reads zero and is recorded under the rate limit. -/
  | regSize (v : BarView) (off size : Nat) (write : Bool)
  /-- LOW_HALF_READ (R7): A 4 B read of the low half of a 64-bit register latches the high half into the function's read shadow and clears its RC fields. -/
  | lowHalfRead (v : BarView) (off : Nat)
  /-- HIGH_HALF_READ (R7): A 4 B read of the high half returns and empties a matching shadow, or returns the live high half. -/
  | highHalfRead (v : BarView) (off : Nat)
  /-- RC_READ (R8): An aligned read of a register with RC fields returns the value and clears those fields at its edge. -/
  | rcRead (v : BarView) (off size : Nat)
  /-- LOW_HALF_WRITE (R8): A 4 B write of the low half of a 64-bit writable register is held in the per-function write shadow. -/
  | lowHalfWrite (v : BarView) (off : Nat) (val : Word32)
  /-- HIGH_HALF_WRITE (R8): A 4 B write of the high half applies both halves at one edge, or the high half alone when no low half is held. -/
  | highHalfWrite (v : BarView) (off : Nat) (val : Word32)
  /-- SPLIT_8B_ACCESS (R652): An aligned 8 B access over two 32-bit registers acts as two 4 B accesses at one edge. -/
  | split8bAccess (v : BarView) (off : Nat) (write : Option Word64)
  /-- STEP_TICK (R126): Each step tick makes arrivals visible, evaluates cancels and deadlines, determines ready sequences, admits descriptors, starts stages and commits. -/
  | stepTick
  /-- QFE_SQTAIL (R89): An SQ doorbell write replaces the stored tail, acted on at the next tick, or is refused under R90. -/
  | qfeSqtail (v : BarView) (p : RingPair) (val : Word32)
  /-- QFE_CQHEAD (R90): A CQ doorbell write returns CQ entries and completion credit, or is refused as out of range. -/
  | qfeCqhead (v : BarView) (p : RingPair) (val : Word32)
  /-- QFE_CANCEL (R116): A cancel write stores a tag for the ring pair, up to 16 per tick. -/
  | qfeCancel (v : BarView) (p : RingPair) (tag : Word32)
  /-- CANCEL_ACT (R116): At the next tick each stored tag completes matching admitted queries with CANCELLED or counts a miss. -/
  | cancelAct (p : RingPair)
  /-- DESCRIPTOR_FETCH (R87): The front end fetches descriptors covered by a doorbell once, in ring order, into staging. -/
  | descriptorFetch (p : RingPair) (data : List Byte)
  /-- SQ_FETCH_FAULT (R92): A faulting SQ fetch puts the ring pair in FAULT and stops further admission. -/
  | sqFetchFault (p : RingPair) (k : DmaFault)
  /-- OPERAND_STAGE (R124): Operand buffers are fetched into the VF's operand share before a descriptor counts as staged. -/
  | operandStage (p : RingPair) (vec code : Dma)
  /-- CQ_WRITE_FAULT (R93): A faulting CQ write puts the ring pair in FAULT and later completions are counted in QFE_CQLOST. -/
  | cqWriteFault (p : RingPair) (k : DmaFault)
  /-- RESULT_WRITE_FAULT (R104): A faulting result write turns the completion into BAD_DESCRIPTOR with no entries. -/
  | resultWriteFault (e : SeqNo) (k : DmaFault)
  /-- QUERY (R52): An admitted query descriptor pins epoch and filter and runs its stage list to a completion with the status of Table 1.4. -/
  | query (p : RingPair) (desc vec code : List Byte)
  /-- INSERT (R78): An admitted insert runs PLACE and COMMIT, writing the item into the open epoch. -/
  | insert (p : RingPair) (desc vec code : List Byte)
  /-- DELETE (R80): An admitted delete tags the item in the open epoch or unstages it. -/
  | delete (p : RingPair) (desc : List Byte)
  /-- PUBLISH (R74): An admitted publish chooses a retiree, folds it and makes the open epoch live. -/
  | publish (p : RingPair) (desc : List Byte)
  /-- STAGE_COMPLETE (R138): An engine reports completion of a compute stage and the sequence becomes ready for its next stage. -/
  | stageComplete (e : SeqNo)
  /-- LIST_LINE_RETURN (R653): A returned bucket-list line read issues the bushel reads it names. -/
  | listLineReturn (e : SeqNo) (line : Nat)
  /-- CENTROID_PASS (R267): A centroid pass streams one table through its group and scores the CQs that started on it. -/
  | centroidPass (g : Rood)
  /-- SCAN_REQUEST (R250): A base-die engine decrypts a code bushel, filters its slots and returns up to 32 survivors. -/
  | scanRequest (e : SeqNo) (addr : Nat)
  /-- HOP_REQUEST (R253): A base-die engine reads a chain bushel and returns every neighbour's distance and eligibility. -/
  | hopRequest (e : SeqNo) (addr : Nat)
  /-- RAW_REQUEST (R254): A plain read returns decrypted words with the write-combining overlay. -/
  | rawRequest (e : SeqNo) (addr words : Nat)
  /-- LINE_READ_RETURN (R251): A filter, tombstone or ID line read for a slot returns to its engine. -/
  | lineReadReturn (e : SeqNo) (line : Nat)
  /-- SURVIVOR_COLLECT (R255): The survivor collector keeps the first 32 entries per bucket from every returned list. -/
  | survivorCollect (e : SeqNo)
  /-- CONTEXT_MISS (R123): A read of an evicted sequence-cache line is served from the context extension. -/
  | contextMiss (e : SeqNo) (line : Nat)
  /-- KILL_RERUN (R164): A killed sequence reruns its stage with restored rounding state when its tenant next holds the partition. -/
  | killRerun (e : SeqNo)
  /-- DEADLINE_EXPIRE (R118): A query's deadline passes at a tick boundary and it completes under Table 1.4. -/
  | deadlineExpire (e : SeqNo)
  /-- SLOT_BOUNDARY (R156): A slice slot boundary takes effect, kills per Table 5.5 and starts a switch. -/
  | slotBoundary (part : Rood)
  /-- SWITCH_END (R159): A tenant switch ends and the incoming tenant holds the partition, moving boundaries if short. -/
  | switchEnd (part : Rood)
  /-- FILL_DONE (R177): A perch fill completes and the image becomes resident. -/
  | fillDone (image : Nat)
  /-- STREAM_ENC (R180): An ENC on a STREAM ring reads an absent image's layers from its home and starts a fill. -/
  | streamEnc (e : SeqNo)
  /-- FOLD_STEP (R74): A fold step rewrites up to 64 tombstone tags of the retiree to the successor slot. -/
  | foldStep (e : SeqNo)
  /-- REVOKE_SEQUENCES (R189): One tick after revocation every uncommitted sequence of the tenant completes with REVOKED. -/
  | revokeSequences (v : Vf)
  /-- BURST_START (R242): A free pseudo-channel starts the first candidate of the arbitration order. -/
  | burstStart (p : Pch)
  /-- BURST_COMPLETE (R238): A burst finishes its occupancy and its data returns to the engine. -/
  | burstComplete (p : Pch) (errs : List WordErr)
  /-- DISPLACE (R244): An LC read finding no slot displaces the youngest BE read to the backlog. -/
  | displace (p : Pch) (addr : Nat)
  /-- TOKEN_REFILL (R246): Every 64 MCLK each rood bucket gains RATE tokens up to DEPTH. -/
  | tokenRefill
  /-- DRAIN_ELIGIBLE (R262): An entry becomes eligible when full, 1 µs after its first write or when its share is 75 % occupied, and a burst is formed. -/
  | drainEligible (word : Nat)
  /-- DRAIN_MERGE (R263): A partial word is merged over the returned old word and its outcome decides poison. -/
  | drainMerge (word : Nat) (errs : List (Nat × Byte))
  /-- DRAIN_COMPLETE (R260): A drain burst completes and unrewritten entries leave the buffer. -/
  | drainComplete (word : Nat)
  /-- WHOLE_WORD_STREAM (R264): A whole-word stream goes straight to WR, replacing any buffer entry. -/
  | wholeWordStream (addr : Nat) (data : List Byte)
  /-- POOL_ATOMIC (R268): The pool performs an indivisible atomic on a word and returns the old value. -/
  | poolAtomic (op : PoolOp) (off : Nat) (wide : Bool) (operand comparand : Word64) (masks : List Word64)
  /-- REFRESH_DUE (R287): A refresh falls due at its interval and takes the pseudo-channel for 26 ns. -/
  | refreshDue (p : Pch)
  /-- CE_DECAY (R290): Every DECAY minutes each CE tracker count drops by one and empty entries free. -/
  | ceDecay
  /-- COPY_READ (R293): The copy read of a half-frame copy reads and decodes the source row when LCR is empty. -/
  | copyRead (p : Pch) (errs : List WordErr)
  /-- COPY_WRITE (R293): The copy write stores the held row at its destination and redirects the row. -/
  | copyWrite (p : Pch)
  /-- SCRUB_READ (R302): A patrol scrub read decodes a frame and counts its outcomes. -/
  | scrubRead (p : Pch) (errs : List WordErr)
  /-- SCRUB_LATE (R302): A scrub pass that exceeds its period writes one record and continues. -/
  | scrubLate (p : Pch)
  /-- TGC_CTL (R271): Setting GO starts a traffic-generator run or refuses it; clearing GO stops MIX and LATENCY. -/
  | tgcCtl (p : Pch) (val : Word32)
  /-- TGC_RUN_DONE (R272): A WRITE or CHECK run finishes its range and ends in DONE. -/
  | tgcRunDone (p : Pch) (errs : List WordErr)
  /-- FAR_PORT_TRAINED (R306): A far-tier port that trains is enumerated and either refused or brought ONLINE. -/
  | farPortTrained (n : FarPort) (c : FarCard)
  /-- FAR_ABSENT_RETRY (R308): An ABSENT far-tier port is retrained every 1 s. -/
  | farAbsentRetry (n : FarPort) (c : Option FarCard)
  /-- FTC_DLAT (R307): A write to FTC_DLAT sets the operator value and the larger of it and the floor takes effect. -/
  | ftcDlat (n : FarPort) (val : Word32)
  /-- FAR_READ_ISSUE (R314): The FTC issues the first far request candidate when a tag and the link are free. -/
  | farReadIssue (n : FarPort)
  /-- FAR_READ_RETURN (R314): A far read returns data or device poison and frees its tag. -/
  | farReadReturn (n : FarPort) (tag : Nat) (poisoned : Bool)
  /-- READ_TIMEOUT (R316): A far read not returned within FTC_TIMEOUT acts as poison and frees its tag. -/
  | readTimeout (n : FarPort) (tag : Nat)
  /-- FAR_WRITE_COMPLETE (R315): A far MemWr completes and its entry leaves the write buffer. -/
  | farWriteComplete (n : FarPort)
  /-- FAR_LINK_DOWN (R325): An ONLINE port's link goes down: reads fail, writes discarded, tuns go OFFLINE or LOST. -/
  | farLinkDown (n : FarPort)
  /-- FAR_LINK_RETRAIN (R326): A DOWN port that trains again is enumerated and its tuns return or stay per serial number. -/
  | farLinkRetrain (n : FarPort) (c : FarCard)
  /-- GPF_PHASE2_RESPONSE (R320): A far device answers GPF phase 2 or its timeout passes and the result is recorded. -/
  | gpfPhase2Response (n : FarPort) (done : Bool)
  /-- DEV_EVENT_POLL (R329): Every 100 ms Sosin firmware reads far devices' event logs into DEV_EVENT records. -/
  | devEventPoll (events : List (FarPort × Nat × List Byte))
  /-- SYNC_WORD (R335): A received sync word is checked and either ignored or fed to the port state machine. -/
  | syncWord (n : Port) (rate : Fin 4) (lane : Fin 9) (word : List Byte) (skew : Nat)
  /-- SEARCH_SLOT (R338): A 2.048 ms search slot ends and the port moves to the next rate. -/
  | searchSlot (n : Port)
  /-- FULL_SET (R339): 8.192 ms after the first rate heard, FULL is set and HEARD is frozen. -/
  | fullSet (n : Port)
  /-- SEARCH_END (R341): After 16 rounds a port with nothing heard enters LONE, one undecided enters FAULT. -/
  | searchEnd (n : Port)
  /-- BEACON (R343): Every 100 ms in LONE the port ramps up and sends sync words at each rate. -/
  | beacon (n : Port)
  /-- LOCK_TIMEOUT (R346): A LOCK not ended within 2 ms returns the port to SEARCH. -/
  | lockTimeout (n : Port)
  /-- ADAPT_DONE (R348): Adaptation converges on every lane and the port enters CODE. -/
  | adaptDone (n : Port)
  /-- ADAPT_TIMEOUT (R348): ADAPT exceeding 20 ms enters FAULT with ADAPTTIMEOUT. -/
  | adaptTimeout (n : Port)
  /-- FIRREQ (R354): A partner FIR tap request is applied within 2 µs and reported in FIRSTAT. -/
  | firreq (n : Port) (lane : Fin 9) (req : BitVec 12)
  /-- DPDREQ (R355): A partner pre-distortion request moves one DAC code or reports MIN, MAX or NOTUPDATED. -/
  | dpdreq (n : Port) (lane : Fin 9) (req : Byte)
  /-- OFFSET_UPDATE (R349): Every 1 µs the mean frequency offset is written into the receive divider fraction. -/
  | offsetUpdate (n : Port) (off : BitVec 16)
  /-- CODE_WINDOW_END (R358): The CODE measurement window ends, lanes are judged and the spare chosen or rate lowered. -/
  | codeWindowEnd (n : Port) (meas : List LaneMeas)
  /-- SYNC (R360): At the first marker with both spares settled the port enters ACTIVE and latches quality figures. -/
  | sync (n : Port) (rtt : Nat)
  /-- LOCK_LOST (R362): Missing markers, LOCK words or a changed partner end ACTIVE with a quick retrain or SEARCH. -/
  | lockLost (n : Port) (kind : Fin 3) (dev port : Nat)
  /-- QUICK_RETRAIN (R363): A quick retrain attempt relocks at the held settings or, after three failures, enters SEARCH. -/
  | quickRetrain (n : Port)
  /-- FAULT_EXPIRE (R336): A port in FAULT returns to SEARCH after 1 s. -/
  | faultExpire (n : Port)
  /-- LNK_ENABLE (R337): Setting ENABLE enters SEARCH; clearing it ramps down to DISABLED. -/
  | lnkEnable (n : Port) (on : Bool)
  /-- LNK_RETRAIN (R364): A RETRAIN write starts a quick retrain or a full SEARCH at the next tick. -/
  | lnkRetrain (n : Port) (val : BitVec 2)
  /-- LNK_RATEMAX (R357): A RATEMAX write changes the rate ceiling according to the port state. -/
  | lnkRatemax (n : Port) (val : BitVec 2)
  /-- LNK_MEDIA (R356): A MEDIA write is stored, or forced to 0 on electrical-only ports, and acts at the next SEARCH. -/
  | lnkMedia (n : Port) (on : Bool)
  /-- RAMP_END (R365): A driver ramp ends and the next waiting port may ramp. -/
  | rampEnd (n : Port)
  /-- DOZE_REQUEST (R366): A DOZE setting or partner DOZEREQ runs the handshake and both ports ramp down. -/
  | dozeRequest (n : Port)
  /-- WAKE (R367): Clearing DOZE or hearing the partner ramps the port up and relocks or starts a quick retrain. -/
  | wake (n : Port) (relocked : Bool)
  /-- FLIT_RECEIVE (R380): A flit is accepted on matching FCRC and LSEQ or dropped and NAKed. -/
  | flitReceive (n : Port) (flit : List Byte) (corrections : List Nat)
  /-- NAK (R380): On NAK the sender replays every flit after ACKSEQ with RPL set. -/
  | nak (n : Port)
  /-- REPLAY_LIMIT (R381): A flit failing 8 replays starts a quick retrain keeping the replay buffer. -/
  | replayLimit (n : Port)
  /-- FLITS_LOST (R381): A port leaving to SEARCH or below discards its buffers and aborts cut messages. -/
  | flitsLost (n : Port)
  /-- FRAME_SEND (R379): At each frame slot the port sends the first ready flit in priority order. -/
  | frameSend (n : Port)
  /-- MISWIRED (R373): A port whose partner differs from the map carries no flit and records MISWIRED. -/
  | miswired (n : Port)
  /-- UNISOLATE (R403): Writing UNISOLATE returns an ISOLATED port to service. -/
  | unisolate (n : Port)
  /-- FAB_FLY (R655): A write to FAB_FLY sets the operator flight time; the larger of it and the measured value applies. -/
  | fabFly (n : Port) (val : BitVec 16)
  /-- QREQ (R390): An arriving query request takes a sequence entry and runs the shard part, or waits in arrival staging. -/
  | qreq (n : Port)
  /-- QLIST (R391): An arriving result list is merged by the reduction lane or discarded as late. -/
  | qlist (n : Port)
  /-- LANE_EMIT (R391): The reduction lane emits its merged list once every awaited input is present. -/
  | laneEmit (home hent gen : Nat)
  /-- REMOTE_TIMER_EXPIRE (R393): The home's remote-request timer fires, sends CANCEL and completes the query. -/
  | remoteTimerExpire (e : SeqNo)
  /-- SUBTREE_TIMER_EXPIRE (R392): A subtree timer fires and the lane emits what it holds with SUBTMO. -/
  | subtreeTimerExpire (home hent gen : Nat)
  /-- CANCEL_MSG (R394): An arriving CANCEL ends the shard part, drops lane state and is forwarded and kept. -/
  | cancelMsg (n : Port)
  /-- CANCEL_KEEP_EXPIRE (R394): A kept query ID is forgotten 100 µs after its CANCEL. -/
  | cancelKeepExpire
  /-- WREQ (R399): An arriving remote write executes once by serial, or resends its kept WREP, or is discarded. -/
  | wreq (n : Port)
  /-- WREP (R398): An arriving write report lets the home write the completion next tick. -/
  | wrep (n : Port)
  /-- WRITE_RETRY (R398): With no WREP within RRT the home resends every write still in COMMIT. -/
  | writeRetry (index shard : Nat)
  /-- PPREP (R400): A shard prepares a publish for the named retiree and reports PPRDY. -/
  | pprep (n : Port)
  /-- PPRDY (R400): A publish-ready report reaches the home, which sends PCOMMIT when all are in. -/
  | pprdy (n : Port)
  /-- PCOMMIT (R400): A shard commits the publish at the end of the arrival tick and reports PDONE. -/
  | pcommit (n : Port)
  /-- PDONE (R400): The last PDONE lets the home commit its shard and the completion. -/
  | pdone (n : Port)
  /-- PUBLISH_RETRY (R400): PPREP or PCOMMIT is sent again every RRT until all reports are in. -/
  | publishRetry (e : SeqNo)
  /-- LSTATE (R385): An arriving LSTATE updates the reachability set. -/
  | lstate (n : Port)
  /-- LDOWN_PERIOD (R401): Every 250 µs the leader sends LDOWN with the combined operating point and ratio. -/
  | ldownPeriod
  /-- LDOWN (R401): A member applies an arriving LDOWN and sends its LUP. -/
  | ldown (n : Port)
  /-- LUP (R401): A lane combines arriving LUPs by highest OP and ratio. -/
  | lup (n : Port)
  /-- LEAGUE_LOST (R402): A member without LDOWN for 1 ms runs on its own permitted values. -/
  | leagueLost
  /-- MEMBER_LOST (R401): A member unheard for 4 periods is left out by the leader. -/
  | memberLost (d : Nat)
  /-- MGT (R462): An arriving MGT message carries Sosin league traffic. -/
  | mgt (n : Port)
  /-- PERST_N (R431): Deassertion of PERST_N starts the readiness ladder; assertion starts a warm reset. -/
  | perstN (asserted : Bool)
  /-- CONFIG_REQUEST (R431): A configuration request is answered or retried per readiness and FLR state. -/
  | configRequest (f : Fn) (op : CfgOp)
  /-- HOST_UR (R414): A memory request with Memory Space Enable clear or during FLR completes with UR. -/
  | hostUr (v : BarView) (off : Nat) (secure : Bool)
  /-- VF_ENABLE (R411): Setting VF Enable creates VFs 1 to NumVFs; clearing it resets every VF as its FLR. -/
  | vfEnable (on : Bool)
  /-- NUMVFS_WRITE (R411): A NumVFs write is accepted only while VF Enable is clear and within range. -/
  | numvfsWrite (n : Nat)
  /-- SYSTEM_PAGE_SIZE_WRITE (R411): A System Page Size write is accepted only for one supported bit while VF Enable is clear. -/
  | systemPageSizeWrite (val : Nat)
  /-- TDI_BLOCK (R415): A PF access to a locked tenant's ring window completes with UR and records TDI_BLOCK. -/
  | tdiBlock (p : RingPair) (off : Nat)
  /-- ATS_INVALIDATE (R418): An invalidation request is completed after all uses of the translation end. -/
  | atsInvalidate (f : Fn) (pasid : Option Nat) (addr len : Nat)
  /-- ATS_DENIED (R419): A translation without permission faults the operation that issued it. -/
  | atsDenied (u : DmaUse)
  /-- DMA_TIMEOUT (R430): A device DMA read that times out fails its operation. -/
  | dmaTimeout (u : DmaUse)
  /-- DMA_ABORT (R419): A UR or CA completion to a device read fails its operation. -/
  | dmaAbort (u : DmaUse) (ca : Bool)
  /-- HOST_POISON_RX (R419): A poisoned TLP is dropped and a poisoned completion fails its read at once. -/
  | hostPoisonRx (f : Fn) (u : Option DmaUse)
  /-- HOST_PROTO (R504): A malformed TLP or flow-control error enters the fatal state unless the link recovers within 1 s. -/
  | hostProto (kind : Fin 3)
  /-- HOST_LINK_CE (R429): Link-level correctable events cause link recovery and a corrected record. -/
  | hostLinkCe (kind : Fin 5)
  /-- HOST_DEGRADED (R409): A link training below x4 or at 5 GT/s or less is recorded. -/
  | hostDegraded (rate width : Nat) (flit : Bool)
  /-- HOST_LINK_DOWN (R427): A hot reset or host link down acts as a PF FLR. -/
  | hostLinkDown (hot : Bool)
  /-- BUS_MASTER_ENABLE (R656): Clearing BME stops DMA for the function; setting it resumes fetches and pending interrupts. -/
  | busMasterEnable (f : Fn) (on : Bool)
  /-- MSIX_UNMASK (R421): Unmasking with the pending bit set sends the message once. -/
  | msixUnmask (f : Fn)
  /-- IDE_FAIL (R422): An IDE integrity failure moves the stream to Insecure and drops the TLP. -/
  | ideFail (st : Fin 4)
  /-- IDE_KM (R422): An IDE_KM request sets up a stream's keys. -/
  | ideKm (st : Fin 4) (link : Bool) (cover : List Fn) (key : List Byte)
  /-- LOCK_INTERFACE_REQUEST (R423): A TDISP lock moves a qualifying VF's TDI to CONFIG_LOCKED. -/
  | lockInterfaceRequest (v : Vf)
  /-- START_INTERFACE_REQUEST (R423): A TDISP start moves the TDI from CONFIG_LOCKED to RUN. -/
  | startInterfaceRequest (v : Vf)
  /-- STOP_INTERFACE_REQUEST (R423): A TDISP stop moves the TDI to CONFIG_UNLOCKED. -/
  | stopInterfaceRequest (v : Vf)
  /-- TDI_ERROR (R424): A reconfiguration of a locked VF moves its TDI to ERROR, revokes and zeroises its key. -/
  | tdiError (v : Vf)
  /-- INSTALL (R425): A confidential tenant installs its key through the vendor SPDM request. -/
  | install (v : Vf) (payload : List Byte)
  /-- SPDM_REQUEST (R574): An SPDM request over DOE or MCTP is answered as responder. -/
  | spdmRequest (peer : Option Fn) (r : SpdmReq)
  /-- GET_MEASUREMENTS (R576): A measurement request returns the blocks of Table 16.7. -/
  | getMeasurements (peer : Option Fn) (index : Nat)
  /-- VF_FLR (R426): An FLR of a VF runs its event ladder, ending sequences without completions. -/
  | vfFlr (v : Vf)
  /-- PF_FLR (R427): An FLR of the PF resets every VF, IDE streams, TDIs and mailbox 0. -/
  | pfFlr
  /-- FLR_COMPLETE (R426): The FLR finishes and configuration requests are answered normally. -/
  | flrComplete (f : Fn)
  /-- MBX_DOORBELL (R436): A SUBMIT bit posts a FREE slot, or is ignored and recorded. -/
  | mbxDoorbell (m : Mbx) (mask : BitVec 4)
  /-- MBX_ACK (R436): A RELEASE bit returns a DONE slot to FREE. -/
  | mbxAck (m : Mbx) (mask : BitVec 4)
  /-- MBX_ABORT (R442): An ABORT bit stops an abortable running command at its next safe point. -/
  | mbxAbort (m : Mbx) (mask : BitVec 4)
  /-- COMMAND_ACCEPT (R439): A posted slot is accepted when a place frees and its request copied. -/
  | commandAccept
  /-- COMMAND_COMPLETE (R438): A command writes buffer, payload and header, sets DONE and raises the mailbox cause. -/
  | commandComplete (m : Mbx) (k : MSlot)
  /-- SOSIN_STALL (R443): The watchdog completes a FAST or MEDIUM command not DONE after 1 s with INTERNAL. -/
  | sosinStall (m : Mbx) (k : MSlot)
  /-- MCTP_MESSAGE (R450): A whole MCTP message from the BMC carries a command on mailbox 65. -/
  | mctpMessage (tag : Fin 4) (msg : List Byte)
  /-- MCTP_BAD_PACKET (R451): An MCTP packet breaking DSP0236 is dropped without answer. -/
  | mctpBadPacket
  /-- HELLO (R452): Returns protocol, function, role and device identity. -/
  | hello (m : Mbx) (k : MSlot)
  /-- DEVINFO (R452): Returns device state: stacks, failed channels, far-tier, BMC, fabric and repairs. -/
  | devinfo (m : Mbx) (k : MSlot)
  /-- DEV_RESET (R454): Writes its response and starts a warm reset after GPF. -/
  | devReset (m : Mbx) (k : MSlot)
  /-- PART_CREATE (R152): Creates a partition of roods with its settings. -/
  | partCreate (m : Mbx) (k : MSlot)
  /-- PART_MODIFY (R152): Changes a partition's settings, refused for roods, perches or quiet with tenants bound. -/
  | partModify (m : Mbx) (k : MSlot)
  /-- PART_DESTROY (R457): Destroys a partition with no bound tenant. -/
  | partDestroy (m : Mbx) (k : MSlot)
  /-- PART_SLICES (R455): Installs a partition's slice table at the next tick. -/
  | partSlices (m : Mbx) (k : MSlot)
  /-- TENANT_BIND (R456): Binds a VF to a partition as a tenant and appends its slot. -/
  | tenantBind (m : Mbx) (k : MSlot)
  /-- TENANT_MODIFY (R456): Changes a tenant's class ceiling and quotas. -/
  | tenantModify (m : Mbx) (k : MSlot)
  /-- TENANT_REVOKE (R189): Revokes a tenant: rings STOPPED, sequences REVOKED, resources released. -/
  | tenantRevoke (m : Mbx) (k : MSlot)
  /-- TENANT_RESTORE (R458): Clears a tenant's revoked state. -/
  | tenantRestore (m : Mbx) (k : MSlot)
  /-- TENANT_REMOVE (R458): Revokes, deletes structures, zeroises the key and removes slots of a tenant. -/
  | tenantRemove (m : Mbx) (k : MSlot)
  /-- KEY_GENERATE (R459): Generates a tenant key on the device into its slot. -/
  | keyGenerate (m : Mbx) (k : MSlot)
  /-- SEAL (R459): Locks every LK field until the next cold reset. -/
  | seal (m : Mbx) (k : MSlot)
  /-- TENANT_INFO (R452): Returns a tenant's binding, quotas and usage. -/
  | tenantInfo (m : Mbx) (k : MSlot)
  /-- INDEX_CREATE (R460): Creates an index, allocating and filling its structures. -/
  | indexCreate (m : Mbx) (k : MSlot) (data : List Byte)
  /-- INDEX_DESTROY (R464): Destroys an index; storage freed when the last pin drains. -/
  | indexDestroy (m : Mbx) (k : MSlot)
  /-- INDEX_LOAD (R465): Bulk-loads one shard from a load image and publishes epoch 0. -/
  | indexLoad (m : Mbx) (k : MSlot) (data : List Byte)
  /-- INDEX_INFO (R452): Returns an index's creation request, epochs and state. -/
  | indexInfo (m : Mbx) (k : MSlot)
  /-- INDEX_ENCODER (R466): Binds an encoder image to a loading or empty index. -/
  | indexEncoder (m : Mbx) (k : MSlot)
  /-- CHECKPOINT (R467): Writes one shard into a persistent tun slot and commits it. -/
  | checkpoint (m : Mbx) (k : MSlot)
  /-- RESTORE (R468): Creates a new index from the valid checkpoint slot with the higher GEN. -/
  | restore (m : Mbx) (k : MSlot)
  /-- VECSUM (R469): Writes the deterministic sums of eligible re-rank vectors. -/
  | vecsum (m : Mbx) (k : MSlot)
  /-- FILTER_CREATE (R470): Creates a filter on every shard of an index. -/
  | filterCreate (m : Mbx) (k : MSlot) (data : List Byte)
  /-- FILTER_DELETE (R470): Deletes a filter for queries admitted afterwards. -/
  | filterDelete (m : Mbx) (k : MSlot)
  /-- IMAGE_REGISTER (R471): Checks and copies a model image to its home and computes ENCSTEPS. -/
  | imageRegister (m : Mbx) (k : MSlot) (data : List Byte)
  /-- IMAGE_DELETE (R471): Deletes an unbound image once its running ENCs end. -/
  | imageDelete (m : Mbx) (k : MSlot)
  /-- IMAGE_FILL (R471): Loads an image into perches. -/
  | imageFill (m : Mbx) (k : MSlot)
  /-- IMAGE_PIN (R179): Pins an image in perches, filling it first if needed. -/
  | imagePin (m : Mbx) (k : MSlot)
  /-- IMAGE_UNPIN (R179): Unpins an image. -/
  | imageUnpin (m : Mbx) (k : MSlot)
  /-- SWSET (R471): Sets the tenant's switch set of images. -/
  | swset (m : Mbx) (k : MSlot)
  /-- PERCH_INFO (R452): Returns the occupancy of every perch. -/
  | perchInfo (m : Mbx) (k : MSlot)
  /-- RING_CREATE (R472): Creates a ring pair, ACTIVE from the next tick. -/
  | ringCreate (m : Mbx) (k : MSlot)
  /-- RING_DESTROY (R473): Stops a ring pair and completes when its admitted work has committed. -/
  | ringDestroy (m : Mbx) (k : MSlot)
  /-- PASID_SET (R654): Sets or clears the issuing function's PASID. -/
  | pasidSet (m : Mbx) (k : MSlot)
  /-- TUN_CREATE (R474): Creates a tun in contiguous far-tier granules. -/
  | tunCreate (m : Mbx) (k : MSlot)
  /-- TUN_DELETE (R474): Deletes a tun not in use. -/
  | tunDelete (m : Mbx) (k : MSlot)
  /-- TUN_INFO (R452): Returns a tun table entry. -/
  | tunInfo (m : Mbx) (k : MSlot)
  /-- TUN_COPY (R474): Copies bytes between a host buffer and a tun. -/
  | tunCopy (m : Mbx) (k : MSlot) (data : List Byte)
  /-- FMAP_INSTALL (R475): Installs the fabric map and judges ports against it. -/
  | fmapInstall (m : Mbx) (k : MSlot)
  /-- FMAP_INFO (R476): Returns the map, port masks, reachability and league state. -/
  | fmapInfo (m : Mbx) (k : MSlot)
  /-- PAGE_RETIRE (R297): Retires a stacked page onto a replacement page by half-frame copies. -/
  | pageRetire (m : Mbx) (k : MSlot)
  /-- RETIRE_LIST (R477): Returns the retired pages of a pseudo-channel. -/
  | retireList (m : Mbx) (k : MSlot)
  /-- GRANULE_TEST (R477): Marks granules TEST or returns them to FREE. -/
  | granuleTest (m : Mbx) (k : MSlot)
  /-- POWER_POLICY (R478): Sets power limits, gain, OPMAX and phase operating points from the next window. -/
  | powerPolicy (m : Mbx) (k : MSlot)
  /-- PHASE_SET (R523): Sets the tenant's phase. -/
  | phaseSet (m : Mbx) (k : MSlot)
  /-- POWER_STATUS (R452): Returns operating point, ratio, averages and throttle reasons. -/
  | powerStatus (m : Mbx) (k : MSlot)
  /-- PFAIL_NOTICE (R479): Brings a power-fail notice into force with GPF, or withdraws it. -/
  | pfailNotice (m : Mbx) (k : MSlot)
  /-- METER_READ (R478): Returns signed meter records. -/
  | meterRead (m : Mbx) (k : MSlot)
  /-- METER_CERT (R575): Returns the meter-signing key and its certificate chain. -/
  | meterCert (m : Mbx) (k : MSlot)
  /-- ERR_READ (R501): Returns held error records of a domain. -/
  | errRead (m : Mbx) (k : MSlot)
  /-- ERR_ACK (R499): Acknowledges held records up to a sequence number. -/
  | errAck (m : Mbx) (k : MSlot)
  /-- ERR_INJECT (R480): Injects a record of a cause in debug mode and runs its escalation. -/
  | errInject (m : Mbx) (k : MSlot)
  /-- UPD_STAGE (R570): Writes a signed firmware image into the inactive slot. -/
  | updStage (m : Mbx) (k : MSlot) (data : List Byte)
  /-- UPD_ACTIVATE (R571): Activates a slot for trial at the next reset, or resets now. -/
  | updActivate (m : Mbx) (k : MSlot)
  /-- UPD_STATUS (R481): Returns slot, version and rollback-floor state. -/
  | updStatus (m : Mbx) (k : MSlot)
  /-- DBG_ENTER (R482): Enters debug mode, zeroing accumulators and tables. -/
  | dbgEnter (m : Mbx) (k : MSlot)
  /-- DBG_EXIT (R482): Zeroes the debug-visible state and leaves debug mode. -/
  | dbgExit (m : Mbx) (k : MSlot)
  /-- ARM (R488): Writing ARM = 1 re-arms the vector and requests at once if any enabled group is set. -/
  | arm (f : Fn)
  /-- SUMMARY_W1C (R485): A W1C write clears serviced level-2 bits of a summary register. -/
  | summaryW1c (f : Fn) (mask : Word64)
  /-- SUMMARY_ENABLE (R488): A change of ENABLE takes effect at the end of its tick and may request. -/
  | summaryEnable (f : Fn) (enable : BitVec 4)
  /-- COALESCE_TIMER (R490): COALUS µs after the oldest unsignalled completion, the ring signals. -/
  | coalesceTimer (p : RingPair)
  /-- RECORD_RELEASE (R499): An acknowledged record at least 1 ms old is released at the end of the tick. -/
  | recordRelease (d : Domain)
  /-- LOG_FAULT (R507): An uncorrectable record-storage or pointer parity error is fatal and bypasses the queues. -/
  | logFault (d : Domain) (kind : Nat)
  /-- IRQ_PIN_FORCE (R492): Writing FORCE in debug mode asserts IRQ_N for board test. -/
  | irqPinForce (on : Bool)
  /-- PMBUS_POLL (R512): Each 500 µs cycle reads every regulator's READ_EIN and one READ_IOUT. -/
  | pmbusPoll (eins : List (Bool × Nat)) (iouts : List (Nat × Nat))
  /-- REG_LOST (R513): A regulator without a good reading for 100 ms is lost and its domain estimated. -/
  | regLost (k : Fin 12)
  /-- WINDOW_END (R539): Each 1 ms window forms averages, the power target and the energy attribution. -/
  | windowEnd
  /-- THM_SAMPLE (R532): A 20 µs thermal sample is reported at the next tick and every threshold acts on it. -/
  | thmSample (stk : List Int) (cores : List Int)
  /-- OP_TRANSITION (R527): A transition suspends ticks, relocks CCLK and resumes. -/
  | opTransition (relock : Nat)
  /-- VOLTAGE_SETTLE (R528): The new core voltage settles, letting a faster transition begin, or OP_FAIL after 1 ms. -/
  | voltageSettle (mvs : List Nat)
  /-- VRALERT_N (R615): VRALERT_N taken asserted activates CURRENT and its bubble term. -/
  | vralertN (asserted : Bool)
  /-- PFAIL_N (R616): PFAIL_N taken asserted brings a power-fail notice into force and runs GPF. -/
  | pfailN (asserted : Bool)
  /-- MINUTE_END (R543): Every 60,000 windows the device writes the minute's meter records. -/
  | minuteEnd
  /-- METER_SIGN (R545): A meter record is signed and its chain digest saved to flash. -/
  | meterSign
  /-- MC_WATCHDOG (R549): MC watchdog expiry warm-resets before READY or is fatal after it. -/
  | mcWatchdog
  /-- ENTROPY_FAIL (R551): A failed entropy health test stops random-bit generation. -/
  | entropyFail
  /-- FLASH_RECORD_WRITE (R555): A flash record's body and then its commit byte are programmed. -/
  | flashRecordWrite (ok : Bool)
  /-- MGT_LOGSEL (R560): Writing an LSEQ starts a log search whose result appears in MGT_LOGDATA. -/
  | mgtLogsel (lseq : Word32)
  /-- LOG_SEARCH_DONE (R560): A log search ends, setting FOUND and the record data. -/
  | logSearchDone
  /-- BOOT_IMAGE_SELECT (R566): The boot ROM chooses, checks and records an image and jumps to it. -/
  | bootImageSelect
  /-- READY (R595): Sosin READY is declared when its conditions hold, writing boot records and raising the floor. -/
  | ready
  /-- BMC_PROBE (R579): The MC probes the BMC, making it ABSENT after four failures. -/
  | bmcProbe (outcome : Fin 3)
  /-- BMC_PRESENT (R579): Any valid MCTP packet from the BMC makes it PRESENT. -/
  | bmcPresent
  /-- PLDM_UPDATE_COMMAND (R572): A PLDM Type 5 command drives a firmware update of the inactive slot. -/
  | pldmUpdateCommand (c : PldmCmd)
  /-- PLDM_UPDATE_TIMEOUT (R572): An update idle for 90 s is cancelled. -/
  | pldmUpdateTimeout
  /-- GET_SENSOR_READING (R577): A PLDM sensor request returns the source's latest value. -/
  | getSensorReading (id : Nat)
  /-- PLDM_PDR_REQUEST (R577): A PLDM discovery or PDR request returns the fixed repository. -/
  | pldmPdrRequest (q : PldmQuery)
  /-- MCTP_CONTROL (R578): An MCTP control message such as Set Endpoint ID is answered. -/
  | mctpControl (c : MctpCtl)
  /-- REFCLK_LOSS (R587): REFCLK absent or off frequency is a fatal occurrence. -/
  | refclkLoss (khz : Nat)
  /-- SYNTH_LOSS (R587): Loss of lock of the management, core or memory synthesizer is fatal. -/
  | synthLoss (synth : Fin 3)
  /-- SYNTH_RELOCK (R587): Loss of lock of the link synthesizer drops Lenlink ports, which retrain after relock. -/
  | synthRelock
  /-- PWRGOOD_RISE (R588): PWRGOOD rising triggers a cold reset and samples the straps. The operand is the straps and the
  flash slots (number and bytes) that the board's external programmer wrote while PWRGOOD was low (R613). -/
  | pwrgoodRise (straps : BitVec 4 × List (Nat × List Byte))
  /-- PWRGOOD_FALL (R609): PWRGOOD falling stops the device at once without reset entry. -/
  | pwrgoodFall
  /-- SYSRST_N (R588): SYSRST_N asserted triggers a cold reset. The operand is whether it is asserted and, at a release, the flash slots
  (number and bytes) that the board's external programmer wrote meanwhile (R613). -/
  | sysrstN (asserted : Bool × List (Nat × List Byte))
  /-- RESET_ENTRY (R590): Reset entry stops the data plane, drains buffers, runs GPF and takes hold. -/
  | resetEntry
  /-- STARTUP_LADDER (R593): From reset release the device loads fuses, boots, locks clocks and trains memory and links. -/
  | startupLadder (unlocked : BitVec 4)
  /-- HARD_REPAIR_DONE (R594): A stack's hard repairs end and it starts training. -/
  | hardRepairDone (k : Stack) (refused : List (Nat × Nat))
  /-- STACK_TRAINED (R594): A stack finishes training, with spare lanes fixed, or fails. -/
  | stackTrained (k : Stack) (ok : Bool) (lanes : List (Nat × Nat))
  /-- MIO_MUX_WRITE (R621): A PIN_MUX write takes effect at the next KCLK edge and starts or restarts a hold. -/
  | mioMuxWrite (n : Fin 16) (func clksel : BitVec 4)
  /-- MIO_HOLD_END (R621): The 80 ns hold ends and the new function drives the pad. -/
  | mioHoldEnd (n : Fin 16)
  /-- PIN_PULL_WRITE (R622): A PIN_PULL write takes effect at the next KCLK edge. -/
  | pinPullWrite (n : Fin 16) (pull : BitVec 2)
  /-- LSYNC_EDGE (R617): A falling LSYNC edge latches CLK_TIME and counts. -/
  | lsyncEdge
  /-- LSYNC_PULSE (R617): Writing PULSE drives LSYNC low for 1 µs. -/
  | lsyncPulse
  /-- JTAG_INSTRUCTION (R618): A JTAG instruction acts or reduces to BYPASS per reset and debug state. -/
  | jtagInstruction (j : JtagInstr)
  /-- UART_RX (R619): UART input is read in debug mode and discarded otherwise. -/
  | uartRx (b : Byte)
  /-- STB_LCALLOW (R144): A write of the interference allowance applies to later admissions, clamped at 32. -/
  | stbLcallow (val : Word32)
  /-- HOST_PROTO_RECOVERY_TIMEOUT (R504): One second after a HOST_PROTO occurrence, if the link is not back in L0, the device enters the fatal state. -/
  | hostProtoRecoveryTimeout
  /-- HOST_LINK_UP (R593): The host PCIe link finishes training and reaches L0, which opens configuration space at the later of this and the boot ROM handing over, and ends a HOST_PROTO recovery. -/
  | hostLinkUp (rate width : Nat) (flit l0p : Bool)
  /-- REFCLK_RETURN (R587): REFCLK returns after a loss, letting the held fatal flash log record be written and a start-up held at rung 2 continue. -/
  | refclkReturn
  /-- MC_SRAM_ERROR (R548): An ECC error in management-controller SRAM is corrected and counted in MGT_MCECC, or is a fatal MC_ECC_UE occurrence if uncorrectable. -/
  | mcSramError (ue : Bool) (addr : Nat)
  /-- ENTROPY_HEALTH_PASS (R551): The entropy source passes its health test again, and random-bit generation resumes so commands stop completing with BUSY. -/
  | entropyHealthPass
deriving DecidableEq, Repr

end Sys2Proof
end

