-- ==== Sys2Proof/Config.lean ====
section
/-! DEFINITION. Config.lean: what the specification leaves to an implementation or leaves open. Nothing here has a body, so
no proof can see a value: a statement about the model holds whatever these are (log entries 1 to 4). -/

namespace Sys2Proof.Config

/-- The stream of free values: the n-th value the specification does not state (log entry 1). -/
opaque freeValue : Nat → BitVec 64

/-- Fused fields of registers, by register offset: values burned at manufacture that no rule states (log entry 2). -/
opaque fused : Nat → BitVec 64

/-- The device's identity strings and keys, by a number of the field (R452 serial numbers, R574 certificates). -/
opaque identity : Nat → List (BitVec 8)

/-- Signatures: made with the device's private key number `k` over a message (R545, R574, R576). No rule states a value. -/
opaque sign : Nat → List (BitVec 8) → List (BitVec 8)

/-- Whether a signature over a message verifies under a key number (R566, R570). -/
opaque verify : Nat → List (BitVec 8) → List (BitVec 8) → Bool

end Sys2Proof.Config
end

