-- ==== Sys2Proof/Machine/Bits.lean ====
section
/-! DEFINITION. Machine/Bits.lean: bit fields, byte order and the sparse tables every part of the state is kept in. -/

namespace Sys2Proof.Machine

/-- Bits [hi:lo] of a number. -/
def bits (v hi lo : Nat) : Nat := v / 2 ^ lo % 2 ^ (hi + 1 - lo)

/-- Bit `i` of a number. -/
def bit (v i : Nat) : Bool := v / 2 ^ i % 2 == 1

/-- `v` with bits [hi:lo] replaced by the low bits of `x`. -/
def setBits (v hi lo x : Nat) : Nat :=
  v - bits v hi lo * 2 ^ lo + x % 2 ^ (hi + 1 - lo) * 2 ^ lo

/-- A Boolean as a bit. -/
def b2n (b : Bool) : Nat := if b then 1 else 0

/-- An all-ones value of `w` bits. -/
def ones (w : Nat) : Nat := 2 ^ w - 1

/-- A saturating count of `w` bits (R12). -/
def satAdd (w v n : Nat) : Nat := min (v + n) (ones w)

/-- The value of little-endian bytes. -/
def leNat : List Byte → Nat
  | [] => 0
  | b :: bs => b.toNat + 256 * leNat bs

/-- `n` little-endian bytes of a value. -/
def leBytes : Nat → Nat → List Byte
  | 0, _ => []
  | n + 1, v => BitVec.ofNat 8 v :: leBytes n (v / 256)

/-- The `n` bytes of a buffer at an offset; bytes past its end read zero. -/
def slice (bs : List Byte) (off n : Nat) : List Byte :=
  let t := (bs.drop off).take n
  t ++ List.replicate (n - t.length) 0

/-- The little-endian field of `n` bytes at an offset of a structure. -/
def field (bs : List Byte) (off n : Nat) : Nat := leNat (slice bs off n)

/-- A structure with the bytes from an offset replaced. -/
def splice (bs : List Byte) (off : Nat) (new : List Byte) : List Byte :=
  slice bs 0 off ++ new ++ bs.drop (off + new.length)

/-- Are the bytes of a range all zero (reserved fields, R14)? -/
def zeroAt (bs : List Byte) (off n : Nat) : Bool := (slice bs off n).all (· == 0)

/-- A byte as a signed number. -/
def signed (w v : Nat) : Int := if v % 2 ^ w < 2 ^ (w - 1) then (v % 2 ^ w : Nat) else (v % 2 ^ w : Nat) - (2 ^ w : Nat)

/-- The lowest set bit of a mask below `n`. -/
def firstBit (v : Nat) : Nat → Option Nat
  | n => (List.range n).find? (fun i => bit v i)

/-- The set bits of a mask below `n`, rising. -/
def bitList (v n : Nat) : List Nat := (List.range n).filter (fun i => bit v i)

/-- The mask with these bits. -/
def maskOf (l : List Nat) : Nat := l.foldl (fun a i => if bit a i then a else a + 2 ^ i) 0

def popcount (v n : Nat) : Nat := (bitList v n).length

/-- Insert into a list ordered by `le`, after its equals. -/
def insertBy {α : Type} (le : α → α → Bool) (x : α) : List α → List α
  | [] => [x]
  | y :: ys => if le y x then y :: insertBy le x ys else x :: y :: ys

/-- Stable insertion sort: structural, so that it can be evaluated in a proof. -/
def sortBy {α : Type} (le : α → α → Bool) (l : List α) : List α := l.foldl (fun a x => insertBy le x a) []

/-- Lexicographic order of keys. -/
def lexLe : List Nat → List Nat → Bool
  | [], _ => true
  | _ :: _, [] => false
  | a :: as, b :: bs => decide (a < b) || (a == b && lexLe as bs)

/-- Ceiling division. -/
def cdiv (a b : Nat) : Nat := (a + b - 1) / b

/-- `a` rounded up to a multiple of `b`. -/
def roundUp (a b : Nat) : Nat := cdiv a b * b

/-! ### Sparse tables

Every array and memory of the state is a list of (key, value) pairs in one canonical form: keys strictly rising, and no
entry equal to what an unlisted key reads as. -/

/-- A sparse table. -/
abbrev Tab (α : Type) := List (Nat × α)

/-- The entry at a key, if listed. -/
def Tab.find {α : Type} : Tab α → Nat → Option α
  | [], _ => none
  | (j, v) :: t, k => if j = k then some v else Tab.find t k

/-- The value at a key; an unlisted key reads as `d`. -/
def Tab.read {α : Type} (t : Tab α) (d : α) (k : Nat) : α := (Tab.find t k).getD d

/-- Drop a key. -/
def Tab.erase {α : Type} : Tab α → Nat → Tab α
  | [], _ => []
  | (j, v) :: t, k => if j = k then Tab.erase t k else (j, v) :: Tab.erase t k

/-- List a value at a key, in order. -/
def Tab.insert {α : Type} : Tab α → Nat → α → Tab α
  | [], k, x => [(k, x)]
  | (j, v) :: t, k, x =>
    if k < j then (k, x) :: (j, v) :: t
    else if j = k then (k, x) :: t
    else (j, v) :: Tab.insert t k x

/-- Write a value at a key: writing what an unlisted key reads as removes the entry. -/
def Tab.write {α : Type} [DecidableEq α] (t : Tab α) (d : α) (k : Nat) (x : α) : Tab α :=
  if x = d then Tab.erase t k else Tab.insert t k x

/-- Drop every key of a range. -/
def Tab.clear {α : Type} (t : Tab α) (lo n : Nat) : Tab α := t.filter (fun e => e.1 < lo || lo + n ≤ e.1)

/-- Keys strictly rising, from a bound on. -/
def Tab.rising {α : Type} : Nat → Tab α → Bool
  | _, [] => true
  | b, (k, _) :: t => decide (b ≤ k) && Tab.rising (k + 1) t

/-- The canonical form. -/
def Tab.wf {α : Type} [DecidableEq α] (t : Tab α) (d : α) : Bool :=
  Tab.rising 0 t && t.all (fun e => decide (e.2 ≠ d))

/-- The keys of a table whose value meets a test. -/
def Tab.keys {α : Type} (t : Tab α) (p : α → Bool) : List Nat := (t.filter (fun e => p e.2)).map (·.1)

/-- Write the elements of a list at consecutive keys. -/
def Tab.writeList {α : Type} [DecidableEq α] (t : Tab α) (d : α) (k : Nat) : List α → Tab α
  | [] => t
  | x :: xs => Tab.writeList (Tab.write t d k x) d (k + 1) xs

/-- The values at `n` consecutive keys. -/
def Tab.readList {α : Type} (t : Tab α) (d : α) (k n : Nat) : List α := (List.range n).map (fun i => Tab.read t d (k + i))

/-- The value of a table that is a partial map: `none` where unlisted. -/
abbrev Tab.get {α : Type} (t : Tab α) (k : Nat) : Option α := Tab.find t k

end Sys2Proof.Machine
end

