-- ==== Sys2Proof/Machine/Types.lean ====
section
/-! DEFINITION. Machine/Types.lean: the plain data of the data plane: error records, rings, sequences, indexes, tenants,
partitions, stacked memory and its controllers. Each structure cites the rule that gives the state it holds. -/

namespace Sys2Proof.Machine

/-! ### Errors and interrupts (chapter 14) -/

/-- A held error record (Table 14.3, R493). -/
structure ErrRec where
  seq : Nat
  time : Nat
  cause : Nat
  sev : Nat
  again : Bool
  acked : Bool
  ovf : Bool
  injected : Bool
  againCnt : Nat
  func : Nat
  skind : Nat
  subject : Nat
  addr : Nat
  arg0 : Nat
  arg1 : Nat
  arg2 : Nat
deriving DecidableEq, Repr

/-- A domain queue (R497, R498, R507). -/
structure ErrQueue where
  recs : List ErrRec := []
  /-- An occurrence was lost since the last new record: the next one carries OVF (R498). -/
  lostSince : Bool := false
  /-- The queue met an uncorrectable storage or pointer error and accepts nothing more (R507). -/
  faulty : Bool := false
deriving DecidableEq, Repr

/-- A fatal occurrence that has been reported and has not yet entered the fatal state (R504, R505). -/
structure FatalPend where
  domain : Nat
  cause : Nat
  seq : Nat
deriving DecidableEq, Repr

/-- Per-function read and write shadow (R7, R8): a register offset and a 32-bit value. -/
structure Shadow where
  rd : Option (Nat × Nat) := none
  wr : Option (Nat × Nat) := none
deriving DecidableEq, Repr

/-! ### Status codes of completions (Table 3.12, R651) -/

inductive Status where
  | ok | okPartial | deadlinePartial | deadline | cancelled | revoked
  | badDescriptor | noIndex | epochGone | filterFault | modelAbsent | shardUnreachable | quota
  | poison | poisonWrite
deriving DecidableEq, Repr

/-- Codes of Table 3.12. -/
def Status.code : Status → Nat
  | .ok => 0x00 | .okPartial => 0x01 | .deadlinePartial => 0x02 | .deadline => 0x03 | .cancelled => 0x04 | .revoked => 0x05
  | .badDescriptor => 0x10 | .noIndex => 0x11 | .epochGone => 0x12 | .filterFault => 0x13 | .modelAbsent => 0x14
  | .shardUnreachable => 0x15 | .quota => 0x16 | .poison => 0x20 | .poisonWrite => 0x21

/-- Does a query's result buffer hold entries under this status (R103, Table 1.4)? -/
def Status.hasEntries : Status → Bool
  | .ok | .okPartial | .deadlinePartial => true
  | _ => false

/-! ### Indexes (chapter 2) -/

/-- STATE of an epoch record (Table 2.10). -/
inductive EpochState where
  | free | opened | live | retiring
deriving DecidableEq, Repr

/-- An epoch record (Table 2.10): record t − 1 owns tag slot t. -/
structure EpochRec where
  st : EpochState := .free
  epoch : Nat := 0
  limit : Nat := 0
  pins : Nat := 0
  pubtick : Nat := 0
  nins : Nat := 0
  ndel : Nat := 0
  dlbase : Nat := 0
  dlcount : Nat := 0
deriving DecidableEq, Repr

/-- A bucket directory entry without LISTBASE, which the index's layout fixes (Table 2.5). -/
structure BucketDir where
  nbushel : Nat := 0
  nslot : Nat := 0
deriving DecidableEq, Repr

/-- Where an index stands in its life (R82, R286, R460, R464). -/
inductive IndexState where
  | loading | ready | damaged | destroying
deriving DecidableEq, Repr

/-- The distance metric (R43). -/
inductive Metric where
  | dot | l2sq
deriving DecidableEq, Repr

/-- A publish under way on an index (R74, R75, R172): the retiree's record and how far its fold has come. -/
structure Retiree where
  record : Nat
  folded : Nat := 0
deriving DecidableEq, Repr

/-- One shard of an index on this device, with its creation parameters (Table 2.2) and the homes of its structures
(Table 2.1). Addresses are device-internal. -/
structure Index where
  handle : Nat
  vf : Nat
  chn : Bool
  t2 : Bool
  len : Nat
  nmax : Nat
  buckets : Nat
  bmax : Nat
  elog : Nat
  /-- Members of the channel set, ascending (R64). -/
  chans : List Nat
  /-- Bushels in the region and its first local granule (R236). -/
  nbush : Nat
  lg0 : Nat
  lists : Nat
  cents : Nat
  entries : Nat
  idtab : Nat
  iddir : Nat
  tomb : Nat
  /-- Re-rank (R44, R76): declared, format code, MX bit, dimension, metric, scale bits, stride, home tun, base. -/
  rerank : Bool
  vfmt : Nat
  vmx : Bool
  dim : Nat
  metric : Metric
  scale : Nat
  stride : Nat
  vecTun : Option Nat
  vecs : Nat
  nentry : Nat := 0
  /-- Bucket lists are pinned in the pool when their lines can be charged (R463); the lines so held. -/
  pinLists : Bool := false
  pinned : List Nat := []
  encoder : Option Nat := none
  st : IndexState := .loading
  epochs : List EpochRec := []
  dir : Tab BucketDir := []
  /-- Bushels in use on each member (R79, R82). -/
  used : Tab Nat := []
  /-- Sequences that hold the index, however it is destroyed (R464). -/
  holds : Nat := 0
  retiree : Option Retiree := none
  /-- Semaphores held, by number, with the holding sequence (R168). -/
  sems : Tab Nat := []
  /-- Semaphores and turns released in this tick: granted in the next (R170). -/
  cooling : List Nat := []
  /-- Publishes of the index in admission order (R172). -/
  pubs : List Nat := []
  /-- Shard map by device ID, this device's shard number, and the handle at each device; a single entry when unsharded. -/
  shards : List Nat := [0]
  myShard : Nat := 0
  sharded : Bool := false
  rrt : Nat := 0
  /-- Home device of a sharded index, and its handle there (GINDEX). -/
  homeDev : Nat := 0
  ghandle : Nat := 0
  /-- Bytes charged to the tenant's stacked, pool and far quotas (R58). -/
  stkBytes : Nat := 0
  poolBytes : Nat := 0
  /-- The creation request, as INDEX_INFO returns it (R452). -/
  request : List Byte := []
  /-- Record of the bad delta-log word that left it DAMAGED (R286). -/
  damage : Nat := 0
deriving DecidableEq, Repr

/-- A filter of a shard (R24, R69, R470). -/
structure Filter where
  handle : Nat
  vf : Nat
  index : Nat
  grains : Nat
  base : Nat
  pool : Bool
  pins : Nat := 0
  /-- Deleted: queries admitted from now on do not find it (R25). -/
  deleted : Bool := false
deriving DecidableEq, Repr

/-- What a query's requests carry of its pins (Table 7.5): VLIMIT, TMASK, and the filter's base and grain count. -/
structure View where
  vlimit : Nat := 0
  tmask : Nat := 0
  filter : Option Filter := none
deriving DecidableEq, Repr

/-- A read of a sequence that has come back (R248, R260): what its request carried, and the data and the bad words that its
service found. -/
structure Landed where
  /-- 0 SCAN, 1 HOP, 2 RAW, 3 a line of R251, 4 a bucket-list line. -/
  kind : Nat
  addr : Nat
  /-- When its service ended. -/
  at_ : Nat := 0
  view : View := {}
  /-- BUCKET of a SCAN request, NODE of a HOP request (Table 7.5). -/
  expect : Nat := 0
  /-- Level and place of its request in the order of arrival (R241). -/
  level : Nat := 4
  place : List Nat := []
  data : List Byte := []
  /-- Words found bad: an uncorrectable one with the number of its record, a poisoned one with none (R281). -/
  bad : List (Nat × Option Nat) := []
deriving DecidableEq, Repr

/-- A registered model image (R77, R471) with its home. -/
structure Image where
  handle : Nat
  vf : Nat
  size : Nat
  digest : List Byte
  tun : Option Nat
  base : Nat
  infmt : Nat
  din : Nat
  t2 : Bool
  outlen : Nat
  nlayer : Nat
  layeroff : Nat
  encsteps : Nat
  /-- Indexes bound to it, and ENCs running on it. -/
  bound : Nat := 0
  running : Nat := 0
  /-- Residence (R176 to R179). -/
  resident : Bool := false
  filling : Option Nat := none
  perches : List Nat := []
  part : Nat := 0
  pinned : Bool := false
  lastEnc : Nat := 0
  deleted : Bool := false
  /-- What its perches hold while it is resident (R176, R180). -/
  loaded : List Byte := []
deriving DecidableEq, Repr

/-! ### Tenancy (chapter 5) -/

/-- A partition (Table 5.2) with its slice schedule (R156). -/
structure Partition where
  roods : List Nat
  perches : Nat
  quiet : Bool
  lcres : Tab Nat := []
  /-- (VF, length in µs). -/
  slices : List (Nat × Nat) := []
  /-- The slot that runs, and its boundary on REFCLK (R156), in time units. -/
  slot : Nat := 0
  slotEnd : Nat := 0
  holder : Nat := 0
  /-- A switch is in progress (R159). -/
  switching : Bool := false
  /-- A slice table to install at the next tick (R455). -/
  install : Option (List (Nat × Nat)) := none
deriving DecidableEq, Repr

/-- A tenant (Table 5.3). -/
structure Tenant where
  part : Nat
  /-- Highest class: 0 to 3 for L0 to L3, 4 for NONE. -/
  lcmax : Nat
  seqmax : Nat
  stkq : Nat
  poolq : Nat
  farq : Nat
  perchq : Nat
  pinmax : Nat
  swset : List Nat := []
  conf : Bool
  revoked : Bool := false
  /-- Tick in which the sequences of a revocation end, and whether they leave no completion (R189, R190). -/
  revokeDue : Option Nat := none
  silent : Bool := false
  stkUsed : Nat := 0
  poolUsed : Nat := 0
  farUsed : Nat := 0
  /-- Power phase (R523). -/
  phase : Nat := 0
deriving DecidableEq, Repr

/-! ### Rings and sequences (chapters 3 and 4) -/

/-- A fetched descriptor in the staging buffer (R87, R124). -/
structure Staged where
  desc : List Byte
  /-- Vector and code operands fetched into the VF's operand share. -/
  vec : List Byte := []
  code : List Byte := []
  /-- Both operand buffers are in, or none is needed. -/
  ready : Bool := false
  /-- Staged as bad: a buffer fault (R95), or operand bytes beyond the share (R124). -/
  bad : Bool := false
  /-- Operand bytes taken from the share. -/
  share : Nat := 0
deriving DecidableEq, Repr

/-- A ring pair beyond its register window (Table 3.1, R85, R102, R490). -/
structure Ring where
  sqbase : Nat
  cqbase : Nat
  sqsize : Nat
  cqsize : Nat
  /-- 0 to 3 for L0 to L3, 4 for BE. -/
  cls : Nat
  coalcnt : Nat
  coalus : Nat
  stream : Bool
  /-- ACTIVE from the next tick (R88). -/
  fresh : Bool := true
  /-- Closing (R473). -/
  closing : Bool := false
  /-- Next SQ slot to fetch, and descriptors staged in order. -/
  fetched : Nat := 0
  staged : List Staged := []
  /-- CQ write index and the phase of the pass (R102). -/
  cqtail : Nat := 0
  phase : Nat := 1
  /-- Admitted descriptors not yet completed (R110). -/
  admitted : Nat := 0
  /-- Descriptors admitted so far: the submission order on the ring. -/
  order : Nat := 0
  /-- Cancel tags written in one tick, and that tick: they act from the next one on (R116). -/
  cancels : List Nat := []
  cancelTick : Nat := 0
  /-- SQ tail and CQ head as the device acts on them: the stored values as they stood when the tick opened (R89). -/
  tail : Nat := 0
  head : Nat := 0
  /-- The next completion write faults (R93). -/
  cqFault : Option DmaFault := none
  /-- Unsignalled completions and the time of the oldest (R490). -/
  unsig : Nat := 0
  oldest : Nat := 0
  /-- STATE became FAULT or STOPPED in this tick (R491). -/
  signalNow : Bool := false
deriving DecidableEq, Repr

/-- Where a sequence stands in its current stage. -/
inductive SeqPhase where
  /-- The stage ended: ready for the next (R127). -/
  | done
  /-- An engine is working on it. -/
  | running
  /-- Reads of the stage are outstanding. -/
  | waiting
  /-- The stage must start again: killed (R164) or withheld. -/
  | again
deriving DecidableEq, Repr

/-- An entry of a candidate or survivor list: distance, local index and external ID. -/
structure Cand where
  dist : Nat
  lidx : Nat
  ext : Nat
deriving DecidableEq, Repr

/-- A result entry (Table 3.9): the value is the distance, or the FP32 bits of the score. -/
structure Entry where
  ext : Nat
  shard : Nat
  value : Nat
deriving DecidableEq, Repr

/-- A neighbour that a HOP request returns (R253). -/
structure Nbr where
  dist : Nat
  node : Nat
  ext : Nat
  eligible : Bool
deriving DecidableEq, Repr

/-- The walk of a chain search (R33). -/
structure Walk where
  visited : List Nat := []
  /-- (distance, node, expanded), ascending. -/
  beam : List (Nat × Nat × Bool) := []
  res : List Cand := []
  hops : Nat := 0
deriving DecidableEq, Repr

/-- What PLACE decided for a write (R139). -/
structure Placed where
  bucket : Nat := 0
  /-- Local index the external ID names now, if any. -/
  old : Option Nat := none
  /-- Words the commit writes in part that PLACE found bad (R283, R285). -/
  unsound : List Nat := []
  /-- Record taken as retiree by a publish. -/
  retiree : Option Nat := none
deriving DecidableEq, Repr

/-- A result list on its way up the tree (Table 11.6). -/
structure ListIn where
  entries : List Entry := []
  ncontrib : Nat := 0
  nfail : Nat := 0
  /-- Bit 0 POISON, 1 SAT, 2 LONGK, 3 THROTTLED, 4 DESC, 5 SUBTMO. -/
  flags : Nat := 0
  void : Nat := 0
  pdev : Nat := 0
  pseq : Nat := 0
deriving DecidableEq, Repr

/-- The report of a remote write (WREP, Table 11.5). -/
structure Report where
  status : Nat
  epoch : Nat
  aux : Nat
  pdev : Nat
  pseq : Nat
deriving DecidableEq, Repr

/-- The remote half of a sequence of a sharded index on its home device (R389 to R400). -/
structure Remote where
  /-- It takes a remote request (Table 3.11). -/
  uses : Bool := false
  /-- Multicast, or write request, sent. -/
  sent : Bool := false
  /-- Deadline of the remote-request timer, or of the next repeat (R398, R400). -/
  timer : Option Nat := none
  fired : Bool := false
  /-- What the home's lane emitted (R391). -/
  list : Option ListIn := none
  serial : Nat := 0
  report : Option Report := none
  /-- Publish: shards that reported ready, and done (R400). -/
  ready : List Nat := []
  finished : List Nat := []
  /-- PCOMMIT sent. -/
  commitSent : Bool := false
deriving DecidableEq, Repr

/-- A descriptor that failed at admission: it holds a completion credit and nothing else (R108). -/
structure Failing where
  rp : Nat
  order : Nat
  desc : List Byte
  status : Status
  tick : Nat
  share : Nat
  cls : Nat := 4
  /-- THROTTLED and WCET_VOID of its completion (R55, R143). -/
  throttled : Bool := false
  void : Bool := false
deriving DecidableEq, Repr

/-- The reduction lane of a query on this device (R391): its query ID, where it came from, and what it holds. -/
structure Lane where
  home : Nat
  hent : Nat
  gen : Nat
  desc : List Byte
  /-- Class and level of the request, which its lists keep (Table 11.4). -/
  cls : Nat
  /-- Shard box and timer of the request block (Table 11.6). -/
  box : List Nat := []
  rrt : Nat := 0
  /-- Sequence-table entry of the own shard part; an own list is awaited until it reports. -/
  own : Option Nat := none
  ownDue : Bool := false
  /-- Children of the tree still awaited, by device. -/
  awaits : List Nat := []
  inputs : List ListIn := []
  timer : Option Nat := none
  subtmo : Bool := false
deriving DecidableEq, Repr

/-- A sequence-table entry (Table 4.1) with its context extension. -/
structure Sequence where
  vf : Nat
  rp : Option Nat
  /-- Home device and entry of a sequence that came over the fabric. -/
  home : Option (Nat × Nat) := none
  homeGen : Nat := 0
  order : Nat := 0
  desc : List Byte
  vec : List Byte := []
  share : Nat := 0
  opcode : Nat
  tag : Nat
  cls : Nat
  elevel : Nat
  allow : Nat := 0
  admitTick : Nat
  dline : Option Nat := none
  index : Nat := 0
  /-- Pinned epoch record and number. -/
  pin : Option (Nat × Nat) := none
  filter : Option Nat := none
  /-- The pinned filter as it stood at admission: its base and grains never change while it is pinned (R25, R69). -/
  grains : Option Filter := none
  stage : Nat
  phase : SeqPhase
  stageTick : Nat := 0
  /-- Ends with this status, decided by a cancel, a deadline, a revocation or a failed check. -/
  ending : Option Status := none
  flags : Nat := 0
  void : Nat := 0
  seed : Nat := 0
  seedAtStage : Nat := 0
  code : List Byte := []
  buckets : List Nat := []
  survivors : Tab (List Cand) := []
  cands : List Cand := []
  walk : Walk := {}
  entries : List Entry := []
  placed : Placed := {}
  remote : Remote := {}
  /-- Record number of a poisoned read (R281). -/
  poison : Option Nat := none
  /-- Reads and engine requests of the stage not yet returned (Table 4.1 PENDING). -/
  pending : Nat := 0
  /-- Number of the stage's issue: a return that carries another is discarded (R132, R163). -/
  issue : Nat := 0
  /-- Lines the stage has requested (R251), and those that have returned. -/
  lines : List Nat := []
  gotLines : List Landed := []
  /-- Bursts that have completed and not yet been taken. -/
  landed : List Landed := []
  /-- Frames in an engine that wait for lines. -/
  frames : List Landed := []
  /-- Lists returned by engines and not yet collected: bucket and entries. -/
  returned : List (Nat × List Cand) := []
  /-- Neighbours the hop has returned. -/
  nbrs : List Nbr := []
  sems : List Nat := []
  /-- Semaphores it waits for (R169). -/
  waitsOn : List Nat := []
  /-- Generation of the entry (R376). -/
  gen : Nat := 0
  /-- Armed to run its killed stage again (R164). -/
  redo : Bool := false
  /-- Its list is complete: ready for FIN or UPSEND (R51). -/
  listed : Bool := false
  /-- Status, epoch and AUX a write committed with. -/
  wrote : Option (Status × Nat × Nat) := none
  /-- Ends without a completion record: FLR (R190), or CANCEL of a shard part (R394). -/
  silent : Bool := false
  /-- THROTTLED (R520). -/
  throttled : Bool := false
  /-- FIN or COMMIT ran: it commits at the end of this tick. -/
  committing : Bool := false
  /-- Its result write faults (R104). -/
  resFault : Option DmaFault := none
  /-- Killed in this tick (R162). -/
  killed : Bool := false
  /-- A write landed on a damaged word: POISON_WRITE and its record (R283). -/
  damaged : Option Nat := none
  /-- Tile in progress of an ENC or RERANK: register place, and its half, 2 for both (R215). -/
  tile : Option (Nat × Nat) := none
  /-- Buckets whose list lines are still to come (R653). -/
  listWait : List (Nat × Nat) := []
  /-- Lines of the context extension that the sequence has written: in the sequence cache, and evicted from it (R123). -/
  cached : List Nat := []
  spilled : List Nat := []
  /-- Lines written by completed stages, which a kill keeps (Table 5.6). -/
  keptLines : List Nat := []
  /-- A fold step runs in this tick (R259, R261). -/
  folding : Bool := false
  /-- Withheld in this tick already (Table 4.9). -/
  heldBack : Bool := false
deriving DecidableEq, Repr

/-! ### Stacked memory (chapters 7 and 8) -/

/-- Entry of an owner table (R235, R301). -/
inductive Owner where
  | free | test | device | failed | vf (n : Nat)
deriving DecidableEq, Repr

/-- Who waits for a stacked-memory access. -/
inductive Client where
  /-- Sequence `e`, SCAN of a bushel of a bucket (R250). -/
  | scan (e : Nat)
  | hop (e : Nat)
  | raw (e : Nat)
  | line (e : Nat)
  | list (e : Nat)
  | firmware
  | scrub
  | tgc
  /-- Merge read of a partial word (R263). -/
  | merge
  | drain
  /-- A whole-word stream (R264). -/
  | stream
deriving DecidableEq, Repr

/-- A burst request in a controller queue (R240, R241, Table 7.5). -/
structure Req where
  client : Client
  /-- Issue number of the sequence's stage. -/
  issue : Nat := 0
  addr : Nat
  words : Nat
  write : Bool := false
  /-- What a write burst stores (R258, R264). -/
  data : List Byte := []
  /-- Key slot of the granule's owner, filled in by the controller (R248). -/
  keySlot : Nat := 0
  view : View := {}
  expect : Nat := 0
  /-- Effective level at issue: 0 to 3, 4 for BE and firmware. -/
  level : Nat
  /-- Place in the order of arrival: issue tick, then the work-list key of the sequence (R241). -/
  place : List Nat := []
  /-- Rood whose bucket a BE read is charged to; none for firmware. -/
  rood : Option Nat := none
  quiet : Bool := false
  /-- LC reads that started ahead of it (R245), against this allowance. -/
  passed : Nat := 0
  allow : Nat := 0
  marked : Bool := false
  /-- Time of arrival at the controller. -/
  arrived : Nat := 0
deriving DecidableEq, Repr

/-- What occupies a pseudo-channel. -/
inductive Service where
  /-- A burst, with what a read has of its words from the start of its service (R260), and those the write-combining buffer
  held whole then. -/
  | burst (r : Req) (data : List Byte) (whole : List Nat)
  | refresh
  | copyRead
  | copyWrite
deriving DecidableEq, Repr

/-- A half-frame copy under way (R293): a soft remap to a spare row or one row of a page retirement. -/
structure Copy where
  row : Nat
  /-- Spare row (remap) or replacement row (retirement). -/
  dest : Nat
  retire : Bool
  /-- The copy read has been done: marked words of the row. -/
  held : Option (List Nat) := none
  /-- Write bursts to the row since then, merged into the held data (R293). -/
  merged : List Req := []
deriving DecidableEq, Repr

/-- A retirement-table entry (R297). -/
structure Retired where
  page : Nat
  repl : Nat
  /-- Rows moved so far; 4 is final. -/
  moved : Nat := 0
deriving DecidableEq, Repr

/-- A CE-tracker entry (R290). -/
structure Tracked where
  row : Nat
  count : Nat
deriving DecidableEq, Repr

/-- State of a traffic-generator run (R272). -/
structure TgcRun where
  mode : Nat
  pos : Nat := 0
  stopping : Bool := false
deriving DecidableEq, Repr

/-- A pseudo-channel: its queues, its service, its repair state. -/
structure PchState where
  lcr : List Req := []
  ber : List Req := []
  wr : List Req := []
  mnt : List Req := []
  backlog : List Req := []
  service : Option Service := none
  serviceEnd : Nat := 0
  /-- LCR has not been empty since this tick began (R243). -/
  starving : Bool := false
  lastRefresh : Nat := 0
  refreshDue : Nat := 0
  remapQ : List Nat := []
  copy : Option Copy := none
  tracker : List Tracked := []
  /-- Row to spare row, spares used, spares that failed. -/
  remaps : Tab Nat := []
  spares : Nat := 0
  retired : List Retired := []
  hardUsed : Nat := 0
  scrubPos : Nat := 0
  scrubStart : Nat := 0
  scrubLate : Bool := false
  tgc : Option TgcRun := none
  trained : Bool := false
deriving DecidableEq, Repr

/-- Outcomes of decoding a word (Table 8.2). -/
inductive WordOutcome where
  | clean | corrected | poisoned | uncorrectable
deriving DecidableEq, Repr

/-- A write-combining entry (R258): nibble mask, plaintext and owner key slot of one 64 B word. -/
structure WcbEntry where
  mask : Nat
  data : List Byte := List.replicate 64 0
  keySlot : Nat := 0
  first : Nat
  /-- Rood whose partition's share it takes; none for Sosin firmware. -/
  rood : Option Nat
  /-- 0 waiting, 1 merge read due, 2 drain burst formed, 3 drain burst completed, 4 merge read returned, 5 merged and waiting
  for the other words of its run (R262, R263). -/
  drain : Nat := 0
  rewritten : Bool := false
  /-- The old word was found sound in PLACE (R285). -/
  sound : Bool := true
  /-- The whole word of a merge, which its drain burst carries (R263). -/
  merged : List Byte := []
deriving DecidableEq, Repr

/-- A centroid pass under way in a pool group (R267). -/
structure CqPass where
  table : Nat
  startTick : Nat
  endTick : Nat
  count : Nat
deriving DecidableEq, Repr

end Sys2Proof.Machine
end

