-- ==== Sys2Proof/Machine/FabTypes.lean ====
section
/-! DEFINITION. Machine/FabTypes.lean: the plain data of the fabric: maps, messages, flits, ports and league state
(chapter 11). -/

namespace Sys2Proof.Machine

/-- The installed fabric map (R371). -/
inductive FMap where
  | alone
  | group (n : Nat)
  | torus (k0 k1 k2 k3 : Nat)
deriving DecidableEq, Repr

/-- A message: its header (Table 11.3) and body. -/
structure Msg where
  mtype : Nat
  cls : Nat := 0
  dest : Nat := 0
  tree : Bool := false
  up : Bool := false
  home : Nat := 0
  hent : Nat := 0
  gen : Nat := 0
  void : Nat := 0
  xarg : Nat := 0
  body : List Byte := []
deriving DecidableEq, Repr

/-- A flit before the link layer numbers it (Table 11.2): kind 0 IDLE, 1 HEAD, 2 BODY. -/
structure Flit where
  lane : Nat := 0
  kind : Nat := 0
  last : Bool := false
  slow : Bool := false
  abort : Bool := false
  payload : List Byte := []
  /-- Credits it returns (CRD): lane and number. -/
  crd : Option (Nat × Nat) := none
deriving DecidableEq, Repr

/-- A flit queued for a port, with its level and its place in the order of arrival (R379). -/
structure Queued where
  flit : Flit
  level : Nat
  age : Nat
deriving DecidableEq, Repr

/-- A message that has arrived whole and has not been taken: the port it came by, and its lane. -/
structure Arrived where
  port : Nat
  lane : Nat
  msg : Msg
deriving DecidableEq, Repr

/-- The link layer of a port (R377 to R381, R403). -/
structure FabPort where
  /-- Fabric state (FAB_PSTATE): carries traffic, isolated, miswired. -/
  up : Bool := false
  isolated : Bool := false
  miswired : Bool := false
  /-- Flits queued, oldest first. -/
  txq : List Queued := []
  /-- Next LSEQ to send, and the replay buffer, oldest first (R380). -/
  nextSeq : Nat := 0
  replay : List (Nat × Flit) := []
  /-- Flits of the running replay round, by LSEQ. -/
  again : List Nat := []
  /-- Rounds that failed in a row for the oldest flit (R381). -/
  fails : Nat := 0
  /-- Receiver: last flit accepted in order, whether any has been, dropping until RPL, and a NAK owed. -/
  ack : Nat := 4095
  ackV : Bool := false
  dropping : Bool := false
  nakDue : Bool := false
  /-- While dropping: LSEQ of the last replayed flit dropped. -/
  lastRpl : Option Nat := none
  /-- A NAK has arrived: its ACKSEQ, or none when the partner has accepted nothing. The oldest flit of the last round. -/
  nakGot : Bool := false
  oldest : Option Nat := none
  /-- Age of the next flit of the message a lane is sending (R375); the BE channel served last (R379). -/
  cur : Tab Nat := []
  lastBe : Bool := false
  /-- In a quick retrain: flits wait for the link (R381). -/
  hold : Bool := false
  /-- Credits held by lane, credits to return by lane, and flits accepted whose credit has not been returned. -/
  credits : Tab Nat := []
  crdDue : Tab Nat := []
  rxHeld : Tab Nat := []
  /-- Partial messages by lane, and whether a flit of them was replayed or slow. -/
  rx : Tab (List Byte) := []
  rxMark : List Nat := []
  /-- Times of the breaches of the last second (R403). -/
  breaches : List Nat := []
  /-- Last time a flit was queued, for DOZE (R407). -/
  lastQueued : Nat := 0
deriving DecidableEq, Repr

/-- What a shard keeps of remote writes of one (index, shard) (R399): last serial and the reports of the last 64. -/
structure SerialLog where
  index : Nat
  last : Nat := 0
  reports : List (Nat × Report) := []
deriving DecidableEq, Repr

/-- A publish being prepared or committed on a shard (R400). -/
structure ShardPub where
  index : Nat
  home : Nat
  hent : Nat
  gen : Nat
  epoch : Nat
  retiree : Nat
  /-- 0 waiting for its pins or folding, 1 ready, 2 committed. -/
  phase : Nat := 0
deriving DecidableEq, Repr

/-- A request in the arrival staging (R378, R390). -/
structure Waiting where
  msg : Msg
  since : Nat
deriving DecidableEq, Repr

/-- League state (R401, R402). -/
structure League where
  /-- Leader: last LUP of each member, by device: OP, ratio and periods unheard. -/
  lups : Tab (Nat × Nat × Nat) := []
  period : Nat := 0
  /-- Time of the next LDOWN of the leader. -/
  ldownDue : Nat := 0
  /-- Member: time of the last LDOWN, its OP and ratio. -/
  heardAt : Option Nat := none
  op : Nat := 0
  ratio : Nat := 0
  /-- LUPs of the tree below combined in this period: OP and ratio, and devices they came from. -/
  combOp : Nat := 0
  combRatio : Nat := 0
  lost : Bool := false
deriving DecidableEq, Repr

/-- The fabric of the device. -/
structure FabState where
  map : FMap := .alone
  ports : Tab FabPort := []
  inbox : List Arrived := []
  lanes : List Lane := []
  waiting : List Waiting := []
  /-- Query IDs of CANCELs kept, with their times (R394). -/
  cancelled : List ((Nat × Nat × Nat) × Nat) := []
  /-- Next serial of each (index, shard) at the home (R398). -/
  serials : List ((Nat × Nat) × Nat) := []
  logs : List SerialLog := []
  pubs : List ShardPub := []
  league : League := {}
  /-- Devices reachable from this one (R385), and what each device last said of its ports. -/
  reach : List Nat := []
  states : Tab (List Byte) := []
  /-- Order of arrival of queued flits. -/
  age : Nat := 0
  /-- Sosin traffic received (MGT). -/
  mgt : List (List Byte) := []
deriving DecidableEq, Repr

end Sys2Proof.Machine
end

