-- ==== Sys2Proof/Machine/FarTypes.lean ====
section
/-! DEFINITION. Machine/FarTypes.lean: the plain data of the far tier (chapter 9). -/

namespace Sys2Proof.Machine

/-- STATE of a tun (Table 9.3). -/
inductive TunState where
  | online | offline | lost
deriving DecidableEq, Repr

def TunState.code : TunState → Nat
  | .online => 1 | .offline => 2 | .lost => 3

/-- A tun (Tables 9.2 and 9.3). -/
structure Tun where
  name : List Byte
  vf : Nat
  both : Bool
  port : Nat
  size : Nat
  persist : Bool
  retain : Bool
  base0 : Nat
  base1 : Nat
  keyid : Nat
  st : TunState
  /-- Serial numbers of the devices it lies on, by port (R326). -/
  serial0 : Nat := 0
  serial1 : Nat := 0
  /-- Deleted with its tenant: its granules are FREE once nothing is homed in it (R191, R458). -/
  doomed : Bool := false
deriving DecidableEq, Repr

/-- A far read waiting for a tag or holding one (R314). -/
structure FarReq where
  /-- The sequence that waits and its issue; none for Sosin firmware. -/
  seq : Option Nat
  issue : Nat := 0
  line : Nat
  /-- Effective level at issue: 0 to 3, 4 for BE, 5 for the FW queue. -/
  level : Nat
  rood : Nat := 0
  /-- Start of the RERANK stage, for the check of R317, and t_far from there, in time units. -/
  start : Nat := 0
  bound : Nat := 0
  /-- When its MemRd was sent, and the line's data then (R315). -/
  sent : Nat := 0
  data : List Byte := []
deriving DecidableEq, Repr

/-- A line in a port's write buffer (R315), with what the device held before it, for a write that is discarded (R325). -/
structure FarWrite where
  line : Nat
  old : List Byte
  /-- The key that line stood under. -/
  oldInk : List Byte := []
  /-- Its MemWr has been sent. -/
  sent : Bool := false
  /-- A write to a checkpoint slot whose COMMIT is not yet 0xC3 (R325). -/
  ckpt : Bool := false
deriving DecidableEq, Repr

/-- A far-tier port beyond its registers. -/
structure FarPortState where
  lc : List FarReq := []
  fw : List FarReq := []
  be : List FarReq := []
  wr : List FarWrite := []
  /-- Reads that hold tags, by tag. -/
  tags : Tab FarReq := []
  lastRood : Nat := 15
  /-- Floor and operator value of DLAT (R307). -/
  floor : Nat := 1000
  oper : Nat := 0
  /-- Device Serial Number recorded at the last enumeration that succeeded. -/
  serial : Option Nat := none
  /-- Time of the next training attempt of an ABSENT or DOWN port (R308, R325). -/
  retryAt : Nat := 0
  /-- Global Persistent Flush (R320): 0 none, 1 phase 1, 2 phase 2 under way, 3 ended. -/
  gpf : Nat := 0
  /-- The flush answers a power-fail notice. -/
  gpfNotice : Bool := false
deriving DecidableEq, Repr

/-- A key slot (R185): STATE of SEC_KEYSTATE, KEYID and the key. -/
structure KeySlot where
  st : Nat := 0
  keyid : Nat := 0
  key : List Byte := []
deriving DecidableEq, Repr

/-- The far tier. -/
structure FarState where
  ports : Tab FarPortState := []
  tuns : Tab Tun := []
  nextTun : Nat := 1
  /-- Key slots zeroised in the tick in progress: SEC_KEYSTATE reads ZEROISING (R193). -/
  zeroising : List Nat := []
  /-- Time of the next reading of the devices' event logs (R329). -/
  pollAt : Nat := 0
  /-- Key that a line of tenant data stands under, by line number; a line never written stands under none (R310, R474). -/
  inks : Tab (List Byte) := []
  /-- Keys kept wrapped in flash for RETAINKEY tuns, by VF (R319). -/
  retained : Tab KeySlot := []
  /-- Key slots 0 to 64 (R185). -/
  keys : Tab KeySlot := []
deriving DecidableEq, Repr

end Sys2Proof.Machine
end

