-- ==== Sys2Proof/Machine/LnkTypes.lean ====
section
/-! DEFINITION. Machine/LnkTypes.lean: the plain data of Lenlink signalling (chapter 10). -/

namespace Sys2Proof.Machine

/-- Consecutive sync words accepted by a detector of one lane at one rate (R339): how many, and from which device and
port. -/
structure Detector where
  count : Nat := 0
  dev : Nat := 0
  port : Nat := 0
deriving DecidableEq, Repr

/-- A receive lane of a training (R335, R346, R358), and the transmit lane of the same number (R351, R354, R355). -/
structure LnkLane where
  /-- LANE value received, once LOCK has accepted a word. -/
  map : Option Nat := none
  inverted : Bool := false
  /-- Skew against the earliest lane, 0.01 ns. -/
  skew : Nat := 0
  failed : Bool := false
  /-- Figures of the measurement window, or none. -/
  meas : Option LaneMeas := none
  /-- Transmit FIR taps PREFAR, PRENEAR, MAIN, POSTNEAR, POSTFAR in 1/64 (R354), and their status for FIRSTAT. -/
  fir : List Int := [0, -4, 52, -8, 0]
  firStat : Nat := 0
  /-- Pre-distortion codes LOWEST to HIGHEST (R355), and their status. -/
  dpd : List Nat := [0x00, 0x55, 0xAA, 0xFF]
  dpdStat : Nat := 0
  /-- Scrambler and encoder of the transmitter (R351). -/
  scr : Nat := 0
  enc : Nat := 0
deriving DecidableEq, Repr

/-- A driver ramp (R365). -/
inductive Ramp where
  | idle
  | waitUp
  | up (done : Nat)
  | waitDown
  | down (done : Nat)
deriving DecidableEq, Repr

/-- What a port last heard from its partner in accepted sync words (Table 10.2). -/
structure PartnerWord where
  state : Nat := 0
  heard : Nat := 0
  full : Bool := false
  ceil : Nat := 3
  dev : Nat := 0
  port : Nat := 0
  spare : Nat := 15
  optics : Bool := false
  dozeReq : Bool := false
  dozeAck : Bool := false
deriving DecidableEq, Repr

/-- A port's signalling beyond its registers. -/
structure LnkPort where
  /-- Are the drivers to be on, are they on, and the ramp under way or waiting. -/
  driven : Bool := false
  on : Bool := false
  ramp : Ramp := .idle
  /-- A ramp down not to start before this time (a beacon's words, R343). -/
  notBefore : Nat := 0
  /-- The ramps of a beacon (R343): 0 none, 1 waiting for its words, 2 ramping down. -/
  beacon : Nat := 0
  beaconAt : Nat := 0
  /-- DISABLED as soon as a ramp up has ended (R365). -/
  disableLater : Bool := false
  /-- SEARCH: entry, slots done, time of the first rate heard (R338, R339). -/
  searchAt : Nat := 0
  slots : Nat := 0
  firstHeard : Option Nat := none
  /-- Detectors by 16 · rate + lane. -/
  dets : Tab Detector := []
  partner : PartnerWord := {}
  /-- Entry into the state that runs, and start of the training (TRTIME). -/
  enterAt : Nat := 0
  trainAt : Nat := 0
  lanes : Tab LnkLane := []
  /-- MEDIA in effect since the last entry into SEARCH (R356). -/
  media : Bool := false
  /-- Attempt of a quick retrain, 0 for none, and its start (R363). -/
  quick : Nat := 0
  quickAt : Nat := 0
  /-- Sync words with STATE = LOCK or QUICK accepted in ACTIVE, by lane (R362, R363). -/
  lockLanes : List Nat := []
  /-- The own window has been judged, and the partner has reported SPAREMAP since (R358 to R360). -/
  judged : Bool := false
  reported : Bool := false
  /-- DOZEACK sent (R366). -/
  ackSent : Bool := false
  /-- A RETRAIN written, and the tick of the write; the tick of the last loss of lock (R364). -/
  retrain : Option (Nat × Nat) := none
  lostTick : Option Nat := none
  /-- Marker sequence number and frame slot (R352). -/
  seq : Nat := 0
  slot : Nat := 0
  /-- Measured and operator flight time, 0.1 ns (R655). -/
  flyMeas : Nat := 0
  flyOp : Nat := 0
deriving DecidableEq, Repr

end Sys2Proof.Machine
end

