-- ==== Sys2Proof/Machine/RegTable.lean ====
section
/-! DEFINITION. Machine/RegTable.lean: every register of the register blocks (Table 20.3) with its offset, width and
fields, as the register maps of the owning chapters give them. The summary registers (R485), which are no part of register
space, stand at offsets of the model's own above it (log entry 6). Reserved fields are not listed: they read zero and
ignore writes (R13). -/

namespace Sys2Proof.Machine

/-- Access codes of Table 0.4 (R9). -/
inductive Access where
  | RO | RW | W1C | W1S | WO | RC | RWO | LK
deriving DecidableEq, Repr

/-- One field of a register: bits [hi:lo], its access code and its reset value. -/
structure RegField where
  hi : Nat
  lo : Nat
  acc : Access
  reset : Nat
deriving DecidableEq, Repr

/-- One row of a register map: register `name[n]` lies at `base + stride * n` for `n < count`. -/
structure RegRow where
  name : String
  base : Nat
  stride : Nat
  count : Nat
  /-- 64 bits wide; otherwise 32. -/
  wide : Bool
  fields : List RegField
deriving DecidableEq, Repr

def Reg.QFE_SQTAIL (n : Nat) : Nat := 0x0 + 64 * n
def Reg.QFE_CQHEAD (n : Nat) : Nat := 0x4 + 64 * n
def Reg.QFE_SQHEAD (n : Nat) : Nat := 0x8 + 64 * n
def Reg.QFE_RSTATE (n : Nat) : Nat := 0xc + 64 * n
def Reg.QFE_HELD (n : Nat) : Nat := 0x10 + 64 * n
def Reg.QFE_HCAUSE (n : Nat) : Nat := 0x18 + 64 * n
def Reg.QFE_CANCEL (n : Nat) : Nat := 0x1c + 64 * n
def Reg.QFE_CNCMISS (n : Nat) : Nat := 0x20 + 64 * n
def Reg.QFE_CQLOST (n : Nat) : Nat := 0x24 + 64 * n
def Reg.STB_TICK : Nat := 0x24000
def Reg.STB_LCALLOW : Nat := 0x24008
def Reg.STB_WITHHELD (n : Nat) : Nat := 0x24010 + 8 * n
def Reg.STB_VOIDCNT (n : Nat) : Nat := 0x24040 + 4 * n
def Reg.STB_OCC (n : Nat) : Nat := 0x24060 + 4 * n
def Reg.STB_RHOLD (n : Nat) : Nat := 0x24100 + 4 * n
def Reg.STB_KILLS (n : Nat) : Nat := 0x24200 + 8 * n
def Reg.STB_KILLSTEP (n : Nat) : Nat := 0x24400 + 8 * n
def Reg.SEC_KEYSTATE (n : Nat) : Nat := 0x38100 + 4 * n
def Reg.MXE_DBGCTL : Nat := 0x25000
def Reg.MXE_DBGSEL : Nat := 0x25008
def Reg.MXE_DBGDATA : Nat := 0x25010
def Reg.MXE_SATCNT : Nat := 0x25018
def Reg.MXE_LONGCNT : Nat := 0x2501c
def Reg.HMC_BERATE : Nat := 0x10000
def Reg.HMC_BEDEPTH : Nat := 0x10004
def Reg.HMC_BUSY (n : Nat) : Nat := 0x11000 + 8 * n
def Reg.HMC_STARVE (n : Nat) : Nat := 0x12000 + 4 * n
def Reg.HMC_DISPLACE (n : Nat) : Nat := 0x12400 + 4 * n
def Reg.HMC_CONTEND (n : Nat) : Nat := 0x12800 + 4 * n
def Reg.HMC_MERGED (n : Nat) : Nat := 0x12c00 + 4 * n
def Reg.WCB_OCC (n : Nat) : Nat := 0x29000 + 4 * n
def Reg.WCB_DEVOCC : Nat := 0x29040
def Reg.WCB_DRAINS : Nat := 0x29048
def Reg.WCB_MERGES : Nat := 0x29050
def Reg.TGC_CTL (n : Nat) : Nat := 0x20000 + 64 * n
def Reg.TGC_BASE (n : Nat) : Nat := 0x20008 + 64 * n
def Reg.TGC_LEN (n : Nat) : Nat := 0x20010 + 64 * n
def Reg.TGC_SEED (n : Nat) : Nat := 0x20018 + 64 * n
def Reg.TGC_STATUS (n : Nat) : Nat := 0x20020 + 64 * n
def Reg.TGC_ERRS (n : Nat) : Nat := 0x20024 + 64 * n
def Reg.TGC_OPS (n : Nat) : Nat := 0x20028 + 64 * n
def Reg.TGC_FIRSTERR (n : Nat) : Nat := 0x20030 + 64 * n
def Reg.TGC_LATMAX (n : Nat) : Nat := 0x20038 + 64 * n
def Reg.HMC_CETHRESH : Nat := 0x13000
def Reg.HMC_SCRUB : Nat := 0x13004
def Reg.HMC_REFRATE : Nat := 0x13008
def Reg.HMC_CECNT (n : Nat) : Nat := 0x13100 + 4 * n
def Reg.HMC_UECNT (n : Nat) : Nat := 0x13500 + 4 * n
def Reg.HMC_POISONCNT (n : Nat) : Nat := 0x13900 + 4 * n
def Reg.HMC_SPARE (n : Nat) : Nat := 0x13d00 + 4 * n
def Reg.HMC_RETIRED (n : Nat) : Nat := 0x14100 + 4 * n
def Reg.HMC_LANES (n : Nat) : Nat := 0x14500 + 4 * n
def Reg.FTC_PSTATE (n : Nat) : Nat := 0x2a000 + 64 * n
def Reg.FTC_CAP (n : Nat) : Nat := 0x2a008 + 64 * n
def Reg.FTC_DLAT (n : Nat) : Nat := 0x2a010 + 64 * n
def Reg.FTC_BW (n : Nat) : Nat := 0x2a014 + 64 * n
def Reg.FTC_RDLAT (n : Nat) : Nat := 0x2a018 + 64 * n
def Reg.FTC_LATE (n : Nat) : Nat := 0x2a01c + 64 * n
def Reg.FTC_POISON (n : Nat) : Nat := 0x2a020 + 64 * n
def Reg.FTC_WLOST (n : Nat) : Nat := 0x2a024 + 64 * n
def Reg.FTC_TIMEOUT : Nat := 0x2a100
def Reg.FTC_OUTST : Nat := 0x2a104
def Reg.LNK_PCTL (n : Nat) : Nat := 0x18000 + 1024 * n
def Reg.LNK_PSTAT (n : Nat) : Nat := 0x18004 + 1024 * n
def Reg.LNK_PARTNER (n : Nat) : Nat := 0x18008 + 1024 * n
def Reg.LNK_TRAINS (n : Nat) : Nat := 0x1800c + 1024 * n
def Reg.LNK_PSYNC (n : Nat) : Nat := 0x18010 + 1024 * n
def Reg.LNK_LOCKLOSS (n : Nat) : Nat := 0x18018 + 1024 * n
def Reg.LNK_CRCERR (n : Nat) : Nat := 0x1801c + 1024 * n
def Reg.LNK_OFFSET (n : Nat) : Nat := 0x18020 + 1024 * n
def Reg.LNK_LANEQ (n : Nat) : Nat := 0x1c000 + 32 * n
def Reg.LNK_LANECORR (n : Nat) : Nat := 0x1c008 + 32 * n
def Reg.LNK_TXFIR (n : Nat) : Nat := 0x1c010 + 32 * n
def Reg.LNK_DPD (n : Nat) : Nat := 0x1c014 + 32 * n
def Reg.LNK_QMIN : Nat := 0x1e000
def Reg.LNK_RAMP : Nat := 0x1e004
def Reg.FAB_DEVID : Nat := 0x2b000
def Reg.FAB_LEAGUE : Nat := 0x2b004
def Reg.FAB_REMOTE : Nat := 0x2b008
def Reg.FAB_LATE : Nat := 0x2b010
def Reg.FAB_TIMEOUT : Nat := 0x2b018
def Reg.FAB_SUBTMO : Nat := 0x2b01c
def Reg.FAB_ARRHELD : Nat := 0x2b020
def Reg.FAB_PCTL (n : Nat) : Nat := 0x2b100 + 64 * n
def Reg.FAB_PSTATE (n : Nat) : Nat := 0x2b104 + 64 * n
def Reg.FAB_HOPNS (n : Nat) : Nat := 0x2b108 + 64 * n
def Reg.FAB_FLY (n : Nat) : Nat := 0x2b10c + 64 * n
def Reg.FAB_REPLAY (n : Nat) : Nat := 0x2b110 + 64 * n
def Reg.FAB_BREACH (n : Nat) : Nat := 0x2b114 + 64 * n
def Reg.FAB_MALFORMED (n : Nat) : Nat := 0x2b118 + 64 * n
def Reg.FAB_FLITLOST (n : Nat) : Nat := 0x2b11c + 64 * n
def Reg.HIF_LSTAT : Nat := 0x2c000
def Reg.HIF_ATCINV : Nat := 0x2c008
def Reg.HIF_IDESTATE (n : Nat) : Nat := 0x2c010 + 4 * n
def Reg.HIF_TDISTATE (n : Nat) : Nat := 0x2c100 + 4 * n
def Reg.MBX_INFLIGHT : Nat := 0x2d000
def Reg.MBX_POSTED : Nat := 0x2d004
def Reg.MBX_MALF (n : Nat) : Nat := 0x2d100 + 4 * n
def Reg.ERR_NEXTSEQ : Nat := 0x2f000
def Reg.ERR_FATAL : Nat := 0x2f008
def Reg.ERR_LOGCE : Nat := 0x2f010
def Reg.ERR_QSTAT (n : Nat) : Nat := 0x2f040 + 32 * n
def Reg.ERR_OLDEST (n : Nat) : Nat := 0x2f048 + 32 * n
def Reg.ERR_SEVMASK (n : Nat) : Nat := 0x2f050 + 32 * n
def Reg.ERR_PINMASK (n : Nat) : Nat := 0x2f054 + 32 * n
def Reg.ERR_VFOVF (n : Nat) : Nat := 0x2f200 + 4 * n
def Reg.IRQ_PIN : Nat := 0x2e000
def Reg.IRQ_SENT (n : Nat) : Nat := 0x2e100 + 4 * n
def Reg.PWR_STATE : Nat := 0x30000
def Reg.PWR_POLICY : Nat := 0x30004
def Reg.PWR_TRANS : Nat := 0x30008
def Reg.PWR_AVG (n : Nat) : Nat := 0x30010 + 8 * n
def Reg.PWR_REASONUS (n : Nat) : Nat := 0x30040 + 8 * n
def Reg.PWR_REASONEV (n : Nat) : Nat := 0x30080 + 4 * n
def Reg.PWR_VID (n : Nat) : Nat := 0x300a0 + 4 * n
def Reg.THM_STACK (n : Nat) : Nat := 0x31000 + 4 * n
def Reg.THM_CORE (n : Nat) : Nat := 0x31040 + 4 * n
def Reg.THM_HOT : Nat := 0x31080
def Reg.THM_LIMIT : Nat := 0x31084
def Reg.MTR_CTL : Nat := 0x32000
def Reg.MTR_WINDOW : Nat := 0x32008
def Reg.MTR_NEXTSEQ : Nat := 0x32010
def Reg.MTR_COEF (n : Nat) : Nat := 0x32100 + 4 * n
def Reg.MTR_STATIC (n : Nat) : Nat := 0x32300 + 4 * n
def Reg.MGT_BOOT : Nat := 0x33000
def Reg.MGT_FWVER : Nat := 0x33008
def Reg.MGT_FUSE : Nat := 0x33010
def Reg.MGT_BMC : Nat := 0x33014
def Reg.MGT_MCECC : Nat := 0x33018
def Reg.MGT_LOGHEAD : Nat := 0x33020
def Reg.MGT_LOGSEL : Nat := 0x33024
def Reg.MGT_LOGCTL : Nat := 0x33028
def Reg.MGT_LOGDATA (n : Nat) : Nat := 0x33040 + 8 * n
def Reg.CLK_TIME : Nat := 0x35000
def Reg.CLK_STAT : Nat := 0x35008
def Reg.CLK_RELOCK : Nat := 0x3500c
def Reg.RST_CAUSE : Nat := 0x36000
def Reg.RST_STAGE : Nat := 0x36004
def Reg.RST_READY : Nat := 0x36008
def Reg.RST_WARMS : Nat := 0x3600c
def Reg.PIN_MUX (n : Nat) : Nat := 0x34000 + 4 * n
def Reg.PIN_PULL (n : Nat) : Nat := 0x34040 + 4 * n
def Reg.PIN_GPIO : Nat := 0x34080
def Reg.PIN_STRAP : Nat := 0x34084
def Reg.PIN_LSYNC : Nat := 0x34088
def Reg.PIN_LSTAMP : Nat := 0x34090
def Reg.PIN_INPUTS : Nat := 0x34098
def Reg.LDG_SWEEP : Nat := 0x37000
def Reg.LDG_STAT : Nat := 0x37008
def Reg.SUMMARY_PF : Nat := 0x1000000
def Reg.SUMMARY_VF (n : Nat) : Nat := 0x1000008 + 8 * n

/-! Field positions (hi, lo), one per named field. -/
def F.QFE_SQTAIL_TAIL : Nat × Nat := (15, 0)
def F.QFE_CQHEAD_HEAD : Nat × Nat := (15, 0)
def F.QFE_SQHEAD_HEAD : Nat × Nat := (15, 0)
def F.QFE_RSTATE_FCAUSE : Nat × Nat := (7, 4)
def F.QFE_RSTATE_STATE : Nat × Nat := (1, 0)
def F.QFE_HCAUSE_REMOTE : Nat × Nat := (4, 4)
def F.QFE_HCAUSE_FAR : Nat × Nat := (3, 3)
def F.QFE_HCAUSE_BUSHEL : Nat × Nat := (2, 2)
def F.QFE_HCAUSE_CQ : Nat × Nat := (1, 1)
def F.QFE_HCAUSE_SEQ : Nat × Nat := (0, 0)
def F.STB_LCALLOW_ALLOW : Nat × Nat := (5, 0)
def F.STB_OCC_LIVE : Nat × Nat := (14, 0)
def F.STB_RHOLD_SWITCHING : Nat × Nat := (9, 9)
def F.STB_RHOLD_QUIET : Nat × Nat := (8, 8)
def F.STB_RHOLD_BOUND : Nat × Nat := (7, 7)
def F.STB_RHOLD_HOLDER : Nat × Nat := (6, 0)
def F.SEC_KEYSTATE_STATE : Nat × Nat := (1, 0)
def F.MXE_DBGCTL_ACTIVE : Nat × Nat := (0, 0)
def F.MXE_DBGSEL_ARRAY : Nat × Nat := (31, 30)
def F.MXE_DBGSEL_ROW : Nat × Nat := (29, 23)
def F.MXE_DBGSEL_COL : Nat × Nat := (22, 16)
def F.MXE_DBGSEL_REG : Nat × Nat := (2, 0)
def F.HMC_BERATE_RATE : Nat × Nat := (7, 0)
def F.HMC_BEDEPTH_DEPTH : Nat × Nat := (15, 0)
def F.WCB_OCC_LIVE : Nat × Nat := (11, 0)
def F.WCB_DEVOCC_LIVE : Nat × Nat := (8, 0)
def F.TGC_CTL_GO : Nat × Nat := (31, 31)
def F.TGC_CTL_PATTERN : Nat × Nat := (15, 12)
def F.TGC_CTL_BURST : Nat × Nat := (10, 8)
def F.TGC_CTL_PRIO : Nat × Nat := (5, 4)
def F.TGC_CTL_MODE : Nat × Nat := (2, 0)
def F.TGC_STATUS_REASON : Nat × Nat := (7, 4)
def F.TGC_STATUS_STATE : Nat × Nat := (1, 0)
def F.HMC_CETHRESH_DECAY : Nat × Nat := (23, 16)
def F.HMC_CETHRESH_THRESH : Nat × Nat := (7, 0)
def F.HMC_SCRUB_PERIOD : Nat × Nat := (7, 0)
def F.HMC_REFRATE_RATE : Nat × Nat := (15, 0)
def F.HMC_SPARE_HARDLEFT : Nat × Nat := (23, 16)
def F.HMC_SPARE_REMAPQ : Nat × Nat := (15, 8)
def F.HMC_SPARE_SOFTLEFT : Nat × Nat := (6, 0)
def F.HMC_RETIRED_COUNT : Nat × Nat := (8, 0)
def F.HMC_LANES_STATE : Nat × Nat := (31, 30)
def F.HMC_LANES_USED : Nat × Nat := (17, 16)
def F.HMC_LANES_LANEB : Nat × Nat := (15, 8)
def F.HMC_LANES_LANEA : Nat × Nat := (7, 0)
def F.FTC_PSTATE_GPF : Nat × Nat := (17, 17)
def F.FTC_PSTATE_PERSIST : Nat × Nat := (16, 16)
def F.FTC_PSTATE_RATE : Nat × Nat := (15, 12)
def F.FTC_PSTATE_WIDTH : Nat × Nat := (11, 8)
def F.FTC_PSTATE_REASON : Nat × Nat := (7, 4)
def F.FTC_PSTATE_STATE : Nat × Nat := (2, 0)
def F.FTC_DLAT_NS : Nat × Nat := (15, 0)
def F.FTC_BW_GBPS : Nat × Nat := (7, 0)
def F.FTC_TIMEOUT_US : Nat × Nat := (15, 0)
def F.FTC_OUTST_COUNT : Nat × Nat := (12, 0)
def F.LNK_PCTL_RETRAIN : Nat × Nat := (15, 14)
def F.LNK_PCTL_RATEMAX : Nat × Nat := (9, 8)
def F.LNK_PCTL_MEDIA : Nat × Nat := (4, 4)
def F.LNK_PCTL_DOZE : Nat × Nat := (1, 1)
def F.LNK_PCTL_ENABLE : Nat × Nat := (0, 0)
def F.LNK_PSTAT_STATE : Nat × Nat := (31, 28)
def F.LNK_PSTAT_REASON : Nat × Nat := (27, 24)
def F.LNK_PSTAT_RATE : Nat × Nat := (23, 22)
def F.LNK_PSTAT_CEIL : Nat × Nat := (21, 20)
def F.LNK_PSTAT_RXSPARE : Nat × Nat := (19, 16)
def F.LNK_PSTAT_TXSPARE : Nat × Nat := (15, 12)
def F.LNK_PSTAT_ROUND : Nat × Nat := (11, 7)
def F.LNK_PSTAT_HEARD : Nat × Nat := (6, 3)
def F.LNK_PSTAT_FULL : Nat × Nat := (2, 2)
def F.LNK_PARTNER_VALID : Nat × Nat := (31, 31)
def F.LNK_PARTNER_PORT : Nat × Nat := (16, 13)
def F.LNK_PARTNER_DEVID : Nat × Nat := (12, 0)
def F.LNK_PSYNC_OFFSET : Nat × Nat := (63, 48)
def F.LNK_PSYNC_SKEW : Nat × Nat := (47, 32)
def F.LNK_PSYNC_TRTIME : Nat × Nat := (31, 0)
def F.LNK_OFFSET_OFFSET : Nat × Nat := (15, 0)
def F.LNK_LANEQ_SNR : Nat × Nat := (63, 48)
def F.LNK_LANEQ_EYEUP : Nat × Nat := (47, 40)
def F.LNK_LANEQ_EYEMID : Nat × Nat := (39, 32)
def F.LNK_LANEQ_EYELOW : Nat × Nat := (31, 24)
def F.LNK_LANEQ_CTLE : Nat × Nat := (23, 20)
def F.LNK_LANEQ_DFETAP : Nat × Nat := (19, 12)
def F.LNK_LANEQ_FAILED : Nat × Nat := (5, 5)
def F.LNK_LANEQ_INVERT : Nat × Nat := (4, 4)
def F.LNK_LANEQ_MAP : Nat × Nat := (3, 0)
def F.LNK_TXFIR_PREFAR : Nat × Nat := (31, 26)
def F.LNK_TXFIR_PRENEAR : Nat × Nat := (25, 20)
def F.LNK_TXFIR_MAIN : Nat × Nat := (19, 13)
def F.LNK_TXFIR_POSTNEAR : Nat × Nat := (12, 7)
def F.LNK_TXFIR_POSTFAR : Nat × Nat := (6, 1)
def F.LNK_DPD_HIGHEST : Nat × Nat := (31, 24)
def F.LNK_DPD_HIGHMID : Nat × Nat := (23, 16)
def F.LNK_DPD_LOWMID : Nat × Nat := (15, 8)
def F.LNK_DPD_LOWEST : Nat × Nat := (7, 0)
def F.LNK_QMIN_CORR : Nat × Nat := (31, 16)
def F.LNK_QMIN_SNR : Nat × Nat := (15, 0)
def F.LNK_RAMP_US : Nat × Nat := (4, 0)
def F.FAB_DEVID_ID : Nat × Nat := (12, 0)
def F.FAB_LEAGUE_AGREED : Nat × Nat := (31, 31)
def F.FAB_LEAGUE_RATIO : Nat × Nat := (25, 19)
def F.FAB_LEAGUE_OP : Nat × Nat := (18, 16)
def F.FAB_LEAGUE_HEARD : Nat × Nat := (13, 0)
def F.FAB_REMOTE_COUNT : Nat × Nat := (10, 0)
def F.FAB_PCTL_UNISOLATE : Nat × Nat := (16, 16)
def F.FAB_PCTL_IDLE : Nat × Nat := (15, 0)
def F.FAB_PSTATE_TWIN : Nat × Nat := (2, 2)
def F.FAB_PSTATE_STATE : Nat × Nat := (1, 0)
def F.FAB_HOPNS_NS : Nat × Nat := (15, 0)
def F.FAB_FLY_NS : Nat × Nat := (15, 0)
def F.HIF_LSTAT_L0P : Nat × Nat := (9, 9)
def F.HIF_LSTAT_FLIT : Nat × Nat := (8, 8)
def F.HIF_LSTAT_WIDTH : Nat × Nat := (7, 4)
def F.HIF_LSTAT_RATE : Nat × Nat := (3, 0)
def F.HIF_IDESTATE_LINK : Nat × Nat := (3, 3)
def F.HIF_IDESTATE_STATE : Nat × Nat := (2, 0)
def F.HIF_TDISTATE_STATE : Nat × Nat := (1, 0)
def F.MBX_INFLIGHT_COUNT : Nat × Nat := (6, 0)
def F.MBX_POSTED_COUNT : Nat × Nat := (9, 0)
def F.ERR_FATAL_ACTIVE : Nat × Nat := (63, 63)
def F.ERR_FATAL_DOMAIN : Nat × Nat := (62, 60)
def F.ERR_FATAL_COUNT : Nat × Nat := (59, 52)
def F.ERR_FATAL_CAUSE : Nat × Nat := (47, 32)
def F.ERR_FATAL_SEQ : Nat × Nat := (31, 0)
def F.ERR_QSTAT_OVF : Nat × Nat := (63, 32)
def F.ERR_QSTAT_HELD : Nat × Nat := (13, 8)
def F.ERR_QSTAT_UNACK : Nat × Nat := (4, 0)
def F.ERR_SEVMASK_SEV : Nat × Nat := (3, 0)
def F.ERR_PINMASK_SEV : Nat × Nat := (3, 0)
def F.IRQ_PIN_FORCE : Nat × Nat := (1, 1)
def F.IRQ_PIN_ASSERTED : Nat × Nat := (0, 0)
def F.PWR_STATE_OP : Nat × Nat := (31, 29)
def F.PWR_STATE_PERMIT : Nat × Nat := (28, 26)
def F.PWR_STATE_PREF : Nat × Nat := (25, 23)
def F.PWR_STATE_THERM : Nat × Nat := (22, 20)
def F.PWR_STATE_RATIO : Nat × Nat := (19, 13)
def F.PWR_STATE_TARGET : Nat × Nat := (12, 6)
def F.PWR_STATE_REASONS : Nat × Nat := (5, 0)
def F.PWR_POLICY_PLA : Nat × Nat := (31, 16)
def F.PWR_POLICY_PLB : Nat × Nat := (15, 0)
def F.PWR_AVG_B : Nat × Nat := (63, 32)
def F.PWR_AVG_A : Nat × Nat := (31, 0)
def F.PWR_VID_MV : Nat × Nat := (15, 0)
def F.THM_STACK_T : Nat × Nat := (15, 0)
def F.THM_CORE_T : Nat × Nat := (15, 0)
def F.THM_HOT_STACK : Nat × Nat := (31, 16)
def F.THM_HOT_CORE : Nat × Nat := (15, 0)
def F.THM_LIMIT_STACK : Nat × Nat := (31, 16)
def F.THM_LIMIT_CORE : Nat × Nat := (15, 0)
def F.MTR_CTL_ENABLE : Nat × Nat := (0, 0)
def F.MGT_BOOT_FAILB : Nat × Nat := (31, 24)
def F.MGT_BOOT_FAILA : Nat × Nat := (23, 16)
def F.MGT_BOOT_FALLBACK : Nat × Nat := (4, 4)
def F.MGT_BOOT_NEXT : Nat × Nat := (3, 3)
def F.MGT_BOOT_SLOT : Nat × Nat := (2, 2)
def F.MGT_BOOT_STATE : Nat × Nat := (1, 0)
def F.MGT_FUSE_REVOKED : Nat × Nat := (11, 8)
def F.MGT_FUSE_DBGOFF : Nat × Nat := (6, 6)
def F.MGT_FUSE_FLOOR : Nat × Nat := (5, 0)
def F.MGT_BMC_EID : Nat × Nat := (31, 24)
def F.MGT_BMC_ADDR : Nat × Nat := (15, 9)
def F.MGT_BMC_STATE : Nat × Nat := (0, 0)
def F.MGT_LOGCTL_FOUND : Nat × Nat := (1, 1)
def F.MGT_LOGCTL_BUSY : Nat × Nat := (0, 0)
def F.CLK_STAT_FAIL : Nat × Nat := (11, 8)
def F.CLK_STAT_LOCKED : Nat × Nat := (3, 0)
def F.RST_CAUSE_TRIGGER : Nat × Nat := (7, 4)
def F.RST_CAUSE_TYPE : Nat × Nat := (1, 0)
def F.RST_STAGE_RUNG : Nat × Nat := (7, 0)
def F.PIN_MUX_CLKSEL : Nat × Nat := (7, 4)
def F.PIN_MUX_FUNC : Nat × Nat := (3, 0)
def F.PIN_PULL_PULL : Nat × Nat := (1, 0)
def F.PIN_GPIO_IN : Nat × Nat := (31, 16)
def F.PIN_GPIO_OUT : Nat × Nat := (15, 0)
def F.PIN_STRAP_TEST : Nat × Nat := (3, 3)
def F.PIN_STRAP_SMBADDR : Nat × Nat := (2, 0)
def F.PIN_LSYNC_PULSE : Nat × Nat := (31, 31)
def F.PIN_LSYNC_COUNT : Nat × Nat := (15, 0)
def F.PIN_INPUTS_LSYNC : Nat × Nat := (2, 2)
def F.PIN_INPUTS_VRALERT : Nat × Nat := (1, 1)
def F.PIN_INPUTS_PFAIL : Nat × Nat := (0, 0)
def F.LDG_STAT_RUNNING : Nat × Nat := (8, 8)
def F.LDG_STAT_CHECK : Nat × Nat := (7, 0)
def F.SUMMARY_PF_ARM : Nat × Nat := (63, 63)
def F.SUMMARY_PF_ENABLE_ERR : Nat × Nat := (54, 54)
def F.SUMMARY_PF_ENABLE_MBX : Nat × Nat := (53, 53)
def F.SUMMARY_PF_GROUP_FATAL : Nat × Nat := (47, 47)
def F.SUMMARY_PF_GROUP_ERR : Nat × Nat := (45, 45)
def F.SUMMARY_PF_GROUP_MBX : Nat × Nat := (44, 44)
def F.SUMMARY_PF_ERRDOM : Nat × Nat := (38, 33)
def F.SUMMARY_PF_MBXDONE : Nat × Nat := (19, 16)
def F.SUMMARY_VF_ARM : Nat × Nat := (63, 63)
def F.SUMMARY_VF_ENABLE_TENANT : Nat × Nat := (55, 55)
def F.SUMMARY_VF_ENABLE_ERR : Nat × Nat := (54, 54)
def F.SUMMARY_VF_ENABLE_MBX : Nat × Nat := (53, 53)
def F.SUMMARY_VF_ENABLE_RING : Nat × Nat := (52, 52)
def F.SUMMARY_VF_GROUP_FATAL : Nat × Nat := (47, 47)
def F.SUMMARY_VF_GROUP_TENANT : Nat × Nat := (46, 46)
def F.SUMMARY_VF_GROUP_ERR : Nat × Nat := (45, 45)
def F.SUMMARY_VF_GROUP_MBX : Nat × Nat := (44, 44)
def F.SUMMARY_VF_GROUP_RING : Nat × Nat := (43, 43)
def F.SUMMARY_VF_ERRDOM : Nat × Nat := (38, 33)
def F.SUMMARY_VF_TENANT : Nat × Nat := (32, 32)
def F.SUMMARY_VF_MBXDONE : Nat × Nat := (19, 16)
def F.SUMMARY_VF_RINGS : Nat × Nat := (15, 0)

/-- QFE registers (R88). -/
def regRowsQFE : List RegRow := [
  ⟨"QFE_SQTAIL", 0x0, 64, 1024, false, [⟨15, 0, .RW, 0⟩]⟩,
  ⟨"QFE_CQHEAD", 0x4, 64, 1024, false, [⟨15, 0, .RW, 0⟩]⟩,
  ⟨"QFE_SQHEAD", 0x8, 64, 1024, false, [⟨15, 0, .RO, 0⟩]⟩,
  ⟨"QFE_RSTATE", 0xc, 64, 1024, false, [⟨7, 4, .RO, 0⟩, ⟨1, 0, .RO, 0⟩]⟩,
  ⟨"QFE_HELD", 0x10, 64, 1024, true, [⟨63, 0, .RO, 0⟩]⟩,
  ⟨"QFE_HCAUSE", 0x18, 64, 1024, false, [⟨4, 4, .W1C, 0⟩, ⟨3, 3, .W1C, 0⟩, ⟨2, 2, .W1C, 0⟩, ⟨1, 1, .W1C, 0⟩, ⟨0, 0, .W1C, 0⟩]⟩,
  ⟨"QFE_CANCEL", 0x1c, 64, 1024, false, [⟨31, 0, .WO, 0⟩]⟩,
  ⟨"QFE_CNCMISS", 0x20, 64, 1024, false, [⟨31, 0, .RO, 0⟩]⟩,
  ⟨"QFE_CQLOST", 0x24, 64, 1024, false, [⟨31, 0, .RO, 0⟩]⟩]

/-- STB registers (R150, R193). -/
def regRowsSTB : List RegRow := [
  ⟨"STB_TICK", 0x24000, 0, 1, true, [⟨63, 0, .RO, 0⟩]⟩,
  ⟨"STB_LCALLOW", 0x24008, 0, 1, false, [⟨5, 0, .LK, 2⟩]⟩,
  ⟨"STB_WITHHELD", 0x24010, 8, 5, true, [⟨63, 0, .RO, 0⟩]⟩,
  ⟨"STB_VOIDCNT", 0x24040, 4, 8, false, [⟨31, 0, .RC, 0⟩]⟩,
  ⟨"STB_OCC", 0x24060, 4, 5, false, [⟨14, 0, .RO, 0⟩]⟩,
  ⟨"STB_RHOLD", 0x24100, 4, 16, false, [⟨9, 9, .RO, 0⟩, ⟨8, 8, .RO, 0⟩, ⟨7, 7, .RO, 0⟩, ⟨6, 0, .RO, 0⟩]⟩,
  ⟨"STB_KILLS", 0x24200, 8, 64, true, [⟨63, 0, .RC, 0⟩]⟩,
  ⟨"STB_KILLSTEP", 0x24400, 8, 64, true, [⟨63, 0, .RC, 0⟩]⟩]

/-- SEC registers (R193). -/
def regRowsSEC : List RegRow := [
  ⟨"SEC_KEYSTATE", 0x38100, 4, 65, false, [⟨1, 0, .RO, 0⟩]⟩]

/-- MXE registers (R232). -/
def regRowsMXE : List RegRow := [
  ⟨"MXE_DBGCTL", 0x25000, 0, 1, false, [⟨0, 0, .RO, 0⟩]⟩,
  ⟨"MXE_DBGSEL", 0x25008, 0, 1, false, [⟨31, 30, .RW, 0⟩, ⟨29, 23, .RW, 0⟩, ⟨22, 16, .RW, 0⟩, ⟨2, 0, .RW, 0⟩]⟩,
  ⟨"MXE_DBGDATA", 0x25010, 0, 1, false, [⟨31, 0, .RO, 0⟩]⟩,
  ⟨"MXE_SATCNT", 0x25018, 0, 1, false, [⟨31, 0, .RC, 0⟩]⟩,
  ⟨"MXE_LONGCNT", 0x2501c, 0, 1, false, [⟨31, 0, .RC, 0⟩]⟩]

/-- HMC registers (R274, R304). -/
def regRowsHMC : List RegRow := [
  ⟨"HMC_BERATE", 0x10000, 0, 1, false, [⟨7, 0, .RW, 0x10⟩]⟩,
  ⟨"HMC_BEDEPTH", 0x10004, 0, 1, false, [⟨15, 0, .RW, 0x400⟩]⟩,
  ⟨"HMC_BUSY", 0x11000, 8, 256, true, [⟨63, 0, .RO, 0⟩]⟩,
  ⟨"HMC_STARVE", 0x12000, 4, 256, false, [⟨31, 0, .RC, 0⟩]⟩,
  ⟨"HMC_DISPLACE", 0x12400, 4, 256, false, [⟨31, 0, .RC, 0⟩]⟩,
  ⟨"HMC_CONTEND", 0x12800, 4, 256, false, [⟨31, 0, .RC, 0⟩]⟩,
  ⟨"HMC_MERGED", 0x12c00, 4, 256, false, [⟨31, 0, .RC, 0⟩]⟩,
  ⟨"HMC_CETHRESH", 0x13000, 0, 1, false, [⟨23, 16, .RW, 0x3c⟩, ⟨7, 0, .RW, 4⟩]⟩,
  ⟨"HMC_SCRUB", 0x13004, 0, 1, false, [⟨7, 0, .RW, 0x18⟩]⟩,
  ⟨"HMC_REFRATE", 0x13008, 0, 1, false, [⟨15, 0, .RO, 0⟩]⟩,
  ⟨"HMC_CECNT", 0x13100, 4, 256, false, [⟨31, 0, .RC, 0⟩]⟩,
  ⟨"HMC_UECNT", 0x13500, 4, 256, false, [⟨31, 0, .RC, 0⟩]⟩,
  ⟨"HMC_POISONCNT", 0x13900, 4, 256, false, [⟨31, 0, .RC, 0⟩]⟩,
  ⟨"HMC_SPARE", 0x13d00, 4, 256, false, [⟨23, 16, .RO, 0⟩, ⟨15, 8, .RO, 0⟩, ⟨6, 0, .RO, 0⟩]⟩,
  ⟨"HMC_RETIRED", 0x14100, 4, 256, false, [⟨8, 0, .RO, 0⟩]⟩,
  ⟨"HMC_LANES", 0x14500, 4, 256, false, [⟨31, 30, .RO, 0⟩, ⟨17, 16, .RO, 0⟩, ⟨15, 8, .RO, 0xff⟩, ⟨7, 0, .RO, 0xff⟩]⟩]

/-- WCB registers (R274). -/
def regRowsWCB : List RegRow := [
  ⟨"WCB_OCC", 0x29000, 4, 16, false, [⟨11, 0, .RO, 0⟩]⟩,
  ⟨"WCB_DEVOCC", 0x29040, 0, 1, false, [⟨8, 0, .RO, 0⟩]⟩,
  ⟨"WCB_DRAINS", 0x29048, 0, 1, true, [⟨63, 0, .RC, 0⟩]⟩,
  ⟨"WCB_MERGES", 0x29050, 0, 1, true, [⟨63, 0, .RC, 0⟩]⟩]

/-- TGC registers (R274). -/
def regRowsTGC : List RegRow := [
  ⟨"TGC_CTL", 0x20000, 64, 256, false, [⟨31, 31, .RW, 0⟩, ⟨15, 12, .RW, 0⟩, ⟨10, 8, .RW, 5⟩, ⟨5, 4, .RW, 0⟩, ⟨2, 0, .RW, 0⟩]⟩,
  ⟨"TGC_BASE", 0x20008, 64, 256, true, [⟨63, 0, .RW, 0⟩]⟩,
  ⟨"TGC_LEN", 0x20010, 64, 256, true, [⟨63, 0, .RW, 0⟩]⟩,
  ⟨"TGC_SEED", 0x20018, 64, 256, true, [⟨63, 0, .RW, 0⟩]⟩,
  ⟨"TGC_STATUS", 0x20020, 64, 256, false, [⟨7, 4, .RO, 0⟩, ⟨1, 0, .RO, 0⟩]⟩,
  ⟨"TGC_ERRS", 0x20024, 64, 256, false, [⟨31, 0, .RC, 0⟩]⟩,
  ⟨"TGC_OPS", 0x20028, 64, 256, true, [⟨63, 0, .RO, 0⟩]⟩,
  ⟨"TGC_FIRSTERR", 0x20030, 64, 256, true, [⟨63, 0, .RO, 0⟩]⟩,
  ⟨"TGC_LATMAX", 0x20038, 64, 256, false, [⟨31, 0, .RO, 0⟩]⟩]

/-- FTC registers (R330). -/
def regRowsFTC : List RegRow := [
  ⟨"FTC_PSTATE", 0x2a000, 64, 2, false, [⟨17, 17, .RO, 0⟩, ⟨16, 16, .RO, 0⟩, ⟨15, 12, .RO, 0⟩, ⟨11, 8, .RO, 0⟩, ⟨7, 4, .RO, 0⟩, ⟨2, 0, .RO, 0⟩]⟩,
  ⟨"FTC_CAP", 0x2a008, 64, 2, true, [⟨63, 0, .RO, 0⟩]⟩,
  ⟨"FTC_DLAT", 0x2a010, 64, 2, false, [⟨15, 0, .LK, 0x3e8⟩]⟩,
  ⟨"FTC_BW", 0x2a014, 64, 2, false, [⟨7, 0, .RO, 0⟩]⟩,
  ⟨"FTC_RDLAT", 0x2a018, 64, 2, false, [⟨31, 0, .RC, 0⟩]⟩,
  ⟨"FTC_LATE", 0x2a01c, 64, 2, false, [⟨31, 0, .RC, 0⟩]⟩,
  ⟨"FTC_POISON", 0x2a020, 64, 2, false, [⟨31, 0, .RC, 0⟩]⟩,
  ⟨"FTC_WLOST", 0x2a024, 64, 2, false, [⟨31, 0, .RC, 0⟩]⟩,
  ⟨"FTC_TIMEOUT", 0x2a100, 0, 1, false, [⟨15, 0, .RW, 0x64⟩]⟩,
  ⟨"FTC_OUTST", 0x2a104, 0, 1, false, [⟨12, 0, .RO, 0⟩]⟩]

/-- LNK registers (R370). -/
def regRowsLNK : List RegRow := [
  ⟨"LNK_PCTL", 0x18000, 1024, 16, false, [⟨15, 14, .WO, 0⟩, ⟨9, 8, .RW, 3⟩, ⟨4, 4, .LK, 0⟩, ⟨1, 1, .RW, 0⟩, ⟨0, 0, .RW, 0⟩]⟩,
  ⟨"LNK_PSTAT", 0x18004, 1024, 16, false, [⟨31, 28, .RO, 0⟩, ⟨27, 24, .RO, 0⟩, ⟨23, 22, .RO, 0⟩, ⟨21, 20, .RO, 3⟩, ⟨19, 16, .RO, 0xf⟩, ⟨15, 12, .RO, 0xf⟩, ⟨11, 7, .RO, 0⟩, ⟨6, 3, .RO, 0⟩, ⟨2, 2, .RO, 0⟩]⟩,
  ⟨"LNK_PARTNER", 0x18008, 1024, 16, false, [⟨31, 31, .RO, 0⟩, ⟨16, 13, .RO, 0⟩, ⟨12, 0, .RO, 0⟩]⟩,
  ⟨"LNK_TRAINS", 0x1800c, 1024, 16, false, [⟨31, 0, .RC, 0⟩]⟩,
  ⟨"LNK_PSYNC", 0x18010, 1024, 16, true, [⟨63, 48, .RO, 0⟩, ⟨47, 32, .RO, 0⟩, ⟨31, 0, .RO, 0⟩]⟩,
  ⟨"LNK_LOCKLOSS", 0x18018, 1024, 16, false, [⟨31, 0, .RC, 0⟩]⟩,
  ⟨"LNK_CRCERR", 0x1801c, 1024, 16, false, [⟨31, 0, .RC, 0⟩]⟩,
  ⟨"LNK_OFFSET", 0x18020, 1024, 16, false, [⟨15, 0, .RO, 0⟩]⟩,
  ⟨"LNK_LANEQ", 0x1c000, 32, 144, true, [⟨63, 48, .RO, 0⟩, ⟨47, 40, .RO, 0⟩, ⟨39, 32, .RO, 0⟩, ⟨31, 24, .RO, 0⟩, ⟨23, 20, .RO, 0⟩, ⟨19, 12, .RO, 0⟩, ⟨5, 5, .RO, 0⟩, ⟨4, 4, .RO, 0⟩, ⟨3, 0, .RO, 0xf⟩]⟩,
  ⟨"LNK_LANECORR", 0x1c008, 32, 144, true, [⟨63, 0, .RC, 0⟩]⟩,
  ⟨"LNK_TXFIR", 0x1c010, 32, 144, false, [⟨31, 26, .RO, 0⟩, ⟨25, 20, .RO, 0⟩, ⟨19, 13, .RO, 0⟩, ⟨12, 7, .RO, 0⟩, ⟨6, 1, .RO, 0⟩]⟩,
  ⟨"LNK_DPD", 0x1c014, 32, 144, false, [⟨31, 24, .RO, 0xff⟩, ⟨23, 16, .RO, 0xaa⟩, ⟨15, 8, .RO, 0x55⟩, ⟨7, 0, .RO, 0⟩]⟩,
  ⟨"LNK_QMIN", 0x1e000, 0, 1, false, [⟨31, 16, .RW, 0x64⟩, ⟨15, 0, .RW, 0xaa⟩]⟩,
  ⟨"LNK_RAMP", 0x1e004, 0, 1, false, [⟨4, 0, .RW, 4⟩]⟩]

/-- FAB registers (R407). -/
def regRowsFAB : List RegRow := [
  ⟨"FAB_DEVID", 0x2b000, 0, 1, false, [⟨12, 0, .RO, 0⟩]⟩,
  ⟨"FAB_LEAGUE", 0x2b004, 0, 1, false, [⟨31, 31, .RO, 0⟩, ⟨25, 19, .RO, 0⟩, ⟨18, 16, .RO, 0⟩, ⟨13, 0, .RO, 0⟩]⟩,
  ⟨"FAB_REMOTE", 0x2b008, 0, 1, false, [⟨10, 0, .RO, 0⟩]⟩,
  ⟨"FAB_LATE", 0x2b010, 0, 1, true, [⟨63, 0, .RC, 0⟩]⟩,
  ⟨"FAB_TIMEOUT", 0x2b018, 0, 1, false, [⟨31, 0, .RC, 0⟩]⟩,
  ⟨"FAB_SUBTMO", 0x2b01c, 0, 1, false, [⟨31, 0, .RC, 0⟩]⟩,
  ⟨"FAB_ARRHELD", 0x2b020, 0, 1, false, [⟨31, 0, .RC, 0⟩]⟩,
  ⟨"FAB_PCTL", 0x2b100, 64, 16, false, [⟨16, 16, .WO, 0⟩, ⟨15, 0, .RW, 0x64⟩]⟩,
  ⟨"FAB_PSTATE", 0x2b104, 64, 16, false, [⟨2, 2, .RO, 0⟩, ⟨1, 0, .RO, 0⟩]⟩,
  ⟨"FAB_HOPNS", 0x2b108, 64, 16, false, [⟨15, 0, .RO, 0⟩]⟩,
  ⟨"FAB_FLY", 0x2b10c, 64, 16, false, [⟨15, 0, .LK, 0⟩]⟩,
  ⟨"FAB_REPLAY", 0x2b110, 64, 16, false, [⟨31, 0, .RC, 0⟩]⟩,
  ⟨"FAB_BREACH", 0x2b114, 64, 16, false, [⟨31, 0, .RC, 0⟩]⟩,
  ⟨"FAB_MALFORMED", 0x2b118, 64, 16, false, [⟨31, 0, .RC, 0⟩]⟩,
  ⟨"FAB_FLITLOST", 0x2b11c, 64, 16, false, [⟨31, 0, .RC, 0⟩]⟩]

/-- HIF registers (R432). -/
def regRowsHIF : List RegRow := [
  ⟨"HIF_LSTAT", 0x2c000, 0, 1, false, [⟨9, 9, .RO, 0⟩, ⟨8, 8, .RO, 0⟩, ⟨7, 4, .RO, 0⟩, ⟨3, 0, .RO, 0⟩]⟩,
  ⟨"HIF_ATCINV", 0x2c008, 0, 1, false, [⟨31, 0, .RC, 0⟩]⟩,
  ⟨"HIF_IDESTATE", 0x2c010, 4, 4, false, [⟨3, 3, .RO, 0⟩, ⟨2, 0, .RO, 0⟩]⟩,
  ⟨"HIF_TDISTATE", 0x2c100, 4, 64, false, [⟨1, 0, .RO, 0⟩]⟩]

/-- MBX registers (R483). -/
def regRowsMBX : List RegRow := [
  ⟨"MBX_INFLIGHT", 0x2d000, 0, 1, false, [⟨6, 0, .RO, 0⟩]⟩,
  ⟨"MBX_POSTED", 0x2d004, 0, 1, false, [⟨9, 0, .RO, 0⟩]⟩,
  ⟨"MBX_MALF", 0x2d100, 4, 66, false, [⟨31, 0, .RC, 0⟩]⟩]

/-- ERR registers (R509). -/
def regRowsERR : List RegRow := [
  ⟨"ERR_NEXTSEQ", 0x2f000, 0, 1, true, [⟨63, 0, .RO, 1⟩]⟩,
  ⟨"ERR_FATAL", 0x2f008, 0, 1, true, [⟨63, 63, .RO, 0⟩, ⟨62, 60, .RO, 0⟩, ⟨59, 52, .RO, 0⟩, ⟨47, 32, .RO, 0⟩, ⟨31, 0, .RO, 0⟩]⟩,
  ⟨"ERR_LOGCE", 0x2f010, 0, 1, false, [⟨31, 0, .RC, 0⟩]⟩,
  ⟨"ERR_QSTAT", 0x2f040, 32, 6, true, [⟨63, 32, .RC, 0⟩, ⟨13, 8, .RO, 0⟩, ⟨4, 0, .RO, 0⟩]⟩,
  ⟨"ERR_OLDEST", 0x2f048, 32, 6, true, [⟨63, 0, .RO, 0⟩]⟩,
  ⟨"ERR_SEVMASK", 0x2f050, 32, 6, false, [⟨3, 0, .RW, 0xc⟩]⟩,
  ⟨"ERR_PINMASK", 0x2f054, 32, 6, false, [⟨3, 0, .LK, 0⟩]⟩,
  ⟨"ERR_VFOVF", 0x2f200, 4, 64, false, [⟨31, 0, .RC, 0⟩]⟩]

/-- IRQ registers (R509). -/
def regRowsIRQ : List RegRow := [
  ⟨"IRQ_PIN", 0x2e000, 0, 1, false, [⟨1, 1, .RW, 0⟩, ⟨0, 0, .RO, 0⟩]⟩,
  ⟨"IRQ_SENT", 0x2e100, 4, 65, false, [⟨31, 0, .RC, 0⟩]⟩]

/-- PWR registers (R547). -/
def regRowsPWR : List RegRow := [
  ⟨"PWR_STATE", 0x30000, 0, 1, false, [⟨31, 29, .RO, 5⟩, ⟨28, 26, .RO, 5⟩, ⟨25, 23, .RO, 5⟩, ⟨22, 20, .RO, 0⟩, ⟨19, 13, .RO, 0⟩, ⟨12, 6, .RO, 0⟩, ⟨5, 0, .RO, 0⟩]⟩,
  ⟨"PWR_POLICY", 0x30004, 0, 1, false, [⟨31, 16, .RO, 0x3e8⟩, ⟨15, 0, .RO, 0x3e8⟩]⟩,
  ⟨"PWR_TRANS", 0x30008, 0, 1, false, [⟨31, 0, .RC, 0⟩]⟩,
  ⟨"PWR_AVG", 0x30010, 8, 4, true, [⟨63, 32, .RO, 0⟩, ⟨31, 0, .RO, 0⟩]⟩,
  ⟨"PWR_REASONUS", 0x30040, 8, 6, true, [⟨63, 0, .RO, 0⟩]⟩,
  ⟨"PWR_REASONEV", 0x30080, 4, 6, false, [⟨31, 0, .RO, 0⟩]⟩,
  ⟨"PWR_VID", 0x300a0, 4, 6, false, [⟨15, 0, .RO, 0⟩]⟩]

/-- THM registers (R547). -/
def regRowsTHM : List RegRow := [
  ⟨"THM_STACK", 0x31000, 4, 8, false, [⟨15, 0, .RO, 0⟩]⟩,
  ⟨"THM_CORE", 0x31040, 4, 16, false, [⟨15, 0, .RO, 0⟩]⟩,
  ⟨"THM_HOT", 0x31080, 0, 1, false, [⟨31, 16, .RO, 0⟩, ⟨15, 0, .RO, 0⟩]⟩,
  ⟨"THM_LIMIT", 0x31084, 0, 1, false, [⟨31, 16, .LK, 0x3d4⟩, ⟨15, 0, .LK, 0x3e8⟩]⟩]

/-- MTR registers (R547). -/
def regRowsMTR : List RegRow := [
  ⟨"MTR_CTL", 0x32000, 0, 1, false, [⟨0, 0, .LK, 1⟩]⟩,
  ⟨"MTR_WINDOW", 0x32008, 0, 1, true, [⟨63, 0, .RO, 0⟩]⟩,
  ⟨"MTR_NEXTSEQ", 0x32010, 0, 1, true, [⟨63, 0, .RO, 0⟩]⟩,
  ⟨"MTR_COEF", 0x32100, 4, 102, false, [⟨31, 0, .RO, 0⟩]⟩,
  ⟨"MTR_STATIC", 0x32300, 4, 24, false, [⟨31, 0, .RO, 0⟩]⟩]

/-- MGT registers (R582). -/
def regRowsMGT : List RegRow := [
  ⟨"MGT_BOOT", 0x33000, 0, 1, false, [⟨31, 24, .RO, 0⟩, ⟨23, 16, .RO, 0⟩, ⟨4, 4, .RO, 0⟩, ⟨3, 3, .RO, 0⟩, ⟨2, 2, .RO, 0⟩, ⟨1, 0, .RO, 0⟩]⟩,
  ⟨"MGT_FWVER", 0x33008, 0, 1, true, [⟨63, 0, .RO, 0⟩]⟩,
  ⟨"MGT_FUSE", 0x33010, 0, 1, false, [⟨11, 8, .RO, 0⟩, ⟨6, 6, .RO, 0⟩, ⟨5, 0, .RO, 0⟩]⟩,
  ⟨"MGT_BMC", 0x33014, 0, 1, false, [⟨31, 24, .RO, 0⟩, ⟨15, 9, .RO, 0x10⟩, ⟨0, 0, .RO, 1⟩]⟩,
  ⟨"MGT_MCECC", 0x33018, 0, 1, false, [⟨31, 0, .RC, 0⟩]⟩,
  ⟨"MGT_LOGHEAD", 0x33020, 0, 1, false, [⟨31, 0, .RO, 0⟩]⟩,
  ⟨"MGT_LOGSEL", 0x33024, 0, 1, false, [⟨31, 0, .RW, 0⟩]⟩,
  ⟨"MGT_LOGCTL", 0x33028, 0, 1, false, [⟨1, 1, .RO, 0⟩, ⟨0, 0, .RO, 0⟩]⟩,
  ⟨"MGT_LOGDATA", 0x33040, 8, 8, true, [⟨63, 0, .RO, 0⟩]⟩]

/-- CLK registers (R600). -/
def regRowsCLK : List RegRow := [
  ⟨"CLK_TIME", 0x35000, 0, 1, true, [⟨63, 0, .RO, 0⟩]⟩,
  ⟨"CLK_STAT", 0x35008, 0, 1, false, [⟨11, 8, .RO, 0⟩, ⟨3, 0, .RO, 0⟩]⟩,
  ⟨"CLK_RELOCK", 0x3500c, 0, 1, false, [⟨31, 0, .RC, 0⟩]⟩]

/-- RST registers (R600). -/
def regRowsRST : List RegRow := [
  ⟨"RST_CAUSE", 0x36000, 0, 1, false, [⟨7, 4, .RO, 0⟩, ⟨1, 0, .RO, 0⟩]⟩,
  ⟨"RST_STAGE", 0x36004, 0, 1, false, [⟨7, 0, .RO, 0⟩]⟩,
  ⟨"RST_READY", 0x36008, 0, 1, false, [⟨31, 0, .RO, 0⟩]⟩,
  ⟨"RST_WARMS", 0x3600c, 0, 1, false, [⟨31, 0, .RO, 0⟩]⟩]

/-- PIN registers (R624). -/
def regRowsPIN : List RegRow := [
  ⟨"PIN_MUX", 0x34000, 4, 16, false, [⟨7, 4, .RW, 0⟩, ⟨3, 0, .RW, 0⟩]⟩,
  ⟨"PIN_PULL", 0x34040, 4, 16, false, [⟨1, 0, .RW, 1⟩]⟩,
  ⟨"PIN_GPIO", 0x34080, 0, 1, false, [⟨31, 16, .RO, 0⟩, ⟨15, 0, .RW, 0⟩]⟩,
  ⟨"PIN_STRAP", 0x34084, 0, 1, false, [⟨3, 3, .RO, 0⟩, ⟨2, 0, .RO, 0⟩]⟩,
  ⟨"PIN_LSYNC", 0x34088, 0, 1, false, [⟨31, 31, .WO, 0⟩, ⟨15, 0, .RC, 0⟩]⟩,
  ⟨"PIN_LSTAMP", 0x34090, 0, 1, true, [⟨63, 0, .RO, 0⟩]⟩,
  ⟨"PIN_INPUTS", 0x34098, 0, 1, false, [⟨2, 2, .RO, 0⟩, ⟨1, 1, .RO, 0⟩, ⟨0, 0, .RO, 0⟩]⟩]

/-- LDG registers (R639). -/
def regRowsLDG : List RegRow := [
  ⟨"LDG_SWEEP", 0x37000, 0, 1, true, [⟨63, 0, .RO, 0⟩]⟩,
  ⟨"LDG_STAT", 0x37008, 0, 1, false, [⟨8, 8, .RO, 0⟩, ⟨7, 0, .RO, 0⟩]⟩]

/-- SUMMARY registers (R485). -/
def regRowsSUMMARY : List RegRow := [
  ⟨"SUMMARY_PF", 0x1000000, 0, 1, true, [⟨63, 63, .W1S, 1⟩, ⟨54, 54, .RW, 1⟩, ⟨53, 53, .RW, 1⟩, ⟨47, 47, .RO, 0⟩, ⟨45, 45, .RO, 0⟩, ⟨44, 44, .RO, 0⟩, ⟨38, 33, .W1C, 0⟩, ⟨19, 16, .W1C, 0⟩]⟩,
  ⟨"SUMMARY_VF", 0x1000008, 8, 64, true, [⟨63, 63, .W1S, 1⟩, ⟨55, 55, .RW, 1⟩, ⟨54, 54, .RW, 1⟩, ⟨53, 53, .RW, 1⟩, ⟨52, 52, .RW, 1⟩, ⟨47, 47, .RO, 0⟩, ⟨46, 46, .RO, 0⟩, ⟨45, 45, .RO, 0⟩, ⟨44, 44, .RO, 0⟩, ⟨43, 43, .RO, 0⟩, ⟨38, 33, .W1C, 0⟩, ⟨32, 32, .W1C, 0⟩, ⟨19, 16, .W1C, 0⟩, ⟨15, 0, .W1C, 0⟩]⟩]

/-- The whole register table. -/
def regTable : List RegRow :=
  regRowsQFE ++ regRowsSTB ++ regRowsSEC ++ regRowsMXE ++ regRowsHMC ++ regRowsWCB ++ regRowsTGC ++ regRowsFTC ++ regRowsLNK ++ regRowsFAB ++ regRowsHIF ++ regRowsMBX ++ regRowsERR ++ regRowsIRQ ++ regRowsPWR ++ regRowsTHM ++ regRowsMTR ++ regRowsMGT ++ regRowsCLK ++ regRowsRST ++ regRowsPIN ++ regRowsLDG ++ regRowsSUMMARY

/-- The register blocks as [first offset, end) and the rows that lie there (Table 20.3). -/
def regBlocks : List (Nat × Nat × List RegRow) := [
  (0x1000000, 0x1000201, regRowsSUMMARY),
  (0x0, 0xffe5, regRowsQFE),
  (0x24000, 0x245f9, regRowsSTB),
  (0x30000, 0x300b5, regRowsPWR),
  (0x38100, 0x38201, regRowsSEC),
  (0x25000, 0x2501d, regRowsMXE),
  (0x10000, 0x148fd, regRowsHMC),
  (0x29000, 0x29051, regRowsWCB),
  (0x20000, 0x23ff9, regRowsTGC),
  (0x2a000, 0x2a105, regRowsFTC),
  (0x18000, 0x1e005, regRowsLNK),
  (0x2b000, 0x2b4dd, regRowsFAB),
  (0x2c000, 0x2c1fd, regRowsHIF),
  (0x2d000, 0x2d205, regRowsMBX),
  (0x2f000, 0x2f2fd, regRowsERR),
  (0x2e000, 0x2e201, regRowsIRQ),
  (0x31000, 0x31085, regRowsTHM),
  (0x32000, 0x3235d, regRowsMTR),
  (0x33000, 0x33079, regRowsMGT),
  (0x35000, 0x3500d, regRowsCLK),
  (0x36000, 0x3600d, regRowsRST),
  (0x34000, 0x34099, regRowsPIN),
  (0x37000, 0x37009, regRowsLDG)]

end Sys2Proof.Machine
end

