-- ==== Sys2Proof/Machine/SysTypes.lean ====
section
/-! DEFINITION. Machine/SysTypes.lean: the plain data around the data plane: host interface, mailboxes, power, metering, the
management controller and its flash, resets and pins (chapters 12, 13 and 15 to 18). -/

namespace Sys2Proof.Machine

/-! ### Host interface (chapter 12) -/

/-- AER status on the PF (Table 12.6). -/
inductive Aer where
  | unsupportedRequest | poisonedTlp | completionTimeout | completerAbort | unexpectedCompletion | malformedTlp
  | flowControl | surpriseDown | receiverError | badTlp | badDllp | replay | fec
deriving DecidableEq, Repr

/-- Per-function state of the host interface. -/
structure FnState where
  bme : Bool := false
  /-- TDISP state (R423): 0 CONFIG_UNLOCKED, 1 CONFIG_LOCKED, 2 RUN, 3 ERROR. -/
  tdi : Nat := 0
  /-- In its FLR, since when, and whether t0's tick has ended (R426). -/
  flr : Bool := false
  flrAt : Nat := 0
  flrTick : Nat := 0
  msixEnable : Bool := false
  msixFMask : Bool := false
  msixMask : Bool := true
  msixPend : Bool := false
  msixAddr : Nat := 0
  msixData : Nat := 0
  /-- DMA writes that wait for Bus Master Enable (R656): address and bytes. -/
  heldDma : List (Nat × List Byte) := []
  pasidEnable : Bool := false
  pasid : Option Nat := none
  atsEnable : Bool := false
  /-- Completion Timeout Value of Device Control 2 (R430). -/
  cto : Nat := 0
  /-- SPDM sessions of the function's DOE (R574). -/
  sessions : Nat := 0
  /-- The device interface report of the last lock (R423). -/
  report : List Nat := []
deriving DecidableEq, Repr

/-- An entry of the address translation cache (R417). -/
structure AtcEntry where
  fn : Nat
  pasid : Option Nat
  page : Nat
deriving DecidableEq, Repr

/-- Configuration space of the device beyond one function's (R411, R414). -/
structure HostState where
  /-- Memory Space Enable of the PF, and VF Memory Space Enable. -/
  mse : Bool := false
  vfMse : Bool := false
  vfEnable : Bool := false
  vfEnableAt : Nat := 0
  numVfs : Nat := 0
  /-- System Page Size as the bit set: bit 0 is 4 KiB. -/
  pageSize : Nat := 1
  /-- BAR addresses: PF BAR0, PF BAR2, VF BAR0. -/
  bars : List Nat := [0, 0, 0]
  /-- The link is in L0. -/
  l0 : Bool := false
  aer : List Aer := []
  atc : List AtcEntry := []
  /-- Functions covered and keys, by IDE stream (R422). -/
  ideCover : Tab (List Nat) := []
  ideKeys : Tab (List Byte) := []
  /-- The time at which a HOST_PROTO occurrence becomes fatal (R504), and its record. -/
  protoDue : Option (Nat × Nat) := none
deriving DecidableEq, Repr

/-! ### Mailboxes (chapter 13) -/

/-- What the completion of a command waits for after its effect. -/
inductive Wait where
  | none
  /-- RING_DESTROY: the admitted work of a ring pair (R473). -/
  | ring (p : Nat)
  /-- IMAGE_FILL, IMAGE_PIN: the fill of an image (R177). -/
  | fill (h : Nat)
  /-- PAGE_RETIRE: the copies of a page (R297). -/
  | page (p page : Nat)
  /-- TENANT_REVOKE and TENANT_REMOVE: the sequences of a VF (R189). -/
  | revoke (v : Nat) (remove : Bool)
  /-- PFAIL_NOTICE: phase 2 of the GPF (R479). -/
  | gpf
  /-- DEV_RESET, UPD_ACTIVATE: a warm reset follows the response, with its trigger code (R454, R481). -/
  | reset (trigger : Nat)
  /-- A command on the shards of an index: messages to and from other devices (R462). -/
  | shards (h : Nat)
deriving DecidableEq, Repr

/-- A command that works on shards of other devices (R462, R464, R465, R470): the devices that have not answered, and the
answers: shard, status, detail and payload. -/
structure Exchange where
  serial : Nat
  awaits : List Nat
  answers : List (Nat × Nat × Nat × List Byte) := []
deriving DecidableEq, Repr

/-- A mailbox slot (Table 13.1). -/
structure MbxSlot where
  /-- 0 FREE, 1 POSTED, 2 RUNNING, 3 DONE. -/
  st : Nat := 0
  /-- Request and response areas, header and payload. -/
  req : List Byte := []
  resp : List Byte := []
  /-- Order of its doorbell, and of its acceptance. -/
  order : Nat := 0
  accepted : Nat := 0
  /-- The request as copied at acceptance (R437), and when. -/
  copy : List Byte := []
  since : Nat := 0
  /-- The effect has been made: status, detail, response payload, buffer to write and RECSEQ. -/
  ran : Bool := false
  status : Nat := 0
  detail : Nat := 0
  payload : List Byte := []
  buf : List Byte := []
  recseq : Nat := 0
  wait : Wait := .none
  exchange : Option Exchange := none
  /-- A DMA request of it that failed, and its buffer offset (R419). -/
  dma : Option (DmaFault × Nat) := none
  /-- An abort has been asked for (R442). -/
  abort : Bool := false
  /-- Its response is discarded (R426, R580). -/
  discard : Bool := false
deriving DecidableEq, Repr

structure Mailbox where
  slots : Tab MbxSlot := []
  resetting : Bool := false
deriving DecidableEq, Repr

/-- A PLDM firmware update (R572). -/
structure Pldm where
  /-- 0 requested, 1 table passed, 2 transferring, 3 transferred, 4 verified, 5 applied. -/
  phase : Nat := 0
  lastAt : Nat := 0
  /-- Bytes of a transfer: the smaller of 1,024 and the update agent's maximum. -/
  xfer : Nat := 1024
  data : List Byte := []
deriving DecidableEq, Repr

/-- Sosin firmware. -/
structure Sosin where
  ready : Bool := false
  mbx : Tab Mailbox := []
  nextOrder : Nat := 1
  nextAccept : Nat := 1
  /-- Reuse generations of index and image numbers (R453). -/
  ixGen : Tab Nat := []
  imGen : Tab Nat := []
  /-- Messages of the BMC waiting, and partial state, are the transport's: only whole messages arrive (R451). -/
  bmcAbsent : Bool := true
  pldm : Option Pldm := none
  /-- Serial of the next exchange with other devices. -/
  nextSerial : Nat := 1
  /-- Granules that are never allocated again (R298). -/
  banned : List Nat := []
deriving DecidableEq, Repr

/-! ### Power (chapter 15) -/

/-- A regulator of the map (Table 15.2) and what PMBus has read from it (R512, R513). -/
structure Regulator where
  seg : Nat
  addr : Nat
  domain : Nat
  corev : Bool
  lsb : Nat
  icc : Nat
  count : Option Nat := none
  /-- Remainder below 1 µJ, in pJ. -/
  rem : Nat := 0
  iout : Nat := 0
  goodAt : Nat := 0
  lost : Bool := false
  vout : Nat := 0
deriving DecidableEq, Repr

/-- The operator's policy (Table 15.3). -/
structure Policy where
  pla : Nat := 1000
  plb : Nat := 1000
  gain : Nat := 4
  opmax : Nat := 0
  phaseop : List Nat := [1, 0, 3, 5]
deriving DecidableEq, Repr

/-- A transition of the operating point (R527, R528). -/
structure Trans where
  target : Nat
  /-- When the faster voltage was commanded; none for a slower point. -/
  asked : Option Nat := none
deriving DecidableEq, Repr

/-- A report of THM (R532): stacks and core sensors, signed, 0.1 °C. -/
structure Sample where
  at_ : Nat
  stk : List Int
  cores : List Int
deriving DecidableEq, Repr

structure PwrState where
  regs : List Regulator := []
  mapOk : Bool := false
  policy : Policy := {}
  /-- A policy that takes effect with the next window (R478). -/
  nextPolicy : Option Policy := none
  /-- Energy booked in this window by domain, µJ, and the last 10,000 windows, newest first. -/
  booked : List Nat := [0, 0, 0, 0]
  hist : List (List Nat) := []
  windowEnd : Nat := 0
  pollAt : Nat := 0
  qP : Nat := 0
  qT : Nat := 0
  qC : Nat := 0
  overA : Bool := false
  overB : Bool := false
  /-- Target of the last tick, toward which the ratio moves (R519). -/
  target : Nat := 0
  sample : Option Sample := none
  shutStacks : List Nat := []
  /-- Thermal OP limit (R525): last move slower, last move faster, and since when the core has been cool. -/
  slowAt : Option Nat := none
  fastAt : Option Nat := none
  coolSince : Option Nat := none
  vralert : Bool := false
  /-- CURRENT lasts until this time (Table 15.6). -/
  currentEnd : Nat := 0
  /-- t0 of the last transition, the one under way, and the point held after a failed settling (R528). -/
  lastTrans : Option Nat := none
  trans : Option Trans := none
  held : Option Nat := none
  /-- A faster point whose voltage has settled (R528). -/
  settledFor : Option Nat := none
  /-- Reasons at the start of the microsecond that runs. -/
  microAt : Nat := 0
  /-- Power-fail notices: the pin and the command (R616). -/
  pfailPin : Bool := false
  pfailCmd : Bool := false
deriving DecidableEq, Repr

/-- The meter's account of one binding, or of idle, in the current minute (R543). -/
structure Account where
  vf : Nat
  energy : List Int := [0, 0, 0, 0]
  nwin : Nat := 0
  roodms : Nat := 0
  live : Bool := true
deriving DecidableEq, Repr

/-- A kept meter record and its signature (Tables 15.8 and 15.9). -/
structure MeterRec where
  mseq : Nat
  vf : Nat
  bytes : List Byte
  sig : Option (List Byte) := none
deriving DecidableEq, Repr

structure Meter where
  /-- MTR_CTL.ENABLE as it acts since the last minute boundary. -/
  on : Bool := true
  /-- Model energy of this window, 1/63 fJ, and carried remainders, 2⁻³² µJ, by 65 · domain + owner (R538, R539). -/
  model : Tab Nat := []
  acc : Tab Nat := []
  /-- Estimates booked for domains with a lost regulator (R542). -/
  owed : List Int := [0, 0, 0, 0]
  /-- Energy that enters the idle share of a domain once no regulator of it is lost (R542). -/
  gap : List Int := [0, 0, 0, 0]
  accounts : List Account := []
  measured : List Int := [0, 0, 0, 0]
  minute : Nat := 0
  minuteWin : Nat := 0
  minuteAt : Nat := 0
  thrus : Nat := 0
  estimated : Bool := false
  firstOfBoot : Bool := true
  recs : List MeterRec := []
  /-- MSEQ and digest of the last record saved (R545), and BOOTID. -/
  mseq : Nat := 1
  prev : List Byte := []
  bootid : Nat := 0
  /-- Records have been lost, or a minute was never written (METER_GAP). -/
  lost : Bool := false
deriving DecidableEq, Repr

/-! ### The management controller (chapter 16) -/

/-- A flash write waiting or under way (R555, R556). -/
structure FlashJob where
  prio : Nat
  /-- 0 the log, 1 to 7 the configuration areas of Table 16.5. -/
  area : Nat
  kind : Nat
  payload : List Byte
  /-- The slot whose body has been programmed. -/
  slot : Option Nat := none
  retried : Bool := false
deriving DecidableEq, Repr

/-- A firmware slot (R564, R565). -/
structure FwSlot where
  bytes : List Byte := []
  /-- Its header has been written last, as the commit of the image (R570). -/
  committed : Bool := false
deriving DecidableEq, Repr

structure Mc where
  /-- The controller runs; its watchdog limit, the last service, and the boot ROM's fatal service. -/
  running : Bool := false
  wdogAt : Nat := 0
  fatalService : Bool := false
  noImage : Bool := false
  entropyOk : Bool := true
  /-- 64 B slots of the flash from the log on, by slot number; an absent slot is erased. -/
  flash : Tab (List Byte) := []
  jobs : List FlashJob := []
  fw : Tab FwSlot := []
  /-- Slot booted, previous ACTIVE and NEXT. -/
  bootSlot : Nat := 0
  wasActive : Nat := 0
  wasNext : Nat := 0
  /-- Fuses burned: the rollback floor and the revoked root keys. -/
  floor : Option Nat := none
  revoked : Nat := 0
  /-- A log search: LSEQ sought (R560). -/
  search : Option Nat := none
  /-- SPDM sessions of the BMC (R574). -/
  sessions : Nat := 0
  probeAt : Nat := 0
  probeFails : Nat := 0
deriving DecidableEq, Repr

/-! ### Resets (chapter 17) -/

/-- Where the device stands between resets (R588 to R593). -/
inductive RstPhase where
  /-- Without power good (R609). -/
  | off
  /-- In reset until the release of Table 17.3. -/
  | held
  /-- The start-up ladder; the last rung stands in RST_STAGE. -/
  | ladder
  /-- READY has been declared. -/
  | running
  /-- Reset entry (R590). -/
  | entry
deriving DecidableEq, Repr

structure RstState where
  phase : RstPhase := .held
  /-- t0 of the ladder, r0 of reset entry and its tick, and the requested reset: 0 cold, 1 warm, with its trigger. -/
  t0 : Nat := 0
  r0 : Nat := 0
  cold : Bool := true
  trigger : Nat := 0
  pwrgood : Bool := false
  sysrst : Bool := true
  perst : Bool := true
  straps : Nat := 0
  /-- Stacks: 0 not started, 1 in hard repair, 2 training, 3 trained, 4 failed. -/
  stk : Tab Nat := []
  /-- Stacks with pending hard repairs at this start-up. -/
  repairs : List Nat := []
  refclkLost : Bool := false
  synthFail : Bool := false
  /-- A start-up failure that leaves the device usable (R599). -/
  degraded : Bool := false
deriving DecidableEq, Repr

/-! ### Pins (chapter 18) -/

/-- An MIO pin (R620 to R622): writes that wait for the next KCLK edge, the hold, and the function that drives. -/
structure Mio where
  func : Nat := 0
  pendMux : Option (Nat × Nat) := none
  pendPull : Option (Nat × Nat) := none
  holdEnd : Option Nat := none
deriving DecidableEq, Repr

structure Pins where
  mio : Tab Mio := []
  /-- Levels the board drives on the MIO pins. -/
  levels : Nat := 0
  /-- End of the device's own LSYNC pulse, and the net held low by the board. -/
  pulseEnd : Option Nat := none
  lsyncLow : Bool := false
  uartRx : List Byte := []
deriving DecidableEq, Repr

end Sys2Proof.Machine
end

