-- ==== Sys2Proof/Machine/State.lean ====
section
/-! DEFINITION. Machine/State.lean: the state of the device, and the ways a command can stop. -/

namespace Sys2Proof.Machine

/-- Ways the machine stops with a fault. None is raised: every error the specification describes is an error record, a
status or the fatal state, all of them next states. -/
inductive Fault where
  /-- Raised by no meaning. Safe. -/
  | none
deriving DecidableEq, Repr

/-- Ways a command has no meaning. -/
inductive Refusal where
  /-- Raised by a refused arm of the dispatch: the command is not modelled. Safe. -/
  | notModelled (mnemonic : String)
  /-- Raised by JTAG_INSTRUCTION for a private instruction in debug mode, to which no rule gives an effect (R618). Safe. -/
  | privateJtag
deriving DecidableEq, Repr

/-- What the device sends out. -/
inductive Output where
  /-- Value returned to a host read by a function; `none` is an Unsupported Request. -/
  | readData (f : Nat) (v : Option Nat)
  /-- A memory write by DMA for a function, with its PASID when PASID Enable is set (R416). -/
  | dmaWrite (f : Nat) (pasid : Option Nat) (addr : Nat) (data : List Byte)
  /-- An MSI-X message. -/
  | msi (f addr data : Nat)
  /-- A flit in a frame of a Lenlink port: the 240 bytes of Table 11.2. -/
  | frame (port : Nat) (bytes : List Byte)
  /-- The symbols a transmit lane of a Lenlink port sends in a frame slot. -/
  | symbols (port lane : Nat) (syms : List Int)
  /-- A Completion with Unsupported Request or Configuration Request Retry Status (`none`), or the value of a configuration
  request. -/
  | config (f : Nat) (v : Option Nat)
  /-- An Invalidation Completion (R418). -/
  | invalidated (f : Nat)
  /-- A message to the BMC over MCTP (R450, R574, R577, R578): message type and bytes. -/
  | mctp (type : Nat) (bytes : List Byte)
  /-- A response over a function's DOE (R574). -/
  | doe (f : Nat) (bytes : List Byte)
  /-- A voltage commanded on a COREV regulator, in mV (R527). -/
  | vout (regulator mv : Nat)
  /-- A level driven on a pin: an MIO pin by number, or LSYNC as 16 (R617, R620). -/
  | pin (n : Nat) (level : Bool)
  /-- What a JTAG instruction selects: the IDCODE register, the pins (1), or BYPASS (0) (R618). -/
  | jtag (v : Nat)
  /-- The old values that a pool atomic returns, in the order of its words (R268). -/
  | atomic (old : List Nat)
  /-- Sync words a Lenlink port sends at a rate, lane by lane, until it changes them. -/
  | sync (port rate : Nat) (words : List (List Byte))
deriving DecidableEq, Repr

/-- The state of the device: registers, memories, queues, tables, modes and pins, and the commands that wait. -/
structure State where
  /-- Commands that wait, first in first out. -/
  pending : List Instr := []
  /-- Time in 1/63 ns (R583, R585). -/
  now : Nat := 0
  /-- Number of the next free value: the model's own, no state of the device (log entry 1). -/
  free : Nat := 0
  /-- What the device has sent out, oldest first: the model's own record of its outputs. -/
  out : List Output := []
  /-- Registers of the register blocks and summary registers by offset (Table 20.3); an unlisted one holds its reset value. -/
  regs : Tab Word64 := []
  /-- Read and write shadows by function (R7, R8). -/
  shadows : Tab Shadow := []
  /-- The operator's seal (R9, R477). -/
  sealed : Bool := false
  /-- Debug mode (R230). -/
  debug : Bool := false
  /-- In reset (R588 to R593). -/
  inReset : Bool := false
  /-- Device memory by device-internal address: stacked, far and pool (Table 20.1), as plaintext under the key that wrote it;
  words in the write-combining buffer are not in it yet (R258). -/
  mem : List Host.Cell := []
  /-- Flipped symbols of a stored word, by word: position and what is flipped (R275). -/
  upsets : Tab (List (Nat × Byte)) := []
  /-- Poison marks by word (R279). -/
  poison : Tab Bool := []
  /-- The key that each 512 KiB block of stacked memory was last filled under (R184, R256, R280); single words written under
  another one stand in `far.inks`. -/
  blockInks : Tab (List Byte) := []
  /-- Owner table by granule (R235). -/
  owners : Tab Owner := []
  /-- Error queues by domain (R497). -/
  errq : Tab ErrQueue := []
  /-- A fatal occurrence not yet acted on, those later in its tick, the tick of entry, and functions whose request
  waits (R504, R505). -/
  fatalPend : Option FatalPend := none
  fatalLater : Nat := 0
  fatalTick : Option Nat := none
  fatalWait : List Nat := []
  /-- Level-2 bits of the summary registers that events of the tick in progress set at its end, by function (R486). -/
  raised : Tab Nat := []
  /-- Record storage has met an uncorrectable error (R507). -/
  logFaulted : Bool := false
  /-- Functions (R409, R411, R421, R423). -/
  fns : Tab FnState := []
  /-- Configuration space beyond one function's (R408 to R430). -/
  host : HostState := {}
  /-- Partitions by number, tenants by VF (R151, R174). -/
  parts : Tab Partition := []
  tenants : Tab Tenant := []
  /-- Ring pairs (R83), and the ring pair last served by class (R113). -/
  rings : Tab Ring := []
  served : Tab Nat := []
  /-- Ring pairs whose head was held at the tick's admission, with the resources that were missing (R114). -/
  heldHeads : Tab Nat := []
  /-- Ring pairs, not created, whose QFE_CANCEL was written in a tick, and that tick: each counts a miss in the next (R116). -/
  strays : List Nat := []
  strayTick : Nat := 0
  /-- The sequence table (R119), and descriptors that failed at admission (R108). -/
  seqs : Tab Sequence := []
  failing : List Failing := []
  /-- Fabric: map, credits, messages and lanes (R371 to R407). -/
  fab : FabState := {}
  /-- Far tier: ports, tuns, keys (R305 to R330, R187). -/
  far : FarState := {}
  /-- Lenlink ports (R331). -/
  lnk : Tab LnkPort := []
  /-- Generations of sequence-table entries (R376), and the number of the next stage issue. -/
  gens : Tab Nat := []
  issues : Nat := 0
  /-- Indexes by handle (R58 to R82). -/
  indexes : Tab Index := []
  /-- Filters by index and handle (R69, R470). -/
  filters : Tab Filter := []
  /-- Encoder images by handle (R176, R471). -/
  images : Tab Image := []
  /-- Pseudo-channels (R233, R240). -/
  pch : Tab PchState := []
  /-- Token buckets by 16 · controller + rood, an unlisted one full; and the time of the next refill (R246). -/
  tokens : Tab Nat := []
  tokenDue : Nat := 0
  /-- The write-combining buffer by word (R258). -/
  wcb : Tab WcbEntry := []
  /-- Accumulator registers by tile place (R213, R215): the number of the free value from which a register's cells read after a
  computation has used it; an unlisted one holds zero in every cell (R231; log entry 113). -/
  accs : Tab Nat := []
  /-- Centroid passes by pool group (R267). -/
  passes : Tab CqPass := []
  /-- Pending hard repairs: pseudo-channel, row, and whether the row has a spare now (R296). -/
  hardList : List (Nat × Nat × Bool) := []
  /-- Next decay of the CE trackers (R290). -/
  decayDue : Nat := 0
  /-- Mailboxes and firmware (R433 to R483). -/
  sosin : Sosin := {}
  /-- Power and operating points (R510 to R537). -/
  pwr : PwrState := {}
  /-- Metering (R538 to R547). -/
  meter : Meter := {}
  /-- Management controller and flash (R548 to R582). -/
  mc : Mc := {}
  /-- Clocks, resets and the start-up ladder (R583 to R601). -/
  rst : RstState := {}
  /-- Pins (R602 to R624). -/
  pins : Pins := {}
  /-- Ticks of the ledger's sweep that runs (LDG_SWEEP). -/
  sweepTick : Nat := 0
deriving DecidableEq, Repr

/-- Right after a cold reset is released, before rung 1 of the start-up ladder (R588, R593, Table 17.4): every register at
its reset value (regs lists those that differ from the table's: MTR_NEXTSEQ is 1 with no record saved), nothing stored, the
flash erased, no command waiting. -/
def State.reset : State :=
  { regs := [(Reg.MTR_NEXTSEQ, 1)], inReset := true, rst := { phase := .held, cold := true, pwrgood := true, sysrst := false, perst := false } }

end Sys2Proof.Machine
end

