-- ==== Sys2Proof/Machine/Ops.lean ====
section
/-! DEFINITION. Machine/Ops.lean: the named operations over the state: registers, time, free values, device memory, owner
tables, and the outputs of the device. Every later file reads and writes the state through these. -/

namespace Sys2Proof.Machine

/-! ### Time

`now` counts 1/63 ns since the last cold reset, so that every step length of Table 15 and every REFCLK edge is exact. -/

/-- Nanoseconds in time units. -/
def nsec (n : Nat) : Nat := 63 * n
def usec (n : Nat) : Nat := 63 * 1000 * n
def msec (n : Nat) : Nat := 63 * 1000000 * n

/-- Length of a step tick at an operating point: 64 CCLK at 2.0, 1.8, 1.6, 1.4, 1.2 and 0.8 GHz (R125, R522). -/
def stepUnits : Nat → Nat
  | 0 => 2016 | 1 => 2240 | 2 => 2520 | 3 => 2880 | 4 => 3360 | _ => 5040

/-- CLK_TIME: whole REFCLK periods of 10 ns, in ns (R583, R585). -/
def State.clkTime (s : State) : Nat := s.now / 630 * 10

/-! ### Free values (log entry 1) -/

/-- The next free value, below `n`. -/
def State.peekFree (s : State) (n : Nat) : Nat := (Config.freeValue s.free).toNat % (max n 1)

/-- Advance the free-value counter. -/
def State.drew (s : State) : State := { s with free := s.free + 1 }

/-- A generated key: 64 free bytes (R551, log entry 1). -/
def State.freeKey (s : State) : List Byte := (List.range 64).map (fun k => BitVec.ofNat 8 (Config.freeValue (s.free + k)).toNat)

/-! ### Registers -/

/-- The row of the register map that holds an offset, and its index. -/
def regRow? (off : Nat) : Option RegRow :=
  match regBlocks.find? (fun b => decide (b.1 ≤ off) && decide (off < b.2.1)) with
  | some b => b.2.2.find? (fun r =>
      if r.stride = 0 then off == r.base
      else r.base ≤ off && (off - r.base) % r.stride == 0 && (off - r.base) / r.stride < r.count)
  | none => none

/-- Fused fields and values fixed by training that a register shows at reset: no rule states them (log entry 2). A
pseudo-channel leaves Plinov with HARDLEFT of 24 to 32 (R295). -/
def regFused (base off : Nat) : Nat :=
  if base = Reg.PWR_VID 0 then (Config.fused off).toNat % 2 ^ 16
  else if base = Reg.MTR_COEF 0 || base = Reg.MTR_STATIC 0 then (Config.fused off).toNat % 2 ^ 32
  else if base = Reg.MGT_FUSE then (Config.fused off).toNat % 2 ^ 7 + (Config.fused off).toNat / 2 ^ 8 % 2 ^ 4 * 2 ^ 8
  else 0

/-- Fused number of hard repairs left at the first power-up of a pseudo-channel. -/
def fusedHardLeft (p : Nat) : Nat := 24 + (Config.fused (Reg.HMC_SPARE p)).toNat % 9

/-- The reset value of the register at an offset. -/
def regReset (off : Nat) : Nat :=
  match regRow? off with
  | none => 0
  | some r => r.fields.foldl (fun a f => if f.reset = 0 then a else a + f.reset * 2 ^ f.lo) 0 + regFused r.base off

/-- The stored value of a register. -/
def State.reg (s : State) (off : Nat) : Nat :=
  match Tab.find s.regs off with
  | some v => v.toNat
  | none => regReset off

/-- Store a register. The stored value of an unlisted register is its reset value. -/
def State.setReg (s : State) (off v : Nat) : State :=
  { s with regs := if v % 2 ^ 64 = regReset off then Tab.erase s.regs off
                   else Tab.insert s.regs off (BitVec.ofNat 64 v) }

/-- A field of a stored register. -/
def State.fld (s : State) (off : Nat) (f : Nat × Nat) : Nat := bits (s.reg off) f.1 f.2

def State.setFld (s : State) (off : Nat) (f : Nat × Nat) (v : Nat) : State :=
  s.setReg off (setBits (s.reg off) f.1 f.2 v)

/-- Count events in a 32-bit counter (R12). -/
def State.count (s : State) (off n : Nat) : State := s.setReg off (satAdd 32 (s.reg off) n)

/-- Count events in a 64-bit counter (R12). -/
def State.count64 (s : State) (off n : Nat) : State := s.setReg off (satAdd 64 (s.reg off) n)

/-- The step counter (R125). -/
def State.tick (s : State) : Nat := s.reg Reg.STB_TICK

/-- Put every register of some blocks back to its reset value: those whose offset lies in [lo, lo + n). -/
def State.resetRegs (s : State) (lo n : Nat) : State := { s with regs := Tab.clear s.regs lo n }

/-! ### Outputs -/

/-- Send something out of the device. -/
def State.emit (s : State) (o : Output) : State := { s with out := s.out ++ [o] }

/-- Stacked memory ends here; the far windows and the pool window begin here (Table 20.1). -/
def stackedEnd : Nat := 0x60_0000_0000
def farBase (n : Nat) : Nat := 0x0100_0000_0000 + n * 2 ^ 42
/-- Port of a far address (R309), and whether it is one. -/
def farPortOf (a : Nat) : Nat := (a - farBase 0) / 2 ^ 42
def isFar (a : Nat) : Bool := decide (farBase 0 ≤ a) && decide (a < farBase 2)
def poolBase : Nat := 0x0F00_0000_0000
def regBase : Nat := 0xFF00_0000_0000

/-- Granule of a stacked address, its pseudo-channel and its local granule (Table 7.2). -/
def granuleOf (a : Nat) : Nat := a / 2 ^ 21
def pchOf (a : Nat) : Nat := granuleOf a % 256
def localGranule (a : Nat) : Nat := a / 2 ^ 29

/-- Row of a pseudo-channel: a 1 KiB half-frame, numbered over the pseudo-channel (chapter 8). -/
def rowOf (a : Nat) : Nat := localGranule a * 2048 + a % 2 ^ 21 / 1024

/-- Address of a row of a pseudo-channel. -/
def rowAddr (p row : Nat) : Nat := (row / 2048 * 256 + p) * 2 ^ 21 + row % 2048 * 1024

/-- The owner-table entry of a granule; device tables and context extensions are DEVICE from the start (R235). -/
def State.owner (s : State) (g : Nat) : Owner :=
  match Tab.find s.owners g with
  | some o => o
  | none => if g / 256 < 736 || 768 ≤ g / 256 then .free else .device

def State.setOwner (s : State) (g : Nat) (o : Owner) : State := { s with owners := Tab.insert s.owners g o }

/-- The key slot of a VF. -/
def State.keyOf (s : State) (vf : Nat) : KeySlot := Tab.read s.far.keys {} vf
def State.setKey (s : State) (vf : Nat) (k : KeySlot) : State :=
  { s with far := { s.far with keys := Tab.write s.far.keys {} vf k } }

/-- The key a far line stands under. -/
def State.ink (s : State) (line : Nat) : List Byte := Tab.read s.far.inks [] line
def State.setInk (s : State) (line : Nat) (k : List Byte) : State :=
  { s with far := { s.far with inks := Tab.write s.far.inks [] line k } }

/-! ### Device memory (Table 20.1)

A word of stacked memory is decrypted under the key slot that the owner table gives its granule (R248, R256), with the
entry of the write-combining buffer laid over it (R260). -/

/-- Key slot by which the controller reads and writes an address: that of the granule's owner, slot 0 for the device's own
granules and TEST granules (R185, R235, R271). -/
def Owner.keySlot : Owner → Nat
  | .vf n => n
  | _ => 0

def State.keySlotAt (s : State) (a : Nat) : Nat := (s.owner (granuleOf a)).keySlot

/-- Is a stacked address in the context extensions (R235, R237)? Its lines stand under the key of the tenant whose sequence
wrote them (R122). -/
def inExtension (a : Nat) : Bool := decide (752 ≤ localGranule a) && decide (a < stackedEnd)

/-- The key a stacked word stands under. -/
def State.stackInk (s : State) (w : Nat) : List Byte :=
  match Tab.find s.far.inks w with
  | some k => k
  | none => Tab.read s.blockInks [] (w / 8192)

/-- Does a stacked word decrypt under the slot of its granule's owner? -/
def State.legible (s : State) (w : Nat) : Bool := s.stackInk w == (s.keyOf (s.keySlotAt (64 * w))).key

/-- Whole stacked words are written under a key: those of a range. -/
def State.inkWords (s : State) (w n : Nat) (k : List Byte) : State :=
  { s with far := { s.far with inks := (List.range n).foldl (fun t i =>
      if Tab.read s.blockInks [] ((w + i) / 8192) = k then Tab.erase t (w + i) else Tab.insert t (w + i) k) s.far.inks } }

/-- A granule is filled under a key (R280). -/
def State.inkGranule (s : State) (g : Nat) (k : List Byte) : State :=
  { s with blockInks := (List.range 4).foldl (fun t i => Tab.write t [] (4 * g + i) k) s.blockInks,
           far := { s.far with inks := Tab.clear s.far.inks (32768 * g) 32768 } }

/-- A byte as the memory holds it. Unlisted bytes read zero (log entry 5); a stacked word under another key decrypts to free
bytes (R186, log entry 1). -/
def State.dram (s : State) (a : Nat) : Byte :=
  if decide (stackedEnd ≤ a) || inExtension a || s.legible (a / 64) then Tab.read s.mem 0 a
  else BitVec.ofNat 8 (Config.freeValue (s.free + a)).toNat

/-- A byte with the nibbles of an entry that covers them laid over it (R258). -/
def WcbEntry.over (e : WcbEntry) (k : Nat) (b : Byte) : Byte :=
  let new := (e.data.getD k 0).toNat
  let lo := if bit e.mask (2 * k) then new % 16 else b.toNat % 16
  let hi := if bit e.mask (2 * k + 1) then new / 16 else b.toNat / 16
  BitVec.ofNat 8 (hi * 16 + lo)

/-- One byte of device memory, as a read returns it. -/
def State.byte (s : State) (a : Nat) : Byte :=
  match Tab.find s.wcb (a / 64) with
  | some e => e.over (a % 64) (s.dram a)
  | none => s.dram a

def State.setByte (s : State) (a : Nat) (b : Byte) : State := { s with mem := Tab.write s.mem 0 a b }

/-- `n` bytes from an address. -/
def State.bytes (s : State) (a n : Nat) : List Byte := (List.range n).map (fun k => s.byte (a + k))

/-- Store bytes at an address. -/
def State.setBytes (s : State) (a : Nat) (bs : List Byte) : State := { s with mem := Tab.writeList s.mem 0 a bs }

/-- A little-endian value of `n` bytes. -/
def State.num (s : State) (a n : Nat) : Nat := leNat (s.bytes a n)

def State.setNum (s : State) (a n v : Nat) : State := s.setBytes a (leBytes n v)

/-- A whole-word write replaces the data and the mask of each entry that holds one of its words (R264): an entry that waits
holds the new word, one that drains drains once more. -/
def State.coverWcb (s : State) (w n : Nat) (data : Nat → List Byte) : State :=
  { s with wcb := s.wcb.map (fun x =>
      if w ≤ x.1 && x.1 < w + n then
        (x.1, { x.2 with mask := 2 ^ 128 - 1, data := data x.1, rewritten := x.2.rewritten || x.2.drain != 0 })
      else x) }

/-- Zero a range, in one whole-word stream (R264, R280): bytes, marks and errors of its words go. -/
def State.zeroRange (s : State) (a n : Nat) : State :=
  ({ s with mem := Tab.clear s.mem a n, poison := Tab.clear s.poison (a / 64) (n / 64),
            upsets := Tab.clear s.upsets (a / 64) (n / 64) } : State).coverWcb (a / 64) (n / 64) (fun _ => List.replicate 64 0)

/-! ### Far memory (R309, R312, R315) -/

def State.farAt (s : State) (n : Nat) : FarPortState := Tab.read s.far.ports {} n
def State.setFar (s : State) (n : Nat) (x : FarPortState) : State :=
  { s with far := { s.far with ports := Tab.write s.far.ports {} n x } }

def State.tun (s : State) (h : Nat) : Option Tun := Tab.find s.far.tuns h
def State.setTun (s : State) (h : Nat) (t : Tun) : State :=
  { s with far := { s.far with tuns := Tab.insert s.far.tuns h t } }

/-- Device address of a tun offset (R312). -/
def Tun.addr (t : Tun) (o : Nat) : Nat :=
  if t.both then
    let q := o / 4096
    (if q % 2 = 0 then t.base0 else t.base1) + q / 2 * 4096 + o % 4096
  else t.base0 + o

/-- Device address of an offset in a structure's home: a tun, or device memory itself. -/
def State.homeAddr (s : State) (tun : Option Nat) (o : Nat) : Nat :=
  match tun with
  | some h => match s.tun h with | some t => t.addr o | none => o
  | none => o

/-- Does a line of a tun stand under its owner's key? -/
def State.inked (s : State) (t : Tun) (line : Nat) : Bool :=
  let k := (s.keyOf t.vf).key
  !k.isEmpty && s.ink line == k

/-- Bytes of a structure in its home. -/
def State.homeBytes (s : State) (tun : Option Nat) (o n : Nat) : List Byte :=
  match tun with
  | some h =>
    match s.tun h with
    | some t => (List.range n).map (fun k =>
        let a := t.addr (o + k)
        -- a line under another key, or never written, reads as undefined bytes (R319, R474; log entry 1)
        if s.inked t (a / 64) then s.byte a else BitVec.ofNat 8 (Config.freeValue (s.free + a)).toNat)
    | none => List.replicate n 0
  | none => s.bytes o n

/-- Is the tun of a home ONLINE? A home in stacked memory or the pool always is. -/
def State.homeUp (s : State) (tun : Option Nat) : Bool :=
  match tun with
  | some h => match s.tun h with | some t => t.st == .online | none => false
  | none => true

/-- One far line under a key enters its port's write buffer (R315). -/
def State.farWrite (s : State) (ckpt : Bool) (ink : List Byte) (a : Nat) (bs : List Byte) : State :=
  let n := farPortOf a
  let x := s.farAt n
  let s := s.setFar n { x with wr := x.wr ++ [{ line := a / 64, old := s.bytes (a / 64 * 64) 64, oldInk := s.ink (a / 64), ckpt := ckpt }] }
  (s.setInk (a / 64) ink).setBytes a bs

/-- Whole lines written at an offset of a tun. -/
def State.tunWrite (s : State) (ckpt : Bool) (h o : Nat) (bs : List Byte) : State :=
  match s.tun h with
  | none => s
  | some t =>
    (List.range (cdiv bs.length 64)).foldl (fun s k => s.farWrite ckpt (s.keyOf t.vf).key (t.addr (o + 64 * k)) (slice bs (64 * k) 64)) s

/-! ### Tables of the state, with what an unlisted entry reads as -/

def State.pchAt (s : State) (p : Nat) : PchState := Tab.read s.pch {} p
/-- A pseudo-channel changes. Once its LCR has been empty it is not starving others in this tick (R243). -/
def State.setPch (s : State) (p : Nat) (c : PchState) : State :=
  { s with pch := Tab.write s.pch {} p { c with starving := c.starving && !c.lcr.isEmpty } }
def State.errQueue (s : State) (d : Nat) : ErrQueue := Tab.read s.errq {} d
def State.setErrQueue (s : State) (d : Nat) (q : ErrQueue) : State := { s with errq := Tab.write s.errq {} d q }
def State.shadow (s : State) (f : Nat) : Shadow := Tab.read s.shadows {} f
def State.setShadow (s : State) (f : Nat) (x : Shadow) : State := { s with shadows := Tab.write s.shadows {} f x }

def State.setRing (s : State) (p : Nat) (r : Ring) : State := { s with rings := Tab.insert s.rings p r }
def State.setSeq (s : State) (e : Nat) (q : Sequence) : State := { s with seqs := Tab.insert s.seqs e q }
def State.dropSeq (s : State) (e : Nat) : State := { s with seqs := Tab.erase s.seqs e }
def State.setIndex (s : State) (h : Nat) (i : Index) : State := { s with indexes := Tab.insert s.indexes h i }
def State.setFilter (s : State) (h : Nat) (f : Filter) : State := { s with filters := Tab.insert s.filters h f }
def State.setImage (s : State) (h : Nat) (i : Image) : State := { s with images := Tab.insert s.images h i }
def State.setTenant (s : State) (v : Nat) (t : Tenant) : State := { s with tenants := Tab.insert s.tenants v t }
def State.setPart (s : State) (p : Nat) (x : Partition) : State := { s with parts := Tab.insert s.parts p x }

def State.fnAt (s : State) (f : Nat) : FnState := Tab.read s.fns {} f
def State.setFn (s : State) (f : Nat) (x : FnState) : State := { s with fns := Tab.write s.fns {} f x }

/-- This device's ID in the fabric map (FAB_DEVID). -/
def State.devId (s : State) : Nat := s.fld Reg.FAB_DEVID (12, 0)
/-- Has a device a route from this one (R385)? -/
def State.reachable (s : State) (d : Nat) : Bool := (d == s.devId || s.fab.reach.contains d)

/-- Change one sequence, if it lives. -/
def State.onSeq (s : State) (e : Nat) (f : Sequence → Sequence) : State :=
  match Tab.find s.seqs e with
  | some q => s.setSeq e (f q)
  | none => s

def State.onIndex (s : State) (h : Nat) (f : Index → Index) : State :=
  match Tab.find s.indexes h with
  | some i => s.setIndex h (f i)
  | none => s

def State.onRing (s : State) (p : Nat) (f : Ring → Ring) : State :=
  match Tab.find s.rings p with
  | some r => s.setRing p (f r)
  | none => s

def State.onImage (s : State) (h : Nat) (f : Image → Image) : State :=
  match Tab.find s.images h with
  | some i => s.setImage h (f i)
  | none => s

def State.onFilter (s : State) (h : Nat) (f : Filter → Filter) : State :=
  match Tab.find s.filters h with
  | some i => s.setFilter h (f i)
  | none => s

def State.onTenant (s : State) (v : Nat) (f : Tenant → Tenant) : State :=
  match Tab.find s.tenants v with
  | some t => s.setTenant v (f t)
  | none => s

def State.onPart (s : State) (p : Nat) (f : Partition → Partition) : State :=
  match Tab.find s.parts p with
  | some t => s.setPart p (f t)
  | none => s

/-- VF that owns a ring pair, and the ring pair's number on it (R83). -/
def ringVf (p : Nat) : Nat := p / 16 + 1
def ringLocal (p : Nat) : Nat := p % 16

/-- STATE of a ring pair (Table 3.3): 0 DISABLED, 1 ACTIVE, 2 STOPPED, 3 FAULT. -/
def State.ringState (s : State) (p : Nat) : Nat := bits (s.reg (Reg.QFE_RSTATE p)) 1 0

/-- Is the device in the fatal state (R504)? -/
def State.fatal (s : State) : Bool := bit (s.reg Reg.ERR_FATAL) 63

/-! ### Activity (R537, R538, Table 15.7) -/

/-- Power domain of an activity class. -/
def actDomain (c : Nat) : Nat := if c < 8 then 0 else if c < 12 then 1 else if c < 14 then 2 else 3

/-- Add to the model energy of an owner in a domain, in 1/63 fJ. -/
def State.addModel (s : State) (d owner n : Nat) : State :=
  let k := 65 * d + owner
  if s.meter.on then { s with meter := { s.meter with model := Tab.write s.meter.model 0 k (Tab.read s.meter.model 0 k + n) } } else s

/-- Operating point in force. -/
def State.op (s : State) : Nat := s.fld Reg.PWR_STATE (31, 29)

/-- `n` events of a class for an owner, 0 the device, at the operating point in force. -/
def State.act (s : State) (c owner n : Nat) : State :=
  if n = 0 then s else s.addModel (actDomain c) owner (63 * n * s.reg (Reg.MTR_COEF (6 * c + s.op)))

/-- The VF that owns a granule, 0 for the device. -/
def State.ownerVf (s : State) (g : Nat) : Nat := match s.owner g with | .vf v => v | _ => 0

/-- Tenant of a sequence, 0 when it has gone. -/
def State.seqVf (s : State) (e : Nat) : Nat := match Tab.find s.seqs e with | some q => q.vf | none => 0

/-- Class of matrix work by rate, and its cell-cycles for a number of products (R207). -/
def matrixClass (rate : Nat) : Nat := if rate ≤ 256 then 0 else if rate ≤ 1024 then 1 else if rate ≤ 2048 then 2 else 3
def State.actMatrix (s : State) (owner rate products : Nat) : State := s.act (matrixClass rate) owner (products * 2048 / max 1 rate)

/-! ### Flash writes (R555, R561) -/

/-- Ask for a flash write. -/
def State.flashJob (s : State) (j : FlashJob) : State := { s with mc := { s.mc with jobs := s.mc.jobs ++ [j] } }

/-- A configuration record (R561). -/
def State.config (s : State) (area kind : Nat) (payload : List Byte) : State :=
  s.flashJob { prio := if area = 7 then 2 else 3, area := area, kind := kind, payload := payload }

/-- Apply a change for each element of a list, in order. -/
def forAll {α : Type} (l : List α) (f : α → State → State) (s : State) : State := l.foldl (fun s x => f x s) s

end Sys2Proof.Machine
end

