-- ==== Sys2Proof/Machine/Errors.lean ====
section
/-! DEFINITION. Machine/Errors.lean: occurrences, error records, the fatal state and the interrupt tree (chapter 14). -/

namespace Sys2Proof.Machine

/-- Causes (Table 14.5): code and severity. -/
structure Cause where
  code : Nat
  sev : Nat
  skind : Nat
deriving DecidableEq, Repr

namespace Cause
def bushelHdr : Cause := ⟨0x0001, 2, 4⟩
def remotePoison : Cause := ⟨0x0002, 2, 8⟩
def ownerFault (skind : Nat) : Cause := ⟨0x0003, 3, skind⟩
def ledgerBreach : Cause := ⟨0x0004, 3, 0⟩
def eccCe : Cause := ⟨0x0101, 1, 4⟩
def eccUe : Cause := ⟨0x0102, 2, 4⟩
def poisonRead : Cause := ⟨0x0103, 2, 4⟩
def poisonMade : Cause := ⟨0x0104, 2, 4⟩
def poisonLate : Cause := ⟨0x0105, 2, 4⟩
def remapDone : Cause := ⟨0x0106, 1, 4⟩
def remapDrop : Cause := ⟨0x0107, 2, 4⟩
def spareOut : Cause := ⟨0x0108, 2, 4⟩
def retireAdvise : Cause := ⟨0x0109, 2, 4⟩
def scrubLate : Cause := ⟨0x010A, 0, 4⟩
def pchFailed : Cause := ⟨0x010B, 2, 4⟩
def stackShut : Cause := ⟨0x010C, 3, 5⟩
def tableUe : Cause := ⟨0x010D, 3, 4⟩
def portRefused : Cause := ⟨0x0201, 2, 6⟩
def linkDown : Cause := ⟨0x0202, 2, 6⟩
def linkUp : Cause := ⟨0x0203, 0, 6⟩
def farPoison : Cause := ⟨0x0204, 2, 6⟩
def readTimeout : Cause := ⟨0x0205, 2, 6⟩
def writeLost : Cause := ⟨0x0206, 2, 6⟩
def tunLost : Cause := ⟨0x0207, 2, 6⟩
def gpfDone : Cause := ⟨0x0208, 0, 6⟩
def gpfFail : Cause := ⟨0x0209, 2, 6⟩
def devEvent (sev : Nat) : Cause := ⟨0x020A, sev, 6⟩
def portUp : Cause := ⟨0x0301, 0, 7⟩
def portLone : Cause := ⟨0x0302, 0, 7⟩
def portFault : Cause := ⟨0x0303, 2, 7⟩
def lockLost : Cause := ⟨0x0304, 1, 7⟩
def spareIn : Cause := ⟨0x0305, 1, 7⟩
def rateDown : Cause := ⟨0x0306, 1, 7⟩
def partnerChanged : Cause := ⟨0x0307, 0, 7⟩
def replay : Cause := ⟨0x0308, 1, 7⟩
def replayLimit : Cause := ⟨0x0309, 1, 7⟩
def flitsLost : Cause := ⟨0x030A, 2, 7⟩
def creditBreach : Cause := ⟨0x030B, 2, 7⟩
def portIsolated : Cause := ⟨0x030C, 2, 7⟩
def malformed : Cause := ⟨0x030D, 2, 7⟩
def miswired : Cause := ⟨0x030E, 2, 7⟩
def memberLost : Cause := ⟨0x030F, 0, 8⟩
def leagueLost : Cause := ⟨0x0310, 0, 0⟩
def regSize : Cause := ⟨0x0401, 2, 1⟩
def dbRange : Cause := ⟨0x0402, 2, 2⟩
def dbState : Cause := ⟨0x0403, 2, 2⟩
def hostUr : Cause := ⟨0x0404, 2, 1⟩
def tdiBlock : Cause := ⟨0x0405, 2, 1⟩
def hostPoisonRx : Cause := ⟨0x0406, 2, 1⟩
def dmaTimeout : Cause := ⟨0x0407, 2, 1⟩
def dmaAbort : Cause := ⟨0x0408, 2, 1⟩
def atsDenied : Cause := ⟨0x0409, 2, 1⟩
def hostProto : Cause := ⟨0x040A, 3, 1⟩
def hostLinkCe : Cause := ⟨0x040B, 1, 1⟩
def ideFail : Cause := ⟨0x040C, 2, 1⟩
def tdiError : Cause := ⟨0x040D, 2, 1⟩
def hostDegraded : Cause := ⟨0x040E, 0, 1⟩
def hostLinkDown : Cause := ⟨0x040F, 2, 1⟩
def sosinMalformedHost : Cause := ⟨0x0410, 2, 3⟩
def mbxSlot : Cause := ⟨0x0411, 2, 3⟩
def sosinStall : Cause := ⟨0x0501, 2, 3⟩
def sosinMalformed : Cause := ⟨0x0502, 2, 3⟩
def logFault : Cause := ⟨0x0503, 3, 0⟩
end Cause

/-- One report of a cause by the part of the device that detects it. -/
structure Occ where
  cause : Cause
  func : Nat := 0
  subject : Nat := 0
  addr : Nat := 0
  arg0 : Nat := 0
  arg1 : Nat := 0
  arg2 : Nat := 0
  injected : Bool := false
deriving DecidableEq, Repr

/-- Domain of a cause: bits [15:8] of its code (Table 14.3). -/
def Cause.domain (c : Cause) : Nat := c.code / 256

/-- Identity of an occurrence (R495). -/
def ErrRec.is (r : ErrRec) (o : Occ) : Bool :=
  r.cause == o.cause.code && r.func == o.func && r.skind == o.cause.skind && r.subject == o.subject

/-- Can a new record of this occurrence take a slot (R497)? -/
def ErrQueue.slotFor (q : ErrQueue) (o : Occ) : Bool :=
  let held := q.recs.length
  if q.faulty then false
  else if o.cause.sev = 3 then decide (held < 32)
  else if o.func = 0 then decide (held < 31)
  else decide (held < 31) && decide ((q.recs.filter (fun r => r.func != 0)).length < 16)
    && decide ((q.recs.filter (fun r => r.func == o.func)).length < 2)

/-- The next sequence number after `n`: values whose low 32 bits are zero are skipped (R494). -/
def nextSeq (n : Nat) : Nat := if (n + 1) % 2 ^ 32 = 0 then n + 2 else n + 1

/-- Offset of the summary register of a function (R485). -/
def summary (f : Nat) : Nat := if f = 0 then Reg.SUMMARY_PF else Reg.SUMMARY_VF (f - 1)

/-- An event sets level-2 bits of a function's summary register, from bit `lo` on, at the end of its tick (R486). -/
def State.setSummary (s : State) (f lo v : Nat) : State :=
  { s with raised := Tab.write s.raised 0 f (Tab.read s.raised 0 f ||| v * 2 ^ lo) }

/-- The end of the tick: the level-2 bits of its events are set (R486). -/
def State.applyRaised (s : State) : State :=
  forAll s.raised (fun (x : Nat × Nat) t => t.setReg (summary x.1) (t.reg (summary x.1) ||| x.2)) ({ s with raised := [] } : State)

/-- ERRDOM of the PF and of the VF named, when a record of severity `sev` is written in domain d (R486). -/
def State.raiseErr (s : State) (d sev func : Nat) : State :=
  let s := if func != 0 then s.setSummary func 33 (2 ^ d) else s
  if sev = 3 || bit (s.fld (Reg.ERR_SEVMASK d) (3, 0)) sev then s.setSummary 0 33 (2 ^ d) else s

/-- Note a fatal occurrence: the first waits for the end of the tick, later ones count (R505, R506). -/
def State.fatalOccur (s : State) (d c n : Nat) : State :=
  if s.fatal then s.setFld Reg.ERR_FATAL (59, 52) (satAdd 8 (s.fld Reg.ERR_FATAL (59, 52)) 1)
  else match s.fatalPend with
    | some _ => { s with fatalLater := s.fatalLater + 1 }
    | none => { s with fatalPend := some { domain := d, cause := c, seq := n } }

/-- Report an occurrence (R496): the state, and the SEQ that a sequence or command carries. -/
def State.occur (s : State) (o : Occ) : State × Nat :=
  let d := o.cause.domain
  let q := s.errQueue d
  let res : State × Nat :=
    match if q.faulty then none else q.recs.find? (fun r => r.is o) with
    | some r =>
      let r' := { r with again := true, againCnt := min (r.againCnt + 1) 255 }
      let s' := s.setErrQueue d { q with recs := q.recs.map (fun x => if x.seq = r.seq then r' else x) }
      -- a held record sets AGAIN for the first time: ERRDOM of the VF it names (R486)
      (if !r.again && r.func != 0 then s'.setSummary r.func 33 (2 ^ d) else s', r.seq)
    | none =>
      if q.slotFor o then
        let n := s.reg Reg.ERR_NEXTSEQ
        let r : ErrRec := { seq := n, time := s.clkTime, cause := o.cause.code, sev := o.cause.sev, again := false,
                            acked := false, ovf := q.lostSince, injected := o.injected, againCnt := 0, func := o.func,
                            skind := o.cause.skind, subject := o.subject, addr := o.addr, arg0 := o.arg0, arg1 := o.arg1,
                            arg2 := o.arg2 }
        let s := s.setErrQueue d { q with recs := q.recs ++ [r], lostSince := false }
        let s := s.setReg Reg.ERR_NEXTSEQ (nextSeq n)
        (s.raiseErr d o.cause.sev o.func, n)
      else
        let s := s.setErrQueue d { q with lostSince := true }
        let a := Reg.ERR_QSTAT d
        let s := s.setFld a (63, 32) (satAdd 32 (s.fld a (63, 32)) 1)
        (if o.func != 0 then s.count (Reg.ERR_VFOVF (o.func - 1)) 1 else s, 0)
  -- a fatal occurrence enters the fatal state at the end of the tick, HOST_PROTO only after 1 s (R504, R506)
  if o.cause.sev = 3 && o.cause.code != 0x040A then (res.1.fatalOccur d o.cause.code res.2, res.2) else res

/-- Report an occurrence whose record number nobody carries. -/
def State.record (s : State) (o : Occ) : State := (s.occur o).1

/-- Acknowledge the records of a domain up to a sequence number (R499). -/
def State.ackRecords (s : State) (d x : Nat) : State :=
  let q := s.errQueue d
  s.setErrQueue d { q with recs := q.recs.map (fun r => if r.seq ≤ x then { r with acked := true } else r) }

/-- Release the acknowledged records of a domain that are at least 1 ms old (R499). -/
def State.releaseRecords (s : State) (d : Nat) : State :=
  let q := s.errQueue d
  s.setErrQueue d { q with recs := q.recs.filter (fun r => !(r.acked && decide (r.time + 1000000 ≤ s.clkTime))) }

/-- GROUP of a function's summary register (R484, R485): bits 47 to 43. -/
def State.groups (s : State) (f : Nat) : Nat :=
  let v := s.reg (summary f)
  b2n s.fatal * 16 + b2n (f != 0 && bits v 32 32 != 0) * 8 + b2n (bits v 38 33 != 0) * 4 + b2n (bits v 19 16 != 0) * 2
    + b2n (f != 0 && bits v 15 0 != 0)

/-- Does (GROUP AND ENABLE) hold, GROUP.FATAL always counted as enabled (R487)? -/
def State.wantsIrq (s : State) (f : Nat) : Bool :=
  let g := s.groups f
  let e := bits (s.reg (summary f)) 55 52
  bit g 4 || bit g 3 && bit e 3 || bit g 2 && bit e 2 || bit g 1 && bit e 1 || bit g 0 && bit e 0

/-- May the function send now: Bus Master Enable set, and not in its FLR (R487)? -/
def State.maySend (s : State) (f : Nat) : Bool :=
  let x := s.fnAt f
  x.bme && !x.flr

/-- Send the function's message, or set its pending bit when the vector is masked or MSI-X Enable is clear (R421, R487). -/
def State.sendMsi (s : State) (f : Nat) : State :=
  let x := s.fnAt f
  let s := s.count (Reg.IRQ_SENT f) 1
  if x.msixEnable && !x.msixMask && !x.msixFMask then s.emit (.msi f x.msixAddr x.msixData)
  else s.setFn f { x with msixPend := true }

/-- One function requests an interrupt if it is armed and wants one, which clears ARM (R487). -/
def State.requestIrq (s : State) (f : Nat) : State :=
  let a := summary f
  if bit (s.reg a) 63 && s.wantsIrq f && s.maySend f then (s.setReg a (setBits (s.reg a) 63 63 0)).sendMsi f else s

/-- At the end of a tick every function requests (R487). -/
def State.requestIrqs (s : State) : State := forAll (List.range 65) (fun f s => s.requestIrq f) s

/-- IRQ_N (R492): the fatal state, or an unacknowledged record under ERR_PINMASK, or FORCE in debug mode. Released until the
error block is initialised after a reset. -/
def State.irqPin (s : State) : Bool :=
  (s.rst.phase == .running || (s.rst.phase == .ladder && decide (2 ≤ s.reg Reg.RST_STAGE))) && (s.fatal || s.logFaulted || (s.debug && s.fld Reg.IRQ_PIN (1, 1) == 1) ||
    (List.range 6).any (fun d => (s.errQueue d).recs.any (fun r => !r.acked && bit (s.reg (Reg.ERR_PINMASK d)) r.sev)))

/-- The fatal requests still waiting for a function that may not send (R505). -/
def State.fatalRequests (s : State) : State :=
  forAll s.fatalWait (fun f s =>
    if s.maySend f then
      let s := { s with fatalWait := s.fatalWait.filter (· != f) }
      (s.setReg (summary f) (setBits (s.reg (summary f)) 63 63 0)).sendMsi f
    else s) s

/-- Entry into the fatal state at the end of t0 (R505, rung 1): ERR_FATAL latches, and every function requests one
interrupt whatever ARM and ENABLE hold. -/
def State.enterFatal (s : State) (p : FatalPend) : State :=
  let s := s.setReg Reg.ERR_FATAL (2 ^ 63 + p.domain * 2 ^ 60 + min s.fatalLater 255 * 2 ^ 52 + p.cause * 2 ^ 32 + p.seq % 2 ^ 32)
  let s := { s with fatalPend := none, fatalLater := 0, fatalTick := some s.tick, fatalWait := List.range 65 }
  s.fatalRequests

end Sys2Proof.Machine
end

