-- ==== Sys2Proof/Machine/Ecc.lean ====
section
/-! DEFINITION. Machine/Ecc.lean: the code over 64 B words and the outcome of decoding one (R275 to R278). The state keeps,
for each word, the symbol errors its cells show and its poison mark; the code is linear, so the errors alone decide. -/

namespace Sys2Proof.Machine

/-- Multiply by α = 0x02 in GF(2⁸) modulo x⁸ + x⁴ + x³ + x² + 1 (R275). -/
def gfDouble (a : Nat) : Nat := if a < 128 then 2 * a else (2 * a) ^^^ 0x11D

/-- a · α^k. -/
def gfShift (a : Nat) : Nat → Nat
  | 0 => a
  | k + 1 => gfDouble (gfShift a k)

/-- The product in GF(2⁸). -/
def gfMul (a b : Nat) : Nat := (List.range 8).foldl (fun acc i => if bit b i then acc ^^^ gfShift a i else acc) 0

/-- The three check symbols of 65 data symbols: the remainder by (x + 1)(x + α)(x + α²) = x³ + 7x² + 14x + 8 (R275). -/
def rsCheck (data : List Byte) : List Byte :=
  let r := data.foldl (fun (r : Nat × Nat × Nat) d =>
    let f := d.toNat ^^^ r.1
    (r.2.1 ^^^ gfMul f 7, r.2.2 ^^^ gfMul f 14, gfMul f 8)) (0, 0, 0)
  [BitVec.ofNat 8 r.1, BitVec.ofNat 8 r.2.1, BitVec.ofNat 8 r.2.2]

/-- Syndrome j of an error pattern: symbol i is the coefficient of x^(67 − i) (R275). -/
def syndrome (errs : List (Nat × Byte)) (j : Nat) : Nat :=
  errs.foldl (fun acc e => acc ^^^ gfShift e.2.toNat (j * (67 - e.1))) 0

/-- The symbol a single error would lie in, if the syndromes are those of one (R276). -/
def locate (s0 s1 s2 : Nat) : Option Nat :=
  if s0 = 0 then none
  else (List.range 68).find? (fun i => gfShift s0 (67 - i) == s1 && gfShift s1 (67 - i) == s2)

/-- The errors of a pattern that are errors at all. -/
def realErrs (errs : List (Nat × Byte)) : List (Nat × Byte) := errs.filter (fun e => e.1 < 68 && e.2 != 0)

/-- Decode a word from its error pattern and its mark (R276, R277). Of three or more bad symbols nothing is stated: the
outcome is then a free value (log entry 7). -/
def decodeWord (errs : List (Nat × Byte)) (marked : Bool) (free : Nat) : WordOutcome :=
  let e := realErrs errs
  if 3 ≤ e.length then
    match free % 4 with
    | 0 => .clean
    | 1 => .corrected
    | 2 => .poisoned
    | _ => .uncorrectable
  else
    let s0 := syndrome e 0
    let s1 := syndrome e 1
    let s2 := syndrome e 2
    if s0 = 0 && s1 = 0 && s2 = 0 then (if marked then .poisoned else .clean)
    else match locate s0 s1 s2 with
      | some _ => if marked then .poisoned else .corrected
      | none => .uncorrectable

/-- Was a symbol corrected on the way (a CE, even of a poisoned word, Table 8.2)? -/
def correctedOne (errs : List (Nat × Byte)) : Bool := (realErrs errs).length == 1

/-- Is the stack of a stacked address shut down (R289)? -/
def State.stackShut (s : State) (a : Nat) : Bool :=
  decide (a < stackedEnd) && bits (s.fld Reg.HMC_REFRATE (15, 0)) (2 * (pchOf a / 32) + 1) (2 * (pchOf a / 32)) == 3

/-- Does the write-combining buffer hold the whole word (R260, R283)? -/
def State.wholeInWcb (s : State) (w : Nat) : Bool :=
  match Tab.find s.wcb w with
  | some e => e.mask == 2 ^ 128 - 1
  | none => false

/-- What decoding the stored word number `w` (address / 64) finds, whatever the write-combining buffer holds (R277). -/
def State.rawOutcome (s : State) (w : Nat) : WordOutcome :=
  if s.stackShut (64 * w) then .uncorrectable
  else decodeWord (Tab.read s.upsets [] w) (Tab.read s.poison false w) (Config.freeValue (s.free + w)).toNat

/-- What a reader of a word gets: a word that the write-combining buffer holds whole is taken from there (DEDUCED from R260
and R283, log entry 8). -/
def State.outcome (s : State) (w : Nat) : WordOutcome :=
  if s.stackShut (64 * w) then .uncorrectable
  else if s.wholeInWcb w then .clean
  else s.rawOutcome w

/-- Is the word bad for whoever reads it (R281)? -/
def State.bad (s : State) (w : Nat) : Bool :=
  match s.outcome w with
  | .poisoned => true
  | .uncorrectable => true
  | _ => false

/-- The words of a byte range. -/
def wordsOf (a n : Nat) : List Nat := if n = 0 then [] else (List.range ((a + n - 1) / 64 + 1 - a / 64)).map (· + a / 64)

/-- A list without its repeats, first occurrences kept. -/
def dedup (l : List Nat) : List Nat := l.foldl (fun a x => if a.contains x then a else a ++ [x]) []

end Sys2Proof.Machine
end

