-- ==== Sys2Proof/Machine/Layout.lean ====
section
/-! DEFINITION. Machine/Layout.lean: where the structures of an index lie and how their bytes read (chapter 2, R236). -/

namespace Sys2Proof.Machine

/-- Slots per bushel for a code of S bytes (Table 2.4). -/
def slotCap : Nat → Nat
  | 8 => 160 | 16 => 96 | 32 => 54 | 64 => 29 | 128 => 15 | _ => 0

/-- Length of a bushel's local-index array (Table 2.4). -/
def lidxLen (s : Nat) : Nat := roundUp (4 * slotCap s) 64

/-- Code bytes of a format and length (Table 2.2). -/
def codeBytes (t2 : Bool) (l : Nat) : Nat := if t2 then l / 4 else l / 8

/-- S of an index. -/
def Index.s (i : Index) : Nat := codeBytes i.t2 i.len

/-- Low 32 bits of the handle (IXTAG, Table 2.3). -/
def Index.ixtag (i : Index) : Nat := i.handle % 2 ^ 32

/-- Address of bushel number b of a region (R64, R236). -/
def Index.bushel (i : Index) (b : Nat) : Nat :=
  let p := i.chans.length
  let j := b / p
  ((i.lg0 + j / 1024) * 256 + i.chans.getD (b % p) 0) * 2 ^ 21 + j % 1024 * 2048

/-- Bytes of one bucket list (Table 2.1). -/
def Index.listSpan (i : Index) : Nat := roundUp (4 * i.bmax) 2048

/-- LISTBASE of a bucket (Table 2.5). -/
def Index.listBase (i : Index) (c : Nat) : Nat := i.lists + c * i.listSpan

/-- Directory entry of a bucket. -/
def Index.bucket (i : Index) (c : Nat) : BucketDir := Tab.read i.dir {} c

/-- Smallest w with 2^w at least n. -/
def log2Up (n : Nat) : Nat := if n ≤ 1 then 0 else (n - 1).log2 + 1

/-- w of the ID directory: 2^w is the smallest power of two that is at least ⌈N_max / 6⌉. -/
def Index.w (i : Index) : Nat := log2Up (cdiv i.nmax 6)

/-- Semaphores of the set: 32 KiB for BKT, 16 KiB for CHN (Table 5.7). -/
def semBytes (chn : Bool) : Nat := if chn then 16384 else 32768

/-! ### Reads of structures -/

/-- Bushel number at position p of a bucket's list. -/
def State.listEntry (s : State) (i : Index) (c p : Nat) : Nat := s.num (i.listBase c + 4 * p) 4

/-- External ID of a local index. -/
def State.extOf (s : State) (i : Index) (x : Nat) : Nat := s.num (i.idtab + 8 * x) 8

/-- Tombstone tag of a local index: low half of byte x / 2 when x is even (Table 2.9). -/
def State.tagOf (s : State) (i : Index) (x : Nat) : Nat :=
  let b := (s.byte (i.tomb + x / 2)).toNat
  if x % 2 = 0 then b % 16 else b / 16

/-- Does a filter allow a local index (R24)? Grain g is the 64-bit word at base + 8g. A query that names no filter has none. -/
def State.allowed (s : State) (f : Option Filter) (x : Nat) : Bool :=
  match f with
  | none => true
  | some f => decide (x < 64 * f.grains) && bit (s.num (f.base + 8 * (x / 64)) 8) (x % 64)

/-- TMASK of a pinned epoch (R249). -/
def Index.tmask (i : Index) (e : Nat) : Nat :=
  2 ^ 15 + maskOf ((List.range 5).filterMap (fun t =>
    match i.epochs[t]? with
    | some r => if (r.st = .live || r.st = .retiring) && decide (r.epoch ≤ e) then some (t + 1) else none
    | none => none))

/-- The record of the latest live epoch, and its number. -/
def Index.latest (i : Index) : Option (Nat × Nat) :=
  (List.range 5).foldl (fun best t =>
    match i.epochs[t]? with
    | some r =>
      if r.st = .live then
        match best with
        | some (_, e) => if e < r.epoch then some (t, r.epoch) else best
        | none => some (t, r.epoch)
      else best
    | none => best) none

/-- The record that is OPEN. -/
def Index.openRec (i : Index) : Option Nat :=
  (List.range 5).find? (fun t => match i.epochs[t]? with | some r => r.st == .opened | none => false)

def Index.record (i : Index) (t : Nat) : EpochRec := i.epochs.getD t {}

def Index.setRecord (i : Index) (t : Nat) (r : EpochRec) : Index := { i with epochs := i.epochs.set t r }

/-! ### The ID directory (R68) -/

/-- The hash of an external ID. -/
def idHash (ext : Nat) : Nat := ext * 0x9E3779B97F4A7C15 % 2 ^ 64

def idPrint (ext : Nat) : Nat := idHash ext % 2 ^ 32 ||| 1

/-- Home word of an external ID: the top w bits, word 0 when w = 0. -/
def idWord (w ext : Nat) : Nat := idHash ext / 2 ^ (64 - w) % 2 ^ w

/-- What a lookup answers: the address of the entry and, when found, the local index there. -/
structure Lookup where
  at_ : Nat
  found : Option Nat
  /-- Directory words read. -/
  words : Nat
deriving DecidableEq, Repr

/-- One directory word, entry by entry. -/
def State.idProbe (s : State) (i : Index) (ext word : Nat) : List Nat → Option (Nat × Option Nat)
  | [] => none
  | e :: es =>
    let a := i.iddir + 64 * word + 8 * e
    let fp := s.num a 4
    if fp = 0 then some (a, none)
    else if fp = idPrint ext && s.extOf i (s.num (a + 4) 4) = ext then some (a, some (s.num (a + 4) 4))
    else s.idProbe i ext word es

/-- The loop of R68 with at most `fuel` words. -/
def State.idLoop (s : State) (i : Index) (ext : Nat) : Nat → Nat → Nat → Lookup
  | 0, word, n => { at_ := i.iddir + 64 * word, found := none, words := n }
  | fuel + 1, word, n =>
    match s.idProbe i ext word (List.range 8) with
    | some (a, f) => { at_ := a, found := f, words := n + 1 }
    | none => s.idLoop i ext fuel ((word + 1) % 2 ^ i.w) (n + 1)

def State.idLookup (s : State) (i : Index) (ext : Nat) : Lookup := s.idLoop i ext (2 ^ i.w) (idWord i.w ext) 0

end Sys2Proof.Machine
end

