-- ==== Sys2Proof/Machine/Numeric.lean ====
section
/-! DEFINITION. Machine/Numeric.lean: the arithmetic of chapter 6. Values are exact dyadic numbers; each conversion or
addition rounds once, as its rule says. -/

namespace Sys2Proof.Machine.Numeric

/-- An exact value: (−1)^neg · m · 2^e, an infinity, or NaN. Zero keeps its sign. -/
inductive Val where
  | fin (neg : Bool) (m : Nat) (e : Int)
  | inf (neg : Bool)
  | nan
deriving DecidableEq, Repr

def Val.zero : Val := .fin false 0 0

def Val.ofInt (i : Int) : Val := .fin (decide (i < 0)) i.natAbs 0

def Val.isNeg : Val → Bool
  | .fin n _ _ => n | .inf n => n | .nan => false

def Val.neg : Val → Val
  | .fin n m e => .fin (!n) m e | .inf n => .inf (!n) | .nan => .nan

def Val.abs : Val → Val
  | .fin _ m e => .fin false m e | .inf _ => .inf false | .nan => .nan

def Val.isZero : Val → Bool
  | .fin _ 0 _ => true | _ => false

/-- Multiply by a power of two. -/
def Val.scale2 (v : Val) (k : Int) : Val :=
  match v with
  | .fin n m e => .fin n m (e + k)
  | v => v

/-- a · 2^e as an integer over the common exponent `lo`. -/
def alignTo (lo e : Int) (m : Nat) : Nat := m * 2 ^ (e - lo).toNat

/-- Exact sum (IEEE 754 for infinities and signs of zero). -/
def Val.add : Val → Val → Val
  | .nan, _ => .nan
  | _, .nan => .nan
  | .inf a, .inf b => if a = b then .inf a else .nan
  | .inf a, _ => .inf a
  | _, .inf b => .inf b
  | .fin na ma ea, .fin nb mb eb =>
    if ma = 0 && mb = 0 then .fin (na && nb) 0 0
    else
      let lo := min ea eb
      let x : Int := (alignTo lo ea ma : Nat)
      let y : Int := (alignTo lo eb mb : Nat)
      let z := (if na then -x else x) + (if nb then -y else y)
      .fin (decide (z < 0)) z.natAbs lo

/-- Exact product. -/
def Val.mul : Val → Val → Val
  | .nan, _ => .nan
  | _, .nan => .nan
  | .inf a, .inf b => .inf (a != b)
  | .inf a, .fin b m _ => if m = 0 then .nan else .inf (a != b)
  | .fin a m _, .inf b => if m = 0 then .nan else .inf (a != b)
  | .fin a ma ea, .fin b mb eb => .fin (a != b) (ma * mb) (ea + eb)

/-- Strict comparison of two finite or infinite values; false with NaN. -/
def Val.lt : Val → Val → Bool
  | .nan, _ => false
  | _, .nan => false
  | .inf a, .inf b => a && !b
  | .inf a, .fin .. => a
  | .fin .., .inf b => !b
  | .fin na ma ea, .fin nb mb eb =>
    let lo := min ea eb
    let x : Int := (alignTo lo ea ma : Nat)
    let y : Int := (alignTo lo eb mb : Nat)
    decide ((if na then -x else x) < (if nb then -y else y))

/-- Equal as numbers: +0 equals −0. -/
def Val.eqv (a b : Val) : Bool :=
  match a, b with
  | .nan, _ => false
  | _, .nan => false
  | a, b => !a.lt b && !b.lt a

/-! ### Formats (Tables 6.1 and 6.2) -/

/-- A floating-point format: exponent and fraction bits, bias, largest finite encoding, infinity, canonical NaN. -/
structure FloatFmt where
  e : Nat
  m : Nat
  bias : Int
  maxCode : Nat
  inf : Option Nat
  nan : Option Nat
deriving DecidableEq, Repr

/-- The floating-point formats by code (Table 6.2). -/
def floatFmt : Nat → Option FloatFmt
  | 0x8 => some ⟨2, 1, 1, 0x7, none, none⟩
  | 0x9 => some ⟨2, 3, 1, 0x1F, none, none⟩
  | 0xA => some ⟨3, 2, 3, 0x1F, none, none⟩
  | 0xB => some ⟨4, 3, 7, 0x7E, none, some 0x7F⟩
  | 0xC => some ⟨5, 2, 15, 0x7B, some 0x7C, some 0x7E⟩
  | 0xD => some ⟨8, 7, 127, 0x7F7F, some 0x7F80, some 0x7FC0⟩
  | 0xE => some ⟨5, 10, 15, 0x7BFF, some 0x7C00, some 0x7E00⟩
  | 0xF => some ⟨8, 23, 127, 0x7F7FFFFF, some 0x7F800000, some 0x7FC00000⟩
  | _ => none

def fp32 : FloatFmt := ⟨8, 23, 127, 0x7F7FFFFF, some 0x7F800000, some 0x7FC00000⟩

/-- Bits of an element (Tables 6.1, 6.2). -/
def fmtBits : Nat → Nat
  | 0x0 => 1 | 0x1 => 2 | 0x2 => 4 | 0x3 => 8 | 0x4 => 8 | 0x5 => 16 | 0x6 => 32 | 0x7 => 8
  | 0x8 => 4 | 0x9 => 6 | 0xA => 6 | 0xB => 8 | 0xC => 8 | 0xD => 16 | 0xE => 16 | _ => 32

/-- The value of a finite encoding's magnitude bits (R195). -/
def FloatFmt.mag (f : FloatFmt) (c : Nat) : Nat × Int :=
  let ex := c / 2 ^ f.m % 2 ^ f.e
  let fr := c % 2 ^ f.m
  if ex = 0 then (fr, 1 - f.bias - f.m) else (2 ^ f.m + fr, (ex : Int) - f.bias - f.m)

/-- Decode an encoding (R195, R196). -/
def FloatFmt.decode (f : FloatFmt) (c : Nat) : Val :=
  let neg := bit c (f.e + f.m)
  let mg := c % 2 ^ (f.e + f.m)
  if mg ≤ f.maxCode then .fin neg (f.mag mg).1 (f.mag mg).2
  else if f.inf = some mg then .inf neg
  else .nan

/-- The integer fourth root, rounded down. -/
def root4 (n : Nat) : Nat := Nat.sqrt (Nat.sqrt n)

/-- The FP32 value nearest 2^((m − 64) / 4), ties to even (R197): 24 significant bits of the fourth root of 2^j. -/
def log8Mag (m : Nat) : Nat × Int :=
  let t : Int := (m : Int) - 64
  let k := t / 4
  let j := (t % 4).toNat
  let r := root4 (2 ^ (j + 96))      -- 25 bits of 2^(j/4)
  ((r + 1) / 2, k - 23)

/-- Decode an element of any format (R194 to R198). INT8 in MX mode is scaled by 2⁻⁶ by the caller. -/
def decodeElem (fmt c : Nat) : Val :=
  match fmt with
  | 0x0 => Val.ofInt (if c % 2 = 1 then 1 else -1)
  | 0x1 => if c % 2 = 0 then .zero else Val.ofInt (if c / 2 % 2 = 1 then -1 else 1)
  | 0x2 => Val.ofInt (signed 4 c)
  | 0x3 => Val.ofInt (signed 8 c)
  | 0x4 => Val.ofInt (c % 256 : Nat)
  | 0x5 => Val.ofInt (signed 16 c)
  | 0x6 => Val.ofInt (signed 32 c)
  | 0x7 =>
    if c % 256 = 0 then .zero
    else if c % 256 = 0x80 then .nan
    else if c % 128 = 0 then .zero
    else .fin (bit c 7) (log8Mag (c % 128)).1 (log8Mag (c % 128)).2
  | f => match floatFmt f with
    | some ff => ff.decode c
    | none => .nan

/-- Element i of a packed array: a little-endian bit stream (R200). -/
def elemAt (fmt : Nat) (bs : List Byte) (i : Nat) : Nat :=
  let b := fmtBits fmt
  leNat (slice bs (b * i / 8) (cdiv b 8 + 1)) / 2 ^ (b * i % 8) % 2 ^ b

/-- Bytes of n elements, and of their scale bytes in MX (R200). -/
def elemBytes (fmt n : Nat) : Nat := cdiv (n * fmtBits fmt) 8
def arrayBytes (fmt : Nat) (mx : Bool) (n : Nat) : Nat := elemBytes fmt n + if mx then n / 32 else 0

/-- The value of an MX element before its scale (R204): INT8 carries 2⁻⁶. -/
def mxElem (fmt c : Nat) : Val := if fmt = 3 then (decodeElem 3 c).scale2 (-6) else decodeElem fmt c

/-! ### Rounding and conversion (R201 to R203, R219) -/

/-- Floor of log2 of a positive quotient n / d. -/
def log2Quot (n d : Nat) : Int :=
  let k : Int := (n.log2 : Int) - d.log2
  if (if 0 ≤ k then d * 2 ^ k.toNat ≤ n else d ≤ n * 2 ^ (-k).toNat) then k else k - 1

/-- How an inexact result is rounded: to nearest even, or stochastically with 24 random bits (R219). -/
inductive Mode where
  | rne
  | stoch (r : Nat)
deriving DecidableEq, Repr

/-- Round n / d · 2^e into a format: the magnitude code, and whether it saturated (R201, R212, R219). -/
def FloatFmt.round (f : FloatFmt) (mode : Mode) (n d : Nat) (e : Int) : Nat × Bool :=
  if n = 0 then (0, false)
  else
    let emin : Int := 1 - f.bias
    let k := log2Quot n d + e
    let u : Int := max (k - f.m) (emin - f.m)     -- exponent of one ulp
    let sh := e - u
    let num := if 0 ≤ sh then n * 2 ^ sh.toNat else n
    let den := if 0 ≤ sh then d else d * 2 ^ (-sh).toNat
    let q := num / den
    let r := num % den
    let up : Bool :=
      if r = 0 then false
      else match mode with
        | .rne => decide (den < 2 * r) || (2 * r == den && q % 2 == 1)
        | .stoch x => decide (x < 2 ^ 24 * r / den)
    let q := if up then q + 1 else q
    -- q counts ulps: a carry into the next binade is the next code
    let code := if u = emin - f.m then q else (u + f.m + f.bias).toNat * 2 ^ f.m + (q - 2 ^ f.m)
    if f.maxCode < code then (f.maxCode, true) else (code, false)

/-- Conversion into a floating-point format (R201): the encoding and SAT. -/
def FloatFmt.conv (f : FloatFmt) (mode : Mode) (v : Val) : Nat × Bool :=
  let sgn (b : Bool) : Nat := if b then 2 ^ (f.e + f.m) else 0
  match v with
  | .fin neg m e => let r := f.round mode m 1 e; (sgn neg + r.1, r.2)
  | .inf neg => match f.inf with
    | some c => (sgn neg + c, false)
    | none => (sgn neg + f.maxCode, true)
  | .nan => match f.nan with
    | some c => (c, false)
    | none => (0, true)

/-- Round to the nearest integer, ties to even. -/
def rneQuot (n d : Nat) : Nat :=
  let q := n / d
  let r := n % d
  if d < 2 * r || (2 * r == d && q % 2 == 1) then q + 1 else q

/-- Conversion into an integer range with scale s (R202): the integer and SAT. -/
def convInt (lo hi : Int) (v s : Val) : Int × Bool :=
  match v, s with
  | .fin nv mv ev, .fin ns ms es =>
    if ms = 0 then (0, true)
    else
      let sh := ev - es
      let q := rneQuot (mv * 2 ^ sh.toNat) (ms * 2 ^ (-sh).toNat)
      let x : Int := if nv != ns then -(q : Int) else q
      if x < lo then (lo, true) else if hi < x then (hi, true) else (x, false)
  | .inf nv, s => (if nv != s.isNeg then lo else hi, true)
  | _, _ => (0, true)

/-- Encode into LOG8 (R197): m is the largest with |x|⁸ ≥ 2^(2m − 129). -/
def toLog8 (v : Val) : Nat × Bool :=
  match v with
  | .nan => (0x80, false)
  | .inf n => (b2n n * 128 + 127, true)
  | .fin n m e =>
    if m = 0 then (0, false)
    else
      let l : Int := ((m ^ 8).log2 : Int) + 8 * e
      let c := (l + 129) / 2
      if c < 1 then (0, false)
      else if 127 ≤ l then (b2n n * 128 + 127, true)
      else (b2n n * 128 + (min c 127).toNat, false)

/-- A value rounded to FP32 to nearest even: as a value, with SAT (R203). -/
def fl (v : Val) : Val × Bool :=
  let r := fp32.conv .rne v
  (fp32.decode r.1, r.2)

/-! ### MX blocks (R204 to R206) -/

/-- emax of an MX element format (Table 6.3). -/
def emaxOf : Nat → Int
  | 0xB => 8 | 0xC => 15 | 0xA => 4 | 0x9 => 2 | 0x8 => 2 | _ => 0

/-- Convert 32 values into a block: scale byte, element encodings, SAT (R205). -/
def toBlock (fmt : Nat) (vs : List Val) : Nat × List Nat × Bool :=
  if vs.any (fun v => match v with | .fin .. => false | _ => true) then (0xFF, vs.map (fun _ => 0), false)
  else
    let amax := vs.foldl (fun a v => if a.lt v.abs then v.abs else a) Val.zero
    match amax with
    | .fin _ m ex =>
      if m = 0 then
        (0, vs.map (fun v => if fmt = 3 then 0 else match floatFmt fmt with
          | some f => (f.conv .rne v).1
          | none => 0), false)
      else
        let e0 := (m.log2 : Int) + ex - emaxOf fmt
        let e := if 127 < e0 then 127 else if e0 < -127 then -127 else e0
        let el := vs.map (fun v =>
          if fmt = 3 then
            -- clamped to ± the element maximum of 127 · 2⁻⁶ (R206)
            let q := (convInt (-127) 127 (v.scale2 (-e)) (.fin false 1 (-6))).1
            (q % 256).toNat
          else match floatFmt fmt with
            | some f => (f.conv .rne (v.scale2 (-e))).1
            | none => 0)
        ((e + 127).toNat, el, decide (127 < e0))
    | _ => (0, [], false)

/-- Element and scale codes of one operand of an MX path. -/
structure Block where
  scale : Nat
  elems : List Nat
deriving DecidableEq, Repr

/-- Exact sum of the products of two blocks' elements, times both scales, or NaN (R204, Table 6.5). -/
def blockTerm (fmt : Nat) (a b : Block) : Val :=
  if a.scale = 0xFF || b.scale = 0xFF then .nan
  else
    let s := (List.zipWith (fun x y => (mxElem fmt x).mul (mxElem fmt y)) a.elems b.elems).foldl Val.add Val.zero
    s.scale2 (((a.scale : Int) - 127) + ((b.scale : Int) - 127))

/-- Block j of a packed MX array of n elements (R200). -/
def blockAt (fmt n : Nat) (bs : List Byte) (j : Nat) : Block :=
  { scale := field bs (elemBytes fmt n + j) 1, elems := (List.range 32).map (fun i => elemAt fmt bs (32 * j + i)) }

/-! ### Accumulation (R210 to R219) -/

/-- Initial state of an output element's random stream (R217). -/
def stochInit (seed dom part col : Nat) : Nat :=
  let u := dom * 2 ^ 56 + part * 2 ^ 24 + col
  let s := seed ^^^ (0x9E3779B97F4A7C15 * (u + 1) % 2 ^ 64)
  if s = 0 then 1 else s

/-- One shift of the register (R218). -/
def stochShift (s : Nat) : Nat := if s % 2 = 1 then (s / 2) ^^^ 0xD800000000000000 else s / 2

/-- Draw 24 bits: the value and the state after (R218). -/
def stochDraw (s : Nat) : Nat × Nat :=
  (List.range 24).foldl (fun a _ => (2 * a.1 + a.2 % 2, stochShift a.2)) (0, s)

/-- A running accumulation: value, SAT, random state (none when rounding to nearest). -/
structure Acc where
  v : Val
  sat : Bool
  st : Option Nat
deriving DecidableEq, Repr

/-- The FP32 addition ⊕ (R212). -/
def Acc.add (a : Acc) (t : Val) : Acc :=
  match a.st with
  | none =>
    let r := fp32.conv .rne (a.v.add t)
    { v := fp32.decode r.1, sat := a.sat || r.2, st := none }
  | some s =>
    let d := stochDraw s
    let r := fp32.conv (.stoch d.1) (a.v.add t)
    { v := fp32.decode r.1, sat := a.sat || r.2, st := some d.2 }

/-- SEQ order (R210). -/
def sumSeq (st : Option Nat) (ts : List Val) : Acc := ts.foldl Acc.add { v := .zero, sat := false, st := st }

/-- One level of the tree: adjacent pairs. -/
def treeLevel : Option Nat → List Val → List Val × Bool × Option Nat
  | st, a :: b :: rest =>
    let x := Acc.add { v := a, sat := false, st := st } b
    let r := treeLevel x.st rest
    (x.v :: r.1, x.sat || r.2.1, r.2.2)
  | st, l => (l, false, st)

/-- Levels until one value remains. -/
def treeLoop : Nat → Option Nat → Bool → List Val → Acc
  | 0, st, sat, l => { v := l.headD .zero, sat := sat, st := st }
  | k + 1, st, sat, l =>
    match l with
    | [] => { v := .zero, sat := sat, st := st }
    | [x] => { v := x, sat := sat, st := st }
    | l => let r := treeLevel st l; treeLoop k r.2.2 (sat || r.2.1) r.1

/-- Smallest power of two that is at least n, for n at least 1. -/
def pow2Up (n : Nat) : Nat := if n ≤ 1 then 1 else 2 ^ ((n - 1).log2 + 1)

/-- TREE order (R211): padded with +0; a single term is converted to FP32 without a draw. -/
def sumTree (st : Option Nat) (ts : List Val) : Acc :=
  if ts.length ≤ 1 then
    let r := fp32.conv .rne (ts.headD .zero)
    { v := fp32.decode r.1, sat := r.2, st := st }
  else
    let n := pow2Up ts.length
    treeLoop (n.log2 + 1) st false (ts ++ List.replicate (n - ts.length) .zero)

/-- The INT32 addition (R212). -/
def addInt32 (a : Int × Bool) (t : Int) : Int × Bool :=
  let x := a.1 + t
  if x < -(2 ^ 31 : Int) then (-(2 ^ 31 : Int), true)
  else if (2 ^ 31 - 1 : Int) < x then ((2 ^ 31 - 1 : Int), true) else (x, a.2)

def intLevel : List Int → List Int × Bool
  | a :: b :: rest =>
    let x := addInt32 (a, false) b
    let r := intLevel rest
    (x.1 :: r.1, x.2 || r.2)
  | l => (l, false)

def intLoop : Nat → Bool → List Int → Int × Bool
  | 0, sat, l => (l.headD 0, sat)
  | k + 1, sat, l =>
    match l with
    | [] => (0, sat)
    | [x] => (x, sat)
    | l => let r := intLevel l; intLoop k (sat || r.2) r.1

/-- Integer accumulation in either order (R210 to R212). -/
def sumInt (tree : Bool) (ts : List Int) : Int × Bool :=
  if tree then
    let n := pow2Up ts.length
    intLoop (n.log2 + 1) false (ts ++ List.replicate (n - ts.length) 0)
  else ts.foldl addInt32 (0, false)

/-! ### Matrix paths (Table 6.5) -/

/-- How a computation runs: order, stochastic seed if any, dom and col of R217. -/
structure How where
  tree : Bool
  seed : Option Nat
  dom : Nat
  col : Nat
deriving DecidableEq, Repr

/-- An activation: in a format of its own, or plain values. -/
structure Act where
  fmt : Nat
  mx : Bool
  /-- Packed elements (and scales), when the activation came in this format. -/
  raw : List Byte
  vals : List Val
deriving DecidableEq, Repr

/-- The terms of a dot product of length K: exact or FP32-rounded reals, or integers; and SAT of the conversions. -/
inductive Terms where
  | real (ts : List Val) (sat : Bool)
  | int (ts : List Int) (sat : Bool)
deriving DecidableEq, Repr

/-- Values of an MX block: all NaN under the scale 0xFF or with one NaN element (R204). -/
def blockVals (sc : Nat) (vs : List Val) : List Val :=
  if sc = 0xFF || vs.any (fun v => match v with | .nan => true | _ => false) then vs.map (fun _ => .nan)
  else vs.map (fun v => v.scale2 ((sc : Int) - 127))

/-- Plain values of a packed array of n elements, scales applied when MX (R204). -/
def arrayVals (fmt : Nat) (mx : Bool) (n : Nat) (bs : List Byte) : List Val :=
  if mx then (List.range (n / 32)).flatMap (fun j =>
    blockVals (field bs (elemBytes fmt n + j) 1) ((List.range 32).map (fun i => mxElem fmt (elemAt fmt bs (32 * j + i)))))
  else (List.range n).map (fun i => decodeElem fmt (elemAt fmt bs i))

/-- A list cut into consecutive pieces of n. -/
def pieces {α : Type} (n : Nat) : Nat → List α → List (List α)
  | 0, _ => []
  | k + 1, l => l.take n :: pieces n k (l.drop n)

/-- Sums of 128-element chunks (R208). -/
def chunkSums (l : List Int) : List Int := (pieces 128 (cdiv l.length 128) l).map (fun c => c.foldl (· + ·) 0)

def Val.toInt : Val → Int
  | .fin n m e => let x : Int := ((m * 2 ^ e.toNat / 2 ^ (-e).toNat : Nat)); if n then -x else x
  | _ => 0

/-- The terms of Table 6.5 for weights W (format, MX, K elements packed) and an activation. `sa` is s_a, `tin` is τ_in. An
activation is used as it stands when it has the format of W (R208); in a re-rank, a query when it has the activation format of
the stored one, INT8 for UINT8 (R209). -/
def terms (rerank : Bool) (wfmt : Nat) (wmx : Bool) (k : Nat) (w : List Byte) (a : Act) (sa tin : Val) : Terms :=
  if wmx then
    let blks := List.range (k / 32)
    if a.fmt = wfmt && a.mx then
      let ts := blks.map (fun j => fl (blockTerm wfmt (blockAt wfmt k w j) (blockAt wfmt k a.raw j)))
      .real (ts.map (·.1)) (ts.any (·.2))
    else
      let bs := (pieces 32 (k / 32) a.vals).map (toBlock wfmt)
      let ts := List.zipWith (fun j (b : Nat × List Nat × Bool) =>
        fl (blockTerm wfmt (blockAt wfmt k w j) { scale := b.1, elems := b.2.1 })) blks bs
      .real (ts.map (·.1)) (ts.any (·.2) || bs.any (·.2.2))
  else
    let ws := (List.range k).map (fun i => decodeElem wfmt (elemAt wfmt w i))
    match wfmt with
    | 0xF | 0x7 =>
      let cs := a.vals.map fl
      let ts := List.zipWith (fun x (y : Val × Bool) => fl (x.mul y.1)) ws cs
      .real (ts.map (·.1)) (ts.any (·.2) || cs.any (·.2))
    | 0xE | 0xD =>
      let f := (floatFmt wfmt).getD fp32
      let cs := a.vals.map (fun v => f.conv .rne v)
      .real (List.zipWith (fun x (y : Nat × Bool) => x.mul (f.decode y.1)) ws cs) (cs.any (·.2))
    | 0x0 =>
      let ab := a.vals.map (fun v => if Val.zero.lt v then (1 : Int) else -1)
      .int (chunkSums (List.zipWith (fun x y => x.toInt * y) ws ab)) false
    | 0x1 =>
      let ab := a.vals.map (fun v => if tin.lt v then (1 : Int) else if v.lt tin.neg then -1 else 0)
      .int (chunkSums (List.zipWith (fun x y => x.toInt * y) ws ab)) false
    | _ =>
      -- plain INT4, INT8, INT16, and UINT8, whose activation is converted to INT8
      let afmt := if wfmt = 4 then 3 else wfmt
      let b := fmtBits afmt
      let as := if a.fmt = (if rerank then afmt else wfmt) && !a.mx then a.vals.map (fun v => (v.toInt, false))
                else a.vals.map (fun v => convInt (-(2 ^ (b - 1) : Nat)) ((2 ^ (b - 1) : Nat) - 1) v sa)
      let ps := List.zipWith (fun x (y : Int × Bool) => x.toInt * y.1) ws as
      .int (if wfmt = 2 then chunkSums ps else ps) (as.any (·.2))

/-- Cut a list at fixed lengths. -/
def cutParts {α : Type} : List Nat → List α → List (List α)
  | [], _ => []
  | n :: ns, l => l.take n :: cutParts ns (l.drop n)

/-- How many terms each of P parts takes: chunks ⌊p c / P⌋ to ⌊(p + 1) c / P⌋ − 1, each of `per` terms (R222). -/
def partSizes (total c per p : Nat) : List Nat :=
  (List.range p).map (fun i => min total ((i + 1) * c / p * per) - min total (i * c / p * per))

/-- The result of a computation: FP32 value and SAT / LONGK in the layout of Table 3.8. -/
structure Res where
  v : Val
  flags : Nat
deriving DecidableEq, Repr

/-- Two FP32 operations in a row, collecting SAT. -/
def mulFl (a : Val × Bool) (s : Val) : Val × Bool := let r := fl (a.1.mul s); (r.1, a.2 || r.2)

/-- LONGK: beyond 2¹⁶ elements in SEQ, 2²⁰ in TREE (R221). -/
def longK (tree : Bool) (k : Nat) : Bool := decide ((if tree then 2 ^ 20 else 2 ^ 16) < k)

/-- A dot product: terms, accumulation, split partials and result z (R208, R210 to R212, R222). -/
def dot (rerank : Bool) (wfmt : Nat) (wmx : Bool) (k : Nat) (w : List Byte) (a : Act) (sw sa tin : Val) (split : Nat) (h : How) : Res :=
  let c := cdiv k 128
  let lk := b2n (longK h.tree k) * 2
  match terms rerank wfmt wmx k w a sa tin with
  | .real ts sat =>
    let per := if wmx then 4 else 128
    let parts := cutParts (partSizes ts.length c per split) ts
    let accs := (List.range split).map (fun p =>
      let st := h.seed.map (fun s => stochInit s h.dom p h.col)
      if h.tree then sumTree st (parts.getD p []) else sumSeq st (parts.getD p []))
    let z := match accs with
      | [] => ((.zero, false) : Val × Bool)
      | x :: xs => xs.foldl (fun (a : Val × Bool) (y : Acc) => let r := fl (a.1.add y.v); (r.1, a.2 || r.2)) (x.v, false)
    { v := z.1, flags := b2n (sat || z.2 || accs.any (·.sat)) + lk }
  | .int ts sat =>
    let per := if wfmt = 0 || wfmt = 1 || wfmt = 2 then 1 else 128
    let parts := cutParts (partSizes ts.length c per split) ts
    let accs := parts.map (sumInt h.tree)
    let z := match accs with
      | [] => ((0, false) : Int × Bool)
      | x :: xs => xs.foldl (fun (a : Int × Bool) (y : Int × Bool) => addInt32 a y.1) x
    let r := mulFl (fl (Val.ofInt z.1)) sw
    let r := if wfmt = 0 || wfmt = 1 then r else mulFl r sa
    { v := r.1, flags := b2n (sat || z.2 || accs.any (·.2) || r.2) + lk }

/-- FP32 bits of a value that is already FP32. -/
def Val.bits32 (v : Val) : Nat := (fp32.conv .rne v).1

/-! ### Re-rank (R45, R209) -/

/-- A query's vector and its modes (Table 3.4). -/
structure Query where
  fmt : Nat
  mx : Bool
  dim : Nat
  raw : List Byte
  sq : Nat
  tree : Bool
  /-- SEED when SROUND is set. -/
  seed : Option Nat
deriving DecidableEq, Repr

def Query.act (q : Query) : Act := { fmt := q.fmt, mx := q.mx, raw := q.raw, vals := arrayVals q.fmt q.mx q.dim q.raw }

/-- dot(x, x) on the path of x, as n_x: SEQ, no stochastic rounding, no split (R45, R209). The activation is x itself. -/
def norm (fmt : Nat) (mx : Bool) (d : Nat) (x : List Byte) (sx : Val) (h : How) : Res :=
  dot false fmt mx d x { fmt := fmt, mx := mx, raw := x, vals := arrayVals fmt mx d x } sx sx .zero 1 h

/-- dot(q, q) under the query's order mode and seed, on the path of the stored format: the query converted as activation and
taken as both operands (R45, R209). -/
def queryNorm (fmt : Nat) (mx : Bool) (q : Query) : Res :=
  let h : How := { tree := q.tree, seed := q.seed, dom := 0x81, col := 0 }
  let one : Val := .fin false 1 0
  if q.fmt = fmt && q.mx = mx then dot false fmt mx q.dim q.raw q.act one one .zero 1 h
  else if mx then
    let bs := (pieces 32 (q.dim / 32) q.act.vals).map (toBlock fmt)
    let ts := bs.map (fun b => fl (blockTerm fmt ⟨b.1, b.2.1⟩ ⟨b.1, b.2.1⟩))
    let st := q.seed.map (fun s => stochInit s 0x81 0 0)
    let a := if q.tree then sumTree st (ts.map (·.1)) else sumSeq st (ts.map (·.1))
    { v := a.v, flags := b2n (a.sat || ts.any (·.2) || bs.any (·.2.2)) + b2n (longK q.tree q.dim) * 2 }
  else
    let f := (floatFmt fmt).getD fp32
    let cs := q.act.vals.map (fun v => f.conv .rne v)
    let ts := cs.map (fun c => let v := f.decode c.1; if fmt = 0xF then (fl (v.mul v)) else (v.mul v, false))
    let st := q.seed.map (fun s => stochInit s 0x81 0 0)
    let a := if q.tree then sumTree st (ts.map (·.1)) else sumSeq st (ts.map (·.1))
    { v := a.v, flags := b2n (a.sat || ts.any (·.2) || cs.any (·.2)) + b2n (longK q.tree q.dim) * 2 }

/-- Offset of NORM in a re-rank record (Table 2.12). -/
def normOff (fmt : Nat) (mx : Bool) (d : Nat) : Nat := arrayBytes fmt mx d

/-- The score of one stored vector at a column (R45, R224): FP32 bits and flags. -/
def score (fmt : Nat) (mx : Bool) (d scale : Nat) (l2 : Bool) (q : Query) (rec : List Byte) (col : Nat) : Nat × Nat :=
  let h : How := { tree := q.tree, seed := q.seed, dom := 0x80, col := col }
  let z := dot true fmt mx d rec q.act (fp32.decode scale) (fp32.decode q.sq) .zero 1 h
  if l2 then
    let nx := fp32.decode (field rec (normOff fmt mx d) 4)
    let nq := queryNorm fmt mx q
    let t := fl (z.v.scale2 1)
    let u := fl (nx.add t.1.neg)
    let w := fl (u.1.add nq.v)
    (w.1.bits32, z.flags ||| nq.flags ||| b2n (t.2 || u.2 || w.2))
  else (z.v.bits32, z.flags)

/-! ### The output stage and encoder execution (R225 to R228) -/

/-- Fraction bits of the fixed-point exponential. -/
def expBits : Nat := 320

/-- e^(−y) for y = n / 2^320 ≥ 0, as a fixed-point number of 320 fraction bits: the series at y / 256, squared eight times. -/
def expFix (n : Nat) : Nat :=
  let one : Nat := 2 ^ expBits
  let r := n / 256
  let s := (List.range 64).foldl (fun (a : Int × Int) (k : Nat) =>
    let t := -(a.2 * (r : Int)) / ((one : Int) * ((k : Int) + 1))
    (a.1 + t, t)) ((one : Int), (one : Int))
  (List.range 8).foldl (fun (x : Nat) _ => x * x / one) s.1.toNat

/-- exp correctly rounded to FP32, for arguments at most zero, −∞ and NaN (R225). -/
def exp32 (v : Val) : Val :=
  match v with
  | .nan => .nan
  | .inf true => .zero
  | .inf false => .inf false
  | .fin _ 0 _ => .fin false 1 0
  | .fin _ m e =>
    let n := m * 2 ^ (e + expBits).toNat / 2 ^ (-(e + expBits)).toNat
    if 104 * 2 ^ expBits < n then .zero
    else fp32.decode (fp32.round .rne (expFix n) 1 (-(expBits : Int))).1

/-- diff of R225. -/
def diff (x y : Val) : Val := if x.eqv y then .zero else (fl (x.add y.neg)).1

def maxVal (a b : Val) : Val :=
  match a, b with
  | .nan, _ => .nan
  | _, .nan => .nan
  | a, b => if a.lt b then b else a

/-- The running pair (m, S) of R225 after all tiles of 128 columns. -/
def smaxPair (vs : List Val) : Val × Val :=
  (pieces 128 (cdiv vs.length 128) vs).foldl (fun st t =>
    let mt := t.foldl maxVal (.inf true)
    let stile := t.foldl (fun a v => (fl (a.add (exp32 (diff v mt)))).1) Val.zero
    let m2 := maxVal st.1 mt
    let s2 := (fl ((fl (st.2.mul (exp32 (diff st.1 m2)))).1.add (fl (stile.mul (exp32 (diff mt m2)))).1)).1
    (m2, s2)) (.inf true, .zero)

/-- Quotient of two FP32 values, rounded once (R203). -/
def divFl (a b : Val) : Val × Bool :=
  match a, b with
  | .nan, _ => (.nan, false)
  | _, .nan => (.nan, false)
  | .inf _, .inf _ => (.nan, false)
  | .inf n, .fin m _ _ => (.inf (n != m), false)
  | .fin n _ _, .inf m => (.fin (n != m) 0 0, false)
  | .fin n ma ea, .fin m mb eb =>
    if mb = 0 then (if ma = 0 then .nan else .inf (n != m), false)
    else
      let r := fp32.round .rne ma mb (ea - eb)
      (fp32.decode (b2n (n != m) * 2 ^ 31 + r.1), r.2)

/-- A layer record (Table 6.8). -/
structure Layer where
  act : Nat
  wfmt : Nat
  wmx : Bool
  ofmt : Nat
  din : Nat
  dout : Nat
  split : Nat
  woff : Nat
  wstride : Nat
  boff : Nat
  sw : Nat
  sa : Nat
  tin : Nat
  tout : Nat
deriving DecidableEq, Repr

def Layer.parse (r : List Byte) : Layer :=
  { act := field r 1 1, wfmt := field r 2 1 % 16, wmx := bit (field r 2 1) 4, ofmt := field r 3 1 % 16, din := field r 4 4,
    dout := field r 8 4, split := field r 12 1, woff := field r 16 4, wstride := field r 20 4, boff := field r 24 4,
    sw := field r 28 4, sa := field r 32 4, tin := field r 36 4, tout := field r 40 4 }

/-- One layer (R227): the output values before conversion and the flags. `rd off n` reads the image. -/
def Layer.outputs (l : Layer) (rd : Nat → Nat → List Byte) (a : Act) (tree : Bool) (seed : Option Nat) (dom : Nat) :
    List Val × Nat :=
  let ys := (List.range l.dout).map (fun o =>
    let z := dot false l.wfmt l.wmx l.din (rd (l.woff + o * l.wstride) l.wstride) a (fp32.decode l.sw) (fp32.decode l.sa)
      (fp32.decode l.tin) l.split { tree := tree, seed := seed, dom := dom, col := o }
    if l.boff = 0 then z
    else
      let y := fl (z.v.add (fp32.decode (leNat (rd (l.boff + 4 * o) 4))))
      { v := y.1, flags := z.flags ||| b2n y.2 })
  let fl0 := ys.foldl (fun f r => f ||| r.flags) 0
  let vs := ys.map (·.v)
  match l.act with
  | 1 => (vs.map (fun v => match v with
      | .nan => .nan
      | v => if Val.zero.lt v then v else .zero), fl0)
  | 2 =>
    let p := smaxPair vs
    let qs := vs.map (fun v => match p.1 with
      | .nan => ((.nan, false) : Val × Bool)
      | _ => divFl (exp32 (diff v p.1)) p.2)
    (qs.map (·.1), fl0 ||| b2n (qs.any (·.2)))
  | _ => (vs, fl0)

/-- Convert a layer's outputs to OFMT: the next activation and SAT (R227). -/
def Layer.convert (l : Layer) (vs : List Val) : Act × Nat :=
  let cs := vs.map (fun v => if l.ofmt = 7 then toLog8 v else match floatFmt l.ofmt with
    | some f => f.conv .rne v
    | none => (0, false))
  ({ fmt := l.ofmt, mx := false, raw := [], vals := cs.map (fun c => decodeElem l.ofmt c.1) }, b2n (cs.any (·.2)))

/-- The bits of a list as bytes, bit j in byte j / 8 (R60). -/
def packBits (l : List Bool) : List Byte :=
  (pieces 8 (cdiv l.length 8) l).map (fun p => BitVec.ofNat 8 ((p.zipIdx).foldl (fun a b => a + b2n b.1 * 2 ^ b.2) 0))

/-- The code of the last layer (B1OUT, T2OUT), in the plane layout of R60. -/
def Layer.code (l : Layer) (vs : List Val) : List Byte :=
  if l.act = 3 then packBits (vs.map (fun v => Val.zero.lt v))
  else
    let t := fp32.decode l.tout
    packBits (vs.map (fun v => t.lt v || v.lt t.neg)) ++ packBits (vs.map (fun v => v.lt t.neg))

/-- Run the layers from number `n` (1 is the first) (R227, R228). -/
def runLayers (rd : Nat → Nat → List Byte) (tree : Bool) (seed : Option Nat) : List Layer → Nat → Act → Nat → List Byte × Nat
  | [], _, _, f => ([], f)
  | [l], n, a, f => let o := l.outputs rd a tree seed n; (l.code o.1, f ||| o.2)
  | l :: l2 :: ls, n, a, f =>
    let o := l.outputs rd a tree seed n
    let c := l.convert o.1
    runLayers rd tree seed (l2 :: ls) (n + 1) c.1 (f ||| o.2 ||| c.2)

/-- ENC (R227): the code of a vector under an image, and SAT / LONGK. -/
def encode (rd : Nat → Nat → List Byte) (layeroff nlayer infmt din : Nat) (vec : List Byte) (tree : Bool) (seed : Option Nat) :
    List Byte × Nat :=
  let ls := (List.range nlayer).map (fun i => Layer.parse (rd (layeroff + 64 * i) 64))
  runLayers rd tree seed ls 1 { fmt := infmt, mx := false, raw := vec, vals := arrayVals infmt false din vec } 0

/-- Rate r of a weight format (Table 6.4). -/
def rate : Nat → Nat
  | 0xF => 256 | 0xE => 1024 | 0xD => 1024 | 0x5 => 1024 | 0x7 => 1024
  | 0x2 => 4096 | 0x8 => 4096 | 0x1 => 8192 | 0x0 => 16384 | _ => 2048

/-- ENCSTEPS of an image's layers (R229). -/
def encSteps (ls : List Layer) : Nat :=
  ls.foldl (fun a l => a + 1 + cdiv (l.dout * cdiv l.din 128) (rate l.wfmt * l.split) + b2n (decide (1 < l.split))
    + b2n (l.act == 2)) 0

end Sys2Proof.Machine.Numeric
end

