-- ==== Sys2Proof/Machine/Search.lean ====
section
/-! DEFINITION. Machine/Search.lean: what a search computes (chapter 1), as functions of the state. The stages of a query,
whether run whole or step by step, call these and nothing else. -/

namespace Sys2Proof.Machine

/-! ### Distances (R16, R18) -/

def popByte (b : Byte) : Nat := popcount b.toNat 8

def popBytes (l : List Byte) : Nat := l.foldl (fun a b => a + popByte b) 0

/-- Distance between two codes of S bytes; a T2 code is its P plane and then its S plane (R60). -/
def codeDist (t2 : Bool) (q c : List Byte) : Nat :=
  if t2 then
    let h := q.length / 2
    let pq := q.take h
    let pc := c.take h
    let sq := q.drop h
    let sc := c.drop h
    popBytes (List.zipWith (· ^^^ ·) pq pc)
      + 2 * popBytes (List.zipWith (· &&& ·) (List.zipWith (· &&& ·) pq pc) (List.zipWith (· ^^^ ·) sq sc))
  else popBytes (List.zipWith (· ^^^ ·) q c)

/-- Is an item eligible in a view (R23, R70, R250)? -/
def State.eligible (s : State) (i : Index) (v : View) (x : Nat) : Bool :=
  decide (x < v.vlimit) && !bit v.tmask (s.tagOf i x) && s.allowed v.filter x

/-- The filter, tombstone and ID lines of a local index, as word numbers (R250, R251). An item beyond the grains of a filter has
its line fetched too, as long as the line lies in a granule of the filter (log entry 9). -/
def View.lines (v : View) (i : Index) (x : Nat) : List Nat :=
  (match v.filter with
    | some f => if 8 * (x / 64) / 2 ^ 21 ≤ (8 * f.grains - 1) / 2 ^ 21 then [(f.base + 8 * (x / 64)) / 64] else []
    | none => []) ++ [(i.tomb + x / 2) / 64, (i.idtab + 8 * x) / 64]

/-- Is a word in stacked memory? Lines of the pool never reach a pseudo-channel (R266). -/
def isStacked (w : Nat) : Bool := decide (64 * w < stackedEnd)

/-! ### BKT -/

/-- Centroid code of a bucket. -/
def State.centroid (s : State) (i : Index) (c : Nat) : List Byte := s.bytes (i.cents + c * i.s) i.s

/-- Buckets in ascending order of (distance, number) (R29). -/
def State.ranked (s : State) (i : Index) (code : List Byte) : List (Nat × Nat) :=
  sortBy (fun a b => a.1 < b.1 || (a.1 == b.1 && decide (a.2 ≤ b.2)))
    ((List.range i.buckets).map (fun c => (codeDist i.t2 code (s.centroid i c), c)))

/-- The probed buckets of a query (R29). -/
def State.probed (s : State) (i : Index) (code : List Byte) (nprobe : Nat) : List Nat :=
  ((s.ranked i code).take (min nprobe i.buckets)).map (·.2)

/-- Default bucket of an item: the least (distance, number) (R28). -/
def State.nearest (s : State) (i : Index) (code : List Byte) : Nat := ((s.ranked i code).map (·.2)).headD 0

/-- Does the header of a code bushel pass the check of R250? -/
def State.scanHeader (s : State) (i : Index) (a bucket : Nat) : Bool :=
  s.num a 1 == 1 && s.num (a + 1) 1 == i.s && s.num (a + 12) 4 == i.ixtag && s.num (a + 4) 2 == bucket
    && decide (s.num (a + 2) 2 ≤ slotCap i.s)

/-- Ascending (distance, local index), as the engine and the survivor collector order (R250, R255). -/
def Cand.leLidx (a b : Cand) : Bool := a.dist < b.dist || (a.dist == b.dist && decide (a.lidx ≤ b.lidx))

/-- Ascending (distance, external ID), as candidate lists order (R31). -/
def Cand.leExt (a b : Cand) : Bool := a.dist < b.dist || (a.dist == b.dist && decide (a.ext ≤ b.ext))

/-- Keep the first n after inserting (R250: "if top exceeds 32, drop its last entry"). -/
def keep (n : Nat) (le : Cand → Cand → Bool) (x : Cand) (l : List Cand) : List Cand := (insertBy le x l).take n

/-- One slot of a bushel: (local index, code). -/
def State.slot (s : State) (i : Index) (a n : Nat) : Nat × List Byte :=
  (s.num (a + 64 + 4 * n) 4, s.bytes (a + 64 + lidxLen i.s + i.s * n) i.s)

/-- The survivors of one code bushel: up to 32 entries (R250). -/
def State.scanBushel (s : State) (i : Index) (v : View) (code : List Byte) (a : Nat) : List Cand :=
  (List.range (s.num (a + 2) 2)).foldl (fun top n =>
    let (x, c) := s.slot i a n
    if s.eligible i v x then keep 32 Cand.leLidx { dist := codeDist i.t2 code c, lidx := x, ext := s.extOf i x } top
    else top) []

/-- Words a SCAN request uses (R252): header, LIDX words of slots below COUNT, CODE words of slots it compares, and the
lines of slots below VLIMIT. -/
def State.scanUses (s : State) (i : Index) (v : View) (a : Nat) : List Nat :=
  let n := min (s.num (a + 2) 2) (slotCap i.s)
  let slots := List.range n
  dedup (wordsOf a 64 ++ wordsOf (a + 64) (4 * n)
    ++ slots.flatMap (fun k => if s.eligible i v (s.slot i a k).1 then wordsOf (a + 64 + lidxLen i.s + i.s * k) i.s else [])
    ++ slots.flatMap (fun k => let x := (s.slot i a k).1; if x < v.vlimit then v.lines i x else []))

/-- Addresses of a bucket's bushels, in list order (R63). -/
def State.bucketBushels (s : State) (i : Index) (c : Nat) : List Nat :=
  (List.range (i.bucket c).nbushel).map (fun p => i.bushel (s.listEntry i c p))

/-- Bucket-list lines a probe of the bucket needs (R653), as word numbers. -/
def Index.listLines (i : Index) (c : Nat) : List Nat := wordsOf (i.listBase c) (4 * (i.bucket c).nbushel)

/-- Merge a returned list into a bucket's survivors: the first 32 by (distance, local index) (R255). -/
def collect (have_ new : List Cand) : List Cand := new.foldl (fun l x => keep 32 Cand.leLidx x l) have_

/-- The bucket survivors of R30. -/
def State.survivors (s : State) (i : Index) (v : View) (code : List Byte) (c : Nat) : List Cand :=
  (s.bucketBushels i c).foldl (fun l a => collect l (s.scanBushel i v code a)) []

/-- The candidate list from the survivors of all probed buckets (R31): first n by (distance, external ID). -/
def candidates (n : Nat) (lists : List (List Cand)) : List Cand := (sortBy Cand.leExt lists.flatten).take n

/-! ### CHN (R33) -/

/-- Header check of a chain bushel (R253). -/
def State.hopHeader (s : State) (i : Index) (a node : Nat) : Bool :=
  s.num a 1 == 2 && s.num (a + 1) 1 == i.s && s.num (a + 8) 4 == i.ixtag && s.num (a + 4) 4 == node
    && decide (s.num (a + 2) 2 ≤ slotCap i.s)

/-- Everything a HOP request returns (R253). -/
def State.hopRead (s : State) (i : Index) (v : View) (code : List Byte) (a : Nat) : List Nbr :=
  (List.range (min (s.num (a + 2) 2) (slotCap i.s))).map (fun n =>
    let (x, c) := s.slot i a n
    { dist := codeDist i.t2 code c, node := x, ext := s.extOf i x, eligible := s.eligible i v x })

/-- Words a HOP request uses (R252, R253). -/
def State.hopUses (s : State) (i : Index) (v : View) (a : Nat) : List Nat :=
  let n := min (s.num (a + 2) 2) (slotCap i.s)
  dedup (wordsOf a 64 ++ wordsOf (a + 64) (4 * n) ++ wordsOf (a + 64 + lidxLen i.s) (i.s * n)
    ++ (List.range n).flatMap (fun k => v.lines i (s.slot i a k).1))

/-- Entry node n (Table 2.7). -/
def State.entryNode (s : State) (i : Index) (v : View) (code : List Byte) (n : Nat) : Nbr :=
  let a := i.entries + 256 * n
  let x := s.num a 4
  { dist := codeDist i.t2 code (s.bytes (a + 64) i.s), node := x, ext := s.extOf i x, eligible := s.eligible i v x }

/-- `visit` of R33. The beam holds (distance, node, expanded) ascending by (distance, node). -/
def visit (w : Nat) (k : Walk) (m : Nbr) : Walk :=
  let le := fun (a b : Nat × Nat × Bool) => a.1 < b.1 || (a.1 == b.1 && decide (a.2.1 ≤ b.2.1))
  { k with visited := m.node :: k.visited
           beam := (insertBy le (m.dist, m.node, false) k.beam).take w
           res := if m.eligible then keep w Cand.leExt { dist := m.dist, lidx := m.node, ext := m.ext } k.res else k.res }

/-- The entry stage: ascending local index. -/
def State.walkEntry (s : State) (i : Index) (v : View) (code : List Byte) (w : Nat) : Walk :=
  let ns := (List.range i.nentry).map (s.entryNode i v code)
  (sortBy (fun a b => decide (a.node ≤ b.node)) ns).foldl (visit w) {}

/-- The node the next hop expands: the first of the beam not yet expanded. -/
def Walk.next (k : Walk) : Option Nat := (k.beam.find? (fun b => !b.2.2)).map (·.2.1)

/-- Mark a node expanded. -/
def Walk.mark (k : Walk) (n : Nat) : Walk :=
  { k with beam := k.beam.map (fun b => if b.2.1 = n then (b.1, b.2.1, true) else b) }

/-- What a hop does with the neighbours read for node n. -/
def Walk.expand (w : Nat) (k : Walk) (n : Nat) (ms : List Nbr) : Walk :=
  let k := ms.foldl (fun k m => if k.visited.contains m.node then k else visit w k m) (k.mark n)
  { k with hops := k.hops + 1 }

/-- The hops of R33, at most `fathom`. -/
def State.walkHops (s : State) (i : Index) (v : View) (code : List Byte) (w : Nat) : Nat → Walk → Walk
  | 0, k => k
  | f + 1, k =>
    match k.next with
    | none => k
    | some n => s.walkHops i v code w f (k.expand w n (s.hopRead i v code (i.bushel n)))

/-! ### Re-rank and order (R45 to R48) -/

/-- Order key of an FP32 score: +0 and −0 equal, NaN after everything (R46). -/
def scoreKey (m : Metric) (b : Nat) : Bool × Int :=
  let e := bits b 30 23
  let f := bits b 22 0
  if e = 255 && f != 0 then (true, 0)
  else
    let mag : Int := (bits b 30 0 : Nat)
    let v : Int := if bit b 31 then -mag else mag
    (false, match m with | .dot => -v | .l2sq => v)

/-- The total order of R48 on entries, by a key of the value. -/
def entryLe (key : Nat → Bool × Int) (a b : Entry) : Bool :=
  let ka := key a.value
  let kb := key b.value
  if ka ≠ kb then (!ka.1 && kb.1) || (ka.1 == kb.1 && decide (ka.2 < kb.2))
  else if a.ext ≠ b.ext then decide (a.ext < b.ext)
  else decide (a.shard ≤ b.shard)

/-- The value key of a query: distances ascend, scores as the metric ranks them. -/
def valueKey (rerank : Bool) (m : Metric) (v : Nat) : Bool × Int := if rerank then scoreKey m v else (false, (v : Nat))

/-- The first k of a list in the order of R48. -/
def firstK (k : Nat) (key : Nat → Bool × Int) (l : List Entry) : List Entry := (sortBy (entryLe key) l).take k

/-- Address of the re-rank record of a local index (R76). -/
def Index.vecAddr (i : Index) (x : Nat) : Nat := i.vecs + x * i.stride

/-- The stored re-rank record of a local index, from stacked memory or its tun. -/
def State.vecBytes (s : State) (i : Index) (x : Nat) : List Byte := s.homeBytes i.vecTun (i.vecAddr x) i.stride

/-- Re-score a candidate list (R32, R45): its entries with their scores, and the flags. Columns go in ascending external
ID (R224). -/
def State.rescore (s : State) (i : Index) (q : Numeric.Query) (cs : List Cand) : List Entry × Nat :=
  let cols := sortBy (fun a b => decide (a.ext ≤ b.ext)) cs
  let rs := (cols.zipIdx).map (fun c =>
    (c.1, Numeric.score i.vfmt i.vmx i.dim i.scale (i.metric == .l2sq) q (s.vecBytes i c.1.lidx) c.2))
  (rs.map (fun r => { ext := r.1.ext, shard := i.myShard, value := r.2.1 }), rs.foldl (fun f r => f ||| r.2.2) 0)

/-- Words of the re-rank records of some candidates. -/
def Index.vecWords (i : Index) (cs : List Cand) : List Nat :=
  dedup (cs.flatMap (fun c => wordsOf (i.vecAddr c.lidx) i.stride))

/-- The bytes of result entries (Table 3.9). -/
def Entry.bytes (e : Entry) : List Byte := leBytes 8 e.ext ++ leBytes 2 e.shard ++ leBytes 2 0 ++ leBytes 4 e.value

end Sys2Proof.Machine
end

