-- ==== Sys2Proof/Machine/Writes.lean ====
section
/-! DEFINITION. Machine/Writes.lean: what an insert, a delete and a publish read and write (R72 to R80, R139, R283), and the
entries their writes take in the write-combining buffer (R258, R259). -/

namespace Sys2Proof.Machine

/-! ### The write-combining buffer (R258 to R260) -/

/-- Nibble mask of bytes o to o + n − 1 of a word. -/
def nibbles (o n : Nat) : Nat := (2 ^ (2 * n) - 1) * 2 ^ (2 * o)

/-- Lay the covered nibbles of a new word over an old one. -/
def mergeNibbles (mask : Nat) (old new : List Byte) : List Byte :=
  (List.range 64).map (fun k => ({ mask := mask, data := new, first := 0, rood := none } : WcbEntry).over k (old.getD k 0))

/-- A write of some nibbles of a stacked word enters the buffer, or merges into its entry: a later write to the same nibble wins
(R258, R259, R260). -/
def State.touchWord (s : State) (w mask : Nat) (data : List Byte) (rood : Option Nat) : State :=
  match Tab.find s.wcb w with
  | some e =>
    { s with wcb := Tab.insert s.wcb w { e with mask := e.mask ||| mask, data := mergeNibbles mask e.data data,
                                                rewritten := e.rewritten || e.drain != 0,
                                                first := if e.drain != 0 && !e.rewritten then s.now else e.first } }
  | none =>
    { s with wcb := Tab.insert s.wcb w { mask := mask, data := mergeNibbles mask (List.replicate 64 0) data,
                                         keySlot := s.keySlotAt (64 * w), first := s.now, rood := rood } }

/-- A committed write of bytes to device memory: stacked words pass through the buffer, pool bytes do not. -/
def State.wput (s : State) (rood : Option Nat) (a : Nat) (bs : List Byte) : State :=
  if a < stackedEnd then
    forAll (wordsOf a bs.length) (fun w s =>
      let lo := max a (64 * w)
      let hi := min (a + bs.length) (64 * w + 64)
      s.touchWord w (nibbles (lo - 64 * w) (hi - lo))
        (List.replicate (lo - 64 * w) 0 ++ slice (bs.drop (lo - a)) 0 (hi - lo)) rood) s
  else s.setBytes a bs

/-- A committed tag write: exactly one nibble of one word (R258). -/
def State.wtag (s : State) (rood : Option Nat) (i : Index) (x t : Nat) : State :=
  let a := i.tomb + x / 2
  s.touchWord (a / 64) (2 ^ (2 * (a % 64) + x % 2))
    (List.replicate (a % 64) 0 ++ [BitVec.ofNat 8 (t % 16 * 17)]) rood

/-! ### Bushel allocation (R79) -/

/-- The lowest free bushel number on a member, if any. -/
def Index.freeOn (i : Index) (m : Nat) : Option Nat :=
  let b := m + i.chans.length * Tab.read i.used 0 m
  if b < i.nbush then some b else none

/-- Try members from m on, each once (R79, R82). -/
def Index.tryMembers (i : Index) : Nat → Nat → Option (Nat × Nat)
  | 0, _ => none
  | k + 1, m =>
    match i.freeOn m with
    | some b => some (m, b)
    | none => i.tryMembers k ((m + 1) % i.chans.length)

/-- The bushel a new list position of a bucket takes: member and number (R79). -/
def State.newBushel (s : State) (i : Index) (c : Nat) : Option (Nat × Nat) :=
  let n := (i.bucket c).nbushel
  let p := i.chans.length
  let m := if n = 0 then c % p else (s.listEntry i c (n - 1) % p + 1) % p
  i.tryMembers p m

/-- Address of the bucket's open bushel, if it has a free slot (R63). -/
def State.openBushel (s : State) (i : Index) (c : Nat) : Option Nat :=
  let n := (i.bucket c).nbushel
  if n = 0 then none
  else
    let a := i.bushel (s.listEntry i c (n - 1))
    if s.num (a + 2) 2 < slotCap i.s then some a else none

/-! ### Delta log (R73) -/

def logBytes (x bucket op : Nat) : List Byte := leBytes 4 x ++ leBytes 2 bucket ++ leBytes 1 op ++ leBytes 1 0

/-- Append to the open epoch's delta log. -/
def State.appendLog (s : State) (rood : Option Nat) (h x bucket op : Nat) : State :=
  match Tab.find s.indexes h with
  | none => s
  | some i =>
    match i.openRec with
    | none => s
    | some t =>
      let r := i.record t
      let s := s.wput rood (r.dlbase + 8 * r.dlcount) (logBytes x bucket op)
      s.setIndex h (i.setRecord t { r with dlcount := r.dlcount + 1 })

/-- LIMIT of the latest live epoch. -/
def Index.liveLimit (i : Index) : Nat := match i.latest with | some (t, _) => (i.record t).limit | none => 0

/-- The bucket that holds an item: the one with a slot of its local index (R28); zero in CHN, as the delta log takes it
(Table 2.11). -/
def State.itemBucket (s : State) (i : Index) (x : Nat) : Nat :=
  if i.chn then 0
  else ((List.range i.buckets).find? (fun c => (s.bucketBushels i c).any (fun a =>
    (List.range (s.num (a + 2) 2)).any (fun k => s.num (a + 64 + 4 * k) 4 == x)))).getD 0

/-- Tag an item that a delete or a replacement names, and log it (R73, R80). -/
def State.tagItem (s : State) (rood : Option Nat) (h x : Nat) : State :=
  match Tab.find s.indexes h with
  | none => s
  | some i =>
    match i.openRec with
    | none => s
    | some t =>
      let staged := decide (i.liveLimit ≤ x)
      let r := i.record t
      let s := s.wtag rood i x (if staged then 0xF else t + 1)
      let s := s.setIndex h (i.setRecord t { r with ndel := r.ndel + 1 })
      s.appendLog rood h x (s.itemBucket i x) (if staged then 3 else 2)

/-! ### PLACE: what a write reads to decide (R139, Table 8.3, R283) -/

/-- Words a directory lookup reads: the words it walked and the ID-table words it compared. -/
def State.lookupWords (s : State) (i : Index) (ext : Nat) : List Nat :=
  let l := s.idLookup i ext
  let ws := (List.range l.words).map (fun k => i.iddir / 64 + (idWord i.w ext + k) % 2 ^ i.w)
  dedup (ws ++ ws.flatMap (fun w => (List.range 8).filterMap (fun e =>
    let a := 64 * w + 8 * e
    if s.num a 4 = idPrint ext then some ((i.idtab + 8 * s.num (a + 4) 4) / 64) else none)))

/-- Words PLACE of an insert reads to decide: lookup words, the bucket's last list line and open header, the old item's tag. -/
def State.insertReads (s : State) (i : Index) (ext c : Nat) : List Nat :=
  let n := (i.bucket c).nbushel
  let old := match (s.idLookup i ext).found with | some x => [(i.tomb + x / 2) / 64] | none => []
  dedup (s.lookupWords i ext ++ old ++ (if n = 0 then [] else
    [(i.listBase c + 4 * (n - 1)) / 64, i.bushel (s.listEntry i c (n - 1)) / 64]))

/-- The words of a code that it fills only in part. -/
def Index.codeParts (i : Index) (a : Nat) : List Nat := if i.s % 64 = 0 then [] else wordsOf a i.s

/-- Words of a new bushel's slot 0, and the list-entry word that names the bushel (R78 step 1). -/
def State.newBushelWords (s : State) (i : Index) (c : Nat) : List Nat :=
  let n := (i.bucket c).nbushel
  match s.newBushel i c with
  | some (_, b) =>
    let a := i.bushel b
    wordsOf (a + 64) 4 ++ i.codeParts (a + 64 + lidxLen i.s) ++ [(i.listBase c + 4 * n) / 64]
  | none => []

/-- Words an insert will write only in part and does not need for its decision (R283): LIDX and CODE words of its slot, the list
entry of a new bushel, the ID-table word, and the delta-log words of its entries. A code that fills its words leaves none of
them partial. -/
def State.insertParts (s : State) (i : Index) (c logs : Nat) : List Nat :=
  match i.openRec with
  | none => []
  | some t =>
    let r := i.record t
    let x := r.limit
    let slot := match s.openBushel i c with
      | some a =>
        let n := s.num (a + 2) 2
        wordsOf (a + 64 + 4 * n) 4 ++ i.codeParts (a + 64 + lidxLen i.s + i.s * n)
      | none => s.newBushelWords i c
    dedup (slot ++ [(i.idtab + 8 * x) / 64] ++ wordsOf (r.dlbase + 8 * r.dlcount) (8 * logs))

/-- The first bad word of a list. -/
def State.firstBad (s : State) (ws : List Nat) : Option Nat := ws.find? s.bad

/-! ### Capacity (R38, R67, R73, R78, R79) -/

/-- Does an insert into bucket c fit, with `logs` entries to append? -/
def State.insertFits (s : State) (i : Index) (c logs : Nat) : Bool :=
  match i.openRec with
  | none => false
  | some t =>
    let r := i.record t
    decide (r.nins < 2 ^ 24) && decide (r.limit < i.nmax) && decide (r.dlcount + logs ≤ i.elog)
      && ((s.openBushel i c).isSome || (decide ((i.bucket c).nbushel < i.bmax) && (s.newBushel i c).isSome))

/-- Log entries an insert appends: two when it replaces an item that is not tagged yet. -/
def State.insertLogs (s : State) (i : Index) (ext : Nat) : Nat :=
  match (s.idLookup i ext).found with
  | some x => if s.tagOf i x = 0 then 2 else 1
  | none => 1

/-! ### COMMIT (R78, R80) -/

/-- The tile that the device computes for a vector of an L2SQ index: its NORM, and SAT and LONGK of its reduction (R45, R214). -/
def Index.normTile (i : Index) (vec : List Byte) : Nat × Nat :=
  if i.metric = .l2sq then
    let r := Numeric.norm i.vfmt i.vmx i.dim (slice vec 0 (Numeric.normOff i.vfmt i.vmx i.dim)) (Numeric.fp32.decode i.scale)
      { tree := false, seed := none, dom := 0, col := 0 }
    (r.v.bits32, r.flags)
  else (0, 0)

/-- The re-rank record of a vector: elements, scales, NORM for L2SQ, zero to the stride (Table 2.12). -/
def Index.vecRecord (i : Index) (vec : List Byte) : List Byte :=
  let body := slice vec 0 (Numeric.normOff i.vfmt i.vmx i.dim)
  slice (body ++ (if i.metric = .l2sq then leBytes 4 (i.normTile vec).1 else [])) 0 i.stride

/-- With list pinning, a line of a bucket list is pinned when its first entry comes into use, if its 64 B can be charged to the
tenant's pool quota (R463). -/
def State.pinLine (s : State) (h c p : Nat) : State :=
  match Tab.find s.indexes h with
  | none => s
  | some i =>
    match Tab.find s.tenants i.vf with
    | none => s
    | some t =>
      if i.pinLists && p % 16 == 0 && decide (t.poolUsed + 64 ≤ t.poolq * 2 ^ 16) then
        (s.setTenant i.vf { t with poolUsed := t.poolUsed + 64 }).setIndex h
          { i with pinned := i.pinned ++ [(i.listBase c + 4 * p) / 64], poolBytes := i.poolBytes + 64 }
      else s

/-- Take a bushel for bucket c: header with COUNT 0, list entry, NBUSHEL (R78 step 1). -/
def State.takeBushel (s : State) (rood : Option Nat) (h c : Nat) : State :=
  match Tab.find s.indexes h with
  | none => s
  | some i =>
    match s.newBushel i c with
    | none => s
    | some (m, b) =>
      let d := i.bucket c
      let hdr := leBytes 1 1 ++ leBytes 1 i.s ++ leBytes 2 0 ++ leBytes 2 c ++ leBytes 2 0 ++ leBytes 4 d.nbushel
        ++ leBytes 4 i.ixtag ++ List.replicate 48 0
      let s := s.wput rood (i.bushel b) hdr
      let s := s.wput rood (i.listBase c + 4 * d.nbushel) (leBytes 4 b)
      (s.setIndex h { i with dir := Tab.write i.dir {} c { d with nbushel := d.nbushel + 1 },
                             used := Tab.write i.used 0 m (Tab.read i.used 0 m + 1) }).pinLine h c d.nbushel

/-- Write the item into slot COUNT of the open bushel, then COUNT and NSLOT (R78 step 2). -/
def State.fillSlot (s : State) (rood : Option Nat) (h c x : Nat) (code : List Byte) : State :=
  match Tab.find s.indexes h with
  | none => s
  | some i =>
    match s.openBushel i c with
    | none => s
    | some a =>
      let n := s.num (a + 2) 2
      let d := i.bucket c
      let s := s.wput rood (a + 64 + 4 * n) (leBytes 4 x)
      let s := s.wput rood (a + 64 + lidxLen i.s + i.s * n) (slice code 0 i.s)
      let s := s.wput rood (a + 2) (leBytes 2 (n + 1))
      s.setIndex h { i with dir := Tab.write i.dir {} c { d with nslot := d.nslot + 1 } }

/-- An insert's writes (R78), and the local index and open epoch it committed with; none when it no longer fits. -/
def State.applyInsert (s : State) (rood : Option Nat) (h c ext : Nat) (code vec : List Byte) : Option (State × Nat × Nat) :=
  match Tab.find s.indexes h with
  | none => none
  | some i =>
    match i.openRec with
    | none => none
    | some t =>
      if s.insertFits i c (s.insertLogs i ext) then
        let x := (i.record t).limit
        let l := s.idLookup i ext
        let s := if (s.openBushel i c).isSome then s else s.takeBushel rood h c
        let s := s.fillSlot rood h c x code
        let s := s.wput rood (i.idtab + 8 * x) (leBytes 8 ext)
        let s := if i.rerank then
            (match i.vecTun with
              | some t => s.tunWrite false t (i.vecAddr x) (i.vecRecord vec)
              | none => s.wput rood (i.vecAddr x) (i.vecRecord vec))
          else s
        let s := s.wput rood l.at_ (leBytes 4 (idPrint ext) ++ leBytes 4 x)
        let s := match l.found with
          | some y => if s.tagOf i y = 0 then s.tagItem rood h y else s
          | none => s
        let s := s.appendLog rood h x c 1
        let s := s.onIndex h (fun i =>
          let r := i.record t
          i.setRecord t { r with limit := x + 1, nins := r.nins + 1 })
        some (s, x, (i.record t).epoch)
      else none

/-- A delete's writes (R80): AUX and the open epoch; none when its log entry does not fit. -/
def State.applyDelete (s : State) (rood : Option Nat) (h ext : Nat) : Option (State × Nat × Nat) :=
  match Tab.find s.indexes h with
  | none => none
  | some i =>
    match i.openRec with
    | none => none
    | some t =>
      let r := i.record t
      match (s.idLookup i ext).found with
      | none => some (s, 0xFFFFFFFF, r.epoch)
      | some x =>
        if s.tagOf i x != 0 then some (s, 0xFFFFFFFF, r.epoch)
        else if i.elog ≤ r.dlcount then none
        else some (s.tagItem rood h x, x, r.epoch)

/-! ### Publish (R41, R74, R75) -/

/-- The retiree a publish takes: the one already RETIRING, else none while a record is free, else the oldest live epoch that
is not the latest and not pinned. `none` in the outer option: every candidate is pinned, and the publish waits (R41). -/
def Index.chooseRetiree (i : Index) : Option (Option Nat) :=
  match i.retiree with
  | some r => some (some r.record)
  | none =>
    let live := (List.range 5).filter (fun t => (i.record t).st == .live)
    if live.length < 4 then some none
    else
      let latest := match i.latest with | some (t, _) => t | none => 5
      let cands := live.filter (fun t => t != latest && (i.record t).pins == 0)
      match sortBy (fun a b => decide ((i.record a).epoch ≤ (i.record b).epoch)) cands with
      | t :: _ => some (some t)
      | [] => none

/-- Mark the retiree RETIRING (R74 step 1). -/
def Index.retire (i : Index) (t : Nat) : Index :=
  match i.retiree with
  | some _ => i
  | none => { i.setRecord t { (i.record t) with st := .retiring } with retiree := some { record := t } }

/-- The tag a fold rewrites the retiree's tags to: the oldest LIVE epoch newer than it, or 0xF when it is the oldest live
epoch (R74 step 2). -/
def Index.foldTag (i : Index) (t : Nat) : Nat :=
  let x := i.record t
  let live := (List.range 5).filter (fun u => (i.record u).st == .live)
  let newer := sortBy (fun a b => decide ((i.record a).epoch ≤ (i.record b).epoch))
    (live.filter (fun u => decide (x.epoch < (i.record u).epoch)))
  if live.any (fun u => decide ((i.record u).epoch < x.epoch)) then
    match newer with
    | u :: _ => u + 1
    | [] => 0xF
  else 0xF

/-- Is entry n of a record's log a DELETE (Table 2.11)? -/
def State.logDeletes (s : State) (r : EpochRec) (n : Nat) : Bool := s.num (r.dlbase + 8 * n + 6) 1 == 2

/-- Entries of the retiree's log that the next fold step passes: up to and with the 64th DELETE entry (R261). -/
def State.foldSpan (s : State) (r : EpochRec) (from_ : Nat) : List Nat :=
  ((List.range (r.dlcount - from_)).foldl (fun (a : List Nat × Nat) k =>
    if 64 ≤ a.2 then a else (a.1 ++ [from_ + k], a.2 + b2n (s.logDeletes r (from_ + k)))) ([], 0)).1

/-- The tombstone words of the DELETE entries of a fold step, one an entry (R261). -/
def State.foldTombs (s : State) (i : Index) (r : EpochRec) (es : List Nat) : List Nat :=
  (es.filter (s.logDeletes r)).map (fun n => (i.tomb + s.num (r.dlbase + 8 * n) 4 / 2) / 64)

/-- Log entries, and tombstone words, of the next fold step of an index: the words it reads. -/
def State.foldReads (s : State) (h : Nat) : List Nat × List Nat :=
  match Tab.find s.indexes h with
  | none => ([], [])
  | some i =>
    match i.retiree with
    | none => ([], [])
    | some r =>
      let x := i.record r.record
      let es := s.foldSpan x r.folded
      (dedup (es.map (fun k => (x.dlbase + 8 * k) / 64)), s.foldTombs i x es)

/-- One entry of the retiree's log: a DELETE whose tag still holds the retiree's slot is rewritten (R74). A bad tombstone word is
rewritten untested (R286). -/
def State.foldEntry (s : State) (bad : Nat → Bool) (rood : Option Nat) (i : Index) (t n : Nat) : State :=
  let r := i.record t
  let x := s.num (r.dlbase + 8 * n) 4
  if s.logDeletes r n && (s.tagOf i x == t + 1 || bad ((i.tomb + x / 2) / 64)) then s.wtag rood i x (i.foldTag t) else s

/-- A step of the fold: up to 64 DELETE entries of the log, in log order. The state, whether the fold has ended, and a bad
delta-log word or the bad tombstone words met, as the reads of the step found them (R261, R283, R286). -/
def State.foldStep (s : State) (bad : Nat → Bool) (rood : Option Nat) (h : Nat) : State × Bool × Option Nat × List Nat :=
  match Tab.find s.indexes h with
  | none => (s, true, none, [])
  | some i =>
    match i.retiree with
    | none => (s, true, none, [])
    | some r =>
      let x := i.record r.record
      let es := s.foldSpan x r.folded
      match (es.map (fun k => (x.dlbase + 8 * k) / 64)).find? bad with
      | some w => (s, true, some w, [])
      | none =>
        let tombs := dedup ((s.foldTombs i x es).filter bad)
        let s := forAll es (fun k s => s.foldEntry bad rood i r.record k) s
        let s := s.onIndex h (fun i => { i with retiree := some { r with folded := r.folded + es.length } })
        (s, decide (x.dlcount ≤ r.folded + es.length), none, tombs)

/-- Steps 3 and 4 of R74: the open epoch becomes live, and a record opens for the next. Answers the epoch published and the
epoch retired. -/
def State.applyPublish (s : State) (h : Nat) : Option (State × Nat × Nat) :=
  match Tab.find s.indexes h with
  | none => none
  | some i =>
    match i.openRec with
    | none => none
    | some t =>
      let r := i.record t
      let gone := match i.retiree with | some x => (i.record x.record).epoch | none => 2 ^ 64 - 1
      let next := match i.retiree with
        | some x => some x.record
        | none => (List.range 5).find? (fun u => (i.record u).st == .free)
      let i := i.setRecord t { r with st := .live, pubtick := s.tick }
      let i := match next with
        | some u => i.setRecord u { st := .opened, epoch := r.epoch + 1, limit := r.limit, pins := 0, pubtick := 0, nins := 0,
                                    ndel := 0, dlbase := (i.record u).dlbase, dlcount := 0 }
        | none => i
      some (s.setIndex h { i with retiree := none }, r.epoch, gone)

end Sys2Proof.Machine
end

