-- ==== Sys2Proof/Machine/Descriptors.lean ====
section
/-! DEFINITION. Machine/Descriptors.lean: the descriptors of chapter 3 and the checks that decide their status at admission
(Tables 1.2, 1.4 and 3.10; R14, R19 to R22, R94 to R99, R108). -/

namespace Sys2Proof.Machine

/-! ### Fields of a query descriptor (Table 3.4) -/

namespace QueryDesc
def ctrl (d : List Byte) : Nat := field d 1 1
def hasVec (d : List Byte) : Bool := bit (ctrl d) 0
def hasCode (d : List Byte) : Bool := bit (ctrl d) 1
def pinEpoch (d : List Byte) : Bool := bit (ctrl d) 2
def tree (d : List Byte) : Bool := bit (ctrl d) 3
def sround (d : List Byte) : Bool := bit (ctrl d) 4
def vfmt (d : List Byte) : Nat := field d 3 1 % 16
def mx (d : List Byte) : Bool := bit (field d 3 1) 4
def index (d : List Byte) : Nat := field d 8 8
def epoch (d : List Byte) : Nat := field d 16 8
def filter (d : List Byte) : Nat := field d 24 4
def k (d : List Byte) : Nat := field d 28 2
def nprobe (d : List Byte) : Nat := field d 30 2
def rerank (d : List Byte) : Nat := field d 32 2
def w (d : List Byte) : Nat := field d 34 2
def fathom (d : List Byte) : Nat := field d 36 2
def deadline (d : List Byte) : Nat := field d 40 4
def sqscale (d : List Byte) : Nat := field d 44 4
def seed (d : List Byte) : Nat := field d 48 8
def vecAddr (d : List Byte) : Nat := field d 56 8
def vecDim (d : List Byte) : Nat := field d 64 4
def codeAddr (d : List Byte) : Nat := field d 72 8
def resAddr (d : List Byte) : Nat := field d 80 8
def resCap (d : List Byte) : Nat := field d 88 4
end QueryDesc

/-! ### Fields of an insert descriptor (Table 3.5); a delete and a publish use the same places (Table 3.6) -/

namespace WriteDesc
def hasVec (d : List Byte) : Bool := bit (field d 1 1) 0
def hasCode (d : List Byte) : Bool := bit (field d 1 1) 1
def hasBucket (d : List Byte) : Bool := bit (field d 1 1) 2
def ext (d : List Byte) : Nat := field d 16 8
def shard (d : List Byte) : Nat := field d 24 2
def bucket (d : List Byte) : Nat := field d 26 2
def vecDim (d : List Byte) : Nat := field d 28 4
def vecAddr (d : List Byte) : Nat := field d 32 8
def codeAddr (d : List Byte) : Nat := field d 40 8
end WriteDesc

/-- OPCODE of a descriptor. -/
def descOp (d : List Byte) : Nat := field d 0 1
def descTag (d : List Byte) : Nat := field d 4 4
def descIndex (d : List Byte) : Nat := field d 8 8

/-- Vector buffer, vector bytes, code buffer of a query or an insert. -/
def descVec (d : List Byte) : Option (Nat × Nat) :=
  if descOp d = 1 then
    if QueryDesc.hasVec d then some (QueryDesc.vecAddr d, Numeric.arrayBytes (QueryDesc.vfmt d) (QueryDesc.mx d) (QueryDesc.vecDim d))
    else none
  else if descOp d = 2 then
    if WriteDesc.hasVec d then some (WriteDesc.vecAddr d, Numeric.arrayBytes (QueryDesc.vfmt d) (QueryDesc.mx d) (WriteDesc.vecDim d))
    else none
  else none

def descCodeAddr (d : List Byte) : Option Nat :=
  if descOp d = 1 then (if QueryDesc.hasCode d then some (QueryDesc.codeAddr d) else none)
  else if descOp d = 2 then (if WriteDesc.hasCode d then some (WriteDesc.codeAddr d) else none)
  else none

/-- Operand bytes: vector and code, each rounded up to 64 B (R124). The code's length is the named index's S. -/
def operandBytes (d : List Byte) (sb : Nat) : Nat :=
  (match descVec d with | some (_, n) => roundUp n 64 | none => 0) + (match descCodeAddr d with | some _ => roundUp sb 64 | none => 0)

/-- May the MX bit stand with this format (Table 3.4)? -/
def mxLegal (fmt : Nat) (mx : Bool) : Bool :=
  if fmt = 0x8 || fmt = 0x9 || fmt = 0xA || fmt = 0xB || fmt = 0xC then mx
  else if fmt = 0x3 then true else !mx

/-- Formats whose stored vectors carry a query scale: plain INT4, INT8, INT16, UINT8 (Table 3.4). -/
def scaled (fmt : Nat) (mx : Bool) : Bool := !mx && (fmt == 2 || fmt == 3 || fmt == 4 || fmt == 5)

/-- A finite, nonzero FP32 pattern (R96). -/
def finiteNonzero (b : Nat) : Bool := bits b 30 23 != 255 && bits b 30 0 != 0

/-- The encoder of an index, if bound to a registered image. -/
def State.encoderOf (s : State) (i : Index) : Option Image :=
  match i.encoder with
  | some h => Tab.find s.images h
  | none => none

/-- Checks of a query descriptor that need no index (R14, R19, R20, R94, R95, R96; Table 3.4). A vector of no elements is refused
like one outside a range (DESIGN CHOICE, log entry 114: no rule gives VECDIM a lower bound). -/
def queryPlain (d : List Byte) : Bool :=
  let q := d
  decide (QueryDesc.ctrl q < 32) && zeroAt q 2 1 && decide (field q 3 1 < 32) && zeroAt q 38 2 && zeroAt q 68 4 && zeroAt q 92 36
    && (QueryDesc.hasVec q || QueryDesc.hasCode q)
    && (QueryDesc.pinEpoch q || QueryDesc.epoch q == 0) && (QueryDesc.sround q || QueryDesc.seed q == 0)
    && (if QueryDesc.hasVec q then mxLegal (QueryDesc.vfmt q) (QueryDesc.mx q) && decide (0 < QueryDesc.vecDim q)
            && (!QueryDesc.mx q || QueryDesc.vecDim q % 32 == 0)
          else field q 3 1 == 0 && QueryDesc.vecAddr q == 0 && QueryDesc.vecDim q == 0)
    && (QueryDesc.hasCode q || QueryDesc.codeAddr q == 0)
    && QueryDesc.vecAddr q % 64 == 0 && QueryDesc.codeAddr q % 64 == 0 && QueryDesc.resAddr q % 64 == 0
    && decide (1 ≤ QueryDesc.k q) && decide (QueryDesc.k q ≤ 256)
    && decide (QueryDesc.k q ≤ QueryDesc.resCap q) && decide (QueryDesc.resCap q ≤ 256)
    && decide (QueryDesc.nprobe q ≤ 1024) && decide (QueryDesc.w q ≤ 256) && decide (QueryDesc.fathom q ≤ 256)
    && (QueryDesc.rerank q != 0 || QueryDesc.sqscale q == 0)
    && (QueryDesc.rerank q == 0 || (QueryDesc.hasVec q && decide (QueryDesc.k q ≤ QueryDesc.rerank q)
          && decide (QueryDesc.rerank q ≤ 4096)))

/-- Checks of a query descriptor against its index (Table 1.2, R96, R97). -/
def State.queryFits (s : State) (i : Index) (d : List Byte) : Bool :=
  (if i.chn then
      QueryDesc.nprobe d == 0 && decide (QueryDesc.k d ≤ QueryDesc.w d) && decide (QueryDesc.w d ≤ 256)
        && decide (1 ≤ QueryDesc.fathom d) && decide (QueryDesc.fathom d ≤ 256)
        && decide (QueryDesc.rerank d ≤ QueryDesc.w d)
    else
      QueryDesc.w d == 0 && QueryDesc.fathom d == 0 && decide (1 ≤ QueryDesc.nprobe d) && decide (QueryDesc.nprobe d ≤ 1024))
    && (QueryDesc.rerank d == 0 || i.rerank)
    && (if QueryDesc.rerank d != 0 && scaled i.vfmt i.vmx then finiteNonzero (QueryDesc.sqscale d) else QueryDesc.sqscale d == 0)
    && (!QueryDesc.hasVec d ||
        ((QueryDesc.rerank d == 0 || QueryDesc.vecDim d == i.dim)
          && (if QueryDesc.hasCode d then
                (!QueryDesc.mx d && (QueryDesc.vfmt d == 0xF || QueryDesc.vfmt d == 0xE || QueryDesc.vfmt d == 0xD))
                  || (i.rerank && QueryDesc.vfmt d == i.vfmt && QueryDesc.mx d == i.vmx)
              else match s.encoderOf i with
                | some m => QueryDesc.vfmt d == m.infmt && !QueryDesc.mx d && QueryDesc.vecDim d == m.din
                | none => true)))

/-- Is an index a shard of one created on another device, where alone its handle exists (R387)? -/
def State.foreignShard (s : State) (i : Index) : Bool := i.sharded && i.homeDev != s.devId

/-- Key of a filter of an index in the table of filters: a handle serves every shard of its index, and is kept by a restore. -/
def filterKey (index handle : Nat) : Nat := index * 2 ^ 32 + handle

/-- An index as a tenant's descriptor finds it: its own, created here, and not being destroyed. -/
def State.indexFor (s : State) (vf h : Nat) : Option Index :=
  match Tab.find s.indexes h with
  | some i => if i.vf = vf && i.st != .destroying && !s.foreignShard i then some i else none
  | none => none

/-- The record a query pins: the named epoch when it is LIVE, else the latest LIVE epoch (R39, R74, R75). -/
def Index.pinFor (i : Index) (d : List Byte) : Option (Nat × Nat) :=
  if i.st = .loading then none
  else if QueryDesc.pinEpoch d then
    ((List.range 5).find? (fun t => (i.record t).st == .live && (i.record t).epoch == QueryDesc.epoch d)).map
      (fun t => (t, QueryDesc.epoch d))
  else i.latest

/-- Is the encoder usable on a ring (R22, R180)? An index to which no encoder is bound has none: a query or an insert that would
need it completes with MODEL_ABSENT on either kind of ring (DESIGN CHOICE, log entry 115: no rule states its status). -/
def State.encoderUsable (s : State) (i : Index) (stream : Bool) : Bool :=
  match s.encoderOf i with
  | some m => m.resident || stream
  | none => false

/-- Does a filter handle serve a query of an index (R26)? -/
def State.filterFor (s : State) (vf : Nat) (i : Index) (h : Nat) : Option Filter :=
  match Tab.find s.filters (filterKey i.handle h) with
  | some f => if f.vf = vf && f.index = i.handle && !f.deleted then some f else none
  | none => none

/-- Status of a query at admission: the first of rows 1 to 6 of Table 1.4, or none. -/
def State.queryStatus (s : State) (vf : Nat) (stream bad : Bool) (d : List Byte) : Option Status :=
  if bad || !queryPlain d then some .badDescriptor
  else match s.indexFor vf (QueryDesc.index d) with
    | none => some .noIndex
    | some i =>
      if !s.queryFits i d then some .badDescriptor
      else if (i.pinFor d).isNone then some .epochGone
      else if QueryDesc.filter d != 0 && (s.filterFor vf i (QueryDesc.filter d)).isNone then some .filterFault
      else if !QueryDesc.hasCode d && !s.encoderUsable i stream then some .modelAbsent
      else if i.sharded && i.shards.any (fun v => v != s.devId && !s.reachable v) then some .shardUnreachable
      else none

/-- Checks of an insert that need no index (R94, R95, R99). -/
def insertPlain (d : List Byte) : Bool :=
  decide (field d 1 1 < 8) && zeroAt d 2 1 && decide (field d 3 1 < 32) && zeroAt d 48 80
    && (WriteDesc.hasVec d || WriteDesc.hasCode d)
    && (if WriteDesc.hasVec d then mxLegal (QueryDesc.vfmt d) (QueryDesc.mx d) && decide (0 < WriteDesc.vecDim d)
            && (!QueryDesc.mx d || WriteDesc.vecDim d % 32 == 0)
          else field d 3 1 == 0 && WriteDesc.vecDim d == 0 && WriteDesc.vecAddr d == 0)
    && (WriteDesc.hasCode d || WriteDesc.codeAddr d == 0) && (WriteDesc.hasBucket d || WriteDesc.bucket d == 0)
    && WriteDesc.vecAddr d % 64 == 0 && WriteDesc.codeAddr d % 64 == 0

/-- Checks of an insert against its index (R99). -/
def State.insertMatches (s : State) (i : Index) (d : List Byte) : Bool :=
  let stored := i.rerank
  let enc := !WriteDesc.hasCode d
  !i.chn && (!WriteDesc.hasBucket d || decide (WriteDesc.bucket d < i.buckets)) && decide (WriteDesc.shard d < i.shards.length)
    && (WriteDesc.hasVec d || !stored)
    && (!stored || (QueryDesc.vfmt d == i.vfmt && QueryDesc.mx d == i.vmx && WriteDesc.vecDim d == i.dim))
    && (!enc || match s.encoderOf i with
        | some m => QueryDesc.vfmt d == m.infmt && !QueryDesc.mx d && WriteDesc.vecDim d == m.din
        | none => true)

/-- Checks of a delete or a publish that need no index (Table 3.6). -/
def otherPlain (d : List Byte) : Bool :=
  zeroAt d 1 3 && zeroAt d 26 102 && (descOp d == 3 || (zeroAt d 16 10))

/-- Status of a write at admission: the first of rows 1 to 5 of Table 3.10, or none. -/
def State.writeStatus (s : State) (vf : Nat) (stream bad : Bool) (d : List Byte) : Option Status :=
  if bad || !(if descOp d = 2 then insertPlain d else otherPlain d) then some .badDescriptor
  else match s.indexFor vf (descIndex d) with
    | none => some .noIndex
    | some i =>
      if descOp d = 2 && !s.insertMatches i d then some .badDescriptor
      else if descOp d = 3 && i.shards.length ≤ WriteDesc.shard d then some .badDescriptor
      else if i.st = .loading then some .epochGone
      else if descOp d = 2 && !WriteDesc.hasCode d && !s.encoderUsable i stream then some .modelAbsent
      else
        let targets := if descOp d = 4 then i.shards else [i.shards.getD (WriteDesc.shard d) s.devId]
        if i.sharded && targets.any (fun v => v != s.devId && !s.reachable v) then some .shardUnreachable else none

/-- Status at admission of any descriptor (R94, R108). -/
def State.admitStatus (s : State) (vf : Nat) (stream bad : Bool) (d : List Byte) : Option Status :=
  match descOp d with
  | 1 => s.queryStatus vf stream bad d
  | 2 => s.writeStatus vf stream bad d
  | 3 => s.writeStatus vf stream bad d
  | 4 => s.writeStatus vf stream bad d
  | _ => some .badDescriptor

end Sys2Proof.Machine
end

