-- ==== Sys2Proof/Machine/Integrity.lean ====
section
/-! DEFINITION. Machine/Integrity.lean: counting of errors, the CE tracker, remap requests, half-frame copies, retirement and
patrol scrub (chapter 8, R277 to R302). -/

namespace Sys2Proof.Machine

/-- An occurrence on the pseudo-channel of a stacked word. -/
def wordOcc (c : Cause) (w func : Nat) : Occ := { cause := c, func := func, subject := pchOf (64 * w), addr := 64 * w }

/-- Function that a granule's word belongs to, for a record met by no function (Table 14.3). -/
def State.wordFunc (s : State) (w : Nat) : Nat :=
  match s.owner (granuleOf (64 * w)) with
  | .vf n => n
  | _ => 0

/-! ### Remap requests and the CE tracker (R290, R291) -/

/-- Request a remap of a row: dropped when already queued, recorded when the queue is full (R291). -/
def State.requestRemap (s : State) (p row : Nat) : State :=
  let c := s.pchAt p
  if c.remapQ.contains row || (match c.copy with | some k => !k.retire && k.row == row | none => false) then s
  else if 64 ≤ c.remapQ.length then s.record { cause := Cause.remapDrop, subject := p, addr := rowAddr p row }
  else s.setPch p { c with remapQ := c.remapQ ++ [row] }

/-- The entry of a full tracker that a new row takes: the lowest count, the oldest on a tie (R290). -/
def lowestTracked (l : List Tracked) : Option Tracked :=
  l.foldl (fun b t => match b with
    | some x => if t.count < x.count then some t else some x
    | none => some t) none

/-- Count one CE toward its row (R290). -/
def State.trackCe (s : State) (p row : Nat) : State :=
  let c := s.pchAt p
  let n := (match c.tracker.find? (fun t => t.row == row) with | some t => t.count | none => 0) + 1
  let rest := c.tracker.filter (fun t => t.row != row)
  let known := rest.length < c.tracker.length
  if s.fld Reg.HMC_CETHRESH (7, 0) ≤ n then
    -- the row is requested and its entry freed
    (s.setPch p { c with tracker := rest }).requestRemap p row
  else if known then
    s.setPch p { c with tracker := c.tracker.map (fun t => if t.row = row then { t with count := n } else t) }
  else if c.tracker.length < 64 then s.setPch p { c with tracker := c.tracker ++ [{ row := row, count := 1 }] }
  else match lowestTracked c.tracker with
    | some t => s.setPch p { c with tracker := c.tracker.filter (fun x => x.row != t.row) ++ [{ row := row, count := 1 }] }
    | none => s

/-- Count the outcome of decoding a stored word (Table 8.2): a CE, a UE, or neither, whatever the write-combining buffer lays
over it. `track` is false for the words of a half-frame copy (R290). -/
def State.countWord (s : State) (track : Bool) (w : Nat) : State :=
  let p := pchOf (64 * w)
  let row := rowOf (64 * w)
  let fn := s.wordFunc w
  let ce := fun (s : State) =>
    let s := (s.count (Reg.HMC_CECNT p) 1).record (wordOcc Cause.eccCe w fn)
    if track then s.trackCe p row else s
  match s.rawOutcome w with
  | .clean => s
  | .corrected => ce s
  | .poisoned => if correctedOne (Tab.read s.upsets [] w) then ce s else s
  | .uncorrectable =>
    let s := (s.count (Reg.HMC_UECNT p) 1).record (wordOcc Cause.eccUe w fn)
    if track then s.requestRemap p row else s

/-- Count every stacked word of a list. -/
def State.countWords (s : State) (ws : List Nat) : State :=
  forAll (ws.filter isStacked) (fun w s => s.countWord true w) s

/-- Add the errors a burst meets to what the cells show. -/
def State.meetErrors (s : State) (errs : List WordErr) : State :=
  forAll errs (fun e s => { s with upsets := Tab.write s.upsets [] e.1 e.2 }) s

/-- Store a poison mark (R279): counted and recorded. -/
def State.makePoison (s : State) (c : Cause) (w : Nat) : State :=
  let s := { s with poison := Tab.write s.poison false w true, upsets := Tab.erase s.upsets w }
  (s.count (Reg.HMC_POISONCNT (pchOf (64 * w))) 1).record (wordOcc c w (s.wordFunc w))

/-- A whole-word write clears what the word held (R278). -/
def State.cleanWord (s : State) (w : Nat) : State :=
  { s with poison := Tab.erase s.poison w, upsets := Tab.erase s.upsets w }

/-- A pool line found UNCORRECTABLE is rewritten in place as POISONED (R280). -/
def State.settlePool (s : State) (w : Nat) : State :=
  if !isStacked w && s.rawOutcome w == .uncorrectable then
    { s with poison := Tab.write s.poison false w true, upsets := Tab.erase s.upsets w }
  else s

/-- Whole words are written where they stand: marks and errors go, and an entry of the write-combining buffer takes the new
words (R264, R278). -/
def State.streamWords (s : State) (a : Nat) (bs : List Byte) : State :=
  let s := s.setBytes a bs
  let ws := wordsOf a bs.length
  let s := s.coverWcb (a / 64) ws.length (fun w => Tab.readList s.mem 0 (64 * w) 64)
  forAll ws (fun w s => s.cleanWord w) s

/-! ### Time within a step tick

Between two rows STEP_TICK the open tick runs from `now`, its start, for one step. What a pseudo-channel does in it stands at
times of its own (log entry 61). -/

/-- The end of the open tick. -/
def State.tickEnd (s : State) : Nat := s.now + stepUnits s.op

/-- When a pseudo-channel is free for its next burst: the end of the last one, and not before the open tick. -/
def State.freeFrom (s : State) (c : PchState) : Nat := max s.now c.serviceEnd

/-- A pseudo-channel is occupied for a time (R238): HMC_BUSY counts MCLK cycles of 1.6 GHz, 39.375 time units, with a burst in
service. -/
def State.occupy (s : State) (p start dur : Nat) (k : Service) : State :=
  let c := s.pchAt p
  (s.setPch p { c with service := some k, serviceEnd := start + dur }).count64 (Reg.HMC_BUSY p) (dur * 8 / 315)

/-! ### Half-frame copies (R292, R293, R297) -/

/-- The words of a row. -/
def rowWords (p row : Nat) : List Nat := wordsOf (rowAddr p row) 1024

/-- Replacement row k of retirement entry n: the first 1 MiB of local granule 751 (R297). -/
def replRow (n k : Nat) : Nat := 751 * 2048 + 4 * n + k

/-- Row k of a page. -/
def pageRow (page k : Nat) : Nat := rowOf (4096 * page) + k

/-- The retirement that still has rows to move on a pseudo-channel. -/
def PchState.retiring (c : PchState) : Option (Nat × Retired) :=
  ((c.retired.zipIdx).find? (fun r => decide (r.1.moved < 4))).map (fun r => (r.2, r.1))

/-- The next copy of a pseudo-channel: a row of a retirement, lowest first, else the head of the remap queue. -/
def PchState.nextCopy (c : PchState) : Option Copy :=
  match c.retiring with
  | some (n, r) => some { row := pageRow r.page r.moved, dest := replRow n r.moved, retire := true }
  | none => match c.remapQ with
    | row :: _ => some { row := row, dest := c.spares, retire := false }
    | [] => none

/-- The device page that holds a row. -/
def pageOfRow (p row : Nat) : Nat := rowAddr p row / 4096

/-- A row is listed for hard repair, in flash too (R295, Table 16.5); a spare of 0xFF is none (log entry 36). -/
def State.listRepair (s : State) (p row spare : Nat) : State :=
  if s.hardList.any (fun x => x.1 == p && x.2.1 == row) then s
  else ({ s with hardList := s.hardList ++ [(p, row, spare != 0xFF)] } : State).config 5 0x0107
    (leBytes 1 p ++ leBytes 4 row ++ leBytes 1 spare ++ leBytes 1 0)

/-- Record of a final retirement-table entry (Table 16.5). -/
def State.retireRecord (s : State) (p row : Nat) (rs : List Retired) : State :=
  match (rs.zipIdx).find? (fun r => r.1.moved == 4 && pageRow r.1.page 3 == row) with
  | some (r, n) => s.config 6 0x0108 (leBytes 1 p ++ leBytes 2 n ++ leBytes 8 (4096 * r.page) ++ leBytes 8 (rowAddr p (replRow n 0)))
  | none => s

/-- A remap that finds no unused spare is dropped: SPARE_OUT and an advisory (R292, R299). The row is still listed for hard
repair, with every word to be written poisoned (R296). -/
def State.spareOut (s : State) (p row : Nat) : State :=
  let c := s.pchAt p
  let s := s.setPch p { c with remapQ := c.remapQ.drop 1 }
  let s := s.listRepair p row 0xFF
  let s := s.record { cause := Cause.spareOut, subject := p, addr := rowAddr p row }
  s.record { cause := Cause.retireAdvise, subject := p, addr := 4096 * pageOfRow p row }

/-- Hard repairs left on a pseudo-channel (R295). -/
def State.hardLeft (s : State) (p : Nat) : Nat := fusedHardLeft p - (s.pchAt p).hardUsed

/-- May a copy step start now: nothing in service, LCR empty, trained, its stack alive (R289, R293)? -/
def State.copyMay (s : State) (p : Nat) : Bool :=
  let c := s.pchAt p
  (c.lcr.all (fun r => decide (s.freeFrom c < r.arrived))) && c.service.isNone && c.trained && !s.stackShut (rowAddr p 0)
    && decide (s.freeFrom c < s.tickEnd)

/-- COPY_READ (R293 step 1): when LCR is empty and nothing is in service, the copy read of the next row starts; its words
are decoded and held, bad ones marked. -/
def execCopyRead (p : Pch) (errs : List WordErr) (s : State) : Host.Outcome State Fault Refusal :=
  let c := s.pchAt p
  if !s.copyMay p then .next s
  else match c.copy with
    | some _ => .next s
    | none =>
      match c.nextCopy with
      | none => .next s
      | some k =>
        if !k.retire && 64 ≤ c.spares then .next (s.spareOut p k.row)
        else
          let start := s.freeFrom c
          let s := s.meetErrors errs
          let ws := rowWords p k.row
          let held := ws.filter (fun w => s.rawOutcome w == .poisoned || s.rawOutcome w == .uncorrectable)
          let s := forAll ws (fun w s => s.countWord false w) s
          let c := s.pchAt p
          .next ((s.setPch p { c with copy := some { k with held := some held } }).occupy p start (nsec 23) .copyRead)

/-- A write burst has reached the cells: whole words under the key slot of their granule, which clear what stood there
(R256, R278). -/
def State.storeBurst (s : State) (r : Req) : State :=
  let w := r.addr / 64
  let s := (s.setBytes r.addr r.data).inkWords w r.words (s.keyOf r.keySlot).key
  let s := s.act 10 (s.ownerVf (granuleOf r.addr)) r.words
  forAll (wordsOf r.addr (64 * r.words)) (fun w s => s.cleanWord w) s

/-- The entries of a drain burst that has completed. A merged word over a bad one keeps its mark (Table 8.4): only words whose
entry was whole are clean. -/
def State.drained (s : State) (r : Req) : State :=
  forAll (wordsOf r.addr (64 * r.words)) (fun w s =>
    match Tab.find s.wcb w with
    | some e => { s with wcb := Tab.insert s.wcb w { e with drain := if e.drain = 2 then 3 else e.drain } }
    | none => s) s

/-- A write burst ends: a stream's or a drain's. The mark that a merge left on a poisoned word stays (R284). -/
def State.endWrite (s : State) (r : Req) : State :=
  let marked := (wordsOf r.addr (64 * r.words)).filter (fun w => Tab.read s.poison false w && (match Tab.find s.wcb w with
    | some e => r.client == .drain && !e.merged.isEmpty
    | none => false))
  let s := s.storeBurst r
  let s := forAll marked (fun w s => { s with poison := Tab.write s.poison false w true }) s
  if r.client == .drain then s.drained r else s

/-- A copy that completes: the row is redirected, and write bursts merged into it complete with it (R292, R293, R297). -/
def State.copyDone (s : State) (p : Nat) (k : Copy) : State :=
  let over_ := k.merged.flatMap (fun r => wordsOf r.addr (64 * r.words))
  let held := (k.held.getD []).filter (fun w => !over_.contains w)
  -- every word is written with fresh check symbols; marked ones poisoned
  let s := forAll (rowWords p k.row) (fun w s =>
    if held.contains w then s.makePoison Cause.poisonMade w else { s with upsets := Tab.erase s.upsets w }) s
  let s := forAll k.merged (fun r s => s.endWrite r) s
  let c := s.pchAt p
  if k.retire then
    let rs := c.retired.map (fun r => if r.moved < 4 && pageRow r.page r.moved = k.row then { r with moved := r.moved + 1 } else r)
    let final := rs.any (fun r => r.moved == 4 && pageRow r.page 3 == k.row)
    let s := s.setPch p { c with copy := none, retired := rs }
    if final then (s.setFld (Reg.HMC_RETIRED p) (8, 0) (s.fld (Reg.HMC_RETIRED p) (8, 0) + 1)).retireRecord p k.row rs else s
  else
    let s := s.setPch p { c with copy := none, remapQ := c.remapQ.drop 1, spares := c.spares + 1,
                                 remaps := Tab.insert c.remaps k.row k.dest }
    let s := s.record { cause := Cause.remapDone, subject := p, addr := rowAddr p k.row, arg0 := k.dest }
    let s := s.listRepair p k.row k.dest
    if s.hardLeft p == 0 then s.record { cause := Cause.retireAdvise, subject := p, addr := 4096 * pageOfRow p k.row } else s

/-- COPY_WRITE (R293 step 2): once the copy read has ended and LCR is empty, the copy write of the held row starts; its row moves
when it completes. -/
def execCopyWrite (p : Pch) (s : State) : Host.Outcome State Fault Refusal :=
  let c := s.pchAt p
  match c.copy with
  | none => .next s
  | some k =>
    if s.copyMay p && k.held.isSome then .next (s.occupy p (s.freeFrom c) (nsec 27) .copyWrite)
    else .next s

/-- CE_DECAY (R290): every DECAY minutes each count drops by one and empty entries free. -/
def execCeDecay (s : State) : Host.Outcome State Fault Refusal :=
  if s.decayDue ≤ s.now then
    let step := s.fld Reg.HMC_CETHRESH (23, 16) * msec 60000
    let s := { s with decayDue := s.now + step }
    .next (forAll (List.range 256) (fun p s =>
      let c := s.pchAt p
      s.setPch p { c with tracker := (c.tracker.map (fun t => { t with count := t.count - 1 })).filter (fun t => t.count != 0) }) s)
  else .next s

/-- Is a frame scrubbed: every frame of granules not owned TEST (R302). -/
def State.scrubbed (s : State) (p frame : Nat) : Bool :=
  match s.owner (frame / 1024 * 256 + p) with
  | .test => false
  | .failed => false
  | _ => true

/-- Address of frame n of a pseudo-channel. -/
def frameAddr (p n : Nat) : Nat := (n / 1024 * 256 + p) * 2 ^ 21 + n % 1024 * 2048

/-- A scrub read of a frame has come back: each word is decoded and counted, and the pass moves on (R302). -/
def State.scrubDone (s : State) (p n : Nat) : State :=
  let s := if s.scrubbed p n then s.countWords (wordsOf (frameAddr p n) 2048) else s
  let c := s.pchAt p
  let last := decide (786432 ≤ n + 1)
  s.setPch p { c with scrubPos := if last then 0 else n + 1, scrubStart := if last then s.now else c.scrubStart,
                      scrubLate := if last then false else c.scrubLate }

/-- May the next scrub read start: row 7 of Table 7.4, with every other queue empty (R242, R302)? -/
def State.scrubMay (s : State) (p : Nat) : Bool :=
  let c := s.pchAt p
  s.fld Reg.HMC_SCRUB (7, 0) != 0 && c.trained && !s.stackShut (rowAddr p 0) && c.service.isNone && c.lcr.isEmpty && c.ber.isEmpty
    && c.wr.isEmpty && c.mnt.isEmpty && c.copy.isNone && c.nextCopy.isNone && decide (s.freeFrom c < s.tickEnd)

/-- SCRUB_READ (R302): the next frame in ascending address is read as a 2 KiB MNT read; a frame of a TEST granule is passed
over. The scrubber asks for its next frame when it can be served, so its request never waits in MNT (log entry 111). -/
def execScrubRead (p : Pch) (errs : List WordErr) (s : State) : Host.Outcome State Fault Refusal :=
  if !s.scrubMay p then .next s
  else
    let n := (s.pchAt p).scrubPos
    if s.scrubbed p n then
      let start := s.freeFrom (s.pchAt p)
      let r : Req := { client := .scrub, addr := frameAddr p n, words := 32, level := 4, place := [s.tick], arrived := start }
      .next (((s.meetErrors errs).scrubDone p n).occupy p start (nsec 41) (.burst r [] []))
    else .next (s.scrubDone p n)

/-- SCRUB_LATE (R302): a pass that did not end within its period writes one record and continues. -/
def execScrubLate (p : Pch) (s : State) : Host.Outcome State Fault Refusal :=
  let c := s.pchAt p
  let period := s.fld Reg.HMC_SCRUB (7, 0)
  if period != 0 && c.trained && !c.scrubLate && c.scrubStart + period * msec 3600000 ≤ s.now then
    .next ((s.setPch p { c with scrubLate := true }).record { cause := Cause.scrubLate, subject := p.val })
  else .next s

end Sys2Proof.Machine
end

