-- ==== Sys2Proof/Machine/Reads.lean ====
section
/-! DEFINITION. Machine/Reads.lean: marks on a sequence, reads of stacked memory as sequences issue, use and discard them
(R132, R143, R163, R240 to R254, R281), and the counts that admission looks at (R112). -/

namespace Sys2Proof.Machine

/-! ### Sequences -/

/-- Partition of a VF's tenant. -/
def State.partOf (s : State) (vf : Nat) : Option (Nat × Partition) :=
  match Tab.find s.tenants vf with
  | some t => (Tab.find s.parts t.part).map (fun p => (t.part, p))
  | none => none

/-- Is it LC (CLASS L0 to L3)? -/
def Sequence.lc (q : Sequence) : Bool := decide (q.cls < 4)

def Sequence.isQuery (q : Sequence) : Bool := q.opcode == 1

/-- The index it works on. -/
def State.indexOf (s : State) (q : Sequence) : Option Index := Tab.find s.indexes q.index

/-- What a request issued now carries of the pins (Table 7.5, R249): LIMIT and tombstone mask from the epoch records as they
stand, which commits change at the ends of ticks only, and the filter as pinned. -/
def State.viewOf (s : State) (q : Sequence) : View :=
  match s.indexOf q, q.pin with
  | some i, some (t, e) => { vlimit := (i.record t).limit, tmask := i.tmask e, filter := q.grains }
  | _, _ => { filter := q.grains }

/-- Mark an LC query with a WCET_VOID reason, counted once per sequence and reason (R143). -/
def State.voidSeq (s : State) (e reason : Nat) : State :=
  match Tab.find s.seqs e with
  | some q =>
    if q.lc && q.isQuery && !bit q.void reason then
      (s.setSeq e { q with void := q.void ||| 2 ^ reason }).count (Reg.STB_VOIDCNT reason) 1
    else s
  | none => s

def voidHot : Nat := 0
def voidBubble : Nat := 1
def voidWithheld : Nat := 2
def voidContend : Nat := 3
def voidSuspend : Nat := 4
def voidCtx : Nat := 5
def voidList : Nat := 6
def voidStream : Nat := 7

/-! ### Uses of damaged words (R252, R281) -/

/-- SEQ of the held record an occurrence is of, or 0. -/
def State.recordNo (s : State) (o : Occ) : Nat :=
  match (s.errQueue o.cause.domain).recs.find? (fun r => r.is o) with
  | some r => r.seq
  | none => 0

/-- The record of a poisoned word that a sequence uses (R281). -/
def State.poisonOcc (s : State) (q : Sequence) (w : Nat) : Occ :=
  { wordOcc Cause.poisonRead w (s.wordFunc w) with arg0 := q.rp.getD 0xFFFF, arg1 := q.tag }

/-- A consumer uses a bad word: the record its completion will carry. A poisoned word is recorded now, an uncorrectable one
has been recorded when it was decoded. A bad line of the pool is a poisoned one from now on (R280). -/
def State.useBad (s : State) (q : Sequence) (w : Nat) : State × Nat :=
  if isStacked w && s.outcome w == .uncorrectable then (s, s.recordNo (wordOcc Cause.eccUe w (s.wordFunc w)))
  else (s.settlePool w).occur (s.poisonOcc q w)

/-- A sequence is marked POISON, with the first record of its bad words (R252, R281). -/
def State.markPoison (s : State) (e n : Nat) : State :=
  s.onSeq e (fun q => if q.poison.isSome then q else { q with poison := some n })

/-- A sequence uses words read now: each bad one among them marks it POISON (R252, R281). -/
def State.seqUses (s : State) (e : Nat) (ws : List Nat) : State :=
  forAll ws (fun w s =>
    match Tab.find s.seqs e with
    | some q => if s.bad w then let r := s.useBad q w; r.1.markPoison e r.2 else s
    | none => s) s

/-- Was a word bad in the reads a request holds? An uncorrectable word with its record, a poisoned one with none. A line of the
pool is read when it is used. -/
def State.heldBad (s : State) (ls : List Landed) (w : Nat) : Option (Option Nat) :=
  match ls.findSome? (fun l => (l.bad.find? (fun b => b.1 == w)).map (·.2)) with
  | some r => some r
  | none => if !isStacked w && s.bad w then some none else none

/-- A request uses words of the reads it holds (R252). -/
def State.usesHeld (s : State) (e : Nat) (ls : List Landed) (ws : List Nat) : State :=
  forAll ws (fun w s =>
    match Tab.find s.seqs e, s.heldBad ls w with
    | some q, some none => let r := s.useBad q w; r.1.markPoison e r.2
    | some _, some (some n) => s.markPoison e n
    | _, _ => s) s

/-- The memory as the reads of a request found it (R260): what they hold, whatever has been written since. -/
def State.seen (s : State) (ls : List Landed) : State :=
  { s with mem := ls.foldl (fun m l => Tab.writeList m 0 l.addr l.data) s.mem,
           wcb := s.wcb.filter (fun x => !ls.any (fun l => decide (l.addr / 64 ≤ x.1) && decide (x.1 < (l.addr + l.data.length) / 64))) }

/-- The bad words of a read among some words, decoded now: those a buffer entry held whole are not read. -/
def State.badWords (s : State) (whole ws : List Nat) : List (Nat × Option Nat) :=
  ws.filterMap (fun w =>
    if whole.contains w && !s.stackShut (64 * w) then none
    else match s.rawOutcome w with
      | .poisoned => some (w, none)
      | .uncorrectable => some (w, some (s.recordNo (wordOcc Cause.eccUe w (s.wordFunc w))))
      | _ => none)

/-- A read made and decoded at once: what it holds. -/
def State.capture (s : State) (kind a words : Nat) (v : View) (expect : Nat) : Landed :=
  { kind := kind, addr := a, at_ := s.now, view := v, expect := expect, data := s.bytes a (64 * words),
    bad := s.badWords ((wordsOf a (64 * words)).filter s.wholeInWcb) (wordsOf a (64 * words)) }

/-- A tun that is not ONLINE acts on the sequence that uses it as poison (R327): the record its completion will carry, of cause
LINK_DOWN where a port of the tun is not ONLINE and FAR_POISON otherwise (log entry 16). -/
def State.tunBad (s : State) (q : Sequence) (tun : Option Nat) : State × Nat :=
  match tun.bind s.tun with
  | none => (s, 0)
  | some t =>
    let n := farPortOf t.base0
    let down := fun (k : Nat) => bits (s.reg (Reg.FTC_PSTATE k)) 2 0 != 2
    let bad := if t.both then down 0 || down 1 else down n
    s.occur { cause := if bad then Cause.linkDown else Cause.farPoison, func := q.vf,
              subject := if t.both && !down 0 && down 1 then 1 else n, addr := if bad then 0 else t.base0,
              arg0 := if bad then 0 else q.rp.getD 0xFFFF, arg1 := if bad then 0 else q.tag }

/-- A header fault (R252): recorded in the core domain, and the sequence marked POISON. -/
def State.headerFault (s : State) (e a : Nat) : State :=
  match Tab.find s.seqs e with
  | none => s
  | some q =>
    let (s, n) := s.occur { cause := Cause.bushelHdr, func := q.vf, subject := pchOf a, addr := a, arg0 := q.rp.getD 0xFFFF,
                                        arg1 := q.tag }
    s.markPoison e n

/-! ### Queues of a pseudo-channel (R240, R241, R244) -/

/-- Does a read take a bushel slot (2 KiB), rather than a line slot? -/
def Req.big (r : Req) : Bool := r.words == 32

def Req.lc (r : Req) : Bool := decide (r.level < 4)

/-- Reads that hold slots of a size: queued or in service. -/
def PchState.held (c : PchState) (big : Bool) : List Req :=
  ((c.lcr ++ c.ber ++ (match c.service with | some (.burst r _ _) => [r] | _ => [])).filter (fun r => !r.write && r.big == big))

def slotMax (big : Bool) : Nat := if big then 32 else 64
def slotMaxBe (big : Bool) : Nat := if big then 24 else 48

/-- Place of a sequence in the work list (R129). -/
def workKey (x : Nat × Sequence) : List Nat :=
  x.2.elevel :: x.2.admitTick :: (match x.2.home with | none => [0, x.2.rp.getD 1024, x.2.order] | some (h, n) => [1, h, n])

/-- Order of arrival: issue tick, then the work-list order among sequences, then issue order (R241). -/
def Req.before (a b : Req) : Bool := lexLe a.place b.place

/-- Into LCR: by level, and within a level by arrival (R241). -/
def lcrInsert (r : Req) (l : List Req) : List Req :=
  insertBy (fun a b => decide (a.level < b.level) || (a.level == b.level && a.before b)) r l

/-- Can a read take a slot now? -/
def PchState.roomFor (c : PchState) (r : Req) : Bool :=
  let h := c.held r.big
  decide (h.length < slotMax r.big)
    && (r.lc || decide ((h.filter (fun x => !x.lc)).length < slotMaxBe r.big))

/-- A read takes its slot and joins its queue. -/
def PchState.enqueue (c : PchState) (r : Req) : PchState :=
  if r.lc then { c with lcr := lcrInsert r c.lcr } else { c with ber := insertBy Req.before r c.ber }

/-- The backlog with a read added, in the order of R241: LC by level, then BE by arrival. -/
def backlogInsert (r : Req) (l : List Req) : List Req :=
  if r.lc then insertBy (fun a b => a.lc && (decide (a.level < b.level) || (a.level == b.level && a.before b))) r l
  else l.filter (·.lc) ++ insertBy Req.before r (l.filter (fun x => !x.lc))

/-- The youngest BE read of a size that waits in BER; a burst of the traffic generator is no BE read. -/
def PchState.victim (c : PchState) (big : Bool) : Option Req :=
  (c.ber.filter (fun x => x.big == big && !x.write && x.client != .tgc)).getLast?

/-- Drop the last occurrence of a request. -/
def dropLast1 (r : Req) (l : List Req) : List Req := (l.reverse.erase r).reverse

/-- An LC read that finds every slot taken displaces the youngest BE read to the head of the BE part of the backlog (R244). -/
def PchState.displace (c : PchState) (v r : Req) : PchState :=
  let lcs := c.backlog.filter (·.lc)
  let bes := c.backlog.filter (fun x => !x.lc)
  ({ c with ber := dropLast1 v c.ber, backlog := lcs ++ v :: bes }).enqueue r

/-- A read arrives at its pseudo-channel (R244). -/
def State.arrive (s : State) (p : Nat) (r : Req) : State :=
  let c := s.pchAt p
  if c.roomFor r then s.setPch p (c.enqueue r)
  else if r.lc then
    match c.victim r.big with
    | some v => (s.setPch p (c.displace v r)).count (Reg.HMC_DISPLACE p) 1
    | none => s.setPch p { c with backlog := backlogInsert r c.backlog }
  else s.setPch p { c with backlog := backlogInsert r c.backlog }

/-- Reads in the backlog take slots as they free, in order. -/
def PchState.promote (c : PchState) : Nat → PchState
  | 0 => c
  | n + 1 =>
    match c.backlog.find? (fun r => c.roomFor r) with
    | some r => ({ c with backlog := c.backlog.erase r }).enqueue r |>.promote n
    | none => c

/-- The sequence-table entry whose context extension an address lies in (R237). -/
def extEntry (a : Nat) : Nat :=
  1024 * (pchOf a / 16) + 16 * (4 * (localGranule a - 752) + a % 2 ^ 21 / 2 ^ 19) + pchOf a % 16

/-- Address of a line of a context extension (R122, R237): entry e's 512 KiB. -/
def extAddr (e line : Nat) : Nat :=
  let p := e / 1024 * 16 + e % 16
  let k := e % 1024 / 16
  ((752 + k / 4) * 256 + p) * 2 ^ 21 + k % 4 * 2 ^ 19 + line % 8192 * 64

/-- May the sequence of an entry touch an address (R187)? A granule of its own tenant, or its own context extension. -/
def State.mayTouch (s : State) (e vf a : Nat) : Bool :=
  (inExtension a && extEntry a == e) || (!inExtension a && s.owner (granuleOf a) == .vf vf)

/-- An access to a granule that the tenant does not own is never performed: a fatal core-domain error (R187). -/
def State.ownerFault (s : State) (vf a : Nat) : State :=
  s.record { cause := Cause.ownerFault 4, func := vf, subject := pchOf a, addr := a }

/-- A sequence issues one read (R240, R248): it is outstanding until its data has been taken. A line that an engine reads for a
bushel has the level, the place and the time of that bushel's read (R241, R251). -/
def State.issueRead (s : State) (e : Nat) (client : Client) (a words : Nat) (expect : Nat := 0) (from_ : Option Landed := none) :
    State :=
  match Tab.find s.seqs e with
  | none => s
  | some q =>
    if s.mayTouch e q.vf a then
      let quiet := match s.partOf q.vf with | some (_, p) => p.quiet | none => false
      let r : Req := { client := client, issue := q.issue, addr := a, words := words, keySlot := s.keySlotAt a,
                       view := s.viewOf q, expect := expect,
                       level := match from_ with | some l => l.level | none => q.elevel,
                       place := match from_ with | some l => l.place | none => s.tick :: workKey (e, q),
                       rood := some (e / 1024), quiet := quiet, allow := q.allow,
                       arrived := match from_ with | some l => max s.now l.at_ | none => s.now }
      (s.setSeq e { q with pending := q.pending + 1 }).arrive (pchOf a) r
    else s.ownerFault q.vf a

/-- The line reads a stage needs that it has not requested yet (R251). A line of the pool is no stacked read (R266). -/
def State.issueLines (s : State) (e : Nat) (client : Client) (ws : List Nat) (from_ : Option Landed := none) : State :=
  forAll (ws.filter isStacked) (fun w s =>
    match Tab.find s.seqs e with
    | some q => if q.lines.contains w then s
        else (s.setSeq e { q with lines := q.lines ++ [w] }).issueRead e client (64 * w) 1 0 from_
    | none => s) s

/-- A byte range as bursts that never cross a frame. -/
def bursts (a n : Nat) : List (Nat × Nat) :=
  let lo := a / 64
  let hi := (a + n - 1) / 64
  if n = 0 then [] else
  (List.range (hi / 32 + 1 - lo / 32)).map (fun k =>
    let f := lo / 32 + k
    let b := max lo (32 * f)
    (64 * b, min hi (32 * f + 31) + 1 - b))

/-- A range of whole words in pieces that never cross a half-frame: the bursts of a stream (R262, R264). -/
def halfFrames (a n : Nat) : List (Nat × Nat) :=
  let lo := a / 64
  let hi := (a + n) / 64
  (List.range (cdiv hi 16 - lo / 16)).map (fun k =>
    let b := max lo (16 * (lo / 16 + k))
    (64 * b, min hi (16 * (lo / 16 + k) + 16) - b))

/-- A whole-word stream goes to WR, without taking entries: an entry of one of its words takes its data first (R264). -/
def State.queueStream (s : State) (slot a : Nat) (bs : List Byte) : State :=
  forAll (halfFrames a bs.length) (fun b s =>
    let p := pchOf b.1
    let c := s.pchAt p
    let r : Req := { client := .stream, addr := b.1, words := b.2, write := true, data := slice (bs.drop (b.1 - a)) 0 (64 * b.2),
                     keySlot := slot, level := 4, place := [s.tick, 5], arrived := s.now }
    s.setPch p { c with wr := c.wr ++ [r] })
    (s.coverWcb (a / 64) (bs.length / 64) (fun w => slice (bs.drop (64 * w - a)) 0 64))

/-- A new stage issue: returns of earlier ones are discarded from now on. -/
def State.newIssue (s : State) (e : Nat) : State :=
  let s := { s with issues := s.issues + 1 }
  s.onSeq e (fun q => { q with issue := s.issues, pending := 0, lines := [], gotLines := [], landed := [], frames := [],
                               returned := [], nbrs := [], listWait := [] })

/-- Whose read is it? -/
def Client.seq : Client → Option Nat
  | .scan e => some e
  | .hop e => some e
  | .raw e => some e
  | .line e => some e
  | .list e => some e
  | _ => none

/-- Remove the queued reads of a sequence from every pseudo-channel (R163, R257); those in service run on. -/
def State.dropReads (s : State) (e : Nat) : State :=
  let far := fun (r : FarReq) => r.seq != some e
  { s with
    pch := s.pch.map (fun x =>
      let keep := fun (r : Req) => r.client.seq != some e
      let c := ({ x.2 with lcr := x.2.lcr.filter keep, ber := x.2.ber.filter keep, backlog := x.2.backlog.filter keep }).promote 96
      (x.1, { c with starving := c.starving && !(x.2.lcr.filter keep).isEmpty })),
    far := { s.far with ports := s.far.ports.map (fun x =>
      (x.1, { x.2 with lc := x.2.lc.filter far, fw := x.2.fw.filter far, be := x.2.be.filter far })) } }

/-- A sequence stops using its reads: queued ones go, later returns are discarded. -/
def State.discardReads (s : State) (e : Nat) : State := (s.dropReads e).newIssue e

/-! ### Counts of outstanding operations (R112) -/

/-- Bushel reads outstanding: in slots, in backlogs, in service, and at an engine (check 4 of Table 19.2). -/
def State.bushelsOut (s : State) : Nat :=
  s.pch.foldl (fun n x => n + (x.2.held true).length + (x.2.backlog.filter (·.big)).length) 0
    + s.seqs.foldl (fun n x => n + (x.2.landed.filter (fun l => decide (l.kind ≤ 1))).length + x.2.frames.length) 0

/-- Remote requests outstanding (FAB_REMOTE). -/
def State.remotesOut (s : State) : Nat := (s.seqs.filter (fun x => x.2.remote.uses)).length

/-- Far reads outstanding (FTC_OUTST). -/
def State.farOut (s : State) : Nat := (s.farAt 0).tags.length + (s.farAt 1).tags.length

/-- Bytes of a VF's operand share in use (R124). -/
def State.shareUsed (s : State) (vf : Nat) : Nat :=
  s.seqs.foldl (fun n x => if x.2.vf = vf then n + x.2.share else n) 0
    + s.rings.foldl (fun n x => if ringVf x.1 = vf then n + (x.2.staged.foldl (fun m d => m + d.share) 0) else n) 0
    + s.failing.foldl (fun n x => if ringVf x.rp = vf then n + x.share else n) 0

/-- Entries of the write-combining buffer held by a partition's share (R261). -/
def State.wcbShare (s : State) (roods : List Nat) : Nat :=
  (s.wcb.filter (fun x => match x.2.rood with | some r => roods.contains r | none => false)).length

end Sys2Proof.Machine
end

