-- ==== Sys2Proof/Machine/Context.lean ====
section
/-! DEFINITION. Machine/Context.lean: the context extension of a sequence and the sequence cache (R122, R123, R174, R181). The
lists themselves stand in the sequence; what is kept here is which lines of the extension hold them, which of those the cache
has, and the bytes of a line that is written back. Where in the extension each list lies is the model's choice (log entry
112). -/

namespace Sys2Proof.Machine

/-- Partition of a VF when it is quiet, and its number of roods. -/
def State.quietPart (s : State) (vf : Nat) : Option (Nat × Nat) :=
  match s.partOf vf with
  | some (k, p) => if p.quiet then some (k, p.roods.length) else none
  | none => none

/-- Roods reserved by quiet partitions. -/
def State.quietRoods (s : State) : Nat := s.parts.foldl (fun n x => if x.2.quiet then n + x.2.roods.length else n) 0

/-! ### The lines of an extension -/

/-- A candidate or survivor in 16 B. -/
def Cand.bytes (c : Cand) : List Byte := leBytes 4 c.dist ++ leBytes 4 c.lidx ++ leBytes 8 c.ext

/-- Four entries of 16 B of a list, from entry 4n on. -/
def quad (l : List (List Byte)) (n : Nat) : List Byte := slice ((l.drop (4 * n)).take 4).flatten 0 64

/-- Lines that a list of n entries of 16 B fills from a line on. -/
def quadLines (from_ n : Nat) : List Nat := (List.range (cdiv n 4)).map (· + from_)

/-- The bytes of a line of the extension: result entries, else candidates, else survivors at 512 B a probed bucket, else the
beam, the result list and the visited set of a walk. -/
def Sequence.extLine (q : Sequence) (n : Nat) : List Byte :=
  if !q.entries.isEmpty then quad (q.entries.map Entry.bytes) n
  else if !q.cands.isEmpty then quad (q.cands.map Cand.bytes) n
  else if !q.buckets.isEmpty then quad ((Tab.read q.survivors [] (q.buckets.getD (n / 8) 0)).map Cand.bytes) (n % 8)
  else if n < 64 then quad (q.walk.beam.map (fun b => leBytes 4 b.1 ++ leBytes 4 b.2.1 ++ leBytes 8 (b2n b.2.2))) n
  else if n < 128 then quad (q.walk.res.map Cand.bytes) (n - 64)
  else slice (((q.walk.visited.reverse.drop (16 * (n - 128))).take 16).flatMap (leBytes 4)) 0 64

/-- The lines that the lists of a sequence fill. -/
def Sequence.extLines (q : Sequence) : List Nat :=
  if !q.entries.isEmpty then quadLines 0 q.entries.length
  else if !q.cands.isEmpty then quadLines 0 q.cands.length
  else if !q.buckets.isEmpty then q.buckets.zipIdx.flatMap (fun b => quadLines (8 * b.2) (Tab.read q.survivors [] b.1).length)
  else quadLines 0 q.walk.beam.length ++ quadLines 64 q.walk.res.length
    ++ (List.range (cdiv q.walk.visited.length 16)).map (· + 128)

/-- Lines that the sequence needs and the cache has evicted: a read of one is a context miss (R123). -/
def Sequence.missing (q : Sequence) : List Nat := q.spilled.filter q.extLines.contains

/-! ### The sequence cache -/

/-- Lines that the cache holds for a VF's partition: n · 2 MiB for a quiet one, else what those leave of 32 MiB (R123, R181). -/
def State.cacheLines (s : State) (vf : Nat) : Nat :=
  match s.quietPart vf with
  | some (_, n) => 32768 * n
  | none => 524288 - 32768 * s.quietRoods

/-- Sequences that share the cache of a VF's partition. -/
def State.cacheMates (s : State) (vf : Nat) : List (Nat × Sequence) :=
  s.seqs.filter (fun (x : Nat × Sequence) => (s.quietPart x.2.vf).map (·.1) == (s.quietPart vf).map (·.1))

/-- A line is written back to its extension, under the key of the sequence's tenant, and leaves the cache (R122, R264). -/
def State.spill (s : State) (e n : Nat) : State :=
  match Tab.find s.seqs e with
  | none => s
  | some q =>
    (s.setSeq e { q with cached := q.cached.erase n, spilled := q.spilled ++ [n] }).queueStream q.vf (extAddr e n) (q.extLine n)

/-- The cache evicts a line: of the lowest effective level that has one, BE first (R123). Which line of that level goes is a
free value (log entry 112). -/
def State.evictLine (s : State) (vf : Nat) : State :=
  let mates := (s.cacheMates vf).filter (fun (x : Nat × Sequence) => !x.2.cached.isEmpty)
  let low := mates.foldl (fun n x => max n x.2.elevel) 0
  let ls := (mates.filter (fun (x : Nat × Sequence) => x.2.elevel == low)).flatMap (fun x => x.2.cached.map (fun n => (x.1, n)))
  match ls[s.peekFree ls.length]? with
  | some (e, n) => s.drew.spill e n
  | none => s

/-- Evict until the cache of a partition holds what it may. -/
def State.evictTo (s : State) (vf : Nat) : Nat → State
  | 0 => s
  | k + 1 =>
    if s.cacheLines vf < (s.cacheMates vf).foldl (fun n x => n + x.2.cached.length) 0 then (s.evictLine vf).evictTo vf k else s

/-- A sequence writes lines of its extension: they are in the cache. -/
def State.writeLines (s : State) (e : Nat) (ls : List Nat) : State :=
  match Tab.find s.seqs e with
  | none => s
  | some q =>
    let new := ls.filter (fun n => !q.cached.contains n)
    (s.setSeq e { q with cached := q.cached ++ new, spilled := q.spilled.filter (fun n => !new.contains n) }).evictTo q.vf new.length

/-- A sequence has written every list it holds. -/
def State.writeLists (s : State) (e : Nat) : State :=
  match Tab.find s.seqs e with
  | some q => s.writeLines e q.extLines
  | none => s

/-- A line read back from its extension is in the cache again. -/
def State.unspill (s : State) (e n : Nat) : State :=
  match Tab.find s.seqs e with
  | some q => if q.spilled.contains n then s.writeLines e [n] else s
  | none => s

/-- Cache lines that a switch writes back: those of the outgoing tenant's BE sequences, of all of them in quiet mode (R174). -/
def State.writeBack (s : State) (vf : Nat) (all_ : Bool) : State :=
  forAll (s.seqs.filter (fun (x : Nat × Sequence) => x.2.vf == vf && (all_ || x.2.elevel == 4)))
    (fun x s => forAll x.2.cached (fun n s => s.spill x.1 n) s) s

/-- Lines written by a killed stage go; those of completed stages stay (Table 5.6). -/
def Sequence.dropLines (q : Sequence) : Sequence :=
  { q with cached := q.cached.filter q.keptLines.contains, spilled := q.spilled.filter q.keptLines.contains }

/-- A line of the sequence's own extension, by its address. -/
def extLineOf (e a : Nat) : Option Nat := if inExtension a && extEntry a == e then some (a % 2 ^ 19 / 64) else none

end Sys2Proof.Machine
end

