-- ==== Sys2Proof/Machine/Stages.lean ====
section
/-! DEFINITION. Machine/Stages.lean: what each stage of a sequence computes (Table 4.3), the perch store (R176 to R180) and
the order of stages. A stage run step by step and a descriptor run whole use the same effects. -/

namespace Sys2Proof.Machine

/-! ### The perch store -/

/-- Perches an image takes (R77, R176). -/
def Image.need (m : Image) : Nat := cdiv m.size 4194304

/-- Does an image occupy perches, resident or while it fills? -/
def Image.occupies (m : Image) : Bool := m.resident || m.filling.isSome

/-- Perches in use by the images of some VFs. -/
def State.perchesOf (s : State) (vfs : List Nat) : Nat :=
  s.images.foldl (fun n x => if vfs.contains x.2.vf && x.2.occupies then n + x.2.perches.length else n) 0

/-- VFs bound to a partition. -/
def State.tenantsOf (s : State) (part : Nat) : List Nat := s.tenants.keys (fun t => t.part == part)

/-- Perches of the device that no image occupies. -/
def State.freePerches (s : State) : List Nat :=
  (List.range 16).filter (fun k => !s.images.any (fun x => x.2.occupies && x.2.perches.contains k))

/-- Images a fill for this VF may evict, in the order of R178. -/
def State.evictable (s : State) (vf part : Nat) (quiet : Bool) : List Nat :=
  let vfs := if quiet then [vf] else s.tenantsOf part
  (sortBy (fun a b => decide (a.2.lastEnc < b.2.lastEnc) || (a.2.lastEnc == b.2.lastEnc && decide (a.1 ≤ b.1)))
    (s.images.filter (fun x => vfs.contains x.2.vf && x.2.resident && !x.2.pinned && x.2.running == 0))).map (·.1)

/-- Evict an image. -/
def State.evict (s : State) (h : Nat) : State := s.onImage h (fun m => { m with resident := false, perches := [], loaded := [] })

/-- Evict in order until a number of perches are free for the VF. -/
def State.makeRoom (s : State) (vf part cap need : Nat) (quiet : Bool) : List Nat → State
  | [] => s
  | h :: hs =>
    let used := if quiet then s.perchesOf [vf] else s.perchesOf (s.tenantsOf part)
    if used + need ≤ cap then s else (s.evict h).makeRoom vf part cap need quiet hs

/-- Start a fill (R177, R178): the state, and whether the image fills or is resident. -/
def State.startFill (s : State) (h : Nat) : State × Bool :=
  match Tab.find s.images h with
  | none => (s, false)
  | some m =>
    if m.occupies then (s, true)
    else if !s.homeUp m.tun then (s, false)
    else match Tab.find s.tenants m.vf, s.partOf m.vf with
      | some t, some (k, p) =>
        let cap := if p.quiet then t.perchq else p.perches
        let s' := s.makeRoom m.vf k cap m.need p.quiet (s.evictable m.vf k p.quiet)
        let used := if p.quiet then s'.perchesOf [m.vf] else s'.perchesOf (s'.tenantsOf k)
        if used + m.need ≤ cap && s'.perchesOf [m.vf] + m.need ≤ t.perchq && m.need ≤ s'.freePerches.length then
          (s'.onImage h (fun m => { m with filling := some s.now, perches := s'.freePerches.take m.need, part := k }), true)
        else (s, false)
      | _, _ => (s, false)

/-- A tenant holds its partition for work of a level (Table 5.4). -/
def State.holds (s : State) (vf level : Nat) : Bool :=
  match s.partOf vf with
  | none => false
  | some (k, p) =>
    if (s.tenantsOf k).length ≤ 1 then true
    else if !p.quiet && level < 4 then true
    else p.holder == vf && !p.switching

/-! ### ENC -/

/-- The image that encodes for a sequence. -/
def State.imageOf (s : State) (q : Sequence) : Option Image :=
  match s.indexOf q with
  | some i => s.encoderOf i
  | none => none

/-- Does ENC run (R21, R99)? Never for a part that came over the fabric: its request carries the code. -/
def Sequence.needsEnc (q : Sequence) : Bool :=
  q.home.isNone && ((q.opcode == 1 && !QueryDesc.hasCode q.desc) || (q.opcode == 2 && !WriteDesc.hasCode q.desc))

/-- Is the sequence's ring one that streams weights (R180)? -/
def State.streams (s : State) (q : Sequence) : Bool :=
  match q.rp with
  | some p => match Tab.find s.rings p with | some r => r.stream | none => false
  | none => false

/-- Count the tile of a stage that set SAT (bit 0) or LONGK (bit 1) (R215, Table 6.10). -/
def State.countTile (s : State) (flags : Nat) : State :=
  (s.count Reg.MXE_SATCNT (b2n (bit flags 0))).count Reg.MXE_LONGCNT (b2n (bit flags 1))

/-- Bytes of an image as an ENC reads them: from its perches while it is resident, else from its home (R176, R180, R228). -/
def State.imageBytes (s : State) (m : Image) (off n : Nat) : List Byte :=
  if m.resident then slice (m.loaded.drop off) 0 n else s.homeBytes m.tun (m.base + off) n

/-- The layer records of an image. -/
def State.layersOf (s : State) (m : Image) : List Numeric.Layer :=
  (List.range m.nlayer).map (fun k => Numeric.Layer.parse (s.imageBytes m (m.layeroff + 64 * k) 64))

/-- Is the tile of a stage 16 bits wide: every reduction on the B1, T2 or INT4 path (R215)? -/
def State.narrowTile (s : State) (q : Sequence) (enc : Bool) : Bool :=
  if enc then
    match s.imageOf q with
    | some m => (s.layersOf m).all (fun l => decide (l.wfmt ≤ 2))
    | none => false
  else match s.indexOf q with | some i => decide (i.vfmt ≤ 2) | none => false

/-- Tiles in progress: each until its stage ends. -/
def State.tiles (s : State) : List (Nat × Nat) := s.seqs.filterMap (fun (x : Nat × Sequence) => x.2.tile)

/-- A computation has used the registers of a tile: what its cells hold is not stated (log entry 113). -/
def State.useTile (s : State) (t : Option (Nat × Nat)) : State :=
  match t with
  | some (r, _) => { s with accs := Tab.insert s.accs r s.free, free := s.free + 1 }
  | none => s

/-- The start of an ENC is the last one of its image (R178). -/
def State.encStarts (s : State) (h : Nat) : State := s.onImage h (fun m => { m with lastEnc := s.tick })

/-- The first free place of a tile (R215): a 16-bit tile takes a free half beside another before a free register. -/
def State.tilePlace (s : State) (narrow : Bool) : Option (Nat × Nat) :=
  let t := s.tiles
  let free := fun (r : Nat) => !t.any (fun x => x.1 == r)
  let half := (List.range 128).findSome? (fun r =>
    let h := t.filter (fun x => x.1 == r)
    if h.length = 1 && h.all (fun x => x.2 != 2) then some (r, if h.any (fun x => x.2 == 0) then 1 else 0) else none)
  if narrow then
    match half with
    | some x => some x
    | none => ((List.range 128).find? free).map (fun r => (r, 0))
  else ((List.range 128).find? free).map (fun r => (r, 2))

/-- ENC of a sequence (R22, R98, R180, R227). An image that is not resident ends it with MODEL_ABSENT on a RESIDENT ring and
is streamed on a STREAM ring; either way a fill starts. SAT and LONGK stand in the flags of a query and of an insert (R214). -/
def State.encEffect (s : State) (e : Nat) : State :=
  match Tab.find s.seqs e with
  | none => s
  | some q =>
    match s.imageOf q with
    | none => s.onSeq e (fun q => { q with ending := some .modelAbsent })
    | some m =>
      let run := fun (s : State) =>
        let tree := q.isQuery && QueryDesc.tree q.desc
        let seed := if q.isQuery && QueryDesc.sround q.desc then some (QueryDesc.seed q.desc) else none
        let r := Numeric.encode ((s.seen q.gotLines).imageBytes m) m.layeroff m.nlayer m.infmt m.din q.vec tree seed
        let s := forAll (s.layersOf m) (fun l s => s.actMatrix q.vf (Numeric.rate l.wfmt) (l.dout * l.din)) s
        ((s.countTile r.2).useTile q.tile).onSeq e (fun q => { q with code := r.1, flags := q.flags ||| r.2 })
      if q.poison.isSome then s
      else if m.resident then run s
      else if s.streams q then
        if s.homeUp m.tun then run ((s.voidSeq e voidStream).startFill m.handle).1
        else let r := s.tunBad q m.tun; r.1.onSeq e (fun q => { q with poison := some r.2 })
      else (s.startFill m.handle).1.onSeq e (fun q => { q with ending := some .modelAbsent })

/-! ### BKT -/

def State.cqEffect (s : State) (e : Nat) : State :=
  match Tab.find s.seqs e with
  | none => s
  | some q =>
    match s.indexOf q with
    | none => s
    | some i => s.setSeq e { q with buckets := s.probed i q.code (QueryDesc.nprobe q.desc) }

/-- The list of one bucket's engine return, merged into its survivors (R255). -/
def State.collectInto (s : State) (e c : Nat) (l : List Cand) : State :=
  s.onSeq e (fun q => { q with survivors := Tab.insert q.survivors c (collect (Tab.read q.survivors [] c) l) })

/-- Lines that a frame needs beyond its own words (R250, R251, R253): none when its header is bad. -/
def State.frameLines (s : State) (q : Sequence) (l : Landed) : List Nat :=
  let m := s.seen [l]
  match s.indexOf q with
  | none => []
  | some i =>
    let uses :=
      if (s.heldBad [l] (l.addr / 64)).isSome then []
      else if l.kind = 1 then (if m.hopHeader i l.addr l.expect then m.hopUses i l.view l.addr else [])
      else if m.scanHeader i l.addr l.expect then m.scanUses i l.view l.addr else []
    uses.filter (fun w => w / 32 != l.addr / 2048)

/-- One engine scan of a frame whose lines are in: header check, uses, and the list (R250, R252). -/
def State.scanFrame (s : State) (e : Nat) (l : Landed) : State × List Cand :=
  match Tab.find s.seqs e with
  | none => (s, [])
  | some q =>
    let held := l :: q.gotLines
    let m := s.seen held
    match s.indexOf q with
    | none => (s, [])
    | some i =>
      if (s.heldBad held (l.addr / 64)).isSome then (s.usesHeld e held [l.addr / 64], [])
      else if !m.scanHeader i l.addr l.expect then (s.headerFault e l.addr, [])
      else
        let uses := m.scanUses i l.view l.addr
        if uses.any (fun w => (s.heldBad held w).isSome) then (s.usesHeld e held uses, [])
        else (s, m.scanBushel i l.view q.code l.addr)

/-- Stacked lines that a stage run whole reads and has not read yet: each is decoded, counted and held for the stage (R251). -/
def State.fetchLines (s : State) (e : Nat) (ws : List Nat) : State :=
  forAll ((dedup ws).filter isStacked) (fun w s =>
    match Tab.find s.seqs e with
    | some q =>
      if q.lines.contains w then s
      else
        let s := s.countWords [w]
        s.setSeq e { q with lines := q.lines ++ [w], gotLines := q.gotLines ++ [s.capture 3 (64 * w) 1 (s.viewOf q) 0] }
    | none => s) s

/-- A 2 KiB read of a stage run whole: decoded, counted and held. -/
def State.readFrame (s : State) (kind : Nat) (q : Sequence) (a expect : Nat) : State × Landed :=
  let s := s.countWords (wordsOf a 2048)
  (s, s.capture kind a 32 (s.viewOf q) expect)

/-- PROBE and SCAN of one bucket, run whole (R63, R250, R255, R653). -/
def State.scanBucket (s : State) (e c : Nat) : State :=
  match Tab.find s.seqs e with
  | none => s
  | some q =>
    match s.indexOf q with
    | none => s
    | some i =>
      let ls := (i.listLines c).filter (fun w => !i.pinned.contains w)
      let s := if ls.isEmpty then s else (s.countWords ls).voidSeq e voidList
      let s := s.seqUses e ls
      forAll (s.bucketBushels i c) (fun a s =>
        let r := s.readFrame 0 q a c
        let s := r.1.fetchLines e (r.1.frameLines q r.2)
        let r := s.scanFrame e r.2
        r.1.collectInto e c r.2) s

/-- SCAN run whole. -/
def State.scanEffect (s : State) (e : Nat) : State :=
  let s := (s.newIssue e).onSeq e (fun q => { q with survivors := [] })
  match Tab.find s.seqs e with
  | none => s
  | some q => (forAll q.buckets (fun c s => s.scanBucket e c) s).writeLists e

/-- Length of the candidate list (R31). -/
def Sequence.ncand (q : Sequence) : Nat :=
  if QueryDesc.rerank q.desc = 0 then QueryDesc.k q.desc else QueryDesc.rerank q.desc

/-- Result entries of a query without re-rank: distances (R32, R50). -/
def plainEntries (shard k : Nat) (cs : List Cand) : List Entry :=
  firstK k (valueKey false .dot) (cs.map (fun c => { ext := c.ext, shard := shard, value := c.dist }))

/-- MERGE (R31, R32): the candidate list, and the result list when nothing is re-ranked. -/
def State.mergeEffect (s : State) (e : Nat) : State :=
  match Tab.find s.seqs e with
  | none => s
  | some q =>
    match s.indexOf q with
    | none => s
    | some i =>
      let cs := candidates q.ncand (q.buckets.map (fun c => Tab.read q.survivors [] c))
      ((s.act 4 q.vf (q.buckets.foldl (fun n c => n + (Tab.read q.survivors [] c).length) 0)).setSeq e (if QueryDesc.rerank q.desc = 0 then
          { q with cands := cs, entries := plainEntries i.myShard (QueryDesc.k q.desc) cs, listed := true }
        else { q with cands := cs })).writeLists e

/-! ### CHN -/

/-- Stacked lines of the entry nodes (R251, Table 8.3). -/
def State.entryLines (s : State) (i : Index) (v : View) : List Nat :=
  dedup ((List.range i.nentry).flatMap (fun n => v.lines i (s.num (i.entries + 256 * n) 4)))

/-- The candidates of a finished walk: all of the result list when it is not re-ranked, else its first entries (R33, R34). -/
def State.walkDone (s : State) (e : Nat) : State :=
  match Tab.find s.seqs e with
  | none => s
  | some q =>
    match s.indexOf q with
    | none => s
    | some i =>
      let cs := q.walk.res.take q.ncand
      (s.setSeq e (if QueryDesc.rerank q.desc = 0 then
          { q with cands := cs, entries := plainEntries i.myShard (QueryDesc.k q.desc) cs, listed := true }
        else { q with cands := cs })).writeLists e

/-- Is the walk at its end (R33): no unexpanded node, or `fathom` hops? -/
def Sequence.walkOver (q : Sequence) : Bool := q.walk.next.isNone || decide (QueryDesc.fathom q.desc ≤ q.walk.hops)

/-- ENTRY, its lines already read and held. -/
def State.entryEffect (s : State) (e : Nat) : State :=
  match Tab.find s.seqs e with
  | none => s
  | some q =>
    match s.indexOf q with
    | none => s
    | some i =>
      let v := match q.gotLines with | l :: _ => l.view | [] => s.viewOf q
      let s := (s.setSeq e { q with walk := (s.seen q.gotLines).walkEntry i v q.code (QueryDesc.w q.desc) }).writeLists e
      match Tab.find s.seqs e with
      | some q => if q.walkOver then s.walkDone e else s
      | none => s

/-- What a HOP request returns once its lines are in: the header check, the uses, and the neighbours (R252, R253). -/
def State.hopFrame (s : State) (e : Nat) (l : Landed) : State × List Nbr :=
  match Tab.find s.seqs e with
  | none => (s, [])
  | some q =>
    let held := l :: q.gotLines
    let m := s.seen held
    match s.indexOf q with
    | none => (s, [])
    | some i =>
      if (s.heldBad held (l.addr / 64)).isSome then (s.usesHeld e held [l.addr / 64], [])
      else if !m.hopHeader i l.addr l.expect then (s.headerFault e l.addr, [])
      else
        let uses := m.hopUses i l.view l.addr
        if uses.any (fun w => (s.heldBad held w).isSome) then (s.usesHeld e held uses, [])
        else (s, m.hopRead i l.view q.code l.addr)

/-- One hop with the neighbours returned (R33): the walk moves, and ends after the last hop. -/
def State.hopEffect (s : State) (e : Nat) (ms : List Nbr) : State :=
  match Tab.find s.seqs e with
  | none => s
  | some q =>
    match q.walk.next with
    | none => s.walkDone e
    | some n =>
      let q := { q with walk := q.walk.expand (QueryDesc.w q.desc) n ms }
      let s := (s.setSeq e q).writeLists e
      if q.walkOver then s.walkDone e else s

/-- The hops of a walk run whole. -/
def State.hopsWhole (s : State) (e : Nat) : Nat → State
  | 0 => s
  | k + 1 =>
    match Tab.find s.seqs e with
    | none => s
    | some q =>
      if q.walkOver || q.poison.isSome then s
      else
        match s.indexOf q, q.walk.next with
        | some i, some n =>
          let r := (s.newIssue e).readFrame 1 q (i.bushel n) n
          let s := r.1.fetchLines e (r.1.frameLines q r.2)
          let r := s.hopFrame e r.2
          (r.1.hopEffect e r.2).hopsWhole e k
        | _, _ => s

/-! ### RERANK -/

/-- The query vector as the matrix engine takes it. -/
def Sequence.query (q : Sequence) : Numeric.Query :=
  { fmt := QueryDesc.vfmt q.desc, mx := QueryDesc.mx q.desc, dim := QueryDesc.vecDim q.desc, raw := q.vec,
    sq := QueryDesc.sqscale q.desc, tree := QueryDesc.tree q.desc,
    seed := if QueryDesc.sround q.desc then some (QueryDesc.seed q.desc) else none }

/-- Scoring (R32, R45, R48), the vectors already read and held. -/
def State.rerankEffect (s : State) (e : Nat) : State :=
  match Tab.find s.seqs e with
  | none => s
  | some q =>
    match s.indexOf q with
    | none => s
    | some i =>
      let r := (s.seen q.gotLines).rescore i q.query q.cands
      let s := ((s.actMatrix q.vf (Numeric.rate i.vfmt) (q.cands.length * i.dim)).countTile r.2).useTile q.tile
      s.setSeq e { q with entries := firstK (QueryDesc.k q.desc) (valueKey true i.metric) r.1, flags := q.flags ||| r.2,
                          listed := true }

/-! ### Writes -/

/-- Is the target of a write on this device? Shard parts always are. -/
def State.localWrite (s : State) (q : Sequence) : Bool :=
  q.home.isSome || q.opcode == 4 ||
    match s.indexOf q with
    | some i => !i.sharded || WriteDesc.shard q.desc == i.myShard
    | none => true

/-- Bucket of an insert: given, or the nearest centroid (R28). -/
def State.bucketOf (s : State) (i : Index) (q : Sequence) : Nat :=
  if WriteDesc.hasBucket q.desc then WriteDesc.bucket q.desc else s.nearest i q.code

/-- Semaphores a write needs (Table 5.7, R169). -/
def State.semsFor (s : State) (q : Sequence) : List Nat :=
  match s.indexOf q with
  | none => []
  | some i =>
    let dir := 2048 + idWord i.w (WriteDesc.ext q.desc) % 2048
    match q.opcode with
    | 2 => (if i.chn then [] else [s.bucketOf i q % 2048]) ++ [dir]
    | 3 => [dir]
    | _ => []

/-- Words PLACE reads to decide, and words its COMMIT writes in part (R139, R283). -/
def State.placeReads (s : State) (q : Sequence) : List Nat × List Nat :=
  match s.indexOf q with
  | none => ([], [])
  | some i =>
    match q.opcode with
    | 2 =>
      let c := s.bucketOf i q
      (s.insertReads i (WriteDesc.ext q.desc) c, s.insertParts i c (s.insertLogs i (WriteDesc.ext q.desc)))
    | 3 =>
      let x := (s.idLookup i (WriteDesc.ext q.desc)).found
      (dedup (s.lookupWords i (WriteDesc.ext q.desc) ++ (match x with | some x => [(i.tomb + x / 2) / 64] | none => [])),
       match i.openRec, x with
        | some t, some _ => wordsOf ((i.record t).dlbase + 8 * (i.record t).dlcount) 8
        | _, _ => [])
    | _ => ([], [])

/-- Entries of the write-combining buffer that a COMMIT reserves: the distinct stacked words it can write, from what PLACE
read (R261). Of an insert: LIDX, CODE and header word, a list entry when it needs a new bushel, ID table and ID directory, its
vector record, the old item's tag, and a word for each delta-log entry; of a delete that takes effect, its tag and its log. -/
def State.commitWords (s : State) (q : Sequence) : Nat :=
  match s.indexOf q with
  | none => 0
  | some i =>
    let old := (s.idLookup i (WriteDesc.ext q.desc)).found
    match q.opcode with
    | 2 =>
      1 + cdiv i.s 64 + 1 + b2n (s.openBushel i q.placed.bucket).isNone + 1 + 1
        + (if i.rerank && i.vecTun.isNone then i.stride / 64 else 0) + b2n old.isSome + s.insertLogs i (WriteDesc.ext q.desc)
    | 3 => match old with | some x => if s.tagOf i x = 0 then 2 else 0 | none => 0
    | _ => 0

/-- The record that a completion carries for a bad word among the reads a sequence holds (R281): made now for a poisoned word,
when it was decoded for an uncorrectable one. -/
def State.heldRecord (s : State) (q : Sequence) (w : Nat) : State × Nat :=
  match s.heldBad q.gotLines w with
  | some (some n) => (s, n)
  | _ => s.useBad q w

/-- Each of some bad words is recorded; the number of the first one. -/
def State.heldRecords (s : State) (q : Sequence) (ws : List Nat) : State × Option Nat :=
  ws.foldl (fun (r : State × Option Nat) w =>
    let x := r.1.heldRecord q w
    (x.1, match r.2 with | some n => some n | none => some x.2)) (s, none)

/-- PLACE of an insert or delete, its words already read and held (R139, R281, R283): QUOTA or POISON is decided, or damaged words
noted. -/
def State.placeEffect (s : State) (e : Nat) : State :=
  match Tab.find s.seqs e with
  | none => s
  | some q =>
    match s.indexOf q with
    | none => s
    | some i =>
      let (reads, parts) := s.placeReads q
      let isBad := fun (w : Nat) => (s.heldBad q.gotLines w).isSome
      let (s, first) := s.heldRecords q (reads.filter isBad)
      match first with
      | some n => s.onSeq e (fun q => { q with poison := some n })
      | none =>
        let unsound := parts.filter (fun w => !reads.contains w && isBad w)
        let (s, dam) := s.heldRecords q unsound
        if q.opcode = 2 && i.rerank && !s.homeUp i.vecTun then
          let r := s.tunBad q i.vecTun
          r.1.onSeq e (fun q => { q with poison := some r.2 })
        else
          let c := s.bucketOf i q
          let fits := q.opcode != 2 || s.insertFits i c (s.insertLogs i (WriteDesc.ext q.desc))
          s.onSeq e (fun q => { q with damaged := dam, placed := { q.placed with bucket := c, unsound := unsound },
                                       wrote := if fits then none else some (.quota, 0, 0) })

/-- A publish in PLACE whose turn it is chooses its retiree, at rung 6 (R41, R139, R172): done, or still waiting. An index that a
bad delta-log word has damaged publishes no more (R286). -/
def State.chooseEffect (s : State) (e : Nat) : State :=
  match Tab.find s.seqs e with
  | none => s
  | some q =>
    match s.indexOf q with
    | none => s
    | some i =>
      if i.pubs.head? != some e then s
      else if i.st == .damaged then s.setSeq e { q with phase := .done, poison := some i.damage }
      else match i.chooseRetiree with
        | none => s
        | some none => s.setSeq e { q with phase := .done }
        | some (some t) => (s.setSeq e { q with phase := .done }).setIndex q.index (i.retire t)

/-- Stacked words that the next step of a publish's fold reads (R261, R283). -/
def State.foldWords (s : State) (q : Sequence) : List Nat := let r := s.foldReads q.index; dedup (r.1 ++ r.2)

/-- Entries of the write-combining buffer that it reserves: one a DELETE entry (R261). -/
def State.foldRoom (s : State) (q : Sequence) : Nat := (s.foldReads q.index).2.length

/-- Words of a write that were found bad before it committed: a drain finds them so again (R285). -/
def State.markUnsound (s : State) (ws : List Nat) : State :=
  { s with wcb := s.wcb.map (fun x => if ws.contains x.1 then (x.1, { x.2 with sound := false }) else x) }

/-- One step of a publish's fold, its words already read and held (R74, R283, R286): the state, and whether the fold is over. -/
def State.foldEffect (s : State) (e : Nat) : State × Bool :=
  match Tab.find s.seqs e with
  | none => (s, true)
  | some q =>
    let (s, ended, badLog, badTombs) := s.foldStep (fun w => (s.heldBad q.gotLines w).isSome) (some (e / 1024)) q.index
    let (s, dam) := s.heldRecords q badTombs
    let s := (s.markUnsound badTombs).onSeq e (fun q => if q.damaged.isSome then q else { q with damaged := dam })
    match badLog with
    | some w =>
      let r := s.heldRecord q w
      ((r.1.onSeq e (fun q => { q with poison := some r.2 })).onIndex q.index (fun i => { i with st := .damaged, damage := r.2 }), true)
    | none => (s, ended)

/-- The commit of a local write: what it writes, at its commit point (R78, R80, R74), and the status, epoch and AUX it
completes with. SAT and LONGK of the n_x of an insert stand in its flags (R47, R214). -/
def State.writeEffect (s : State) (e : Nat) : State :=
  match Tab.find s.seqs e with
  | none => s
  | some q =>
    let rood := some (e / 1024)
    let tile := match s.indexOf q with
      | some i => if q.opcode = 2 && i.rerank then (i.normTile q.vec).2 else 0
      | none => 0
    let done := fun (r : Option (State × Nat × Nat)) =>
      match r with
      | some (s, aux, ep) =>
        ((s.markUnsound q.placed.unsound).countTile tile).onSeq e (fun q =>
          { q with wrote := some (if q.damaged.isSome then .poisonWrite else .ok, ep, aux), flags := q.flags ||| tile })
      | none => s.onSeq e (fun q => { q with wrote := some (.quota, 0, 0) })
    if q.poison.isSome then s.onSeq e (fun q => { q with wrote := some (.poison, 0, 0) })
    else if q.wrote.isSome then s
    else match q.opcode with
      | 2 => done (s.applyInsert rood q.index q.placed.bucket (WriteDesc.ext q.desc) q.code q.vec)
      | 3 => done (s.applyDelete rood q.index (WriteDesc.ext q.desc))
      | _ => done ((s.applyPublish q.index).map (fun r => (r.1, r.2.2, r.2.1)))

/-! ### The order of stages (Table 4.3) -/

/-- Stage codes of Table 4.4. -/
def stADM : Nat := 1
def stENC : Nat := 2
def stCQ : Nat := 3
def stPROBE : Nat := 4
def stSCAN : Nat := 5
def stMERGE : Nat := 6
def stRERANK : Nat := 7
def stFIN : Nat := 8
def stENTRY : Nat := 9
def stHOP : Nat := 0xA
def stPLACE : Nat := 0xB
def stFOLD : Nat := 0xC
def stCOMMIT : Nat := 0xD
def stARRIVE : Nat := 0xE
def stUPSEND : Nat := 0xF

/-- The stage that ends a sequence. -/
def Sequence.lastStage (q : Sequence) : Nat := if q.home.isSome then stUPSEND else if q.isQuery then stFIN else stCOMMIT

/-- First stage after ADM and ENC, or after ARRIVE. -/
def State.firstWork (s : State) (q : Sequence) : Nat :=
  if q.isQuery then
    match s.indexOf q with
    | some i => if i.chn then stENTRY else stCQ
    | none => q.lastStage
  else if s.localWrite q then stPLACE else stCOMMIT

/-- The stage a killed sequence runs again (R140, R164). -/
def Sequence.rerun (q : Sequence) : Nat :=
  if q.stage = stSCAN then stPROBE
  else if !q.isQuery && (q.stage = stFOLD) then stPLACE
  else q.stage

/-- The next stage of a sequence whose current stage has ended. -/
def State.nextStage (s : State) (q : Sequence) : Nat :=
  if q.ending.isSome then (if q.home.isSome then stUPSEND else stFIN)
  else if q.redo then q.rerun
  else if q.poison.isSome then q.lastStage
  else if q.wrote.isSome then q.lastStage
  else if q.stage = stADM then (if q.needsEnc then stENC else s.firstWork q)
  else if q.stage = stENC || q.stage = stARRIVE then s.firstWork q
  else if q.stage = stCQ then stPROBE
  else if q.stage = stPROBE || q.stage = stSCAN then stMERGE
  else if q.stage = stENTRY || q.stage = stHOP then
    if !q.walkOver then stHOP
    else if QueryDesc.rerank q.desc = 0 then q.lastStage else stRERANK
  else if q.stage = stMERGE then (if QueryDesc.rerank q.desc = 0 then q.lastStage else stRERANK)
  else if q.stage = stPLACE then (if q.opcode = 4 then stFOLD else q.lastStage)
  else q.lastStage

/-- A stage ended: the sequence is ready from the next tick (R138), its tile is free (R215), and the lines it has written stay
(Table 5.6). -/
def State.endStage (s : State) (e : Nat) : State :=
  s.onSeq e (fun q => { q with phase := .done, tile := none, keptLines := q.cached ++ q.spilled })

end Sys2Proof.Machine
end

