-- ==== Sys2Proof/Machine/Commit.lean ====
section
/-! DEFINITION. Machine/Commit.lean: how a sequence of a ring pair ends: its status (Tables 1.4 and 3.10), its completion
record (Tables 3.7 and 3.8), what it gives back, and kills (R101 to R106, R163, R490). -/

namespace Sys2Proof.Machine

/-! ### Writes to host memory -/

/-- The PASID that DMA requests of a function carry (R416). -/
def FnState.tag (x : FnState) : Option Nat := if x.pasidEnable then x.pasid else none

/-- With ATS Enable set, the translation of an address enters the cache of 4,096 entries (R417). -/
def State.translate (s : State) (f addr : Nat) : State :=
  let x := s.fnAt f
  let a : AtcEntry := { fn := f, pasid := x.tag, page := addr / 4096 }
  if !x.atsEnable || s.host.atc.contains a then s
  else { s with host := { s.host with atc := s.host.atc.drop (s.host.atc.length + 1 - 4096) ++ [a] } }

/-- A DMA write for a function: issued now, or held while Bus Master Enable is clear (R656). -/
def State.dmaWrite (s : State) (f addr : Nat) (bs : List Byte) : State :=
  let x := s.fnAt f
  let s := s.act 14 f (cdiv bs.length 64)
  if x.bme then (s.translate f addr).emit (.dmaWrite f x.tag addr bs) else s.setFn f { x with heldDma := x.heldDma ++ [(addr, bs)] }

/-- An AER status bit of the PF (Table 12.6). -/
def State.aer (s : State) (a : Aer) : State :=
  if s.host.aer.contains a then s else { s with host := { s.host with aer := s.host.aer ++ [a] } }

/-! ### Statuses and flags -/

/-- POISON of the merged list of a sharded query (bit 0 of FLAGS, Table 11.6). -/
def ListIn.poisoned (l : ListIn) : Bool := bit l.flags 0

/-- The list a query ends with: its own, or what the lane has merged (R49, R393). -/
def Sequence.finalList (q : Sequence) : ListIn :=
  match q.remote.list with
  | some l => l
  | none => { entries := if q.listed then q.entries else [], ncontrib := if q.listed then 1 else 0 }

/-- Shards of the query's index. -/
def State.shardCount (s : State) (q : Sequence) : Nat :=
  match s.indexOf q with | some i => i.shards.length | none => 1

def State.isSharded (s : State) (q : Sequence) : Bool :=
  match s.indexOf q with | some i => i.sharded | none => false

/-- Did the remote-request timer fire for this query (R393)? -/
def Sequence.timedOut (q : Sequence) : Bool := q.remote.fired || bit q.finalList.flags 5

/-- Status of a query (Table 1.4, R52, R53). -/
def State.queryEnd (s : State) (q : Sequence) : Status :=
  let l := q.finalList
  let poisoned := q.poison.isSome || l.poisoned
  let byList := if poisoned then .poison
    else if !s.isSharded q then .ok
    else if l.ncontrib = 0 then .shardUnreachable
    else if l.ncontrib < s.shardCount q then .okPartial
    else .ok
  match q.ending with
  | some .deadline => if poisoned then .poison else if l.ncontrib = 0 then .deadline else .deadlinePartial
  -- the remote-request timer ended it: its lists decide
  | some .ok => byList
  | some st => st
  | none => byList

/-- Status, epoch and AUX of a write (Table 3.10). -/
def Sequence.writeEnd (q : Sequence) : Status × Nat × Nat :=
  match q.ending with
  | some st => (st, 0, 0)
  | none => match q.wrote with
    | some r => r
    | none => (.ok, 0, 0)

/-- NLATE: shards neither merged in nor failed, of a query that a timer or the deadline ended (R54, R393). The shard of an index
that is not sharded counts like any other. -/
def State.nlate (s : State) (q : Sequence) : Nat :=
  let l := q.finalList
  if q.timedOut || q.ending == some .deadline then s.shardCount q - l.ncontrib - l.nfail else 0

/-- FLAGS of a completion (Table 3.8, R54, R55, R143). -/
def State.flagsEnd (s : State) (q : Sequence) (st : Status) : Nat :=
  let l := q.finalList
  let own := q.flags ||| (b2n (bit l.flags 1) + b2n (bit l.flags 2) * 2)
  let voids := q.isQuery && q.lc && (q.void != 0 || l.void != 0 || q.timedOut)
  own % 4 + b2n voids * 4 + b2n (st == .deadlinePartial || st == .okPartial) * 8
    + b2n (q.throttled || bit l.flags 3) * 16 + b2n (q.isQuery && s.nlate q != 0) * 32

/-! ### Completion records -/

/-- A completion without its PHASE byte (Table 3.7). -/
structure Completion where
  tag : Nat
  status : Status
  opcode : Nat
  flags : Nat := 0
  nres : Nat := 0
  nshard : Nat := 0
  nlate : Nat := 0
  epoch : Nat := 0
  aux : Nat := 0
  admitTick : Nat
  steps : Nat
  errseq : Nat := 0
deriving DecidableEq, Repr

/-- The 64 bytes of a record (Table 3.7). -/
def Completion.bytes (c : Completion) (sqhead phase : Nat) : List Byte :=
  leBytes 4 c.tag ++ leBytes 1 c.status.code ++ leBytes 1 c.opcode ++ leBytes 2 c.flags ++ leBytes 2 c.nres ++ leBytes 2 sqhead
    ++ leBytes 2 c.nshard ++ leBytes 2 c.nlate ++ leBytes 8 c.epoch ++ leBytes 8 c.aux ++ leBytes 8 c.admitTick
    ++ leBytes 4 c.steps ++ leBytes 4 c.errseq ++ List.replicate 15 0 ++ leBytes 1 phase

/-- AER status of a failed DMA request, and its host-domain record (R93, R95, R104, R419; Table 12.6). -/
def dmaOcc (f addr : Nat) (k : DmaFault) : Occ :=
  { cause := (match k with
      | .timeout => Cause.dmaTimeout
      | .ur => Cause.dmaAbort
      | .ca => Cause.dmaAbort
      | .poison => Cause.hostPoisonRx
      | .denied => Cause.atsDenied),
    func := f, subject := f, addr := (if k = .poison then 0 else addr),
    -- PRESUMED: the completion status codes of PCI Express (log entry 13)
    arg0 := match k with | .ur => 1 | .ca => 4 | _ => 0 }

/-- Its AER status (Table 12.6). -/
def dmaAer : DmaFault → Option Aer
  | .timeout => some .completionTimeout
  | .ur => some .unsupportedRequest
  | .ca => some .completerAbort
  | .poison => some .poisonedTlp
  | .denied => none

/-- A DMA request of a function fails: its AER status and its record. -/
def State.dmaFailed (s : State) (f addr : Nat) (k : DmaFault) : State :=
  (match dmaAer k with | some a => s.aer a | none => s).record (dmaOcc f addr k)

/-- Has the CQ of a ring pair faulted: are its completions lost (R93)? -/
def State.cqGone (s : State) (p : Nat) : Bool := bits (s.reg (Reg.QFE_RSTATE p)) 7 4 == 2

/-- A ring pair enters FAULT with a cause (R92, R93, R491). A STOPPED one stays STOPPED until it is destroyed (R88). -/
def State.ringFault (s : State) (p cause : Nat) : State :=
  if s.ringState p = 2 then s.setReg (Reg.QFE_RSTATE p) (cause * 16 + 2)
  else (s.setReg (Reg.QFE_RSTATE p) (cause * 16 + 3)).onRing p (fun r => { r with signalNow := true })

/-- One completion goes to its CQ (R101, R102, R105). The write may fault: this completion and all later ones are then lost (R93). -/
def State.complete (s : State) (p : Nat) (c : Completion) : State :=
  match Tab.find s.rings p with
  | none => s
  | some r =>
    let gone := { r with admitted := r.admitted - 1, cqFault := none }
    if s.cqGone p then (s.setRing p gone).count (Reg.QFE_CQLOST p) 1
    else
      match r.cqFault with
      | some k =>
        (((s.setRing p gone).dmaFailed (ringVf p) (r.cqbase + 64 * r.cqtail) k).ringFault p 2).count (Reg.QFE_CQLOST p) 1
      | none =>
        let s := s.dmaWrite (ringVf p) (r.cqbase + 64 * r.cqtail) (c.bytes (s.reg (Reg.QFE_SQHEAD p) % 2 ^ 16) r.phase)
        let wrap := decide (r.cqsize ≤ r.cqtail + 1)
        s.setRing p { r with admitted := r.admitted - 1, cqtail := if wrap then 0 else r.cqtail + 1,
                             phase := if wrap then 1 - r.phase else r.phase,
                             oldest := if r.unsig = 0 then s.now else r.oldest, unsig := r.unsig + 1 }

/-- A ring pair signals (R490, R491): RINGS of its VF, and a new count. -/
def State.signal (s : State) (p : Nat) : State :=
  (s.setSummary (ringVf p) 0 (2 ^ ringLocal p)).onRing p (fun r => { r with unsig := 0, signalNow := false })

/-- Is a signal due: by count, by time, or because the state became FAULT or STOPPED (R490, R491)? -/
def State.signalDue (s : State) (r : Ring) : Bool :=
  r.signalNow || decide (r.coalcnt ≤ r.unsig) && r.unsig != 0
    || (r.unsig != 0 && decide (r.oldest + usec r.coalus ≤ s.now))

/-! ### What a sequence gives back -/

/-- Release a pin (R39). -/
def State.unpin (s : State) (q : Sequence) : State :=
  match q.pin with
  | some (t, _) => s.onIndex q.index (fun i => let r := i.record t; i.setRecord t { r with pins := r.pins - 1 })
  | none => s

/-- Release a filter; a deleted one gives its storage back after its last pin (R25). -/
def State.unpinFilter (s : State) (q : Sequence) : State :=
  match q.filter with
  | some h => s.onFilter h (fun f => { f with pins := f.pins - 1 })
  | none => s

/-- Release the semaphores of a sequence: they are granted from the next tick on (R170). -/
def State.dropSems (s : State) (e : Nat) : State :=
  match Tab.find s.seqs e with
  | none => s
  | some q =>
    (s.setSeq e { q with sems := [], waitsOn := [] }).onIndex q.index (fun i =>
      { i with sems := i.sems.filter (fun x => x.2 != e), cooling := i.cooling ++ q.sems })

/-- An encoder that a sequence runs on, released. -/
def State.dropEnc (s : State) (q : Sequence) : State :=
  if q.stage = stENC && (q.phase == .running || q.phase == .waiting) then
    match s.imageOf q with
    | some m => s.onImage m.handle (fun m => { m with running := m.running - 1 })
    | none => s
  else s

/-- Everything a sequence holds, given back, and its entry free from the next tick on (R120, Table 5.6). -/
def State.release (s : State) (e : Nat) : State :=
  match Tab.find s.seqs e with
  | none => s
  | some q =>
    let s := (((s.dropReads e).dropSems e).dropEnc q).unpin q |>.unpinFilter q
    let s := s.onIndex q.index (fun i => { i with holds := i.holds - 1, pubs := i.pubs.filter (· != e) })
    s.dropSeq e

/-- The completion of a live sequence of a ring pair, at its commit in this tick (R147). -/
def State.completionOf (s : State) (q : Sequence) (steps : Nat) : Completion :=
  if q.isQuery then
    let st := if q.resFault.isSome && (s.queryEnd q).hasEntries then Status.badDescriptor else s.queryEnd q
    let l := q.finalList
    let es := if st.hasEntries then l.entries.take (QueryDesc.k q.desc) else []
    { tag := q.tag, status := st, opcode := q.opcode, flags := s.flagsEnd q st, nres := es.length, nshard := l.ncontrib,
      nlate := s.nlate q, epoch := (match q.pin with | some (_, n) => n | none => 0), aux := 0, admitTick := q.admitTick, steps := steps,
      errseq := if st == .poison then q.poison.getD 0 else 0 }
  else
    let (st, ep, aux) := q.writeEnd
    { tag := q.tag, status := st, opcode := q.opcode, flags := s.flagsEnd q st, epoch := ep, aux := aux, admitTick := q.admitTick,
      steps := steps,
      errseq := match st with | .poison => q.poison.getD 0 | .poisonWrite => q.damaged.getD 0 | _ => 0 }

/-- Write the result entries of a query (R103). -/
def State.writeResults (s : State) (q : Sequence) (c : Completion) : State :=
  if q.isQuery && c.status.hasEntries && c.nres != 0 then
    s.dmaWrite q.vf (QueryDesc.resAddr q.desc) ((q.finalList.entries.take c.nres).flatMap Entry.bytes)
  else s

/-- A poisoned list of a sharded query: the home records REMOTE_POISON and carries that record (R393). -/
def State.remotePoison (s : State) (q : Sequence) : State × Sequence :=
  match q.remote.list with
  | some l =>
    if l.poisoned && q.poison.isNone then
      let r := s.occur { cause := Cause.remotePoison, func := q.vf, subject := l.pdev, arg0 := l.pdev, arg1 := l.pseq }
      (r.1, { q with poison := some r.2 })
    else (s, q)
  | none => (s, q)

/-- The commit of a ring sequence at the end of its tick (R105): results, completion, and everything given back. A sequence
that an FLR ended leaves no record (R190). -/
def State.commitSeq (s : State) (e steps : Nat) : State :=
  match Tab.find s.seqs e with
  | none => s
  | some q =>
    let s := if !q.isQuery && q.ending.isNone && s.localWrite q then s.writeEffect e else s
    match Tab.find s.seqs e with
    | none => s
    | some q =>
      let (s, q) := if q.isQuery then s.remotePoison q else (s, q)
      let c := s.completionOf q steps
      let s := match q.rp with
        | some p =>
          if q.silent then s
          else
            let s := match q.resFault with
              | some k => if (s.queryEnd q).hasEntries then s.dmaFailed q.vf (QueryDesc.resAddr q.desc) k else s
              | none => s
            (s.writeResults q c).complete p c
        | none => s
      (s.setSeq e q).release e

/-- A descriptor that failed at admission completes in the tick after (R108, R147), with the flags of that time (R55, R143). -/
def State.commitFailing (s : State) (x : Failing) : State :=
  s.complete x.rp { tag := descTag x.desc, status := x.status, opcode := descOp x.desc, admitTick := x.tick, steps := 2,
                    flags := b2n x.void * 4 + b2n x.throttled * 16 }

/-! ### Kills (R160 to R164) -/

/-- Does a sequence have a stage in progress that a kill would discard, and may it be killed (R160, R161)? One killed before, and not
started again, has none. -/
def Sequence.killable (q : Sequence) : Bool :=
  q.phase != .done && q.phase != .again && !q.committing && q.stage != stFIN && q.stage != stCOMMIT && q.stage != stUPSEND && q.home.isNone
    && !q.remote.sent && q.ending.isNone

/-- Kill a sequence's stage (Table 5.6, R163, R164). A publish keeps what its fold steps met (R140, R283). -/
def State.killSeq (s : State) (e : Nat) : State :=
  match Tab.find s.seqs e with
  | none => s
  | some q =>
    if q.killable then
      let s := (s.count64 (Reg.STB_KILLS (q.vf - 1)) 1).count64 (Reg.STB_KILLSTEP (q.vf - 1)) (s.tick - q.stageTick)
      let s := (((s.dropEnc q).dropSems e).discardReads e)
      s.onSeq e (fun q => { q.dropLines with
        phase := .again, killed := true, tile := none, folding := false,
        survivors := if q.stage = stSCAN || q.stage = stPROBE then [] else q.survivors,
        wrote := none, damaged := if q.opcode = 4 then q.damaged else none, poison := if q.isQuery then q.poison else none })
    else s

/-- May an ending decided before be replaced by another: a cancel, a deadline or a timer of the same tick, which rank below a
revocation, and a deadline below a cancel (R52, R118, Table 1.4)? -/
def outranked (old new : Status) : Bool :=
  match new with
  | .revoked => old == .cancelled || old == .deadline || old == .ok
  | .cancelled => old == .deadline || old == .ok
  | .deadline => old == .ok
  | _ => false

/-- A cancel, a deadline or a revocation ends a sequence (R132): its reads go, and its FIN runs in this tick. The first row of
Table 1.4 that applies decides (R52). DESIGN CHOICE: STB_KILLS and STB_KILLSTEP count kills at slot boundaries alone, and none that a
revocation, an FLR or a removal ends (log entry 126). -/
def State.endSeq (s : State) (e : Nat) (st : Status) (silent : Bool) : State :=
  match Tab.find s.seqs e with
  | none => s
  | some q =>
    if q.committing then s
    else
      match q.ending with
      | some old => s.setSeq e { q with ending := some (if outranked old st then st else old), silent := q.silent || silent }
      | none =>
        let s := ((s.dropEnc q).dropSems e).discardReads e
        s.onSeq e (fun q => { q with ending := some st, phase := .done, tile := none, folding := false, silent := q.silent || silent })

end Sys2Proof.Machine
end

