-- ==== Sys2Proof/Machine/Rings.lean ====
section
/-! DEFINITION. Machine/Rings.lean: doorbells, cancels and the front end's fetches (R86 to R95, R116, R124). -/

namespace Sys2Proof.Machine

/-- Is the data plane up: not in the fatal state (R505) and not in reset? -/
def State.up (s : State) : Bool := !s.fatal && !s.inReset

/-- Is the function's memory space open to requests (R411, R414)? -/
def State.memOpen (s : State) (f : Nat) : Bool :=
  if f = 0 then s.host.mse else s.host.vfEnable && decide (f ≤ s.host.numVfs) && s.host.vfMse && !(s.fnAt f).flr

/-- Function that a BAR belongs to. -/
def barFn : BarView → Nat
  | .pf0 => 0
  | .pf2 => 0
  | .vf v => v.val + 1

/-- Does a BAR view show a ring pair's window (Table 20.5)? -/
def barShows (v : BarView) (p : Nat) : Bool :=
  match v with
  | .vf f => ringVf p == f.val + 1
  | _ => true

/-- Is a ring pair closed to this view, because its TDI is locked (R415, R647)? -/
def State.tdiBlocked (s : State) (v : BarView) (p : Nat) : Bool :=
  barFn v == 0 && ((s.fnAt (ringVf p)).tdi == 1 || (s.fnAt (ringVf p)).tdi == 2)

/-- TDI_BLOCK (R415, R647): Unsupported Request, and a record naming the function and the address in the BAR of the view. -/
def State.tdiBlock (s : State) (v : BarView) (off : Nat) : State :=
  ((s.emit (.readData 0 none)).aer .unsupportedRequest).record
    { cause := Cause.tdiBlock, func := 0, subject := 0, addr := s.host.bars.getD (match v with | .pf0 => 0 | _ => 1) 0 + off }

/-- A register write that is no pair of 32-bit halves discards the low half that its function's write shadow holds (R8). -/
def State.dropHeld (s : State) (f : Nat) : State := s.setShadow f { s.shadow f with wr := none }

/-- An access to a register discards a held low half of another (R8). -/
def State.touch (s : State) (f off : Nat) : State :=
  match (s.shadow f).wr with
  | some (a, _) => if a = off then s else s.dropHeld f
  | none => s

/-- Run a write of a ring window: it must be reachable, and not blocked. -/
def State.ringAccess (s : State) (v : BarView) (p : Nat) (off : Nat) (f : State → State) : State :=
  if !barShows v p || !s.memOpen (barFn v) then s
  else if s.tdiBlocked v p then s.tdiBlock v off
  else f (s.dropHeld (barFn v))

/-- A refused doorbell writes DB_STATE or DB_RANGE (R90). -/
def State.badDoorbell (s : State) (p val : Nat) : State :=
  if s.ringState p != 1 then s.record { cause := Cause.dbState, func := ringVf p, subject := p, arg0 := s.ringState p }
  else s.record { cause := Cause.dbRange, func := ringVf p, subject := p, arg0 := val }

/-- Does the SQ tail value keep to the ring (R90)? -/
def tailOk (size head old v : Nat) : Bool :=
  decide (v < size) && decide ((old + size - head) % size ≤ (v + size - head) % size)

/-- Does the CQ head value keep to the entries written (R90)? -/
def cqHeadOk (size w old v : Nat) : Bool :=
  decide (v < size) && decide ((v + size - old) % size ≤ (w + size - old) % size)

/-- An SQ doorbell reaches the front end (R89, R90, R505). -/
def State.sqDoorbell (s : State) (p val : Nat) : State :=
  if !s.up then s
  else match Tab.find s.rings p with
    | some r =>
      if s.ringState p = 1 && tailOk r.sqsize (s.reg (Reg.QFE_SQHEAD p) % 2 ^ 16) (s.reg (Reg.QFE_SQTAIL p) % 2 ^ 16) val then
        s.setReg (Reg.QFE_SQTAIL p) val
      else s.badDoorbell p val
    | none => s.badDoorbell p val

/-- A CQ doorbell reaches the front end (R89, R90). -/
def State.cqDoorbell (s : State) (p val : Nat) : State :=
  if !s.up then s
  else match Tab.find s.rings p with
    | some r =>
      if s.ringState p = 1 && cqHeadOk r.cqsize r.cqtail (s.reg (Reg.QFE_CQHEAD p) % 2 ^ 16) val then
        s.setReg (Reg.QFE_CQHEAD p) val
      else s.badDoorbell p val
    | none => s.badDoorbell p val

/-- A cancel is stored, up to 16 in a tick; a further one counts a miss and writes DB_RANGE (R116). On a ring pair that has not
been created it will match nothing. -/
def State.cancelWrite (s : State) (p tag : Nat) : State :=
  let many := fun (s : State) =>
    (s.count (Reg.QFE_CNCMISS p) 1).record { cause := Cause.dbRange, func := ringVf p, subject := p, arg0 := tag }
  if !s.up then s
  else match Tab.find s.rings p with
    | some r =>
      if r.cancels.length < 16 then s.setRing p { r with cancels := r.cancels ++ [tag], cancelTick := s.tick } else many s
    | none =>
      if (s.strays.filter (· == p)).length < 16 then { s with strays := s.strays ++ [p], strayTick := s.tick } else many s

/-- QFE_SQTAIL (R89, R90). Only TAIL, bits [15:0], is a field. -/
def execQfeSqtail (v : BarView) (p : RingPair) (val : Word32) (s : State) : Host.Outcome State Fault Refusal :=
  .next (s.ringAccess v p (Reg.QFE_SQTAIL p) (fun s => s.sqDoorbell p (val.toNat % 2 ^ 16)))

/-- QFE_CQHEAD (R89, R90). -/
def execQfeCqhead (v : BarView) (p : RingPair) (val : Word32) (s : State) : Host.Outcome State Fault Refusal :=
  .next (s.ringAccess v p (Reg.QFE_CQHEAD p) (fun s => s.cqDoorbell p (val.toNat % 2 ^ 16)))

/-- QFE_CANCEL (R116). -/
def execQfeCancel (v : BarView) (p : RingPair) (tag : Word32) (s : State) : Host.Outcome State Fault Refusal :=
  .next (s.ringAccess v p (Reg.QFE_CANCEL p) (fun s => s.cancelWrite p tag.toNat))

/-! ### Fetches (R87, R124) -/

/-- May the front end fetch for a ring pair: ACTIVE and not closing, its function able to send, the device up (R92, R656)? -/
def State.mayFetch (s : State) (p : Nat) (r : Ring) : Bool :=
  s.up && s.ringState p == 1 && !r.fresh && !r.closing && s.maySend (ringVf p)

/-- Descriptors that a doorbell covers and that have not been fetched: the doorbell of a tick counts from the next one on (R89). -/
def Ring.unfetched (r : Ring) : Nat := (r.tail + r.sqsize - r.fetched) % r.sqsize

/-- Descriptors in the staging buffer (R87). -/
def State.stagedTotal (s : State) : Nat := s.rings.foldl (fun n x => n + x.2.staged.length) 0

/-- Descriptors one fetch brings: at most 512 B, up to the end of the ring, within both staging limits. -/
def State.fetchLen (s : State) (r : Ring) : Nat :=
  min (min r.unfetched 4) (min (r.sqsize - r.fetched) (min (64 - r.staged.length) (8192 - s.stagedTotal)))

/-- S of the index a descriptor names; 0 when it names none. -/
def State.codeLen (s : State) (vf : Nat) (d : List Byte) : Nat :=
  match s.indexFor vf (descIndex d) with
  | some i => i.s
  | none => 0

/-- Are the operand buffers' addresses aligned (R95)? -/
def operandsAligned (d : List Byte) : Bool :=
  (match descVec d with | some (a, _) => a % 64 == 0 | none => true)
    && (match descCodeAddr d with | some a => a % 64 == 0 | none => true)

/-- A fetched descriptor as it enters staging: one without operands counts as staged, one that can never be fetched is staged
as bad (R95, R124). -/
def State.stage (s : State) (vf : Nat) (d : List Byte) : Staged :=
  let n := operandBytes d (s.codeLen vf d)
  let bad := decide (262144 < n) || !operandsAligned d
  { desc := d, ready := bad || n == 0, bad := bad }

/-- DESCRIPTOR_FETCH (R87): the next descriptors are read through the translation cache (R417) and enter staging, in ring
order. -/
def execDescriptorFetch (p : RingPair) (data : List Byte) (s : State) : Host.Outcome State Fault Refusal :=
  match Tab.find s.rings p with
  | none => .next s
  | some r =>
    if s.mayFetch p r then
      let n := min (s.fetchLen r) (data.length / 128)
      let ds := (List.range n).map (fun k => s.stage (ringVf p) (slice data (128 * k) 128))
      .next ((s.translate (ringVf p) (r.sqbase + 128 * r.fetched)).setRing p { r with staged := r.staged ++ ds, fetched := (r.fetched + n) % r.sqsize })
    else .next s

/-- A fetch of a ring pair's next descriptors fails (R92). -/
def State.sqFetchFails (s : State) (p : Nat) (k : DmaFault) : State :=
  match Tab.find s.rings p with
  | none => s
  | some r =>
    if s.mayFetch p r && r.unfetched != 0 then (s.dmaFailed (ringVf p) (r.sqbase + 128 * r.fetched) k).ringFault p 1 else s

/-- SQ_FETCH_FAULT (R92). -/
def execSqFetchFault (p : RingPair) (k : DmaFault) (s : State) : Host.Outcome State Fault Refusal := .next (s.sqFetchFails p k)

/-- What an operand fetch brings, or none where it failed. -/
def dmaBytes : Dma → Option (List Byte)
  | .data bs => some bs
  | .fault _ => none

/-- Operands of the first descriptor of a ring pair that waits are fetched into the share once they fit it; a fault stages it
as bad (R95, R124, R419). -/
def State.stageOperands (s : State) (p : Nat) (vec code : Dma) : State :=
  match Tab.find s.rings p with
  | none => s
  | some r =>
    if !s.mayFetch p r then s
    else match r.staged.findIdx? (fun x => !x.ready) with
      | none => s
      | some k =>
        match r.staged[k]? with
        | none => s
        | some x =>
          let vf := ringVf p
          let n := operandBytes x.desc (s.codeLen vf x.desc)
          if 262144 < s.shareUsed vf + n then s
          else
            let need := fun (a : Option Nat) (d : Dma) => match a, d with
              | some a, .fault f => some (a, f)
              | _, _ => none
            let fault := match need ((descVec x.desc).map (·.1)) vec with
              | some f => some f
              | none => need (descCodeAddr x.desc) code
            match fault with
            | some (a, f) =>
              let y := { x with ready := true, bad := true }
              (s.dmaFailed vf a f).setRing p { r with staged := r.staged.set k y }
            | none =>
              let vn := match descVec x.desc with | some (_, n) => n | none => 0
              let cn := match descCodeAddr x.desc with | some _ => s.codeLen vf x.desc | none => 0
              let s := forAll (((descVec x.desc).map (·.1)).toList ++ (descCodeAddr x.desc).toList) (fun a s => s.translate vf a) s
              let y := { x with ready := true, share := n, vec := slice ((dmaBytes vec).getD []) 0 vn,
                                code := slice ((dmaBytes code).getD []) 0 cn }
              s.setRing p { r with staged := r.staged.set k y }

/-- OPERAND_STAGE (R124). -/
def execOperandStage (p : RingPair) (vec code : Dma) (s : State) : Host.Outcome State Fault Refusal :=
  .next (s.stageOperands p vec code)

/-- The next completion write of a ring pair will fault: only a denied translation faults a write (R93, R419). The completion it
carries is then lost, and so are all later ones (log entry 116). -/
def State.cqWriteFails (s : State) (p : Nat) (k : DmaFault) : State :=
  s.onRing p (fun r => if k == .denied then { r with cqFault := some k } else r)

/-- CQ_WRITE_FAULT (R93, R491). -/
def execCqWriteFault (p : RingPair) (k : DmaFault) (s : State) : Host.Outcome State Fault Refusal := .next (s.cqWriteFails p k)

/-- The result write of a query faults: it will complete with BAD_DESCRIPTOR and no entries (R104). -/
def State.resultFails (s : State) (e : Nat) (k : DmaFault) : State :=
  s.onSeq e (fun q => if k == .denied && q.isQuery && q.home.isNone && !q.silent then { q with resFault := some k } else q)

/-- RESULT_WRITE_FAULT (R104). -/
def execResultWriteFault (e : SeqNo) (k : DmaFault) (s : State) : Host.Outcome State Fault Refusal := .next (s.resultFails e k)

end Sys2Proof.Machine
end

