-- ==== Sys2Proof/Machine/Route.lean ====
section
/-! DEFINITION. Machine/Route.lean: the geometry of a fabric map, paths and trees, lanes, and handing a message to a port
(R371 to R385). -/

namespace Sys2Proof.Machine

/-! ### Maps (R371, R372) -/

/-- Sizes of the dimensions of a torus; a group counts as one dimension. -/
def FMap.dims : FMap → List Nat
  | .alone => []
  | .group n => [n]
  | .torus a b c d => [a, b, c, d]

/-- Devices of the map. -/
def FMap.size (m : FMap) : Nat := match m with | .alone => 0 | _ => m.dims.foldl (· * ·) 1

/-- Coordinates of a device. -/
def coordsOf : List Nat → Nat → List Nat
  | [], _ => []
  | k :: ks, x => x % max k 1 :: coordsOf ks (x / max k 1)

/-- The device at coordinates. -/
def deviceAt : List Nat → List Nat → Nat
  | k :: ks, x :: xs => x + k * deviceAt ks xs
  | _, _ => 0

def FMap.coords (m : FMap) (x : Nat) : List Nat := coordsOf m.dims x

/-- Offset forward in dimension j, modulo its size. -/
def FMap.fwd (m : FMap) (j a b : Nat) : Nat :=
  let k := m.dims.getD j 1
  ((m.coords b).getD j 0 + k - (m.coords a).getD j 0) % max k 1

/-- Signed offset the shorter way; a tie is positive (R383). -/
def FMap.offset (m : FMap) (j h x : Nat) : Int :=
  match m with
  | .group _ => (x : Int) - h
  | _ =>
    let o := m.fwd j h x
    if 2 * o ≤ m.dims.getD j 1 then (o : Int) else (o : Int) - (m.dims.getD j 1 : Nat)

/-- The device one step in a direction of dimension j. -/
def FMap.move (m : FMap) (x j : Nat) (pos : Bool) : Nat :=
  let k := m.dims.getD j 1
  let c := (m.coords x).getD j 0
  deviceAt m.dims ((m.coords x).set j (if pos then (c + 1) % k else (c + k - 1) % k))

/-- Port of a step: 2j forward, 2j + 1 backward; with k = 2 always 2j (R373). -/
def FMap.portOf (m : FMap) (j : Nat) (pos : Bool) : Nat := if pos || m.dims.getD j 1 == 2 then 2 * j else 2 * j + 1

/-- Neighbour that a primary port leads to (Table 11.1). -/
def FMap.neighbour (m : FMap) (me port : Nat) : Option Nat :=
  match m with
  | .alone => none
  | .group n => if port < n && port != me then some port else none
  | .torus .. =>
    let j := port / 2
    if 8 ≤ port || m.dims.getD j 1 ≤ 1 then none
    else if port % 2 = 1 && m.dims.getD j 1 = 2 then none
    else some (m.move me j (port % 2 == 0))

/-- The partner the map names for a physical port: device and port (R373). -/
def FMap.partner (m : FMap) (me port : Nat) : Option (Nat × Nat) :=
  match m with
  | .alone => none
  | .group n => if port < n && port != me then some (port, me) else none
  | .torus .. =>
    let p := port % 8
    let j := p / 2
    if m.dims.getD j 1 ≤ 1 then none
    else some (m.move me j (p % 2 == 0), (if p % 2 = 0 then p + 1 else p - 1) + port / 8 * 8)

/-- The dimensions in order. -/
def FMap.dimList (m : FMap) : List Nat := List.range m.dims.length

/-- First hop of the unicast path (R383): the port. -/
def FMap.nextPort (m : FMap) (me dest : Nat) : Option Nat :=
  match m with
  | .alone => none
  | .group n => if dest < n && dest != me then some dest else none
  | .torus .. =>
    (m.dimList.find? (fun j => m.fwd j me dest != 0)).map (fun j => m.portOf j (decide (0 < m.offset j me dest)))

/-- Parent of x in the tree of h, and x's port toward it (R384). -/
def FMap.parent (m : FMap) (h x : Nat) : Option (Nat × Nat) :=
  match m with
  | .alone => none
  | .group _ => if x = h then none else some (h, h)
  | .torus .. =>
    (m.dimList.reverse.find? (fun j => m.fwd j h x != 0)).map (fun j =>
      let pos := decide (0 < m.offset j h x)
      (m.move x j (!pos), m.portOf j (!pos)))

/-- Depth of x in the tree of h (R384). -/
def FMap.depth (m : FMap) (h x : Nat) : Nat :=
  match m with
  | .alone => 0
  | .group _ => if x = h then 0 else 1
  | .torus .. => m.dimList.foldl (fun d j => d + min (m.fwd j h x) (m.dims.getD j 1 - m.fwd j h x)) 0

/-- Children of x in the tree of h: device and port. -/
def FMap.children (m : FMap) (h x : Nat) : List (Nat × Nat) :=
  (List.range 16).filterMap (fun p =>
    match m.neighbour x p with
    | some y => match m.parent h y with
      | some (u, _) => if u = x && y != h then some (y, p) else none
      | none => none
    | none => none)

/-- Does the subtree of child y of the tree of h hold a device within a box of signed offsets (R384)? -/
def FMap.inBox (m : FMap) (h y : Nat) (box : List (Int × Int)) : Bool :=
  match m with
  | .alone => false
  | .group _ => match box with
    | b :: _ => decide (b.1 ≤ m.offset 0 h y) && decide (m.offset 0 h y ≤ b.2)
    | [] => true
  | .torus .. =>
    let last := (m.dimList.reverse.find? (fun j => m.fwd j h y != 0)).getD 0
    m.dimList.all (fun j =>
      match box[j]? with
      | none => true
      | some b =>
        let o := m.offset j h y
        if j < last then decide (b.1 ≤ o) && decide (o ≤ b.2)
        else if j = last then (if 0 < o then decide (o ≤ b.2) else decide (b.1 ≤ o))
        else decide (b.1 ≤ b.2))

/-- The path from a to b, as (device, port) hops. -/
def FMap.path (m : FMap) : Nat → Nat → Nat → List (Nat × Nat)
  | 0, _, _ => []
  | n + 1, a, b =>
    match m.nextPort a b with
    | none => []
    | some p => match m.neighbour a p with
      | some y => (a, p) :: m.path n y b
      | none => []

/-- Box of a shard directory seen from the home (Table 11.6). -/
def FMap.boxOf (m : FMap) (h : Nat) (devs : List Nat) : List (Int × Int) :=
  m.dimList.map (fun j => devs.foldl (fun b d => (min b.1 (m.offset j h d), max b.2 (m.offset j h d))) (0, 0))

/-- The 8 bytes of a box. -/
def boxBytes (b : List (Int × Int)) : List Byte :=
  slice (b.flatMap (fun x => [BitVec.ofInt 8 x.1, BitVec.ofInt 8 x.2])) 0 8

def boxOfBytes (n : Nat) (bs : List Byte) : List (Int × Int) :=
  (List.range n).map (fun j => (signed 8 (field bs (2 * j) 1), signed 8 (field bs (2 * j + 1) 1)))

/-! ### Ports -/

def State.fabPort (s : State) (n : Nat) : FabPort := Tab.read s.fab.ports {} n
def State.setFabPort (s : State) (n : Nat) (x : FabPort) : State :=
  { s with fab := { s.fab with ports := Tab.write s.fab.ports {} n x } }

/-- Does a physical port carry traffic (R373, R403)? -/
def FabPort.carries (x : FabPort) : Bool := x.up && !x.isolated && !x.miswired

/-- A torus has twins (R372). -/
def FMap.isTorus (m : FMap) : Bool := match m with | .torus .. => true | _ => false

/-- Twins of a primary port of a torus: port p + 8 (R372), and with k = 2 port 2j + 1 and its own twin (R373). -/
def FMap.twins (m : FMap) (p : Nat) : List Nat :=
  if m.isTorus && decide (p < 8) then
    (if m.dims.getD (p / 2) 1 == 2 then [p + 1, p + 8, p + 9] else [p + 8])
  else []

/-- The primary port of a physical port. -/
def FMap.primary (m : FMap) (p : Nat) : Nat :=
  if m.isTorus then (if m.dims.getD (p % 8 / 2) 1 == 2 then p % 8 / 2 * 2 else p % 8) else p

/-- The twin of a primary port that carries traffic, if one does. -/
def State.twinUp (s : State) (p : Nat) : Option Nat := (s.fab.map.twins p).find? (fun q => (s.fabPort q).carries)

/-- Does the twin of a primary port carry its BE and MGT lanes (R373)? -/
def State.twinned (s : State) (p : Nat) : Bool := (s.fabPort p).carries && (s.twinUp p).isSome

/-- Does a primary port, or its twin, carry traffic? -/
def State.linkUp (s : State) (p : Nat) : Bool := (s.fabPort p).carries || (s.twinUp p).isSome

/-- The physical port that carries a lane of a primary port (R373). -/
def State.physical (s : State) (p lane : Nat) : Nat :=
  let twinLane := (decide (4 ≤ lane) && decide (lane ≤ 7)) || decide (10 ≤ lane)
  match s.twinUp p with
  | some q => if (s.fabPort p).carries && !twinLane then p else q
  | none => p

/-! ### Messages to flits (R375, R376) -/

/-- Is it a request, a response, control or Sosin traffic (Tables 11.4 and 11.5): the virtual channel's first lane. -/
def vcLane (mtype cls : Nat) : Nat :=
  let be := decide (4 ≤ cls)
  match mtype with
  | 0x01 => if be then 4 else 0
  | 0x04 => if be then 4 else 0
  | 0x06 => if be then 4 else 0
  | 0x08 => if be then 4 else 0
  | 0x02 => if be then 6 else 2
  | 0x05 => if be then 6 else 2
  | 0x07 => if be then 6 else 2
  | 0x09 => if be then 6 else 2
  | 0x0D => 10
  | _ => 8

/-- Header bytes (Table 11.3). -/
def Msg.header (m : Msg) : List Byte :=
  leBytes 1 m.mtype ++ leBytes 1 m.cls ++ leBytes 2 (m.dest % 2 ^ 13 + b2n m.tree * 2 ^ 13 + b2n m.up * 2 ^ 14) ++ leBytes 2 m.home
    ++ leBytes 2 m.hent ++ leBytes 1 m.gen ++ leBytes 1 m.void ++ leBytes 2 m.body.length ++ leBytes 4 m.xarg

/-- A message from its bytes: the header, and LEN bytes after it. -/
def Msg.ofBytes (bs : List Byte) : Msg :=
  let d := field bs 2 2
  { mtype := field bs 0 1, cls := field bs 1 1, dest := d % 2 ^ 13, tree := bit d 13, up := bit d 14, home := field bs 4 2,
    hent := field bs 6 2, gen := field bs 8 1, void := field bs 9 1, xarg := field bs 12 4, body := slice bs 16 (field bs 10 2) }

/-- Flits of b body bytes. -/
def flitCount (b : Nat) : Nat := 1 + cdiv (b - 208) 224

/-- The flits of a message on a lane. -/
def Msg.flits (m : Msg) (lane : Nat) : List Flit :=
  let bs := m.header ++ m.body
  let n := flitCount m.body.length
  (List.range n).map (fun i =>
    { lane := lane, kind := if i = 0 then 1 else 2, last := decide (n ≤ i + 1), payload := slice bs (224 * i) 224 })

/-- Is a dozing or waking port the one that a flit is queued for (R386)? -/
def State.dozing (s : State) (n : Nat) : Bool :=
  let st := s.fld (Reg.LNK_PSTAT n) F.LNK_PSTAT_STATE
  st == 7 || st == 8

/-- LC flits of a level or above that wait on a port (R386). -/
def FabPort.ahead (x : FabPort) (level : Nat) : Nat :=
  (x.txq.filter (fun q => decide (q.flit.lane < 4) && decide (q.level ≤ level))).length

/-- Hand a message to a primary port on a lane. A port that carries no traffic loses it, but for one in a quick retrain, where
it waits (R381). A flit with more than 4 LC flits at its level or above ahead of it, or for a port in DOZE or WAKE, has SLOW
set (R386, R407). -/
def State.sendOn (s : State) (p lane : Nat) (m : Msg) : State :=
  let n := s.physical p lane
  let x := s.fabPort n
  if s.linkUp p || x.hold then
    let slow := s.dozing n || decide (4 < x.ahead (min m.cls 4))
    let q := (m.flits lane).zipIdx.map (fun f =>
      ({ flit := { f.1 with slow := slow }, level := min m.cls 4, age := s.fab.age + f.2 } : Queued))
    let s := { s with fab := { s.fab with age := s.fab.age + q.length } }
    -- flits forwarded for other devices are the device's own (R537)
    let s := s.act 12 (if m.home = s.devId then s.seqVf m.hent else 0) q.length
    s.setFabPort n { x with txq := x.txq ++ q, lastQueued := s.now }
  else s

/-- Send a message that starts here: dateline 0 (Table 11.4). -/
def State.sendPort (s : State) (p : Nat) (m : Msg) : State := s.sendOn p (vcLane m.mtype m.cls) m

/-- Send to one device by its unicast path (R383). -/
def State.sendTo (s : State) (m : Msg) : State :=
  match s.fab.map.nextPort s.devId m.dest with
  | some p => s.sendPort p m
  | none => s

/-- Children of this device in the tree of h that lead into a box: device and port. -/
def State.branches (s : State) (h : Nat) (box : List (Int × Int)) : List (Nat × Nat) :=
  (s.fab.map.children h s.devId).filter (fun c => s.fab.map.inBox h c.1 box)

/-- Send down the tree of h. -/
def State.sendDown (s : State) (h : Nat) (box : List (Int × Int)) (m : Msg) : State :=
  forAll (s.branches h box) (fun c s => s.sendPort c.2 { m with dest := c.1, tree := true }) s

/-- Send to the parent in the tree of h. -/
def State.sendUp (s : State) (h : Nat) (m : Msg) : State :=
  match s.fab.map.parent h s.devId with
  | some (u, p) => s.sendPort p { m with dest := u, tree := true, up := true }
  | none => s

/-- Is a link crossing a wrap in its dimension (Table 11.4)? -/
def FMap.wraps (m : FMap) (x port : Nat) : Bool :=
  match m with
  | .torus .. =>
    let j := port % 8 / 2
    let k := m.dims.getD j 1
    let c := (m.coords x).getD j 0
    if port % 2 = 0 then c + 1 == k else c == 0
  | _ => false

/-- Pass a unicast message on: the lane keeps dateline 1 within its dimension once a wrap has been crossed (Table 11.4). -/
def State.passOn (s : State) (a : Arrived) : State :=
  match s.fab.map.nextPort s.devId a.msg.dest with
  | none => s
  | some p =>
    let inPort := s.fab.map.primary a.port
    let same := s.fab.map.isTorus && p / 2 == inPort / 2
    let from_ := (s.fab.map.neighbour s.devId inPort).getD s.devId
    let crossed := same && (a.lane % 2 == 1 || s.fab.map.wraps from_ (if inPort % 2 = 0 then inPort + 1 else inPort - 1))
    s.sendOn p (vcLane a.msg.mtype a.msg.cls + b2n crossed) a.msg

end Sys2Proof.Machine
end

