-- ==== Sys2Proof/Machine/Admit.lean ====
section
/-! DEFINITION. Machine/Admit.lean: admission: the resources of Table 3.11, the allocation of a sequence, and the order of
service of one tick (R108 to R114, R119, R126 rung 4). -/

namespace Sys2Proof.Machine

/-! ### Sequence entries (R111, R119, R154, R301) -/

/-- Is a pseudo-channel FAILED (R301)? -/
def State.pchFailed (s : State) (p : Nat) : Bool := s.fld (Reg.HMC_LANES p) (31, 30) == 2

/-- Is a sequence-table entry disabled, its context extension on a failed pseudo-channel (R237, R301)? -/
def State.entryOff (s : State) (e : Nat) : Bool := s.pchFailed (e / 1024 * 16 + e % 16)

/-- The lowest-numbered free entry of some roods (R119). -/
def State.freeEntry (s : State) (roods : List Nat) : Option Nat :=
  (sortBy (fun a b => decide (a ≤ b)) roods).findSome? (fun r =>
    ((List.range 1024).map (· + 1024 * r)).find? (fun e => (Tab.find s.seqs e).isNone && !s.entryOff e))

/-- Live sequences of a VF. -/
def State.seqsOf (s : State) (vf : Nat) : Nat := (s.seqs.filter (fun x => x.2.vf == vf)).length

/-- BE sequences in the entries of some roods. -/
def State.beSeqs (s : State) (roods : List Nat) : Nat :=
  (s.seqs.filter (fun x => x.2.cls == 4 && roods.contains (x.1 / 1024))).length

/-- The entry a new sequence of a VF and class would take, if the limits let it (R111, R119, R154). -/
def State.entryFor (s : State) (vf cls : Nat) : Option Nat :=
  match Tab.find s.tenants vf, s.partOf vf with
  | some t, some (_, p) =>
    if t.seqmax ≤ s.seqsOf vf then none
    else if cls = 4 && p.roods.foldl (fun n r => n + (1024 - Tab.read p.lcres 0 r)) 0 ≤ s.beSeqs p.roods then none
    else s.freeEntry p.roods
  | _, _ => none

/-! ### Resources (Table 3.11) -/

/-- Completion credit of a ring pair (R110). -/
def Ring.credit (r : Ring) : Nat :=
  r.cqsize - 1 - r.admitted - (r.cqtail + r.cqsize - r.head) % r.cqsize

/-- Does a query re-rank on vectors in a tun? -/
def State.usesFar (s : State) (vf : Nat) (d : List Byte) : Bool :=
  descOp d == 1 && QueryDesc.rerank d != 0 && (match s.indexFor vf (descIndex d) with | some i => i.vecTun.isSome | none => false)

/-- Does a descriptor take a remote request (Table 3.11)? -/
def State.usesRemote (s : State) (vf : Nat) (d : List Byte) : Bool :=
  match s.indexFor vf (descIndex d) with
  | some i => i.sharded && (descOp d == 1 || descOp d == 4 || WriteDesc.shard d != i.myShard)
  | none => false

/-- Device-wide counts as they stood at the start of the tick (R112): bushel reads, far reads, remote requests. -/
structure Headroom where
  bushels : Nat
  far : Nat
  remotes : Nat
deriving DecidableEq, Repr

def State.headroom (s : State) : Headroom := { bushels := s.bushelsOut, far := s.farOut, remotes := s.remotesOut }

/-- The resources that are missing, as a mask of QFE_HCAUSE: bit 0 SEQ, 1 CQ, 2 BUSHEL, 3 FAR, 4 REMOTE. -/
def State.missing (s : State) (h : Headroom) (p : Nat) (r : Ring) (d : List Byte) (fails : Bool) : Nat :=
  let cq := b2n (r.credit == 0) * 2
  if fails then cq
  else
    let vf := ringVf p
    b2n (s.entryFor vf r.cls).isNone + cq + b2n (decide (8192 ≤ h.bushels)) * 4
      + b2n (s.usesFar vf d && decide (4096 ≤ h.far)) * 8 + b2n (s.usesRemote vf d && decide (1024 ≤ h.remotes)) * 16

/-! ### Allocation -/

/-- Put a new sequence in its entry: a generation (R376), its pins, and its hold on the index. -/
def State.enter (s : State) (e : Nat) (q : Sequence) : State :=
  let g := (Tab.read s.gens 255 e + 1) % 256
  let s := { s with gens := Tab.insert s.gens e g }
  let s := s.setSeq e { q with gen := g }
  let s := match q.pin with
    | some (t, _) => s.onIndex q.index (fun i => let r := i.record t; i.setRecord t { r with pins := r.pins + 1 })
    | none => s
  let s := match q.filter with
    | some h => s.onFilter h (fun f => { f with pins := f.pins + 1 })
    | none => s
  s.onIndex q.index (fun i => { i with holds := i.holds + 1, pubs := if q.opcode = 4 then i.pubs ++ [e] else i.pubs })

/-- The sequence of an admitted descriptor (R39, R118, R126 rung 4, R144; Table 4.1). -/
def State.newSeq (s : State) (p : Nat) (r : Ring) (x : Staged) : Sequence :=
  let d := x.desc
  let vf := ringVf p
  let q := descOp d == 1
  let h := descIndex d
  let i := s.indexFor vf h
  { vf := vf, rp := some p, order := r.order, desc := d, vec := x.vec,
    code := x.code, share := x.share, opcode := descOp d, tag := descTag d, cls := r.cls, elevel := r.cls,
    allow := s.reg Reg.STB_LCALLOW % 64, admitTick := s.tick,
    dline := if q && QueryDesc.deadline d != 0 then some (s.now + nsec (QueryDesc.deadline d)) else none,
    index := h, pin := if q then (match i with | some i => i.pinFor d | none => none) else none,
    filter := if q && QueryDesc.filter d != 0 then some (filterKey (descIndex d) (QueryDesc.filter d)) else none,
    grains := if q && QueryDesc.filter d != 0 then Tab.find s.filters (filterKey (descIndex d) (QueryDesc.filter d)) else none,
    stage := stADM, phase := .done, stageTick := s.tick, seed := if q then QueryDesc.seed d else 0,
    remote := { uses := s.usesRemote vf d } }

/-- A refusal for want of the encoder starts a fill (R180). -/
def State.absentFill (s : State) (vf : Nat) (d : List Byte) : State :=
  match s.indexFor vf (descIndex d) with
  | some i => match i.encoder with
    | some h => (s.startFill h).1
    | none => s
  | none => s

/-- Admit one staged descriptor of a ring pair whose resources are there: QFE_SQHEAD moves past it (R108, R109). Answers the
entry of its sequence, if it takes one. -/
def State.admitOne (s : State) (p : Nat) (r : Ring) (x : Staged) (st : Option Status) : State × Option Nat :=
  let a := Reg.QFE_SQHEAD p
  let s := s.setReg a ((s.reg a % 2 ^ 16 + 1) % r.sqsize)
  let r' := { r with staged := r.staged.drop 1, admitted := r.admitted + 1, order := r.order + 1 }
  match st with
  | some st =>
    let s := { s.setRing p r' with
      failing := s.failing ++ [{ rp := p, order := r.order, desc := x.desc, status := st, tick := s.tick, share := x.share, cls := r.cls }] }
    (if st == .modelAbsent then s.absentFill (ringVf p) x.desc else s, none)
  | none =>
    match s.entryFor (ringVf p) r.cls with
    | none => (s, none)
    | some e => ((s.setRing p r').enter e (s.newSeq p r x), some e)

/-! ### One tick of admission (R113, R181, R520) -/

/-- What a tick's admission has done so far. -/
structure Admitting where
  s : State
  total : Nat := 0
  shared : Nat := 0
  quiet : Tab Nat := []
  perRing : Tab Nat := []
  dead : List Nat := []
  /-- Resources each held head lacked. -/
  held : Tab Nat := []

/-- Try the head of one ring pair. -/
def Admitting.try_ (h : Headroom) (limit : Nat) (a : Admitting) (p : Nat) : Admitting :=
  let kill := { a with dead := p :: a.dead }
  match Tab.find a.s.rings p with
  | none => kill
  | some r =>
    match r.staged with
    | [] => kill
    | x :: _ =>
      if !x.ready || a.s.ringState p != 1 || r.fresh || r.closing then kill
      else
        let vf := ringVf p
        let room := match a.s.quietPart vf with
          | some (k, n) => decide (Tab.read a.quiet 0 k < 2 * n)
          | none => decide (a.shared + 2 * a.s.quietRoods < 32)
        let st := a.s.admitStatus vf r.stream x.bad x.desc
        let m := a.s.missing h p r x.desc st.isSome
        -- a head that lacks a resource is held, whatever the limits of the tick still allow (R114)
        if m != 0 then { kill with held := Tab.insert a.held p m }
        else if limit ≤ a.total || 8 ≤ Tab.read a.perRing 0 p || !room then kill
        else
            { a with s := (a.s.admitOne p r x st).1, total := a.total + 1,
                     shared := if (a.s.quietPart vf).isSome then a.shared else a.shared + 1,
                     quiet := match a.s.quietPart vf with
                       | some (k, _) => Tab.insert a.quiet k (Tab.read a.quiet 0 k + 1)
                       | none => a.quiet,
                     perRing := Tab.insert a.perRing p (Tab.read a.perRing 0 p + 1) }

/-- One pass over the ring pairs of a class, starting after the one last served (R113). -/
def Admitting.pass (h : Headroom) (limit cls : Nat) (ps : List Nat) (a : Admitting) : Admitting :=
  let last := Tab.read a.s.served 1024 cls
  let after := ps.filter (fun p => last < 1024 && decide (last < p))
  let rest := ps.filter (fun p => !(last < 1024 && decide (last < p)))
  (after ++ rest).foldl (fun a p =>
    if a.dead.contains p then a
    else
      let b := a.try_ h limit p
      if a.total < b.total then { b with s := { b.s with served := Tab.insert b.s.served cls p } } else b) a

/-- Passes of a class until no head of it can be admitted. -/
def Admitting.passes (h : Headroom) (limit cls : Nat) (ps : List Nat) : Nat → Admitting → Admitting
  | 0, a => a
  | n + 1, a =>
    let b := a.pass h limit cls ps
    if a.total < b.total then b.passes h limit cls ps n else b

/-- Rung 4 of a tick: classes in order (R113). -/
def State.admitTick (s : State) (h : Headroom) (limit : Nat) : Admitting :=
  (List.range 5).foldl (fun a cls =>
    let ps := a.s.rings.keys (fun r => r.cls == cls && !r.staged.isEmpty)
    a.passes h limit cls ps 9) { s := s }

/-- End of the tick: held ring pairs count (R114). -/
def State.countHeld (s : State) (held : Tab Nat) : State :=
  forAll held (fun x s =>
    let a := Reg.QFE_HCAUSE x.1
    (s.count64 (Reg.QFE_HELD x.1) 1).setReg a (s.reg a ||| x.2)) s

end Sys2Proof.Machine
end

