-- ==== Sys2Proof/Machine/Fabric.lean ====
section
/-! DEFINITION. Machine/Fabric.lean: sharded search and remote writes (R387 to R400): the tree, the reduction lane, timers,
cancels, remote writes and publishes. Messages arrive in the inbox of FLIT_RECEIVE and are taken from it here. -/

namespace Sys2Proof.Machine

/-! ### The inbox -/

/-- Take the first message of a type that came by a port. -/
def State.take (s : State) (port mtype : Nat) : Option (Arrived × State) :=
  match s.fab.inbox.find? (fun a => a.port == port && a.msg.mtype == mtype) with
  | some a => some (a, { s with fab := { s.fab with inbox := s.fab.inbox.erase a } })
  | none => none

/-- Device at the far end of a port. -/
def State.from_ (s : State) (port : Nat) : Nat := (s.fab.map.neighbour s.devId (s.fab.map.primary port)).getD s.devId

/-- A message that names an index, shard or tenant this device does not hold is malformed: counted and recorded
(R404). -/
def State.malformed (s : State) (n hdr : Nat) : State :=
  (s.count (Reg.FAB_MALFORMED n) 1).record { cause := Cause.malformed, subject := n, arg0 := hdr }

/-- The first 8 B of a message's header. -/
def Msg.hdr8 (m : Msg) : Nat := field m.header 0 8

/-! ### Lanes (R391) -/

def Lane.is (l : Lane) (home hent gen : Nat) : Bool := l.home == home && l.hent == hent && l.gen == gen

def State.lane (s : State) (home hent gen : Nat) : Option Lane := s.fab.lanes.find? (fun l => l.is home hent gen)

def State.dropLane (s : State) (home hent gen : Nat) : State :=
  { s with fab := { s.fab with lanes := s.fab.lanes.filter (fun l => !l.is home hent gen) } }

def State.putLane (s : State) (l : Lane) : State :=
  { s with fab := { s.fab with lanes := s.fab.lanes.filter (fun x => !x.is l.home l.hent l.gen) ++ [l] } }

/-- DESC of Table 11.6: scores under DOT. -/
def State.descending (s : State) (q : Sequence) : Bool :=
  QueryDesc.rerank q.desc != 0 && (match s.indexOf q with | some i => i.metric == .dot | none => false)

/-- A part's own list (R391). A poisoned part gives no entries. -/
def State.ownList (s : State) (q : Sequence) : ListIn :=
  { entries := if q.poison.isSome then [] else q.entries, ncontrib := 1, nfail := 0,
    flags := b2n q.poison.isSome + b2n (bit q.flags 0) * 2 + b2n (bit q.flags 1) * 4 + b2n q.throttled * 8
      + b2n (s.descending q) * 16,
    void := q.void, pdev := if q.poison.isSome then s.devId else 0, pseq := q.poison.getD 0 }

/-- The merge of R49: first k in the order of R48, sums and ORs, the first poisoned input's device and record. -/
def mergeLists (d : List Byte) (ls : List ListIn) : ListIn :=
  let m := if ls.any (fun l => bit l.flags 4) then Metric.dot else .l2sq
  let es := firstK (QueryDesc.k d) (valueKey (QueryDesc.rerank d != 0) m) (ls.flatMap (·.entries))
  let p := ls.find? (fun l => bit l.flags 0)
  { entries := es, ncontrib := ls.foldl (fun n l => n + l.ncontrib) 0, nfail := ls.foldl (fun n l => n + l.nfail) 0,
    flags := ls.foldl (fun f l => f ||| l.flags) 0, void := ls.foldl (fun f l => f ||| l.void) 0,
    pdev := match p with | some l => l.pdev | none => 0, pseq := match p with | some l => l.pseq | none => 0 }

/-- The body of a QLIST (Table 11.6). -/
def ListIn.bytes (l : ListIn) : List Byte :=
  l.entries.flatMap Entry.bytes ++ leBytes 2 l.entries.length ++ leBytes 2 l.ncontrib ++ leBytes 2 l.nfail ++ leBytes 1 l.flags
    ++ leBytes 1 l.void ++ leBytes 2 l.pdev ++ leBytes 2 0 ++ leBytes 4 l.pseq

/-- A QLIST's list from its body. -/
def ListIn.ofBytes (bs : List Byte) : ListIn :=
  let t := bs.length - 16
  let n := field bs t 2
  { entries := (List.range n).map (fun i =>
      { ext := field bs (16 * i) 8, shard := field bs (16 * i + 8) 2, value := field bs (16 * i + 12) 4 }),
    ncontrib := field bs (t + 2) 2, nfail := field bs (t + 4) 2, flags := field bs (t + 6) 1, void := field bs (t + 7) 1,
    pdev := field bs (t + 8) 2, pseq := field bs (t + 12) 4 }

/-- The box of an index, seen from its home. -/
def State.boxFor (s : State) (i : Index) : List (Int × Int) := s.fab.map.boxOf s.devId i.shards

/-- A lane's box. -/
def State.laneBox (s : State) (l : Lane) : List (Int × Int) := boxOfBytes s.fab.map.dims.length (l.box.map (BitVec.ofNat 8))

/-- RRT in time units: 0.1 µs each. -/
def rrtUnits (n : Nat) : Nat := nsec (100 * n)

/-! ### The home of a query (R389) -/

/-- The request body (Table 11.6): block, descriptor, code, and the vector of a query that re-ranks. -/
def State.qreqBody (s : State) (q : Sequence) (i : Index) : List Byte :=
  leBytes 8 i.ghandle ++ leBytes 8 (match q.pin with | some (_, n) => n | none => 0) ++ boxBytes (s.boxFor i) ++ leBytes 4 i.rrt
    ++ leBytes 4 0 ++ slice q.desc 0 128 ++ slice q.code 0 i.s
    ++ (if QueryDesc.rerank q.desc = 0 then [] else q.vec)

/-- QUERY_MULTICAST (R389): QREQ down the tree, the remote-request timer started, the lane opened. -/
def State.multicast (s : State) (e : Nat) : State :=
  match Tab.find s.seqs e with
  | none => s
  | some q =>
    match s.indexOf q with
    | none => s
    | some i =>
      let m : Msg := { mtype := 1, cls := q.cls, home := s.devId, hent := e, gen := q.gen, void := q.void, body := s.qreqBody q i }
      let kids := (s.branches s.devId (s.boxFor i)).map (·.1)
      let s := s.sendDown s.devId (s.boxFor i) m
      let s := s.setSeq e { q with remote := { q.remote with sent := true, timer := some (s.now + rrtUnits i.rrt) } }
      s.putLane { home := s.devId, hent := e, gen := q.gen, desc := q.desc, cls := q.cls,
                  box := (boxBytes (s.boxFor i)).map BitVec.toNat, rrt := i.rrt, own := some e, ownDue := true, awaits := kids }

/-- The home's list from what its lane holds now, its own list included when it is complete (R51, R393, R394). -/
def State.homeList (s : State) (q : Sequence) (l : Lane) : ListIn :=
  mergeLists q.desc (l.inputs ++ (if q.listed || q.poison.isSome then [s.ownList q] else []))

/-- A query of the home that ends before its lane has emitted: CANCEL on the tree, and the lists it holds (R394). -/
def State.closeLane (s : State) (e : Nat) : State :=
  match Tab.find s.seqs e with
  | none => s
  | some q =>
    match s.lane s.devId e q.gen, q.remote.list with
    | some l, none =>
      let s := s.setSeq e { q with remote := { q.remote with list := some (s.homeList q l) } }
      let s := s.dropLane s.devId e q.gen
      s.sendDown s.devId (s.laneBox l) { mtype := 3, cls := q.cls, home := s.devId, hent := e, gen := q.gen }
    | _, _ => s

/-! ### Emission (R391, R392) -/

/-- Is every awaited input present, the own list included? At the home the merge runs while the sequence is ready (R167). -/
def State.laneReady (s : State) (l : Lane) : Bool :=
  l.awaits.isEmpty &&
    (if l.home = s.devId then
      match Tab.find s.seqs l.hent with
      | some q => q.gen == l.gen && (q.listed || q.poison.isSome) && q.phase == .done && q.missing.isEmpty && s.holds q.vf q.elevel
      | none => false
    else !l.ownDue)

/-- The lane emits what it holds: to its parent, or at the home to FIN. -/
def State.emitLane (s : State) (l : Lane) (subtmo : Bool) : State :=
  if l.home = s.devId then
    match Tab.find s.seqs l.hent with
    | some q =>
      (s.setSeq l.hent { q with remote := { q.remote with list := some (s.homeList q l) } }).dropLane l.home l.hent l.gen
    | none => s.dropLane l.home l.hent l.gen
  else
    let r := mergeLists l.desc l.inputs
    let r := if subtmo then { r with flags := r.flags ||| 32 } else r
    let s := s.dropLane l.home l.hent l.gen
    s.sendUp l.home { mtype := 2, cls := l.cls, home := l.home, hent := l.hent, gen := l.gen, void := r.void, body := r.bytes }

/-- LANE_EMIT (R391): once every awaited input is present. -/
def execLaneEmit (home hent gen : Nat) (s : State) : Host.Outcome State Fault Refusal :=
  match s.lane home hent gen with
  | some l => .next (if s.laneReady l then s.emitLane l l.subtmo else s)
  | none => .next s

/-- QLIST (R391, R395): an input of a lane that awaits it, or late. -/
def execQlist (n : Port) (s : State) : Host.Outcome State Fault Refusal :=
  match s.take n 2 with
  | none => .next s
  | some (a, s) =>
    let m := a.msg
    let child := s.from_ n
    match s.lane m.home m.hent m.gen with
    | some l =>
      if l.awaits.contains child then
        let r := ListIn.ofBytes m.body
        .next (s.putLane { l with awaits := l.awaits.erase child, inputs := l.inputs ++ [{ r with void := r.void ||| m.void }] })
      else .next (s.count64 Reg.FAB_LATE 1)
    | none => .next (s.count64 Reg.FAB_LATE 1)

/-! ### Shard parts of queries (R390, R396) -/

/-- The shard of a global index on this device. -/
def State.shardOf (s : State) (home ghandle : Nat) : Option (Nat × Index) :=
  s.indexes.find? (fun x => x.2.sharded && x.2.homeDev == home && x.2.ghandle == ghandle && x.2.homeDev != s.devId)

/-- The filter of a shard that a request names: one object per shard under one name (R26). The home keeps it until the queries
it admitted have committed (R25); a part that finds none has no eligible item. -/
def State.shardFilter (s : State) (i : Index) (h : Nat) : Option (Nat × Filter) :=
  if h = 0 then none
  else some ((s.filters.find? (fun x => x.2.handle == h && x.2.index == i.handle)).getD
    (0, { handle := h, vf := i.vf, index := i.handle, grains := 0, base := 0, pool := true }))

/-- The sequence of a shard part of a query, its epoch fixed by the home (R42, R141). -/
def State.shardSeq (s : State) (m : Msg) (k : Nat) (i : Index) : Sequence :=
  let d := slice m.body 32 128
  let ep := field m.body 8 8
  let t := (List.range 5).find? (fun t => (i.record t).st == .live && (i.record t).epoch == ep)
  { vf := i.vf, rp := none, home := some (m.home, m.hent), desc := d, code := slice m.body 160 i.s,
    vec := m.body.drop (160 + i.s), opcode := 1, tag := descTag d, cls := m.cls % 8, elevel := m.cls % 8,
    allow := s.reg Reg.STB_LCALLOW % 64, admitTick := s.tick, index := k,
    pin := t.map (fun t => (t, ep)), filter := (s.shardFilter i (QueryDesc.filter d)).map (·.1),
    grains := (s.shardFilter i (QueryDesc.filter d)).map (·.2), stage := stARRIVE, phase := .done,
    stageTick := s.tick, void := m.void, seed := QueryDesc.seed d, homeGen := m.gen }

/-- The subtree timer of a device at its ARRIVE tick: RRT − 2 µs − depth × 2.4 µs (R392). -/
def State.subtreeTimer (s : State) (home rrt : Nat) : Nat :=
  s.now + (rrtUnits rrt - usec 2 - s.fab.map.depth home s.devId * nsec 2400)

/-- An entry for a shard part, or none while it must wait (R390). One that waited carries WITHHELD, counted like any other void
(R143). A shard whose epoch is gone needs none. -/
def State.startPart (s : State) (m : Msg) (waited : Bool) : Option State :=
  match s.shardOf m.home (field m.body 0 8) with
  | none => some s
  | some (k, i) =>
    let q := s.shardSeq m k i
    match s.lane m.home m.hent m.gen with
    | none => some s
    | some l =>
      if q.pin.isNone then
        some (s.putLane { l with ownDue := false, inputs := l.inputs ++ [{ nfail := 1, void := m.void }] })
      else match s.entryFor i.vf (m.cls % 8) with
        | none => none
        | some e =>
          let s := s.enter e q
          some ((if waited then s.voidSeq e voidWithheld else s).putLane { l with own := some e })

/-- Does a WREQ with this serial wait or run here already? -/
def State.writeRuns (s : State) (k n : Nat) : Bool :=
  s.seqs.any (fun x => x.2.index == k && x.2.home.isSome && x.2.remote.serial == n && !x.2.isQuery)

/-- An entry for the shard part of a write, or none while it must wait. A serial that is not the next, or whose part runs, needs
none (R399). -/
def State.startWrite (s : State) (m : Msg) : Option State :=
  match s.shardOf m.home (field m.body 0 8) with
  | none => some s
  | some (k, i) =>
    let log := (s.fab.logs.find? (fun l => l.index == k)).getD { index := k }
    if m.xarg != log.last + 1 || s.writeRuns k m.xarg then some s
    else
      let d := slice m.body 16 128
      match s.entryFor i.vf (m.cls % 8) with
      | none => none
      | some e =>
        some (s.enter e
          { vf := i.vf, rp := none, home := some (m.home, m.hent), desc := d, code := slice m.body 144 i.s,
            vec := m.body.drop (144 + i.s), opcode := descOp d, tag := descTag d, cls := m.cls % 8, elevel := m.cls % 8,
            allow := s.reg Reg.STB_LCALLOW % 64, admitTick := s.tick, index := k, stage := stARRIVE, phase := .done,
            stageTick := s.tick, homeGen := m.gen, remote := { serial := m.xarg } })

/-- Keep what a shard knows of a publish. -/
def State.setPub (s : State) (p : ShardPub) : State :=
  { s with fab := { s.fab with pubs := s.fab.pubs.filter (fun x => x.index != p.index) ++ [p] } }

/-- The publish that a shard of index k prepares for an epoch, if it has begun. -/
def State.pubOf (s : State) (k x : Nat) : Option ShardPub := s.fab.pubs.find? (fun p => p.index == k && p.epoch % 2 ^ 32 == x)

/-- An entry for the shard part of a publish, or none while it must wait (R400). -/
def State.startPrep (s : State) (m : Msg) : Option State :=
  match s.shardOf m.home (field m.body 0 8) with
  | none => some s
  | some (k, i) =>
    if (s.pubOf k m.xarg).isSome then some s
    else match s.entryFor i.vf (m.cls % 8) with
      | none => none
      | some e =>
        let p : ShardPub := { index := k, home := m.home, hent := m.hent, gen := m.gen, epoch := m.xarg, retiree := field m.body 8 8 }
        some ((s.setPub p).enter e
          { vf := i.vf, rp := none, home := some (m.home, m.hent), desc := leBytes 1 4, opcode := 4, tag := 0, cls := m.cls % 8,
            elevel := m.cls % 8, allow := s.reg Reg.STB_LCALLOW % 64, admitTick := s.tick, index := k, stage := stARRIVE, phase := .done,
            stageTick := s.tick, homeGen := m.gen })

/-- A request joins the arrival staging (R378, R390). -/
def State.stage_ (s : State) (m : Msg) : State :=
  { s with fab := { s.fab with waiting := s.fab.waiting ++ [{ msg := m, since := s.tick }] } }

/-- A request that waits tries again. -/
def State.startRequest (s : State) (m : Msg) : Option State :=
  if m.mtype = 1 then s.startPart m true else if m.mtype = 4 then s.startWrite m else s.startPrep m

/-- QREQ (R390, R394): forwarded into the subtrees of the box, the lane opened with its timer, and the shard part started or
put in the arrival staging. A QREQ whose CANCEL came first is discarded. -/
def execQreq (n : Port) (s : State) : Host.Outcome State Fault Refusal :=
  match s.take n 1 with
  | none => .next s
  | some (a, s) =>
    let m := a.msg
    if s.fab.cancelled.any (fun c => c.1 == (m.home, m.hent, m.gen)) || (s.lane m.home m.hent m.gen).isSome then .next s
    else
      let box := boxOfBytes s.fab.map.dims.length (slice m.body 16 8)
      let kids := (s.branches m.home box).map (·.1)
      let s := s.sendDown m.home box m
      let own := (s.shardOf m.home (field m.body 0 8)).isSome
      let rrt := field m.body 24 4
      let s := s.putLane { home := m.home, hent := m.hent, gen := m.gen, desc := slice m.body 32 128, cls := m.cls,
                           box := (slice m.body 16 8).map BitVec.toNat, rrt := rrt, ownDue := own, awaits := kids,
                           timer := some (s.subtreeTimer m.home rrt) }
      match s.startPart m false with
      | some s => .next s
      | none => .next (s.stage_ m)

/-- Requests in the arrival staging try again, in order; those that still wait are counted (R390). -/
def State.retryWaiting (s : State) : State :=
  let ws := s.fab.waiting
  forAll ws (fun w s =>
    match s.startRequest w.msg with
    | some s => s
    | none => ({ s with fab := { s.fab with waiting := s.fab.waiting ++ [w] } }).count Reg.FAB_ARRHELD 1)
    { s with fab := { s.fab with waiting := [] } }

/-- UPSEND of a query part (R141): its list goes to this device's lane; with the lane gone it is discarded. -/
def State.upsendQuery (s : State) (q : Sequence) : State :=
  match q.home with
  | none => s
  | some (h, n) =>
    match s.lane h n q.homeGen with
    | some l => if l.ownDue then s.putLane { l with ownDue := false, inputs := l.inputs ++ [s.ownList q] } else s
    | none => s

/-! ### Timers (R392, R393) -/

/-- The home's timer has fired: CANCEL, and FIN in this tick over the lists it holds. -/
def State.homeTimeout (s : State) (e : Nat) : State :=
  match Tab.find s.seqs e with
  | none => s
  | some q =>
    match q.remote.timer with
    | some t =>
      if t ≤ s.now && q.isQuery && q.remote.sent && q.remote.list.isNone && q.ending.isNone && !q.committing then
        let s := (s.setSeq e { q with remote := { q.remote with fired := true } }).count Reg.FAB_TIMEOUT 1
        (s.closeLane e).endSeq e .ok false
      else s
    | none => s

/-- REMOTE_TIMER_EXPIRE (R393). -/
def execRemoteTimerExpire (e : SeqNo) (s : State) : Host.Outcome State Fault Refusal := .next (s.homeTimeout e)

/-- The subtree timer of a lane has fired (R392): it emits what it holds, and a part still waiting reports nothing. -/
def State.subtreeTimeout (s : State) (l : Lane) : State :=
  match l.timer with
  | some t =>
    if t ≤ s.now then
      let s := s.count Reg.FAB_SUBTMO 1
      let s := { s with fab := { s.fab with waiting := s.fab.waiting.filter (fun w =>
        !(w.msg.home == l.home && w.msg.hent == l.hent && w.msg.gen == l.gen)) } }
      s.emitLane l true
    else s
  | none => s

/-- SUBTREE_TIMER_EXPIRE (R392). -/
def execSubtreeTimerExpire (home hent gen : Nat) (s : State) : Host.Outcome State Fault Refusal :=
  match s.lane home hent gen with
  | some l => .next (s.subtreeTimeout l)
  | none => .next s

/-! ### Cancels (R394) -/

/-- CANCEL_MSG: the part ends without a report unless UPSEND has started, the lane goes, the CANCEL is forwarded and kept. -/
def execCancelMsg (n : Port) (s : State) : Host.Outcome State Fault Refusal :=
  match s.take n 3 with
  | none => .next s
  | some (a, s) =>
    let m := a.msg
    let l := s.lane m.home m.hent m.gen
    let box := match l with | some l => s.laneBox l | none => []
    let s := s.sendDown m.home box m
    let s := match l with
      | some x => match x.own with
        | some e => match Tab.find s.seqs e with
          | some q => if x.ownDue && q.home == some (m.home, m.hent) && !q.committing then (s.discardReads e).release e else s
          | none => s
        | none => s
      | none => s
    let s := s.dropLane m.home m.hent m.gen
    .next { s with fab := { s.fab with
      waiting := s.fab.waiting.filter (fun w => !(w.msg.home == m.home && w.msg.hent == m.hent && w.msg.gen == m.gen)),
      cancelled := s.fab.cancelled ++ [((m.home, m.hent, m.gen), s.now)] } }

/-- CANCEL_KEEP_EXPIRE (R394): query IDs kept for 100 µs are forgotten. -/
def execCancelKeepExpire (s : State) : Host.Outcome State Fault Refusal :=
  .next { s with fab := { s.fab with cancelled := s.fab.cancelled.filter (fun c => decide (s.now < c.2 + usec 100)) } }

/-! ### Remote writes (R398, R399) -/

/-- Body of a WREQ: 16 B write block, descriptor, code, and the vector when one is stored (Table 11.5). -/
def wreqBody (q : Sequence) (i : Index) : List Byte :=
  leBytes 8 i.ghandle ++ leBytes 2 (WriteDesc.shard q.desc) ++ leBytes 6 0 ++ slice q.desc 0 128
    ++ (if q.opcode = 2 then slice q.code 0 i.s ++ (if i.rerank then q.vec else []) else [])

/-- Send, or send again, the WREQ of a home sequence in COMMIT. -/
def State.sendWreq (s : State) (e : Nat) : State :=
  match Tab.find s.seqs e with
  | none => s
  | some q =>
    match s.indexOf q with
    | none => s
    | some i =>
      let s := s.setSeq e { q with remote := { q.remote with sent := true, timer := some (s.now + rrtUnits i.rrt) } }
      s.sendTo { mtype := 4, cls := q.cls, dest := i.shards.getD (WriteDesc.shard q.desc) s.devId, home := s.devId, hent := e,
                 gen := q.gen, xarg := q.remote.serial, body := wreqBody q i }

/-- Writes of an (index, shard) in COMMIT at the home, in serial order. -/
def State.remoteWrites (s : State) (h sh : Nat) : List Nat :=
  (sortBy (fun (a b : Nat × Sequence) => decide (a.2.remote.serial ≤ b.2.remote.serial))
    (s.seqs.filter (fun (x : Nat × Sequence) => x.2.index == h && !x.2.isQuery && x.2.opcode != 4 && x.2.home.isNone && x.2.remote.sent
      && x.2.remote.report.isNone && WriteDesc.shard x.2.desc == sh))).map (·.1)

/-- COMMIT of a remote write starts: the next serial, and the WREQ (R398). -/
def State.startRemoteWrite (s : State) (e : Nat) : State :=
  match Tab.find s.seqs e with
  | none => s
  | some q =>
    let key := (q.index, WriteDesc.shard q.desc)
    let n := match s.fab.serials.find? (fun (x : (Nat × Nat) × Nat) => x.1 == key) with | some x => x.2 | none => 1
    let s := { s with fab := { s.fab with serials := s.fab.serials.filter (fun (x : (Nat × Nat) × Nat) => x.1 != key) ++ [(key, n + 1)] } }
    (s.setSeq e { q with stage := stCOMMIT, phase := .waiting, remote := { q.remote with serial := n } }).sendWreq e

/-- WRITE_RETRY (R398): RRT without a report, every write still in COMMIT to that shard is sent again in serial order. -/
def execWriteRetry (index shard : Nat) (s : State) : Host.Outcome State Fault Refusal :=
  let es := s.remoteWrites index shard
  let due := es.any (fun e => match Tab.find s.seqs e with
    | some q => (match q.remote.timer with | some t => decide (t ≤ s.now) | none => false)
    | none => false)
  .next (if due then forAll es (fun e s => s.sendWreq e) s else s)

/-- Body of a WREP (log entry 12): STATUS at 0, EPOCH at 8, AUX at 16, the poison device at 24 and record at 28. -/
def Report.bytes (r : Report) : List Byte :=
  leBytes 8 r.status ++ leBytes 8 r.epoch ++ leBytes 8 r.aux ++ leBytes 4 r.pdev ++ leBytes 4 r.pseq

def Report.ofBytes (bs : List Byte) : Report :=
  { status := field bs 0 1, epoch := field bs 8 8, aux := field bs 16 8, pdev := field bs 24 2, pseq := field bs 28 4 }

def State.sendWrep (s : State) (m : Msg) (r : Report) : State :=
  s.sendTo { mtype := 5, cls := m.cls, dest := m.home, home := m.home, hent := m.hent, gen := m.gen, xarg := m.xarg, body := r.bytes }

/-- WREQ (R399): executed once, in serial order; a repeat gets its kept report again. It waits in the arrival staging while no
entry is free (R378, R390). -/
def execWreq (n : Port) (s : State) : Host.Outcome State Fault Refusal :=
  match s.take n 4 with
  | none => .next s
  | some (a, s) =>
    let m := a.msg
    if m.dest != s.devId then .next (s.passOn a)
    else match s.shardOf m.home (field m.body 0 8) with
      | none => .next (s.malformed n m.hdr8)
      | some (k, i) =>
        if field m.body 8 2 != i.myShard then .next (s.malformed n m.hdr8)
        else
          let log := (s.fab.logs.find? (fun l => l.index == k)).getD { index := k }
          if m.xarg ≤ log.last then
            match log.reports.find? (fun r => r.1 == m.xarg) with
            | some r => .next (s.sendWrep m r.2)
            | none => .next s
          else if m.xarg != log.last + 1 then .next s
          else match s.startWrite m with
            | some s => .next s
            | none => .next (s.stage_ m)

/-- The report of a write part that has committed (R399): kept, and sent. -/
def State.upsendWrite (s : State) (q : Sequence) : State :=
  match q.home with
  | none => s
  | some (h, n) =>
    let (st, ep, aux) := q.writeEnd
    let rec_ := match st with | .poison => q.poison.getD 0 | .poisonWrite => q.damaged.getD 0 | _ => 0
    let r : Report := { status := st.code, epoch := ep, aux := aux, pdev := if rec_ = 0 then 0 else s.devId, pseq := rec_ }
    let log : SerialLog := (s.fab.logs.find? (fun l => l.index == q.index)).getD { index := q.index }
    let log := { log with last := q.remote.serial, reports := (log.reports ++ [(q.remote.serial, r)]).drop (log.reports.length + 1 - 64) }
    let s := { s with fab := { s.fab with logs := s.fab.logs.filter (fun (l : SerialLog) => l.index != q.index) ++ [log] } }
    s.sendWrep { mtype := 5, cls := q.cls, home := h, hent := n, gen := q.homeGen, xarg := q.remote.serial } r

/-- Statuses a report can carry. -/
def statusOf (c : Nat) : Status :=
  match c with
  | 0x00 => .ok | 0x05 => .revoked | 0x16 => .quota | 0x20 => .poison | 0x21 => .poisonWrite | 0x11 => .noIndex | _ => .badDescriptor

/-- WREP (R398): the completion follows in the next tick. A poison report is recorded at the home as R393 records a poisoned
list. -/
def execWrep (n : Port) (s : State) : Host.Outcome State Fault Refusal :=
  match s.take n 5 with
  | none => .next s
  | some (a, s) =>
    let m := a.msg
    if m.dest != s.devId then .next (s.passOn a)
    else match Tab.find s.seqs m.hent with
      | some q =>
        if q.gen == m.gen && q.home.isNone && !q.isQuery && q.remote.sent && q.remote.report.isNone && q.remote.serial == m.xarg then
          let r := Report.ofBytes m.body
          let st := statusOf r.status
          let bad := st == .poison || st == .poisonWrite
          let o : State × Nat := if bad then
            s.occur { cause := Cause.remotePoison, func := q.vf, subject := r.pdev, arg0 := r.pdev, arg1 := r.pseq } else (s, 0)
          .next (o.1.setSeq m.hent { q with phase := .done, wrote := some (st, r.epoch, r.aux),
                                            poison := if st == .poison then some o.2 else q.poison,
                                            damaged := if st == .poisonWrite then some o.2 else q.damaged,
                                            remote := { q.remote with report := some r } })
        else .next (s.count64 Reg.FAB_LATE 1)
      | none => .next (s.count64 Reg.FAB_LATE 1)

/-! ### Publishes of sharded indexes (R400) -/

/-- Body of a publish message: the global handle, then the retiree's epoch or all ones (log entry 12). -/
def State.sendPub (s : State) (e mtype : Nat) : State :=
  match Tab.find s.seqs e with
  | none => s
  | some q =>
    match s.indexOf q with
    | none => s
    | some i =>
      let gone := match i.retiree with | some x => (i.record x.record).epoch | none => 2 ^ 64 - 1
      let open_ := match i.openRec with | some t => (i.record t).epoch | none => 0
      let s := s.setSeq e { q with remote := { q.remote with sent := true, timer := some (s.now + rrtUnits i.rrt),
                                                             commitSent := q.remote.commitSent || mtype == 8 } }
      s.sendDown s.devId (s.boxFor i)
        { mtype := mtype, cls := q.cls, home := s.devId, hent := e, gen := q.gen, xarg := open_ % 2 ^ 32,
          body := if mtype = 6 then leBytes 8 i.ghandle ++ leBytes 8 gone else [] }

/-- Devices of the other shards. -/
def State.otherShards (s : State) (q : Sequence) : List Nat :=
  match s.indexOf q with | some i => i.shards.filter (fun d => d != s.devId) | none => []

/-- A publish report goes up the tree as it is: DEST names the shard that reports (log entry 12). -/
def State.reportUp (s : State) (m : Msg) : State :=
  match s.fab.map.parent m.home s.devId with
  | some (_, p) => s.sendPort p { m with tree := true, up := true }
  | none => s

/-- Report of this shard: PPRDY or PDONE. -/
def State.pubReport (s : State) (p : ShardPub) (mtype : Nat) : State :=
  s.reportUp { mtype := mtype, cls := 4, dest := s.devId, home := p.home, hent := p.hent, gen := p.gen, xarg := p.epoch % 2 ^ 32,
               body := if mtype = 7 then leBytes 8 p.retiree ++ leBytes 8 0 else [] }

/-- PPREP (R400): forwarded, and the shard's PLACE and FOLD started; a repeat for an epoch prepared or committed is answered
again. -/
def execPprep (n : Port) (s : State) : Host.Outcome State Fault Refusal :=
  match s.take n 6 with
  | none => .next s
  | some (a, s) =>
    let m := a.msg
    let s := s.sendDown m.home [] m
    match s.shardOf m.home (field m.body 0 8) with
    | none => .next s -- a device on the tree without a shard
    | some (k, _) =>
      match s.pubOf k m.xarg with
      | some p => .next (if p.phase = 0 then s else s.pubReport p 7)
      | none => match s.startPrep m with
        | some s => .next s
        | none => .next (s.stage_ m)

/-- A report of a publish travels up, or reaches the home. -/
def State.pubArrive (s : State) (a : Arrived) (f : Nat → Sequence → State) : State :=
  let m := a.msg
  if m.home != s.devId then s.reportUp m
  else match Tab.find s.seqs m.hent with
    | some q => if q.gen == m.gen && q.opcode == 4 && q.home.isNone then f m.hent q else s.count64 Reg.FAB_LATE 1
    | none => s.count64 Reg.FAB_LATE 1

/-- PPRDY (R400). -/
def execPprdy (n : Port) (s : State) : Host.Outcome State Fault Refusal :=
  match s.take n 7 with
  | none => .next s
  | some (a, s) =>
    .next (s.pubArrive a (fun e q =>
      let d := a.msg.dest
      s.setSeq e { q with remote := { q.remote with ready := if q.remote.ready.contains d then q.remote.ready else q.remote.ready ++ [d] } }))

/-- PCOMMIT (R400): forwarded; the shard commits at the end of this tick, and a repeat is answered again. -/
def execPcommit (n : Port) (s : State) : Host.Outcome State Fault Refusal :=
  match s.take n 8 with
  | none => .next s
  | some (a, s) =>
    let m := a.msg
    let s := s.sendDown m.home [] m
    match s.fab.pubs.find? (fun p => p.home == m.home && p.hent == m.hent && p.gen == m.gen) with
    | none => .next s
    | some p =>
      if p.phase = 2 then .next (s.pubReport p 9)
      else
        .next (forAll (s.seqs.filter (fun x => x.2.index == p.index && x.2.opcode == 4 && x.2.home == some (m.home, m.hent)
            && x.2.stage == stUPSEND)) (fun x s => s.onSeq x.1 (fun q => { q with committing := true })) s)

/-- PDONE (R400). -/
def execPdone (n : Port) (s : State) : Host.Outcome State Fault Refusal :=
  match s.take n 9 with
  | none => .next s
  | some (a, s) =>
    .next (s.pubArrive a (fun e q =>
      let d := a.msg.dest
      s.setSeq e { q with remote := { q.remote with
        finished := if q.remote.finished.contains d then q.remote.finished else q.remote.finished ++ [d] } }))

/-- PUBLISH_RETRY (R400): PPREP or PCOMMIT again, RRT after the last. -/
def execPublishRetry (e : SeqNo) (s : State) : Host.Outcome State Fault Refusal :=
  match Tab.find s.seqs e with
  | some q =>
    match q.remote.timer with
    | some t =>
      .next (if q.opcode = 4 && q.home.isNone && q.remote.sent && t ≤ s.now then
        (if q.remote.commitSent then (if (s.otherShards q).all q.remote.finished.contains then s else s.sendPub e 8)
         else if (s.otherShards q).all q.remote.ready.contains then s else s.sendPub e 6) else s)
    | none => .next s
  | none => .next s

end Sys2Proof.Machine
end

