-- ==== Sys2Proof/Machine/Line.lean ====
section
/-! DEFINITION. Machine/Line.lean: what goes over a Lenlink lane: sync words, the scrambler, the convolutional code, flits and
their checks (R334, R335, R351, R352, R375). -/

namespace Sys2Proof.Machine

/-! ### Checks -/

/-- One bit of a CRC of width `w`. -/
def crcBit (w poly c : Nat) (b : Bool) : Nat :=
  let top := bit c (w - 1) != b
  let c' := c * 2 % 2 ^ w
  if top then c' ^^^ poly else c'

/-- A CRC over bytes in ascending order, each most significant bit first. -/
def crcOver (w poly init : Nat) (bs : List Byte) : Nat :=
  bs.foldl (fun c b => [7, 6, 5, 4, 3, 2, 1, 0].foldl (fun c k => crcBit w poly c (bit b.toNat k)) c) init

/-- CRC of a sync word (R334). -/
def crc16 (bs : List Byte) : Nat := crcOver 16 0x1021 0xFFFF bs

/-- FCRC of a flit (Table 11.2). -/
def crc64 (bs : List Byte) : Nat := crcOver 64 0x42F0E1EBA9EA3693 (ones 64) bs ^^^ ones 64

/-! ### Sync words (Table 10.2) -/

def syncPreamble : Nat := 0xC3A55A3CE1960F69

/-- Add the CRC to 30 bytes of a sync word. -/
def sealSync (bs : List Byte) : List Byte := bs ++ leBytes 2 (crc16 bs)

/-- A word whose preamble is the bitwise inverse, the right way round (R335). -/
def upright (w : List Byte) : Bool × List Byte :=
  if field w 0 8 = ones 64 - syncPreamble then (true, w.map (fun b => ~~~b)) else (false, w)

/-- Is an upright word accepted (R335): length, preamble, CRC and reserved bits. -/
def syncOk (w : List Byte) : Bool :=
  w.length == 32 && field w 0 8 == syncPreamble && field w 30 2 == crc16 (slice w 0 30) && !bit (field w 9 1) 7
    && bits (field w 11 1) 7 4 == 0 && bits (field w 12 2) 15 13 == 0 && !bit (field w 14 1) 3 && bits (field w 14 1) 7 6 == 0
    && bits (field w 15 1) 7 4 == 0 && bits (field w 16 2) 15 12 == 0 && bits (field w 18 2) 15 10 == 0 && zeroAt w 22 6

/-! ### Symbols and the code (R351, R352) -/

/-- Gray mapping of a pair of bits, the symbol's first bit first. -/
def gray (first second : Bool) : Int :=
  match first, second with
  | false, false => -3
  | false, true => -1
  | true, true => 1
  | true, false => 3

/-- Symbols of uncoded bytes: four a byte, bits [1:0] first, the higher bit of a pair first. -/
def plainSymbols (bs : List Byte) : List Int :=
  bs.flatMap (fun b => [0, 1, 2, 3].map (fun k => gray (bit b.toNat (2 * k + 1)) (bit b.toNat (2 * k))))

/-- Scrambler of a lane at a marker. -/
def scrLoad (lane : Nat) : Nat := (0x2A5A5A5A + lane) % 2 ^ 31

/-- One step of the scrambler x³¹ + x²⁸ + 1: its output, and the state after (log entry 20). -/
def scrStep (s : Nat) : Bool × Nat :=
  let o := bit s 30 != bit s 27
  (o, s * 2 % 2 ^ 31 + b2n o)

/-- G1 and G2 for an input bit; bit j of the state is u_(t−1−j). -/
def encBits (st : Nat) (u : Bool) : Bool × Bool :=
  ((u != (bit st 0 != (bit st 1 != (bit st 2 != bit st 5)))), (u != (bit st 1 != (bit st 2 != (bit st 4 != bit st 5)))))

def encNext (st : Nat) (u : Bool) : Nat := st * 2 % 64 + b2n u

/-- Coded bits of an input bit at position i of the puncturing period (Table 10.5). -/
def punctured (i : Nat) (g : Bool × Bool) : List Bool :=
  if i = 0 then [g.1, g.2] else if i % 2 = 0 then [g.1] else [g.2]

/-- Coded bits of a frame's information bits, with scrambler and encoder after them. -/
def codeBits : Nat → List Bool → Nat → Nat → List Bool × Nat × Nat
  | _, [], scr, enc => ([], scr, enc)
  | i, b :: bs, scr, enc =>
    let x := scrStep scr
    let u := b != x.1
    let r := codeBits ((i + 1) % 15) bs x.2 (encNext enc u)
    (punctured i (encBits enc u) ++ r.1, r.2)

/-- Pairs of coded bits as symbols. -/
def pairSymbols : List Bool → List Int
  | a :: b :: t => gray a b :: pairSymbols t
  | _ => []

/-- The 240 information bits of a data lane's share of a flit: bytes 30·d to 30·d + 29, least significant bit first. -/
def laneBits (flit : List Byte) (d : Nat) : List Bool :=
  (slice flit (30 * d) 30).flatMap (fun b => (List.range 8).map (fun k => bit b.toNat k))

/-! ### Flits (Table 11.2) -/

/-- The 240 bytes of a flit as it is sent. -/
def flitBytes (f : Flit) (lseq : Nat) (rpl : Bool) (ack : Nat) (ackV nak : Bool) : List Byte :=
  let crd := match f.crd with | some (l, n) => l + n * 16 + 2 ^ 11 | none => 0
  let fctl := f.lane + f.kind * 16 + b2n f.last * 64 + b2n f.slow * 128 + b2n f.abort * 256
  let bs := leBytes 2 (lseq + b2n rpl * 2 ^ 12) ++ leBytes 2 (ack + b2n ackV * 2 ^ 12 + b2n nak * 2 ^ 13) ++ leBytes 2 crd ++ leBytes 2 fctl
    ++ slice f.payload 0 224
  bs ++ leBytes 8 (crc64 bs)

/-- Does a flit's check match? -/
def flitOk (bs : List Byte) : Bool := bs.length == 240 && field bs 232 8 == crc64 (slice bs 0 232)

/-- Are its reserved bits zero? -/
def flitClean (bs : List Byte) : Bool :=
  bits (field bs 0 2) 15 13 == 0 && bits (field bs 2 2) 15 14 == 0 && bits (field bs 4 2) 15 12 == 0 && bits (field bs 6 2) 15 9 == 0

/-- The flit of received bytes. -/
def flitOf (bs : List Byte) : Flit :=
  let c := field bs 4 2
  let f := field bs 6 2
  { lane := bits f 3 0, kind := bits f 5 4, last := bit f 6, slow := bit f 7, abort := bit f 8, payload := slice bs 8 224,
    crd := if bit c 11 then some (bits c 3 0, bits c 10 4) else none }

/-- Credits of a lane at sync (Table 11.4). -/
def laneCredits (l : Nat) : Nat := if l < 4 then 16 else if l < 8 then 80 else if l < 10 then 8 else 56

end Sys2Proof.Machine
end

