-- ==== Sys2Proof/Machine/LinkUp.lean ====
section
/-! DEFINITION. Machine/LinkUp.lean: what the fabric does when a port starts or stops carrying traffic (R373, R377, R381, R385,
R386, R655). -/

namespace Sys2Proof.Machine

def State.lnkAt (s : State) (n : Nat) : LnkPort := Tab.read s.lnk {} n
def State.setLnk (s : State) (n : Nat) (x : LnkPort) : State := { s with lnk := Tab.write s.lnk {} n x }

/-- STATE of a port (Table 10.3). -/
def State.lnkState (s : State) (n : Nat) : Nat := s.fld (Reg.LNK_PSTAT n) F.LNK_PSTAT_STATE
def State.lnkRate (s : State) (n : Nat) : Nat := s.fld (Reg.LNK_PSTAT n) F.LNK_PSTAT_RATE

/-! ### Latency of a hop (R368, R386, R655) -/

/-- Signalling terms of Table 10.6 for a rate and a skew, 0.01 ns. -/
def sigTerms (rate skew : Nat) : Nat := 464 + 1830 * 2 ^ (3 - rate) + skew

/-- h of R386 in 0.01 ns, rounded up; five t_f are 80/7 ns at rate 0x3. -/
def hopTime (rate skew fly : Nat) : Nat := 2560 + cdiv (8000 * 2 ^ (3 - rate)) 7 + sigTerms rate skew + 10 * fly

/-- FAB_FLY shows the larger of the measured and the operator's flight time, and FAB_HOPNS follows it. -/
def State.showFly (s : State) (n : Nat) : State :=
  let x := s.lnkAt n
  let fly := max x.flyMeas x.flyOp
  let s := s.setFld (Reg.FAB_FLY n) F.FAB_FLY_NS fly
  if s.fld (Reg.LNK_PARTNER n) F.LNK_PARTNER_VALID = 0 then s
  else s.setFld (Reg.FAB_HOPNS n) F.FAB_HOPNS_NS
    (min (hopTime (s.lnkRate n) (s.fld (Reg.LNK_PSYNC n) F.LNK_PSYNC_SKEW) fly) (ones 16))

/-- The operator's flight time of a port (R655), LK. -/
def State.operFly (s : State) (n v : Nat) : State :=
  if s.sealed then s else (s.setLnk n { s.lnkAt n with flyOp := v % 2 ^ 16 }).showFly n

/-- FAB_FLY (R655). -/
def execFabFly (n : Port) (val : BitVec 16) (s : State) : Host.Outcome State Fault Refusal := .next ((s.dropHeld 0).operFly n val.toNat)

/-- The flight time that the echo flit of a sync measures: half the round trip, in 0.01 ns, less the signalling terms,
rounded up to 0.1 ns (R655). -/
def echoFly (rtt sig : Nat) : Nat := min (cdiv (rtt - 2 * sig) 20) (ones 16)

/-! ### Reachability (R385) -/

/-- The 32 B of an LSTATE (log entry 12): byte 2n is 1 when primary port n, or its twin, carries traffic. -/
def State.lstateBody (s : State) : List Byte := (List.range 16).flatMap (fun n => leBytes 2 (b2n (s.linkUp n)))

/-- Does a device say that a primary port of it carries traffic? A device not heard of counts as carrying (log entry 21). -/
def State.portSaid (s : State) (d p : Nat) : Bool :=
  if d = s.devId then s.linkUp p
  else match Tab.find s.fab.states d with
    | some b => field b (2 * p) 2 != 0
    | none => true

/-- Does the pair of ports of a link carry traffic? -/
def State.pairUp (s : State) (d p : Nat) : Bool :=
  s.portSaid d p && (match s.fab.map.partner d p with
    | some (y, q) => s.portSaid y (s.fab.map.primary q)
    | none => false)

/-- The devices whose path from this one crosses only links that carry traffic (R385). -/
def State.reachNow (s : State) : List Nat :=
  (List.range s.fab.map.size).filter (fun d =>
    d != s.devId && (s.fab.map.path 32 s.devId d).all (fun h => s.pairUp h.1 h.2))

/-- Keep the reachability set. -/
def State.updateReach (s : State) : State := { s with fab := { s.fab with reach := s.reachNow } }

/-- LSTATE down the own tree, and the own set at once (R385). -/
def State.sendLstate (s : State) : State :=
  (s.sendDown s.devId [] { mtype := 0x0A, cls := 4, home := s.devId, body := s.lstateBody }).updateReach

/-! ### Ports of the fabric (R373, R403) -/

/-- FAB_PSTATE of a physical port. -/
def State.showPort (s : State) (n : Nat) : State :=
  let x := s.fabPort n
  let st := if x.isolated then 2 else if x.miswired then 3 else if x.up then 1 else 0
  let p := s.fab.map.primary n
  let s := s.setFld (Reg.FAB_PSTATE n) F.FAB_PSTATE_STATE st
  s.setFld (Reg.FAB_PSTATE n) F.FAB_PSTATE_TWIN (b2n (s.twinned p))

def State.showPorts (s : State) : State := forAll (List.range 16) (fun n s => s.showPort n) s

/-- A league of one when no port carries traffic (R345, R374). -/
def State.anyPort (s : State) : Bool := (List.range 16).any (fun n => (s.fabPort n).carries)

/-- Change a port; LSTATE goes out when it starts or stops carrying traffic. -/
def State.changePort (s : State) (n : Nat) (x : FabPort) : State :=
  let before := (s.fabPort n).carries
  let s := (s.setFabPort n x).showPorts
  if x.carries != before then s.sendLstate else s

/-- The port's fabric state from its signalling and the map: it carries traffic when it is ACTIVE, DOZE or WAKE and its partner
is the one the map names, and is miswired when the partner is another (R373; log entry 22). -/
def State.judgePort (s : State) (n : Nat) : State :=
  let live := let st := s.lnkState n; st == 6 || st == 7 || st == 8
  let dev := s.fld (Reg.LNK_PARTNER n) F.LNK_PARTNER_DEVID
  let port := s.fld (Reg.LNK_PARTNER n) F.LNK_PARTNER_PORT
  let x := s.fabPort n
  if !live then s.changePort n { x with up := false, miswired := false }
  else match s.fab.map.partner s.devId n with
    | none => s.changePort n { x with up := false, miswired := false }
    | some (d, q) =>
      if d = dev && q = port then s.changePort n { x with up := true, miswired := false }
      else (s.changePort n { x with up := false, miswired := true }).record
        { cause := Cause.miswired, subject := n, arg0 := dev, arg1 := port }

/-- MISWIRED (R373): while the partner differs from the map, the record is written. -/
def execMiswired (n : Port) (s : State) : Host.Outcome State Fault Refusal := .next (s.judgePort n)

/-- UNISOLATE (R403). -/
def State.unisolate (s : State) (n : Nat) : State :=
  s.changePort n { s.fabPort n with isolated := false, breaches := [] }

def execUnisolate (n : Port) (s : State) : Host.Outcome State Fault Refusal := .next (s.unisolate n)

/-- Whole flits held in the input buffers: partial messages, and flits accepted whose credit is held. -/
def FabPort.inputFlits (x : FabPort) : Nat :=
  (x.rx.foldl (fun n r => n + r.2.length / 224) 0) + (x.rxHeld.foldl (fun n r => n + r.2) 0)

/-- A port leaves for SEARCH, LONE, FAULT or DISABLED (R381): its replay and input buffers and what waits for it are
discarded and counted, and the link starts afresh at its next sync. A message cut here has reached no further device: messages
are passed on whole (log entry 23). -/
def State.flitsLost (s : State) (n : Nat) : State :=
  let x := s.fabPort n
  let lost := x.replay.length + x.inputFlits
  let s := s.changePort n { up := false, isolated := x.isolated, breaches := x.breaches, lastQueued := x.lastQueued }
  if lost = 0 then s
  else (s.count (Reg.FAB_FLITLOST n) lost).record { cause := Cause.flitsLost, subject := n, arg0 := lost }

/-- FLITS_LOST (R381): in any state from which the link layer is gone. -/
def execFlitsLost (n : Port) (s : State) : Host.Outcome State Fault Refusal :=
  let st := s.lnkState n
  .next (if st = 0 || st = 1 || st = 2 || st = 9 then s.flitsLost n else s)

/-- A quick retrain begins: the port carries nothing, and its buffers are kept (R381). -/
def State.holdPort (s : State) (n : Nat) : State :=
  let x := s.fabPort n
  s.changePort n { x with up := false, hold := x.up || x.hold }

/-- A sync (R360, R377). After a quick retrain the buffers and credits stand, and replay starts from the oldest flit not
acknowledged (R381); otherwise every lane starts with the credits of Table 11.4. -/
def State.syncPort (s : State) (n : Nat) : State :=
  let x := s.fabPort n
  let x : FabPort :=
    if x.hold then { x with hold := false, again := x.replay.map (·.1), fails := 0, oldest := none }
    else { x with credits := (List.range 12).map (fun l => (l, laneCredits l)) }
  (s.setFabPort n x).judgePort n

end Sys2Proof.Machine
end

