-- ==== Sys2Proof/Machine/Lenlink.lean ====
section
/-! DEFINITION. Machine/Lenlink.lean: the state machine of a Lenlink port: search, training, loss of lock, ramps, doze and wake
(R336 to R367). -/

namespace Sys2Proof.Machine

def State.lnkCeil (s : State) (n : Nat) : Nat := s.fld (Reg.LNK_PSTAT n) F.LNK_PSTAT_CEIL
def State.setLnkFld (s : State) (n : Nat) (f : Nat × Nat) (v : Nat) : State := s.setFld (Reg.LNK_PSTAT n) f v
def State.lnkLane (s : State) (n l : Nat) : LnkLane := Tab.read (s.lnkAt n).lanes {} l
def State.setLnkLane (s : State) (n l : Nat) (x : LnkLane) : State :=
  let p := s.lnkAt n
  s.setLnk n { p with lanes := Tab.write p.lanes {} l x }

/-- A fabric-domain record about a port (R369). -/
def State.portRecord (s : State) (c : Cause) (n : Nat) (a0 a1 a2 : Nat) : State :=
  s.record { cause := c, subject := n, arg0 := a0, arg1 := a1, arg2 := a2 }

/-! ### Sync words sent (R334, R338) -/

/-- Rate of the transmission: in SEARCH the slot's rate or the ceiling (R338), else the rate in use. -/
def State.sendRate (s : State) (n : Nat) : Nat :=
  if s.lnkState n = 1 then min (3 - (s.lnkAt n).slots % 4) (s.lnkCeil n) else s.lnkRate n

/-- Requests for the partner's transmitter that the own adaptation makes: the receiver's algorithms are the implementer's
(log entry 1), so in ADAPT each tap's request is free. -/
def State.ownRequests (s : State) (n l : Nat) : Nat × Nat :=
  if s.lnkState n = 4 then
    let v := (Config.freeValue (s.free + 9 * n + l)).toNat
    ((List.range 5).foldl (fun a k => a + v / 3 ^ k % 3 * 4 ^ k) 0,
     if (s.lnkAt n).partner.optics then (List.range 4).foldl (fun a k => a + v / 3 ^ (k + 5) % 3 * 4 ^ k) 0 else 0)
  else (0, 0)

/-- The sync word a port sends on a lane at a rate (Table 10.2). -/
def State.syncWord (s : State) (n l rate : Nat) : List Byte :=
  let st := s.lnkState n
  let x := s.lnkAt n
  let ln := s.lnkLane n l
  let rx := s.fld (Reg.LNK_PSTAT n) F.LNK_PSTAT_RXSPARE
  let req := s.ownRequests n l
  let agreed := decide (3 ≤ st) && decide (st ≤ 8)
  sealSync (leBytes 8 syncPreamble ++ leBytes 1 st
    ++ leBytes 1 (rate + s.fld (Reg.LNK_PSTAT n) F.LNK_PSTAT_HEARD * 4 + s.fld (Reg.LNK_PSTAT n) F.LNK_PSTAT_FULL * 64)
    ++ leBytes 1 (l + n * 16)
    ++ leBytes 1 (b2n x.media + b2n (x.quick != 0) * 2 + b2n (s.fld (Reg.LNK_PCTL n) F.LNK_PCTL_DOZE == 1 && st == 6) * 4
        + b2n x.ackSent * 8)
    ++ leBytes 2 s.devId
    ++ leBytes 1 ((if agreed then s.lnkRate n + 4 else 0) + s.lnkCeil n * 16)
    ++ leBytes 1 rx ++ leBytes 2 req.1 ++ leBytes 2 ln.firStat ++ leBytes 1 req.2 ++ leBytes 1 ln.dpdStat ++ leBytes 6 0
    ++ leBytes 2 (if 6 ≤ st && st ≤ 8 then x.seq else 0))

/-- From now on the port sends these words on its nine lanes. -/
def State.sendSyncAt (s : State) (n rate : Nat) : State :=
  (s.emit (.sync n rate ((List.range 9).map (fun l => s.syncWord n l rate)))).drew

def State.sendSync (s : State) (n : Nat) : State := s.sendSyncAt n (s.sendRate n)

/-! ### Ramps (R365) -/

/-- T_ramp in time units. -/
def State.rampTime (s : State) : Nat := usec (s.fld Reg.LNK_RAMP F.LNK_RAMP_US)

/-- Waiting ports ramp in ascending port number, at most two at a time. -/
def State.grantRamps (s : State) : State :=
  forAll (List.range 16) (fun n s =>
    let busy := ((List.range 16).filter (fun m => match (s.lnkAt m).ramp with | .up _ => true | .down _ => true | _ => false)).length
    let x := s.lnkAt n
    if 2 ≤ busy then s
    else match x.ramp with
      | .waitUp => s.setLnk n { x with ramp := .up (s.now + s.rampTime) }
      | .waitDown => if x.notBefore ≤ s.now then s.setLnk n { x with ramp := .down (s.now + s.rampTime) } else s
      | _ => s) s

/-- The drivers of a port are to be on or off: a ramp is asked for unless one is running. -/
def State.drive (s : State) (n : Nat) (on : Bool) : State :=
  let x := s.lnkAt n
  let r := match x.ramp with
    | .up t => Ramp.up t
    | .down t => Ramp.down t
    | _ => if on && !x.on then .waitUp else if !on && x.on then .waitDown else .idle
  (s.setLnk n { x with driven := on, ramp := r, notBefore := if on then 0 else x.notBefore }).grantRamps

/-! ### States -/

def State.ceilToMax (s : State) (n : Nat) : State := s.setLnkFld n F.LNK_PSTAT_CEIL (s.fld (Reg.LNK_PCTL n) F.LNK_PCTL_RATEMAX)

/-- Leave whatever runs: no training, no quick retrain, no handshake. -/
def State.idlePort (s : State) (n st : Nat) : State :=
  let x := s.lnkAt n
  let s := s.setLnk n { x with quick := 0, judged := false, reported := false, ackSent := false,
                               lockLanes := [], beacon := 0, enterAt := s.now, partner := {}, dets := [] }
  (s.setLnkFld n F.LNK_PSTAT_STATE st).flitsLost n

/-- DISABLED (R337). -/
def State.enterDisabled (s : State) (n : Nat) : State :=
  let s := (s.idlePort n 0).ceilToMax n
  (s.setLnk n { s.lnkAt n with disableLater := false }).drive n false

/-- FAULT with a reason (Table 10.3, R369). -/
def State.enterFault (s : State) (n reason : Nat) : State :=
  let s := ((s.idlePort n 9).ceilToMax n).setLnkFld n F.LNK_PSTAT_REASON reason
  (s.portRecord Cause.portFault n reason 0 0).drive n false

/-- LONE (R341, R343, R345). -/
def State.enterLone (s : State) (n : Nat) : State :=
  let s := (s.idlePort n 2).ceilToMax n
  let s := s.setLnk n { s.lnkAt n with beaconAt := s.now + msec 100 }
  (s.portRecord Cause.portLone n 0 0 0).drive n false

/-- SEARCH (R338, R339): a fresh round clock, or the running one after a LOCK timeout (R346). HEARD is cleared and a training
begins with the default transmit settings (R354, R355). -/
def State.enterSearch (s : State) (n : Nat) (restart : Bool) : State :=
  let s := s.idlePort n 1
  let x := s.lnkAt n
  let s := s.setLnk n { x with lanes := [], firstHeard := none, media := s.fld (Reg.LNK_PCTL n) F.LNK_PCTL_MEDIA == 1,
                               searchAt := if restart then s.now else x.searchAt, slots := if restart then 0 else x.slots,
                               trainAt := if restart then s.now else x.trainAt }
  let s := (((s.setLnkFld n F.LNK_PSTAT_HEARD 0).setLnkFld n F.LNK_PSTAT_FULL 0).setLnkFld n F.LNK_PSTAT_RXSPARE 15).setLnkFld n
    F.LNK_PSTAT_TXSPARE 15
  let s := if restart then s.setLnkFld n F.LNK_PSTAT_ROUND 0 else s
  (s.drive n true).sendSync n

/-- LOCK at a rate (R340, R346). -/
def State.enterLock (s : State) (n rate : Nat) : State :=
  let x := s.lnkAt n
  let s := s.setLnk n { x with enterAt := s.now, judged := false, reported := false }
  let s := forAll (List.range 9) (fun l s =>
    s.setLnkLane n l { s.lnkLane n l with map := none, inverted := false, skew := 0, failed := false, meas := none }) s
  ((s.setLnkFld n F.LNK_PSTAT_STATE 3).setLnkFld n F.LNK_PSTAT_RATE rate).sendSync n

/-- A quick retrain's next attempt (R363), numbered from 1; a fourth is a SEARCH. -/
def State.quickAttempt (s : State) (n : Nat) : State :=
  let x := s.lnkAt n
  if 3 ≤ x.quick then s.enterSearch n true
  else
    let s := s.setLnk n { x with quick := x.quick + 1, quickAt := s.now, lockLanes := [], ackSent := false }
    s.enterLock n (s.lnkRate n)

/-- Start a quick retrain (R362 to R364). -/
def State.startQuick (s : State) (n : Nat) : State :=
  let s := s.holdPort n
  let x := s.lnkAt n
  ((s.setLnk n { x with quick := 0, trainAt := s.now, seq := 0 }).drive n true).quickAttempt n

/-- The rate is decided (R340): both FULL, the highest common rate under both ceilings. -/
def State.rateDecide (s : State) (n : Nat) : State :=
  let p := (s.lnkAt n).partner
  if s.lnkState n = 1 && s.fld (Reg.LNK_PSTAT n) F.LNK_PSTAT_FULL = 1 && p.full then
    let mine := s.fld (Reg.LNK_PSTAT n) F.LNK_PSTAT_HEARD
    match [3, 2, 1, 0].find? (fun r => bit mine r && bit p.heard r && decide (r ≤ s.lnkCeil n) && decide (r ≤ p.ceil)) with
    | some r => s.enterLock n r
    | none => s.enterFault n 1
  else s

/-- A rate is heard (R339, R344). -/
def State.rateHeard (s : State) (n rate : Nat) : State :=
  let s := if s.lnkState n = 2 then
      let x := s.lnkAt n
      let s := s.enterSearch n true
      s.setLnk n { s.lnkAt n with partner := x.partner, dets := x.dets }
    else s
  let x := s.lnkAt n
  if s.fld (Reg.LNK_PSTAT n) F.LNK_PSTAT_FULL = 1 then s
  else
    let s := s.setLnk n { x with firstHeard := some (x.firstHeard.getD s.now) }
    s.setLnkFld n F.LNK_PSTAT_HEARD (s.fld (Reg.LNK_PSTAT n) F.LNK_PSTAT_HEARD ||| 2 ^ rate)

/-- Detectors of a rate: 8 words in a row from one partner on at least 8 lanes (R339). -/
def State.detect (s : State) (n rate lane dev port : Nat) : State :=
  let x := s.lnkAt n
  let k := 16 * rate + lane
  let d := Tab.read x.dets {} k
  let d : Detector := if d.dev = dev && d.port = port then { d with count := min (d.count + 1) 8 } else { count := 1, dev := dev, port := port }
  let x := { x with dets := Tab.write x.dets {} k d }
  let s := s.setLnk n x
  let lanes := ((List.range 9).filter (fun l => Tab.read x.dets {} (16 * rate + l) == ({ count := 8, dev := dev, port := port } : Detector))).length
  if 8 ≤ lanes && !bit (s.fld (Reg.LNK_PSTAT n) F.LNK_PSTAT_HEARD) rate then s.rateHeard n rate else s

/-- The end of LOCK (R346, R347). -/
def State.lockDone (s : State) (n : Nat) : State :=
  let x := s.lnkAt n
  let lanes := ((List.range 9).filter (fun l => (s.lnkLane n l).map.isSome)).length
  if lanes < 8 then s
  else
    let pt := Reg.LNK_PARTNER n
    let differs := s.fld pt F.LNK_PARTNER_VALID == 1
      && (s.fld pt F.LNK_PARTNER_DEVID != x.partner.dev || s.fld pt F.LNK_PARTNER_PORT != x.partner.port)
    let s := if differs then s.portRecord Cause.partnerChanged n x.partner.dev x.partner.port 0 else s
    let s := s.setLnk n { s.lnkAt n with enterAt := s.now }
    (s.setLnkFld n F.LNK_PSTAT_STATE 4).sendSync n

/-- The port loses lock (R362): markers missing, LOCK words on 8 lanes, or another partner. A RETRAIN written in this tick
has its own way at the next (R364). -/
def State.lockLost (s : State) (n kind dev port : Nat) : State :=
  let s := (s.count (Reg.LNK_LOCKLOSS n) 1).portRecord Cause.lockLost n 0 0 0
  let s := s.setLnk n { s.lnkAt n with lostTick := some s.tick }
  if kind = 2 then (s.portRecord Cause.partnerChanged n dev port 0).enterSearch n true else s.startQuick n

/-- LOCK_LOST (R362). -/
def execLockLost (n : Port) (kind : Fin 3) (dev port : Nat) (s : State) : Host.Outcome State Fault Refusal :=
  .next (if s.lnkState n = 6 then s.lockLost n kind dev port else s)

/-- A lane beyond those failed lowers the ceiling: SEARCH below it, or FAULT at the lowest rate (R359). -/
def State.ceilingTo (s : State) (n c : Nat) : State :=
  ((s.setLnkFld n F.LNK_PSTAT_CEIL c).portRecord Cause.rateDown n c 0 0).enterSearch n true

/-- Wake from DOZE (R367): the drivers ramp up, and the port relocks on the held settings. -/
def State.startWake (s : State) (n : Nat) : State :=
  let s := s.setLnk n { s.lnkAt n with enterAt := s.now, ackSent := false }
  ((s.setLnkFld n F.LNK_PSTAT_STATE 8).drive n true).sendSync n

/-- An accepted sync word on a lane at a rate (R335 to R346, R359, R362, R363, R366, R367). -/
def State.takeSync (s : State) (n rate lane : Nat) (inverted : Bool) (w : List Byte) (skew : Nat) : State :=
  let st := field w 8 1
  let rb := field w 9 1
  let fl := field w 11 1
  let ag := field w 14 1
  let old := s.lnkAt n
  let p : PartnerWord :=
    { state := st, heard := if bit rb 6 then bits rb 5 2 else old.partner.heard, full := old.partner.full || bit rb 6,
      ceil := bits ag 5 4, dev := field w 12 2, port := bits (field w 10 1) 7 4, spare := bits (field w 15 1) 3 0,
      optics := bit fl 0, dozeReq := bit fl 2, dozeAck := bit fl 3 }
  let laneNo := bits (field w 10 1) 3 0
  let me := s.lnkState n
  if me = 1 || me = 2 then
    ((s.setLnk n { old with partner := p }).detect n rate lane p.dev p.port).rateDecide n
  else if rate != s.lnkRate n then s
  else if me = 3 then
    if 3 ≤ st && st ≤ 8 then
      let s := s.setLnk n { old with partner := p }
      (s.setLnkLane n lane { s.lnkLane n lane with map := some laneNo, inverted := inverted, skew := skew }).lockDone n
    else s
  else if me = 4 then s.setLnk n { old with partner := p }
  else if me = 5 then
    let s := s.setLnk n { old with partner := p }
    if p.ceil < s.lnkCeil n && p.ceil < s.lnkRate n then s.ceilingTo n p.ceil
    else if 5 ≤ st && old.judged then
      (s.setLnk n { s.lnkAt n with reported := true }).setLnkFld n F.LNK_PSTAT_TXSPARE p.spare
    else s
  else if me = 6 then
    if st = 3 then
      let ls := dedup (old.lockLanes ++ [lane])
      let s := s.setLnk n { old with lockLanes := ls }
      if 8 ≤ ls.length then s.lockLost n 1 0 0 else s
    else if p.dev != s.fld (Reg.LNK_PARTNER n) F.LNK_PARTNER_DEVID || p.port != s.fld (Reg.LNK_PARTNER n) F.LNK_PARTNER_PORT then
      s.lockLost n 2 p.dev p.port
    else s.setLnk n { old with partner := p, lockLanes := [] }
  else if me = 7 then (s.setLnk n { old with partner := p }).startWake n
  else if me = 8 then s.setLnk n { old with partner := p }
  else s

/-- SYNC_WORD (R335): ignored and counted, or taken. A port whose receivers are off hears nothing. -/
def execSyncWord (n : Port) (rate : Fin 4) (lane : Fin 9) (word : List Byte) (skew : Nat) (s : State) : Host.Outcome State Fault Refusal :=
  let st := s.lnkState n
  let w := upright word
  .next (if st = 0 || st = 9 then s
    else if syncOk w.2 then s.takeSync n rate lane w.1 w.2 skew
    else s.count (Reg.LNK_CRCERR n) 1)

/-! ### The search (R338 to R344) -/

/-- SEARCH_SLOT (R338). -/
def execSearchSlot (n : Port) (s : State) : Host.Outcome State Fault Refusal :=
  let x := s.lnkAt n
  .next (if s.lnkState n = 1 && x.slots < 64 && x.searchAt + usec 2048 * (x.slots + 1) ≤ s.now then
    ((s.setLnk n { x with slots := x.slots + 1 }).setLnkFld n F.LNK_PSTAT_ROUND ((x.slots + 1) / 4)).sendSync n
  else s)

/-- FULL_SET (R339, R340). -/
def execFullSet (n : Port) (s : State) : Host.Outcome State Fault Refusal :=
  match (s.lnkAt n).firstHeard with
  | some t => .next (if s.lnkState n = 1 && s.fld (Reg.LNK_PSTAT n) F.LNK_PSTAT_FULL = 0 && t + usec 8192 ≤ s.now then
      ((s.setLnkFld n F.LNK_PSTAT_FULL 1).sendSync n).rateDecide n else s)
  | none => .next s

/-- SEARCH_END (R341). -/
def execSearchEnd (n : Port) (s : State) : Host.Outcome State Fault Refusal :=
  .next (if s.lnkState n = 1 && 64 ≤ (s.lnkAt n).slots then
    (if s.fld (Reg.LNK_PSTAT n) F.LNK_PSTAT_HEARD = 0 then s.enterLone n else s.enterFault n 2)
  else s)

/-- BEACON (R343): the drivers ramp up for it; its words follow at the end of the ramp, and the ramp down after them. -/
def execBeacon (n : Port) (s : State) : Host.Outcome State Fault Refusal :=
  let x := s.lnkAt n
  .next (if s.lnkState n = 2 && x.beaconAt ≤ s.now then
    (s.setLnk n { x with beacon := 1, beaconAt := x.beaconAt + msec 100 }).drive n true
  else s)

/-- The words of a beacon: 64 µs at each rate under the ceiling (R343, R357), then the ramp down. -/
def State.beaconWords (s : State) (n : Nat) : State :=
  let s := forAll [3, 2, 1, 0] (fun r s => s.sendSyncAt n (min r (s.lnkCeil n))) s
  let s := s.setLnk n { s.lnkAt n with beacon := 2 }
  let s := s.drive n false
  let s := s.setLnk n { s.lnkAt n with notBefore := s.now + usec 256 }
  match (s.lnkAt n).ramp with
  | .down _ => s.setLnk n { s.lnkAt n with ramp := .waitDown }
  | _ => s

/-- RAMP_END (R365): a ramp has ended; what waited for it follows, and the next waiting port may ramp. -/
def State.rampEnd (s : State) (n : Nat) : State :=
  let x := s.lnkAt n
  match x.ramp with
  | .up t =>
    if t ≤ s.now then
      let s := s.setLnk n { x with ramp := .idle, on := true }
      if x.disableLater then s.enterDisabled n
      else if x.beacon = 1 then s.beaconWords n
      else s.drive n x.driven
    else s
  | .down t =>
    if t ≤ s.now then (s.setLnk n { x with ramp := .idle, on := false, beacon := 0 }).drive n x.driven else s
  | _ => s.grantRamps

def execRampEnd (n : Port) (s : State) : Host.Outcome State Fault Refusal := .next (s.rampEnd n)

/-! ### Lock, adaptation and coding (R346 to R361) -/

/-- LOCK_TIMEOUT (R346, R363). -/
def execLockTimeout (n : Port) (s : State) : Host.Outcome State Fault Refusal :=
  let x := s.lnkAt n
  .next (if s.lnkState n = 3 && x.enterAt + msec 2 ≤ s.now then
    (if x.quick = 0 then s.enterSearch n false else s.quickAttempt n)
  else s)

/-- Limit of ADAPT: 20 ms, or 2 ms in a quick retrain (R348, R363). -/
def LnkPort.adaptLimit (x : LnkPort) : Nat := if x.quick = 0 then msec 20 else msec 2

/-- ADAPT_DONE (R348): the port enters CODE. A lane with no accepted word, or with too much skew, has failed (R346); every
encoder starts at zero (R351). -/
def execAdaptDone (n : Port) (s : State) : Host.Outcome State Fault Refusal :=
  let x := s.lnkAt n
  .next (if s.lnkState n = 4 && s.now < x.enterAt + x.adaptLimit then
    let s := forAll (List.range 9) (fun l s =>
      let y := s.lnkLane n l
      s.setLnkLane n l { y with failed := y.map.isNone || decide (800 < y.skew), enc := 0, scr := scrLoad l }) s
    let s := s.setLnk n { s.lnkAt n with enterAt := s.now, slot := 0 }
    (s.setLnkFld n F.LNK_PSTAT_STATE 5).sendSync n
  else s)

/-- ADAPT_TIMEOUT (R348). -/
def execAdaptTimeout (n : Port) (s : State) : Host.Outcome State Fault Refusal :=
  let x := s.lnkAt n
  .next (if s.lnkState n = 4 && x.enterAt + x.adaptLimit ≤ s.now then
    (if x.quick = 0 then s.enterFault n 4 else s.quickAttempt n)
  else s)

/-- Move a FIR tap by one: MAIN absorbs it, within −15 to +15 and 32 to 64 (R354). The taps and the status: 1 UPDATED, 2 MIN,
3 MAX. MAIN itself moves only with another tap: its request is not updated (log entry 24). -/
def moveTap (taps : List Int) (k : Nat) (inc : Bool) : List Int × Nat :=
  if k = 2 then (taps, 0)
  else
    let v := taps.getD k 0 + (if inc then 1 else -1)
    let t := taps.set k v
    let main : Int := 64 - (([0, 1, 3, 4].map (fun j => ((t.getD j 0).natAbs : Int))).foldl (· + ·) 0)
    if v < -15 || 15 < v || main < 32 || 64 < main then (taps, if inc then 3 else 2)
    else (t.set 2 main, 1)

/-- A FIRREQ applied to a lane: the taps, and the status of each. -/
def applyFir (y : LnkLane) (req : Nat) : LnkLane :=
  let y := if bits req 11 10 = 1 then { y with fir := [0, -4, 52, -8, 0] } else y
  let r := [0, 1, 2, 3, 4].foldl (fun (a : List Int × Nat) k =>
    match bits req (2 * k + 1) (2 * k) with
    | 1 => let m := moveTap a.1 k true; (m.1, a.2 + m.2 * 4 ^ k)
    | 2 => let m := moveTap a.1 k false; (m.1, a.2 + m.2 * 4 ^ k)
    | _ => a) (y.fir, 0)
  { y with fir := r.1, firStat := r.2 }

/-- Is a port training, so that its partner's requests reach its transmitter? -/
def State.training (s : State) (n : Nat) : Bool := let st := s.lnkState n; st == 3 || st == 4 || st == 5

/-- FIRREQ (R354). -/
def execFirreq (n : Port) (lane : Fin 9) (req : BitVec 12) (s : State) : Host.Outcome State Fault Refusal :=
  .next (if s.training n then s.setLnkLane n lane (applyFir (s.lnkLane n lane) req.toNat) else s)

/-- Move a pre-distortion code by one; codes stay in 0 to 255 and strictly rising (R355). -/
def moveCode (codes : List Nat) (k : Nat) (inc : Bool) : List Nat × Nat :=
  let v := codes.getD k 0
  if inc then
    if v = 255 || (k < 3 && codes.getD (k + 1) 0 = v + 1) then (codes, 3) else (codes.set k (v + 1), 1)
  else
    if v = 0 || (0 < k && codes.getD (k - 1) 0 + 1 = v) then (codes, 2) else (codes.set k (v - 1), 1)

/-- DPDREQ (R355): a port with MEDIA = 0 answers NOTUPDATED. -/
def execDpdreq (n : Port) (lane : Fin 9) (req : Byte) (s : State) : Host.Outcome State Fault Refusal :=
  let y := s.lnkLane n lane
  let r := [0, 1, 2, 3].foldl (fun (a : List Nat × Nat) k =>
    match bits req.toNat (2 * k + 1) (2 * k) with
    | 1 => let m := moveCode a.1 k true; (m.1, a.2 + m.2 * 4 ^ k)
    | 2 => let m := moveCode a.1 k false; (m.1, a.2 + m.2 * 4 ^ k)
    | _ => a) (y.dpd, 0)
  .next (if s.training n then
    s.setLnkLane n lane (if (s.lnkAt n).media then { y with dpd := r.1, dpdStat := r.2 } else { y with dpdStat := 0 })
  else s)

/-- OFFSET_UPDATE (R349): tracked in every state from LOCK on, and held in DOZE (R366). -/
def execOffsetUpdate (n : Port) (off : BitVec 16) (s : State) : Host.Outcome State Fault Refusal :=
  let st := s.lnkState n
  .next (if 3 ≤ st && st ≤ 8 && st != 7 then s.setFld (Reg.LNK_OFFSET n) F.LNK_OFFSET_OFFSET off.toNat else s)

/-- Data lane a receive lane carries; a lane that was never mapped carries the number nobody else carries. -/
def State.laneCarries (s : State) (n l : Nat) : Nat :=
  match (s.lnkLane n l).map with
  | some d => d
  | none => ((List.range 9).find? (fun d => (List.range 9).all (fun k => (s.lnkLane n k).map != some d))).getD l

/-- CODE_WINDOW_END (R358, R359): lanes judged, and the spare chosen or the ceiling lowered. -/
def execCodeWindowEnd (n : Port) (meas : List LaneMeas) (s : State) : Host.Outcome State Fault Refusal :=
  let x := s.lnkAt n
  let window := if x.quick = 0 then msec 1 else usec 250
  .next (if s.lnkState n = 5 && !x.judged && meas.length = 9 && x.enterAt + window ≤ s.now then
    let q := Reg.LNK_QMIN
    let s := forAll meas.zipIdx (fun m s =>
      let y := s.lnkLane n m.2
      s.setLnkLane n m.2 { y with meas := some m.1, failed := y.failed || decide (m.1.snr < s.fld q F.LNK_QMIN_SNR)
                                                              || decide (s.fld q F.LNK_QMIN_CORR < m.1.corr) }) s
    match ((List.range 9).filter (fun l => (s.lnkLane n l).failed)).map (s.laneCarries n) with
    | [] => ((s.setLnk n { s.lnkAt n with judged := true }).setLnkFld n F.LNK_PSTAT_RXSPARE 15).sendSync n
    | [d] =>
      let s := s.setLnk n { s.lnkAt n with judged := true }
      if d = 8 then (s.setLnkFld n F.LNK_PSTAT_RXSPARE 15).sendSync n
      else ((s.setLnkFld n F.LNK_PSTAT_RXSPARE d).portRecord Cause.spareIn n d 0 0).sendSync n
    | _ => if s.lnkRate n = 0 then s.enterFault n 3 else s.ceilingTo n (s.lnkRate n - 1)
  else s)

/-- CODE past its 5 ms: FAULT with CODETIMEOUT, or the attempt fails (Table 10.3, R363). -/
def State.codeTimeout (s : State) (n : Nat) : State :=
  let x := s.lnkAt n
  if s.lnkState n = 5 && x.enterAt + msec 5 < s.now then
    (if x.quick = 0 then s.enterFault n 5 else s.quickAttempt n)
  else s

/-- A two's complement field of `w` bits. -/
def twos (w : Nat) (v : Int) : Nat := (BitVec.ofInt w v).toNat

/-- Figures of a lane latched at sync (R361). -/
def State.latchLane (s : State) (n l : Nat) : State :=
  let y := s.lnkLane n l
  let m := y.meas.getD { snr := 0, corr := 0, eyeUp := 0, eyeMid := 0, eyeLow := 0, ctle := 0, dfe := 0 }
  let k := 9 * n + l
  let q := min m.snr (ones 16) * 2 ^ 48 + m.eyeUp % 256 * 2 ^ 40 + m.eyeMid % 256 * 2 ^ 32 + m.eyeLow % 256 * 2 ^ 24 + m.ctle % 16 * 2 ^ 20
    + twos 8 m.dfe * 2 ^ 12 + b2n y.failed * 32 + b2n y.inverted * 16 + y.map.getD 15 % 16
  let t := fun j => y.fir.getD j 0
  let f := twos 6 (t 0) * 2 ^ 26 + twos 6 (t 1) * 2 ^ 20 + twos 7 (t 2) * 2 ^ 13 + twos 6 (t 3) * 2 ^ 7 + twos 6 (t 4) * 2
  let d := (List.range 4).foldl (fun a j => a + y.dpd.getD j 0 * 256 ^ j) 0
  ((s.setReg (Reg.LNK_LANEQ k) q).setReg (Reg.LNK_TXFIR k) f).setReg (Reg.LNK_DPD k) d

/-- Sync (R360, R361, R655): ACTIVE, the quality figures, the partner and the flight time latched, and the link layer told. -/
def State.syncNow (s : State) (n rtt : Nat) : State :=
  let x := s.lnkAt n
  let s := forAll (List.range 9) (fun l s => s.latchLane n l) s
  let skew := ((List.range 9).filter (fun l => !(s.lnkLane n l).failed)).foldl (fun m l => max m (s.lnkLane n l).skew) 0
  let tr := min ((s.now - x.trainAt) / usec 1) (ones 32)
  let s := s.setReg (Reg.LNK_PSYNC n) (s.fld (Reg.LNK_OFFSET n) F.LNK_OFFSET_OFFSET * 2 ^ 48 + min skew (ones 16) * 2 ^ 32 + tr)
  let s := s.setReg (Reg.LNK_PARTNER n) (2 ^ 31 + x.partner.port % 16 * 2 ^ 13 + x.partner.dev % 2 ^ 13)
  let s := s.count (Reg.LNK_TRAINS n) 1
  let s := s.setLnk n { x with flyMeas := echoFly rtt (sigTerms (s.lnkRate n) skew), quick := 0, enterAt := s.now, seq := 0, slot := 0,
                               lockLanes := [], ackSent := false }
  let s := s.setLnkFld n F.LNK_PSTAT_STATE 6
  let s := s.portRecord Cause.portUp n (s.lnkRate n) (s.fld (Reg.LNK_PSTAT n) F.LNK_PSTAT_RXSPARE) tr
  (s.showFly n).syncPort n

/-- SYNC (R360): at the first marker with both spares settled, within CODE's limit. -/
def execSync (n : Port) (rtt : Nat) (s : State) : Host.Outcome State Fault Refusal :=
  let x := s.lnkAt n
  .next (if s.lnkState n = 5 then
    (if x.enterAt + msec 5 < s.now then s.codeTimeout n
     else if x.judged && x.reported then s.syncNow n rtt else s)
  else s)

/-- QUICK_RETRAIN (R363): an attempt with no answer for 1 ms, or not over after 5 ms, has failed. -/
def execQuickRetrain (n : Port) (s : State) : Host.Outcome State Fault Refusal :=
  let x := s.lnkAt n
  let st := s.lnkState n
  let silent := st == 3 && (List.range 9).all (fun l => (s.lnkLane n l).map.isNone) && decide (x.quickAt + msec 1 ≤ s.now)
  .next (if x.quick != 0 && (st = 3 || st = 4 || st = 5) && (silent || x.quickAt + msec 5 ≤ s.now) then s.quickAttempt n else s)

/-- FAULT_EXPIRE (Table 10.3). -/
def execFaultExpire (n : Port) (s : State) : Host.Outcome State Fault Refusal :=
  .next (if s.lnkState n = 9 && (s.lnkAt n).enterAt + msec 1000 ≤ s.now then s.enterSearch n true else s)

/-! ### Control (R337, R356, R357, R364) -/

/-- ENABLE (R337, R365). -/
def State.lnkEnable (s : State) (n : Nat) (on : Bool) : State :=
  let s := s.setFld (Reg.LNK_PCTL n) F.LNK_PCTL_ENABLE (b2n on)
  let x := s.lnkAt n
  if on then
    let s := s.setLnk n { x with disableLater := false }
    if s.lnkState n = 0 then (s.ceilToMax n).enterSearch n true else s
  else if s.lnkState n = 0 then s
  else match x.ramp with
    | .up _ => s.setLnk n { x with disableLater := true }
    | _ => s.enterDisabled n

def execLnkEnable (n : Port) (on : Bool) (s : State) : Host.Outcome State Fault Refusal := .next ((s.dropHeld 0).lnkEnable n on)

/-- RETRAIN (R364): kept until the next step tick. -/
def State.lnkRetrain (s : State) (n v : Nat) : State :=
  if v = 1 || v = 2 then s.setLnk n { s.lnkAt n with retrain := some (v, s.tick) } else s

def execLnkRetrain (n : Port) (val : BitVec 2) (s : State) : Host.Outcome State Fault Refusal := .next ((s.dropHeld 0).lnkRetrain n val.toNat)

/-- A kept RETRAIN acts (R364). Written in the tick of a loss of lock, it has its way whatever the loss did. -/
def State.actRetrain (s : State) (n : Nat) : State :=
  let x := s.lnkAt n
  match x.retrain with
  | none => s
  | some (v, t) =>
    let st := s.lnkState n
    let s := s.setLnk n { x with retrain := none }
    if v = 2 then (if st = 0 then s else (s.ceilToMax n).enterSearch n true)
    else if st = 6 || st = 7 || st = 8 || (x.lostTick == some t && x.quick = 0 && st != 0) then s.startQuick n
    else s

/-- RATEMAX (R357). -/
def State.lnkRatemax (s : State) (n v : Nat) : State :=
  let s := s.setFld (Reg.LNK_PCTL n) F.LNK_PCTL_RATEMAX v
  let st := s.lnkState n
  if st = 0 || st = 9 then s.setLnkFld n F.LNK_PSTAT_CEIL v
  else if st = 1 || st = 2 then s.setLnkFld n F.LNK_PSTAT_CEIL (min v (s.lnkCeil n))
  else s

def execLnkRatemax (n : Port) (val : BitVec 2) (s : State) : Host.Outcome State Fault Refusal := .next ((s.dropHeld 0).lnkRatemax n val.toNat)

/-- MEDIA (R356): LK, and 0 on ports 0 to 11. It acts at the next entry into SEARCH. -/
def State.lnkMedia (s : State) (n : Nat) (on : Bool) : State :=
  if s.sealed then s else s.setFld (Reg.LNK_PCTL n) F.LNK_PCTL_MEDIA (b2n (on && decide (12 ≤ n)))

def execLnkMedia (n : Port) (on : Bool) (s : State) : Host.Outcome State Fault Refusal := .next ((s.dropHeld 0).lnkMedia n on)

/-! ### Doze and wake (R366, R367) -/

/-- The link layer agrees to DOZE: its replay buffer is empty and no flit has been queued for IDLE µs (R407). -/
def State.dozeAgreed (s : State) (n : Nat) : Bool :=
  let x := s.fabPort n
  x.replay.isEmpty && x.txq.isEmpty && decide (x.lastQueued + usec (s.fld (Reg.FAB_PCTL n) F.FAB_PCTL_IDLE) ≤ s.now)

/-- DOZE_REQUEST (R366): the handshake. With DOZEACK sent and received both ports ramp down; a request made while the partner
is waking is ignored. -/
def execDozeRequest (n : Port) (s : State) : Host.Outcome State Fault Refusal :=
  let x := s.lnkAt n
  let wanted := s.fld (Reg.LNK_PCTL n) F.LNK_PCTL_DOZE == 1 || x.partner.dozeReq
  .next (if s.lnkState n = 6 && wanted && x.partner.state != 8 && s.dozeAgreed n then
    (if x.ackSent && x.partner.dozeAck then
      ((s.setLnk n { x with ackSent := false, enterAt := s.now, partner := { x.partner with dozeReq := false, dozeAck := false } }).setLnkFld n
        F.LNK_PSTAT_STATE 7).drive n false
    else s.setLnk n { x with ackSent := true })
  else s)

/-- WAKE (R367): DOZE cleared, the partner heard or a flit queued starts the wake; in WAKE the port relocks, or past its time
starts a quick retrain. -/
def execWake (n : Port) (relocked : Bool) (s : State) : Host.Outcome State Fault Refusal :=
  let x := s.lnkAt n
  let st := s.lnkState n
  .next (if st = 7 then
    (if s.fld (Reg.LNK_PCTL n) F.LNK_PCTL_DOZE = 0 || !(s.fabPort n).txq.isEmpty then s.startWake n else s)
  else if st = 8 then
    (if relocked then
      ((s.setLnk n { x with enterAt := s.now, slot := 0 }).setLnkFld n F.LNK_PSTAT_STATE 6).judgePort n
     else if x.enterAt + 2 * s.rampTime + usec 4 ≤ s.now then s.startQuick n else s)
  else s)

end Sys2Proof.Machine
end

