-- ==== Sys2Proof/Machine/Link.lean ====
section
/-! DEFINITION. Machine/Link.lean: the link layer of a port: flits received and sent, credits, acknowledgement and replay,
malformed messages and credit breaches (R375 to R385, R403, R404). -/

namespace Sys2Proof.Machine

/-- `a − b` modulo 4,096. -/
def seqDiff (a b : Nat) : Nat := (a % 4096 + 4096 - b % 4096) % 4096

/-! ### Receiving (R380, R377, R403, R404) -/

/-- A credit breach: counted, recorded, and the sixteenth within a second isolates the port (R403). -/
def State.breach (s : State) (n lane : Nat) : State :=
  let x := s.fabPort n
  let bs := (x.breaches.filter (fun t => decide (s.now < t + msec 1000))) ++ [s.now]
  let s := s.setFabPort n { x with breaches := bs }
  let s := (s.count (Reg.FAB_BREACH n) 1).record { cause := Cause.creditBreach, subject := n, arg0 := lane }
  if 16 ≤ bs.length && !x.isolated then
    (s.changePort n { s.fabPort n with isolated := true }).record { cause := Cause.portIsolated, subject := n }
  else s

/-- Flits acknowledged by an ACKSEQ leave the replay buffer. -/
def FabPort.acked (x : FabPort) (a : Nat) : FabPort :=
  let keep := x.replay.filter (fun r => decide (0 < seqDiff r.1 a) && decide (seqDiff r.1 a ≤ 256))
  if x.replay.any (fun r => r.1 == a) then { x with replay := keep, again := x.again.filter (fun q => keep.any (fun r => r.1 == q)) } else x

/-- Drop a flit: a NAK is owed, once per replay round (R380). -/
def FabPort.drop (x : FabPort) (rpl : Option Nat) : FabPort :=
  if !x.dropping then { x with dropping := true, nakDue := true, lastRpl := rpl }
  else match rpl with
    | some q => { x with nakDue := x.nakDue || x.lastRpl != some ((q + 4095) % 4096), lastRpl := some q }
    | none => x

/-- Are the reserved fields of a message header zero, XARG included where a type does not use it? -/
def headerClean (bs : List Byte) : Bool :=
  bits (field bs 1 1) 7 3 == 0 && !bit (field bs 2 2) 15 && bits (field bs 4 2) 15 13 == 0 && bits (field bs 6 2) 15 14 == 0
    && ((let t := field bs 0 1; (4 ≤ t && t ≤ 9) || t == 11 || t == 12) || field bs 12 4 == 0)

/-- Does a tree message come from the port it must (R384, R404): down from the parent, up from a child? -/
def State.treePort (s : State) (n : Nat) (m : Msg) : Bool :=
  let p := s.fab.map.primary n
  let root := if m.mtype = 11 || m.mtype = 12 then 0 else m.home
  if !m.tree then m.mtype == 4 || m.mtype == 5 || m.mtype == 13
  else if m.up then (s.fab.map.children root s.devId).any (fun c => c.2 == p)
  else match s.fab.map.parent root s.devId with | some (_, q) => q == p | none => false

/-- Is a whole message well formed (R404)? -/
def State.wellFormedMsg (s : State) (n lane : Nat) (bs : List Byte) : Bool :=
  let m := Msg.ofBytes bs
  decide (1 ≤ m.mtype) && decide (m.mtype ≤ 13) && lane / 2 * 2 == vcLane m.mtype m.cls && headerClean bs
    && flitCount m.body.length * 224 == bs.length && decide (m.dest < s.fab.map.size) && decide (m.home < s.fab.map.size)
    && s.treePort n m

/-- Requests that wait in the arrival staging (R378). -/
def State.staging (s : State) : Nat :=
  s.fab.waiting.length + (s.fab.inbox.filter (fun a => decide (a.lane < 2) || (decide (4 ≤ a.lane) && decide (a.lane < 6)))).length

/-- Is a lane a request lane? -/
def requestLane (l : Nat) : Bool := l / 2 == 0 || l / 2 == 2

/-- A flit leaves the input buffer, and its credit is owed, at once, or while the arrival staging is full only later (R377, R378). -/
def State.eject (s : State) (n lane : Nat) : State :=
  let x := s.fabPort n
  if requestLane lane && decide (4096 ≤ s.staging) then s.setFabPort n { x with rxHeld := Tab.write x.rxHeld 0 lane (Tab.read x.rxHeld 0 lane + 1) }
  else s.setFabPort n { x with crdDue := Tab.write x.crdDue 0 lane (Tab.read x.crdDue 0 lane + 1) }

/-- Held flits leave once the staging has room. -/
def State.ejectHeld (s : State) (n : Nat) : State :=
  if s.staging < 4096 then
    let x := s.fabPort n
    let due := x.rxHeld.foldl (fun (t : Tab Nat) (h : Nat × Nat) => Tab.write t 0 h.1 (Tab.read t 0 h.1 + h.2)) x.crdDue
    s.setFabPort n { x with rxHeld := [], crdDue := due }
  else s

/-- A whole message has arrived: well formed, it goes to the inbox; otherwise it is discarded and counted (R404). A message with
a flit that was replayed or slow sets CONTEND in its VOID (R382, R386). -/
def State.wholeMessage (s : State) (n lane : Nat) (bs : List Byte) (marked : Bool) : State :=
  if s.wellFormedMsg n lane bs then
    let m := Msg.ofBytes bs
    let m := if marked then { m with void := m.void ||| 2 ^ voidContend } else m
    { s with fab := { s.fab with inbox := s.fab.inbox ++ [{ port := n, lane := lane, msg := m }] } }
  else s.malformed n (field bs 0 8)

/-- An accepted flit's payload (R375, R381, R404). -/
def State.takePayload (s : State) (n : Nat) (f : Flit) (rpl : Bool) : State :=
  if f.kind = 0 then s
  else
    let s := s.eject n f.lane
    let x := s.fabPort n
    let open_ := Tab.find x.rx f.lane
    if f.kind = 2 && open_.isNone then (if f.abort then s else s.malformed n (field f.payload 0 8))
    else
      let bs := (if f.kind = 1 then [] else open_.getD []) ++ f.payload
      let marks := if f.kind = 1 then x.rxMark.filter (· != f.lane) else x.rxMark
      let marks := if (rpl || f.slow) && !marks.contains f.lane then marks ++ [f.lane] else marks
      if f.last then
        let s := s.setFabPort n { x with rx := Tab.erase x.rx f.lane, rxMark := marks.filter (· != f.lane) }
        if f.abort then s else s.wholeMessage n f.lane bs (marks.contains f.lane)
      else s.setFabPort n { x with rx := Tab.insert x.rx f.lane bs, rxMark := marks }

/-- Credits that the partner holds on a lane. -/
def FabPort.outstanding (x : FabPort) (l : Nat) : Nat := laneCredits l - (Tab.read x.crdDue 0 l + Tab.read x.rxHeld 0 l)

/-- A flit whose check matched and whose LSEQ is the one expected (R377, R403). -/
def State.acceptFlit (s : State) (n : Nat) (f : Flit) (lseq : Nat) (rpl : Bool) : State :=
  let x := s.fabPort n
  if f.kind != 0 && x.outstanding f.lane = 0 then (s.setFabPort n (x.drop none)).breach n f.lane
  else
    let s := s.setFabPort n { x with ack := lseq, ackV := true, dropping := false, lastRpl := none }
    let s := match f.crd with
      | some (l, k) =>
        let x := s.fabPort n
        if laneCredits l < Tab.read x.credits 0 l + k then s.breach n l
        else s.setFabPort n { x with credits := Tab.write x.credits 0 l (Tab.read x.credits 0 l + k) }
      | none => s
    s.takePayload n f rpl

/-- FLIT_RECEIVE (R380): 240 bytes from the trellis decoders, with the corrections each lane counted (R353). ACK and NAK are read
from every flit whose check matches (log entry 25). -/
def execFlitReceive (n : Port) (flit : List Byte) (corrections : List Nat) (s : State) : Host.Outcome State Fault Refusal :=
  let x := s.fabPort n
  .next (if s.lnkState n != 6 || !x.up || x.isolated then s
    else
      let s := forAll corrections.zipIdx (fun (c : Nat × Nat) s => if c.2 < 9 then s.count64 (Reg.LNK_LANECORR (9 * n + c.2)) c.1 else s) s
      if !flitOk flit then s.setFabPort n (x.drop none)
      else
        let h := field flit 0 2
        let a := field flit 2 2
        let lseq := bits h 11 0
        let rpl := bit h 12
        let x := if bit a 12 then x.acked (bits a 11 0) else x
        let x := if bit a 13 then { x with nakGot := true } else x
        let s := s.setFabPort n x
        if lseq = (x.ack + 1) % 4096 && (!x.dropping || rpl) then
          (if flitClean flit then s.acceptFlit n (flitOf flit) lseq rpl
           else (s.setFabPort n { x with ack := lseq, ackV := true, dropping := false, lastRpl := none }).malformed n (field flit 8 8))
        else s.setFabPort n (x.drop (if rpl then some lseq else none)))

/-! ### Replay (R380, R381) -/

/-- A replay round (R380): every flit after ACKSEQ is sent again. -/
def State.replayRound (s : State) (n : Nat) : State :=
  let x := s.fabPort n
  let old := (x.replay.head?).map (·.1)
  let x := { x with nakGot := false, again := x.replay.map (·.1), oldest := old,
                    fails := if old.isSome && x.oldest == old then x.fails + 1 else 1 }
  ((s.setFabPort n x).count (Reg.FAB_REPLAY n) 1).record { cause := Cause.replay, subject := n }

/-- NAK (R380). -/
def execNak (n : Port) (s : State) : Host.Outcome State Fault Refusal :=
  .next (if (s.fabPort n).nakGot then s.replayRound n else s)

/-- REPLAY_LIMIT (R381): a flit that failed 8 replays in a row. -/
def execReplayLimit (n : Port) (s : State) : Host.Outcome State Fault Refusal :=
  .next (if 8 ≤ (s.fabPort n).fails && s.lnkState n = 6 then
    (s.record { cause := Cause.replayLimit, subject := n }).startQuick n
  else s)

/-! ### Sending (R352, R375, R379) -/

/-- The flit a lane would send next: the next of the message under way, else the first head by level, then age (R375, R379). -/
def FabPort.laneNext (x : FabPort) (l : Nat) : Option Queued :=
  let qs := x.txq.filter (fun q => q.flit.lane == l)
  if Tab.read x.credits 0 l = 0 then none
  else match Tab.find x.cur l with
    | some a => qs.find? (fun q => q.age == a)
    | none =>
      (qs.filter (fun q => q.flit.kind == 1)).foldl (fun (b : Option Queued) q => match b with
        | none => some q
        | some y => if q.level < y.level || (q.level = y.level && q.age < y.age) then some q else some y) none

/-- Ready flits of some lanes. -/
def FabPort.ready (x : FabPort) (ls : List Nat) : List Queued := ls.filterMap x.laneNext

/-- Oldest of some flits by a key. -/
def pickBy (k : Queued → Nat) (l : List Queued) : Option Queued :=
  l.foldl (fun (b : Option Queued) q => match b with
    | none => some q
    | some y => if k q < k y then some q else some y) none

/-- Response lanes come before request lanes of one level (R379). -/
def lcKey (q : Queued) : Nat := (q.level * 2 + b2n (requestLane q.flit.lane)) * 2 ^ 64 + q.age

/-- The first flit ready in the order of R379, replays and IDLE apart. -/
def FabPort.choose (x : FabPort) : Option Queued :=
  match pickBy (·.age) (x.ready [8, 9]) with
  | some q => some q
  | none => match pickBy lcKey (x.ready [0, 1, 2, 3]) with
    | some q => some q
    | none =>
      let a := pickBy (·.age) (x.ready [4, 5])
      let b := pickBy (·.age) (x.ready [6, 7])
      match (if x.lastBe then (match a with | some q => some q | none => b) else (match b with | some q => some q | none => a)) with
      | some q => some q
      | none => pickBy (·.age) (x.ready [10, 11])

/-- A credit the next flit returns: of the lane with most to return. -/
def FabPort.crdNext (x : FabPort) : Option (Nat × Nat) :=
  x.crdDue.foldl (fun (b : Option (Nat × Nat)) (d : Nat × Nat) => match b with
    | none => if d.2 = 0 then none else some (d.1, min d.2 127)
    | some y => if y.2 < d.2 then some (d.1, min d.2 127) else some y) none

/-- The symbols of a lane's frame, its scrambler and encoder moved on. -/
def State.laneFrame (s : State) (n l : Nat) (bs : List Bool) : State :=
  let y := s.lnkLane n l
  let r := codeBits 0 bs y.scr y.enc
  (s.setLnkLane n l { y with scr := r.2.1, enc := r.2.2 }).emit (.symbols n l (pairSymbols r.1))

/-- A flit goes out in a frame: its bytes, and the symbols of the nine lanes; the spare carries the data lane moved to it, or
coded zeros (R352, R359). -/
def State.sendFrame (s : State) (n : Nat) (bs : List Byte) : State :=
  let tx := s.fld (Reg.LNK_PSTAT n) F.LNK_PSTAT_TXSPARE
  let zeros := List.replicate 240 false
  let s := s.emit (.frame n bs)
  forAll (List.range 9) (fun l s =>
    s.laneFrame n l (if l = 8 then (if tx < 8 then laneBits bs tx else zeros) else if l = tx then zeros else laneBits bs l)) s

/-- A marker on every lane (R352): SEQ moves on and the scramblers are loaded. -/
def State.sendMarker (s : State) (n : Nat) : State :=
  let s := s.setLnk n { s.lnkAt n with seq := ((s.lnkAt n).seq + 1) % 2 ^ 16 }
  forAll (List.range 9) (fun l s =>
    (s.setLnkLane n l { s.lnkLane n l with scr := scrLoad l }).emit (.symbols n l (plainSymbols (s.syncWord n l (s.lnkRate n))))) s

/-- Send one flit: replayed with RPL, or new with the next LSEQ (R380). -/
def State.sendFlit (s : State) (n : Nat) : State :=
  let s := s.ejectHeld n
  let x := s.fabPort n
  let out := fun (s : State) (x : FabPort) (f : Flit) (q : Nat) (rpl : Bool) =>
    (s.setFabPort n { x with nakDue := false }).sendFrame n (flitBytes f q rpl x.ack x.ackV x.nakDue)
  match x.again with
  | q :: rest =>
    match x.replay.find? (fun r => r.1 == q) with
    | some r => out s { x with again := rest } r.2 q true
    | none => s.setFabPort n { x with again := rest }
  | [] =>
    if 256 ≤ x.replay.length then s
    else
      let crd := x.crdNext
      let x := match crd with | some (l, k) => { x with crdDue := Tab.write x.crdDue 0 l (Tab.read x.crdDue 0 l - k) } | none => x
      let send := fun (s : State) (x : FabPort) (f : Flit) =>
        out s { x with nextSeq := (x.nextSeq + 1) % 4096, replay := x.replay ++ [(x.nextSeq, f)] } f x.nextSeq false
      match (if x.isolated then none else x.choose) with
      | some q =>
        let l := q.flit.lane
        send s { x with txq := x.txq.filter (fun y => y.age != q.age), credits := Tab.write x.credits 0 l (Tab.read x.credits 0 l - 1),
                        cur := if q.flit.last then Tab.erase x.cur l else Tab.insert x.cur l (q.age + 1),
                        lastBe := if 4 ≤ l && l < 8 then !requestLane l else x.lastBe }
          { q.flit with crd := crd }
      | none => send s x { crd := crd }

/-- FRAME_SEND (R352, R379): slot 0 is a marker; in the others a port that carries traffic, or is isolated, sends a flit. -/
def execFrameSend (n : Port) (s : State) : Host.Outcome State Fault Refusal :=
  let x := s.lnkAt n
  .next (if s.lnkState n = 6 then
    let s := s.setLnk n { x with slot := (x.slot + 1) % 4096 }
    if x.slot = 0 then s.sendMarker n
    else if (s.fabPort n).up then (if (s.fabPort n).nakGot then s.replayRound n else s).sendFlit n
    else s
  else s)

/-! ### Other messages (R385, Table 11.5) -/

/-- LSTATE (R385): forwarded down the sender's tree, and the reachability set updated. -/
def execLstate (n : Port) (s : State) : Host.Outcome State Fault Refusal :=
  match s.take n 0x0A with
  | none => .next s
  | some (a, s) =>
    let m := a.msg
    let s := s.sendDown m.home [] m
    .next ({ s with fab := { s.fab with states := Tab.insert s.fab.states m.home m.body } } : State).updateReach

end Sys2Proof.Machine
end

