-- ==== Sys2Proof/Machine/Irq.lean ====
section
/-! DEFINITION. Machine/Irq.lean: the commands of the interrupt tree and of the error block (R485 to R492, R499, R507). -/

namespace Sys2Proof.Machine

/-- Set bits of a function's summary register that software may set: ARM. -/
def State.arm (s : State) (f : Nat) : State := s.setReg (summary f) (setBits (s.reg (summary f)) 63 63 1)

/-- ARM (R487, R488): the vector may send one message; the request is made at the end of the tick, if an enabled group is set. -/
def execArm (f : Fn) (s : State) : Host.Outcome State Fault Refusal := .next ((s.touch f (summary f)).arm f)

/-- W1C fields of a summary register (Table 14.2): TENANT and RINGS are a VF's only. -/
def summaryW1c (f : Nat) : Nat := (ones 6) * 2 ^ 33 + 15 * 2 ^ 16 + (if f = 0 then 0 else 2 ^ 32 + ones 16)

/-- ENABLE bits of a summary register: TENANT and RING are a VF's only. -/
def summaryEnable (f : Nat) : Nat := if f = 0 then 6 else 15

/-- Clear level-2 bits (R488). -/
def State.summaryClear (s : State) (f mask : Nat) : State :=
  let v := s.reg (summary f)
  s.setReg (summary f) (v - (v &&& mask &&& summaryW1c f))

/-- SUMMARY_W1C (R488). -/
def execSummaryW1c (f : Fn) (mask : Word64) (s : State) : Host.Outcome State Fault Refusal := .next ((s.touch f (summary f)).summaryClear f mask.toNat)

/-- Store ENABLE: bit 0 RING, 1 MBX, 2 ERR, 3 TENANT. -/
def State.setEnable (s : State) (f v : Nat) : State :=
  s.setReg (summary f) (setBits (s.reg (summary f)) 55 52 (v &&& summaryEnable f))

/-- SUMMARY_ENABLE (R488): it takes effect at the end of the tick. -/
def execSummaryEnable (f : Fn) (enable : BitVec 4) (s : State) : Host.Outcome State Fault Refusal :=
  .next ((s.touch f (summary f)).setEnable f enable.toNat)

/-- COALESCE_TIMER (R490): COALUS µs have passed since the oldest unsignalled completion. -/
def execCoalesceTimer (p : RingPair) (s : State) : Host.Outcome State Fault Refusal :=
  match Tab.find s.rings p with
  | some r => .next (if r.unsig != 0 && r.oldest + usec r.coalus ≤ s.now then s.signal p else s)
  | none => .next s

/-- RECORD_RELEASE (R499). -/
def execRecordRelease (d : Domain) (s : State) : Host.Outcome State Fault Refusal := .next (s.releaseRecords d)

/-- LOG_FAULT (R507): a corrected error in record storage (kind 0) is counted; an uncorrectable one or a pointer parity error is
fatal, is written to no queue, and its queue accepts nothing more. -/
def execLogFault (d : Domain) (kind : Nat) (s : State) : Host.Outcome State Fault Refusal :=
  .next (if kind = 0 then s.count Reg.ERR_LOGCE 1
    else
      let s := s.setErrQueue d { s.errQueue d with faulty := true }
      ({ s with logFaulted := true } : State).fatalOccur 5 0x0503 0)

/-- Store IRQ_PIN.FORCE: a write of 1 outside debug mode stores 0 (Table 14.7). -/
def State.forceIrq (s : State) (on : Bool) : State := s.setFld Reg.IRQ_PIN F.IRQ_PIN_FORCE (b2n (on && s.debug))

/-- IRQ_PIN_FORCE (R492). -/
def execIrqPinForce (on : Bool) (s : State) : Host.Outcome State Fault Refusal := .next ((s.dropHeld 0).forceIrq on)

end Sys2Proof.Machine
end

