-- ==== Sys2Proof/Machine/Flash.lean ====
section
/-! DEFINITION. Machine/Flash.lean: the SPI flash: records, the log, the configuration areas, and the search window
(R553 to R563). -/

namespace Sys2Proof.Machine

/-! ### Records (R554) -/

/-- Body of a flash record: bytes 0 to 62. -/
def flashBody (fseq kind : Nat) (payload : List Byte) : List Byte :=
  let bs := leBytes 4 fseq ++ leBytes 2 kind ++ slice payload 0 54
  bs ++ leBytes 2 (crc16 bs) ++ leBytes 1 0

/-- A committed record. -/
def flashRecord (fseq kind : Nat) (payload : List Byte) : List Byte := flashBody fseq kind payload ++ leBytes 1 0x3C

/-- Does a slot hold a valid record? -/
def flashValid (bs : List Byte) : Bool :=
  bs.length == 64 && field bs 63 1 == 0x3C && field bs 62 1 == 0 && field bs 60 2 == crc16 (slice bs 0 60)

def flashSeq (bs : List Byte) : Nat := field bs 0 4
def flashKind (bs : List Byte) : Nat := field bs 4 2
def flashPayload (bs : List Byte) : List Byte := slice bs 6 54

/-! ### Areas (Tables 16.2 and 16.5): 0 the log, then boot control, board data, certificates, retained keys, hard repairs,
retirement tables and the meter chain -/

/-- First slot of an area, and its slots. -/
def areaSpan : Nat → Nat × Nat
  | 0 => (0x02000000 / 64, 8388608 / 64)
  | 1 => (0x02800000 / 64, 131072 / 64)
  | 2 => (0x02820000 / 64, 131072 / 64)
  | 3 => (0x02840000 / 64, 65536 / 64)
  | 4 => (0x02850000 / 64, 131072 / 64)
  | 5 => (0x02870000 / 64, 262144 / 64)
  | 6 => (0x028B0000 / 64, 1048576 / 64)
  | _ => (0x029B0000 / 64, 1048576 / 64)

def areaPair (a : Nat) : Bool := a == 4 || a == 5 || a == 6

/-- Bytes of a payload that name a record's key in a PAIR area: VF and part; pseudo-channel and row; pseudo-channel and entry. -/
def keyBytes : Nat → Nat
  | 4 => 2
  | 5 => 5
  | 6 => 3
  | _ => 0

/-- Slots of a range that hold anything. -/
def Mc.cells (m : Mc) (lo n : Nat) : Tab (List Byte) := m.flash.filter (fun c => decide (lo ≤ c.1) && decide (c.1 < lo + n))

/-- Valid records of an area: slot and bytes. -/
def Mc.records (m : Mc) (a : Nat) : Tab (List Byte) := (m.cells (areaSpan a).1 (areaSpan a).2).filter (fun c => flashValid c.2)

/-- The record with the highest FSEQ. -/
def newestOf (l : Tab (List Byte)) : Option (Nat × List Byte) :=
  l.foldl (fun (b : Option (Nat × List Byte)) c => match b with
    | none => some c
    | some y => if flashSeq y.2 < flashSeq c.2 then some c else some y) none

/-- The newest valid record of a kind in an area (R561). -/
def Mc.newest (m : Mc) (a kind : Nat) : Option (List Byte) :=
  (newestOf ((m.records a).filter (fun c => flashKind c.2 == kind))).map (·.2)

/-- Live records of a PAIR area: of each key, the one with the highest FSEQ (R561), in ascending FSEQ. -/
def Mc.live (m : Mc) (a : Nat) : List (List Byte) :=
  let rs := sortBy (fun (x y : List Byte) => decide (flashSeq x ≤ flashSeq y)) ((m.records a).map (·.2))
  let key := fun (r : List Byte) => slice r 6 (keyBytes a)
  rs.filter (fun r => !rs.any (fun y => key y == key r && decide (flashSeq r < flashSeq y)))

def Mc.erase (m : Mc) (lo n : Nat) : Mc := { m with flash := Tab.clear m.flash lo n }

/-- First erased slot of a range. -/
def Mc.freeSlot (m : Mc) (lo n : Nat) : Option Nat := ((List.range n).find? (fun k => (Tab.find m.flash (lo + k)).isNone)).map (lo + ·)

/-- The slot the next record of a RING area takes (R557, R558): the first erased one after the newest record in its sector, or
the first of the next sector, erased first when it must be. A sector's start erases the sector after it. -/
def Mc.ringSlot (m : Mc) (a : Nat) : Nat × Mc :=
  let (base, n) := areaSpan a
  let sectors := n / 1024
  let first := match newestOf (m.records a) with
    | none => m.freeSlot base 1024
    | some r => m.freeSlot (r.1 + 1) (1023 - (r.1 - base) % 1024)
  let cur := match newestOf (m.records a) with | none => 0 | some r => (r.1 - base) / 1024
  let k := match first with | some k => k | none => base + (cur + 1) % sectors * 1024
  let m := if first.isSome then m else m.erase k 1024
  if (k - base) % 1024 = 0 then (k, m.erase (base + ((k - base) / 1024 + 1) % sectors * 1024) 1024) else (k, m)

/-- The slot of a PAIR area: in the half of the newest record, or after compaction in the other half. -/
def Mc.pairSlot (m : Mc) (a : Nat) : Nat × Mc :=
  let (base, n) := areaSpan a
  let half := match newestOf (m.records a) with | none => 0 | some r => (r.1 - base) / (n / 2)
  match m.freeSlot (base + half * (n / 2)) (n / 2) with
  | some k => (k, m)
  | none =>
    let other := base + (1 - half) * (n / 2)
    let l := m.live a
    let m := m.erase other (n / 2)
    let m := l.zipIdx.foldl (fun (m : Mc) (r : List Byte × Nat) => { m with flash := Tab.insert m.flash (other + r.2) r.1 }) m
    (other + l.length, m)

/-! ### Writing (R555, R556) -/

/-- A log record: BOOTID, TIME and 42 B of data (R559). FATAL records come first, GPF records next (R556). -/
def State.log (s : State) (kind : Nat) (data : List Byte) : State :=
  s.flashJob { prio := if kind = 3 then 0 else if kind = 4 then 1 else 4, area := 0, kind := kind,
               payload := leBytes 4 s.meter.bootid ++ leBytes 8 s.clkTime ++ slice data 0 42 }

/-- Platform causes of chapters 15 to 17 (Tables 15.10, 16.9, 17.8). -/
def plat (code sev : Nat) : Cause := ⟨code, sev, 0⟩

def State.platRecord (s : State) (code sev a0 a1 : Nat) : State := s.record { cause := plat code sev, arg0 := a0, arg1 := a1 }

/-- The job served next: the one under way, else the first of the highest priority (R556). -/
def Mc.nextJob (m : Mc) : Option FlashJob :=
  match m.jobs.find? (fun j => j.slot.isSome) with
  | some j => some j
  | none => m.jobs.foldl (fun (b : Option FlashJob) j => match b with
    | none => some j
    | some y => if j.prio < y.prio then some j else some y) none

/-- Replace the first job equal to one. -/
def swapJob (j : FlashJob) (new : List FlashJob) : List FlashJob → List FlashJob
  | [] => []
  | x :: xs => if x == j then new ++ xs else x :: swapJob j new xs

/-- A page program of a flash record (R555): the body into an erased slot, then the commit byte. A program that fails, or whose
read-back differs, is recorded and the write is made once more in the next slot (R556). -/
def State.flashStep (s : State) (ok : Bool) : State :=
  match s.mc.nextJob with
  | none => s
  | some j =>
    match j.slot with
    | none =>
      let seq := match newestOf (s.mc.records j.area) with | some r => flashSeq r.2 + 1 | none => 1
      let (k, m) := if areaPair j.area then s.mc.pairSlot j.area else s.mc.ringSlot j.area
      let m := { m with flash := Tab.insert m.flash k (flashBody seq j.kind j.payload ++ leBytes 1 0xFF) }
      if ok then { s with mc := { m with jobs := swapJob j [{ j with slot := some k }] m.jobs } }
      else
        let m := { m with jobs := swapJob j (if j.retried then [] else [{ j with retried := true }]) m.jobs,
                          flash := Tab.insert m.flash k (leBytes 63 0 ++ leBytes 1 0xFF) }
        ({ s with mc := m } : State).platRecord 0x0542 2 (64 * k) 0
    | some k =>
      let bs := slice ((Tab.find s.mc.flash k).getD []) 0 63
      if ok then
        let m := { s.mc with flash := Tab.insert s.mc.flash k (bs ++ leBytes 1 0x3C), jobs := swapJob j [] s.mc.jobs }
        let s : State := { s with mc := m }
        if j.area = 0 then s.setReg Reg.MGT_LOGHEAD (flashSeq bs) else s
      else
        let m := { s.mc with jobs := swapJob j (if j.retried then [] else [{ j with slot := none, retried := true }]) s.mc.jobs }
        ({ s with mc := m } : State).platRecord 0x0542 2 (64 * k) 0

/-- Are the SPI pins high impedance (R613)? -/
def State.spiOff (s : State) : Bool := s.rst.sysrst || !s.rst.pwrgood

/-- The pull that holds an SPI pin while they are: SPI_CS_N up, the rest down (R613); `none` while the device drives them. -/
def State.spiPull (s : State) (chipSelect : Bool) : Option Bool := if s.spiOff then some chipSelect else none

/-- FLASH_RECORD_WRITE (R555): it waits while REFCLK is lost (R587), and nothing is programmed through pins that are high
impedance (R613). -/
def execFlashRecordWrite (ok : Bool) (s : State) : Host.Outcome State Fault Refusal :=
  .next (if s.rst.refclkLost || s.spiOff then s else s.flashStep ok)

/-! ### The log window (R560) -/

/-- A write of MGT_LOGSEL starts a search. -/
def State.logSel (s : State) (lseq : Nat) : State :=
  let s := (s.setReg Reg.MGT_LOGSEL lseq).setFld Reg.MGT_LOGCTL F.MGT_LOGCTL_BUSY 1
  { s with mc := { s.mc with search := some lseq } }

/-- MGT_LOGSEL. -/
def execMgtLogsel (lseq : Word32) (s : State) : Host.Outcome State Fault Refusal := .next ((s.dropHeld 0).logSel lseq.toNat)

/-- LOG_SEARCH_DONE (R560). -/
def execLogSearchDone (s : State) : Host.Outcome State Fault Refusal :=
  match s.mc.search with
  | none => .next s
  | some q =>
    let r := ((s.mc.records 0).find? (fun c => flashSeq c.2 == q)).map (·.2)
    let s : State := { s with mc := { s.mc with search := none } }
    let s := (s.setFld Reg.MGT_LOGCTL F.MGT_LOGCTL_BUSY 0).setFld Reg.MGT_LOGCTL F.MGT_LOGCTL_FOUND (b2n r.isSome)
    .next (match r with
      | some bs => forAll (List.range 8) (fun i s => s.setReg (Reg.MGT_LOGDATA i) (field bs (8 * i) 8)) s
      | none => s)

end Sys2Proof.Machine
end

