-- ==== Sys2Proof/Machine/Far.lean ====
section
/-! DEFINITION. Machine/Far.lean: the far tier (chapter 9): ports, reads and writes, tuns, and what its failures do. -/

namespace Sys2Proof.Machine

/-! ### Reads that have been taken -/

/-- The reads of the current stage are all in (R127): the stage ends, or the engine that follows them runs. PROBE has a step of
its own, after which SCAN waits for the same reads (R134). A hop that needs lines of the walk which the sequence cache has evicted
waits for those too (R123). -/
def State.stageReadsOver (s : State) (e : Nat) : State :=
  match Tab.find s.seqs e with
  | none => s
  | some q =>
    if q.stage = stPROBE then s
    else if q.stage = stSCAN then s.endStage e
    else if q.stage = stENTRY then ((if q.poison.isSome then s else s.entryEffect e)).endStage e
    else if q.stage = stHOP then
      if q.poison.isSome then s.endStage e
      else if !q.missing.isEmpty then s
      else (s.hopEffect e q.nbrs).endStage e
    else s.onSeq e (fun q => { q with phase := .running })

/-- One read of a stage has been taken. -/
def State.readTaken (s : State) (e : Nat) : State :=
  match Tab.find s.seqs e with
  | none => s
  | some q =>
    let s := s.setSeq e { q with pending := q.pending - 1 }
    if q.pending ≤ 1 && q.phase == .waiting && q.listWait.isEmpty then s.stageReadsOver e else s

/-! ### Registers of a port (Table 9.8) -/

def State.farState (s : State) (n : Nat) : Nat := s.fld (Reg.FTC_PSTATE n) F.FTC_PSTATE_STATE

/-- Is the port ONLINE? -/
def State.farUp (s : State) (n : Nat) : Bool := s.farState n == 2

def State.setFarState (s : State) (n st : Nat) : State := s.setFld (Reg.FTC_PSTATE n) F.FTC_PSTATE_STATE st

/-- FTC_DLAT shows the larger of the floor and the operator value (R307). -/
def State.showDlat (s : State) (n : Nat) : State :=
  let x := s.farAt n
  s.setReg (Reg.FTC_DLAT n) (max x.floor x.oper)

def State.setFloor (s : State) (n v : Nat) : State := (s.setFar n { s.farAt n with floor := v }).showDlat n

/-- The operator value of FTC_DLAT (R307), until the seal. -/
def State.operDlat (s : State) (n v : Nat) : State :=
  if s.sealed then s else (s.setFar n { s.farAt n with oper := v % 2 ^ 16 }).showDlat n

/-- FTC_DLAT (R307), written by the PF, whose write shadow it empties (R8). -/
def execFtcDlat (n : FarPort) (val : Word32) (s : State) : Host.Outcome State Fault Refusal :=
  .next ((s.dropHeld 0).operDlat n val.toNat)

/-! ### Tuns (R311 to R313, R318, R319) -/

/-- Does a tun lie on a port? -/
def Tun.on (t : Tun) (n : Nat) : Bool := t.both || farPortOf t.base0 == n

/-- Ports of a tun with the first address and the bytes of its extent on each. -/
def Tun.extents (t : Tun) : List (Nat × Nat × Nat) :=
  if t.both then [(0, t.base0, t.size / 2), (1, t.base1, t.size / 2)] else [(farPortOf t.base0, t.base0, t.size)]

/-- Table 9.3. -/
def Tun.entry (t : Tun) : List Byte :=
  slice t.name 0 16 ++ leBytes 1 t.st.code ++ leBytes 1 (b2n t.persist + b2n t.both * 2 + b2n t.retain * 4) ++ leBytes 1 t.vf
    ++ leBytes 5 0 ++ leBytes 8 t.base0 ++ leBytes 8 t.base1 ++ leBytes 8 t.size ++ leBytes 8 t.keyid ++ leBytes 8 0

/-- Entries of a tun table: granule 0 of a port. -/
def tunEntries : Nat := 32768

/-- Numbers of the entries of a port's tun table that hold a nonzero byte. -/
def State.tunSlots (s : State) (n : Nat) : List Nat :=
  dedup (s.mem.filterMap (fun c => if farBase n ≤ c.1 && c.1 < farBase n + 2 ^ 21 then some ((c.1 - farBase n) / 64) else none))

/-- Write a tun's entry into the tables of its ports, at the lowest free entry (R313). -/
def State.putTunEntry (s : State) (t : Tun) : State :=
  t.extents.foldl (fun s x =>
    let used := s.tunSlots x.1
    match (List.range tunEntries).find? (fun k => !used.contains k) with
    | some k => s.farWrite false [] (farBase x.1 + 64 * k) t.entry
    | none => s) s

/-- Zero a tun's entries (R313). -/
def State.zeroTunEntry (s : State) (t : Tun) : State :=
  t.extents.foldl (fun s x =>
    match (s.tunSlots x.1).find? (fun k => s.bytes (farBase x.1 + 64 * k) 16 == slice t.name 0 16
        && s.num (farBase x.1 + 64 * k + 18) 1 == t.vf) with
    | some k => s.farWrite false [] (farBase x.1 + 64 * k) (List.replicate 64 0)
    | none => s) s

/-- Is it a valid entry of a persistent tun (R318)? -/
def State.tunEntryValid (s : State) (a : Nat) : Bool :=
  !zeroAt (s.bytes a 16) 0 16 && decide (1 ≤ s.num (a + 16) 1) && decide (s.num (a + 16) 1 ≤ 3) && bit (s.num (a + 17) 1) 0
    && decide (s.num (a + 17) 1 < 8) && decide (1 ≤ s.num (a + 18) 1) && decide (s.num (a + 18) 1 ≤ 64)
    && s.num (a + 19) 5 == 0 && s.num (a + 56) 8 == 0

/-- Granules of a range of device addresses. -/
def granules (a n : Nat) : List Nat := (List.range (n / 2 ^ 21)).map (· + granuleOf a)

/-- Own the granules of a tun. -/
def State.ownTun (s : State) (t : Tun) (o : Owner) : State :=
  t.extents.foldl (fun s x => forAll (granules x.2.1 x.2.2) (fun g s => s.setOwner g o) s) s

/-- Is each port of a tun ONLINE with the device it was made on (R326)? -/
def State.tunHere (s : State) (t : Tun) : Bool :=
  t.extents.all (fun x => s.farUp x.1 && (s.farAt x.1).serial == some (if x.1 = 0 then t.serial0 else t.serial1))

/-- OFFLINE persistent tuns whose devices and keys are there return ONLINE (R319, R326). -/
def State.returnTuns (s : State) : State :=
  forAll s.far.tuns (fun x s =>
    let t := x.2
    let k := s.keyOf t.vf
    if t.st == .offline && t.persist && s.tunHere t && (k.st == 1 || k.st == 2) && k.keyid == t.keyid
        && (Tab.find s.tenants t.vf).isSome then
      s.setTun x.1 { t with st := .online }
    else s) s

/-- After an enumeration: the tun table of a persistent port gives back its tuns as OFFLINE; another port's is zeroed (R318). -/
def State.recoverTuns (s : State) (n : Nat) : State :=
  if s.fld (Reg.FTC_PSTATE n) F.FTC_PSTATE_PERSIST = 1 then
    let s := forAll (s.tunSlots n) (fun k s =>
      let a := farBase n + 64 * k
      let both := bit (s.num (a + 17) 1) 1
      let name := s.bytes a 16
      let vf := s.num (a + 18) 1
      let other := farBase (1 - n)
      let there := !both || (s.farUp (1 - n) && s.fld (Reg.FTC_PSTATE (1 - n)) F.FTC_PSTATE_PERSIST == 1
        && (s.tunSlots (1 - n)).any (fun j => s.tunEntryValid (other + 64 * j) && s.bytes (other + 64 * j) 64 == s.bytes a 64))
      if s.tunEntryValid a && there && !s.far.tuns.any (fun x => x.2.name == name && x.2.vf == vf) then
        let t : Tun := { name := name, vf := vf, both := both, port := n, size := s.num (a + 40) 8, persist := true,
                         retain := bit (s.num (a + 17) 1) 2, base0 := s.num (a + 24) 8, base1 := s.num (a + 32) 8,
                         keyid := s.num (a + 48) 8, st := .offline, serial0 := (s.farAt 0).serial.getD 0,
                         serial1 := (s.farAt 1).serial.getD 0 }
        let h := s.far.nextTun
        ({ s with far := { s.far with nextTun := h + 1, tuns := Tab.insert s.far.tuns h t } }).ownTun t (.vf vf)
      else s) s
    s.returnTuns
  else s.zeroRange (farBase n) (2 ^ 21)

/-! ### Enumeration (R306 to R308, R325, R326) -/

/-- CAPU. -/
def farCapu (c : FarCard) : Nat := min c.capacity (2 ^ 42) / 2 ^ 21 * 2 ^ 21

/-- Reason of a refusal, 0 for none. -/
def farRefusal (c : FarCard) : Nat :=
  if !c.type3 then 1 else if c.multiLogical then 2 else if c.switch then 3 else if c.dynamic then 4
  else if (farCapu c) < 4 * 2 ^ 20 then 5 else 0

/-- B_b of R307, halved at x4 or 32 GT/s (R317). -/
def farBulk (c : FarCard) : Nat :=
  let b := min 50 (c.bandwidth.getD 10)
  if c.width = 4 || c.rate = 2 then b / 2 else b

/-- Sosin firmware enumerates a port. -/
def State.enumerate (s : State) (n : Nat) (c : FarCard) : State :=
  let why := farRefusal c
  if why != 0 then
    let s := (s.setReg (Reg.FTC_PSTATE n) (why * 16 + 4)).setFloor n 1000
    s.record { cause := Cause.portRefused, subject := n, arg0 := why }
  else
    let s := s.setReg (Reg.FTC_PSTATE n)
      (b2n c.gpf * 2 ^ 17 + b2n (c.persistent && c.gpf) * 2 ^ 16 + c.rate % 4 * 2 ^ 12 + c.width % 16 * 2 ^ 8 + 2)
    let s := (s.setReg (Reg.FTC_CAP n) (farCapu c)).setReg (Reg.FTC_BW n) (farBulk c)
    let s := s.setFloor n (min 65535 (roundUp (c.latency.getD 1000) 10))
    let s := s.setFar n { s.farAt n with serial := some c.serial, gpf := 0 }
    s.setOwner (granuleOf (farBase n)) .device

/-- FAR_PORT_TRAINED (R306): a port that trains is enumerated, once; a refused port is not tried again (R308). -/
def execFarPortTrained (n : FarPort) (c : FarCard) (s : State) : Host.Outcome State Fault Refusal :=
  if 2 ≤ s.farState n || s.inReset then .next s
  else
    let s := s.enumerate n c
    .next (if s.farUp n then s.recoverTuns n else s)

/-- FAR_ABSENT_RETRY (R308): every second an ABSENT port tries to train. -/
def execFarAbsentRetry (n : FarPort) (c : Option FarCard) (s : State) : Host.Outcome State Fault Refusal :=
  let x := s.farAt n
  if s.farState n != 0 || s.now < x.retryAt || s.inReset then .next s
  else
    let s := s.setFar n { x with retryAt := s.now + msec 1000 }
    match c with
    | none => .next s
    | some c =>
      let s := s.enumerate n c
      .next (if s.farUp n then s.recoverTuns n else s)

/-! ### Reads (R314, R316, R317) -/

/-- A bad far read acts on its sequence as a poisoned word (R316). -/
def State.farBad (s : State) (r : FarReq) (c : Cause) : State :=
  let n := farPortOf (64 * r.line)
  let s := s.count (Reg.FTC_POISON n) 1
  match r.seq with
  | none => s.record { cause := c, subject := n, addr := 64 * r.line }
  | some e =>
    match Tab.find s.seqs e with
    | some q =>
      let live := q.issue == r.issue
      let o := s.occur { cause := c, func := if live then q.vf else 0, subject := n, addr := 64 * r.line,
                         arg0 := q.rp.getD 0xFFFF, arg1 := q.tag }
      if live then o.1.onSeq e (fun q => if q.poison.isSome then q else { q with poison := some o.2 }) else o.1
    | none => s.record { cause := c, subject := n, addr := 64 * r.line }

/-- The sequence of a far read has its data: that of the line when the read was issued (R315). -/
def State.farTaken (s : State) (r : FarReq) : State :=
  match r.seq with
  | some e =>
    match Tab.find s.seqs e with
    | some q =>
      if q.issue = r.issue then
        (s.setSeq e { q with gotLines := q.gotLines ++ [{ kind := 2, addr := 64 * r.line, at_ := s.now, data := r.data }] }).readTaken e
      else s
    | none => s
  | none => s

/-- Does an LC far read end past its bound (R317)? -/
def State.farLate (s : State) (r : FarReq) : Bool := decide (r.level < 4) && r.bound != 0 && decide (r.start + r.bound < s.now)

/-- A far read past its bound marks its sequence CONTEND (R317, Table 4.7). -/
def State.farContend (s : State) (r : FarReq) : State :=
  match r.seq with
  | some e =>
    match Tab.find s.seqs e with
    | some q => if s.farLate r && q.issue == r.issue then s.voidSeq e voidContend else s
    | none => s
  | none => s

/-- Is a power-fail notice in force (R616)? -/
def State.pfail (s : State) : Bool := s.pwr.pfailPin || s.pwr.pfailCmd

/-- A far read joins its queue. While a notice is in force it completes as a timeout does (R479). -/
def State.farQueue (s : State) (r : FarReq) : State :=
  let n := farPortOf (64 * r.line)
  let x := s.farAt n
  if s.pfail then (s.farBad r Cause.readTimeout).farTaken r
  else s.setFar n (if r.level < 4 then { x with lc := insertBy (fun a b => decide (a.level ≤ b.level)) r x.lc }
    else if r.level = 4 then { x with be := x.be ++ [r] } else { x with fw := x.fw ++ [r] })

/-- A sequence issues far reads of a byte range of a tun: the streamed ENC of a BE sequence through the queue FW (R314). A tun that
is not ONLINE gives poison at once (R327). -/
def State.issueFar (s : State) (e tun o n start bound : Nat) : State :=
  match Tab.find s.seqs e, s.tun tun with
  | some q, some t =>
    if t.st == .online then
      let lines := dedup ((List.range (cdiv (o + n) 64 - o / 64)).map (fun k => t.addr (64 * (o / 64 + k)) / 64))
      let s := s.setSeq e { q with pending := q.pending + lines.length }
      forAll lines (fun w s => s.farQueue { seq := some e, issue := q.issue, line := w,
                                            level := if q.stage = stENC && q.elevel = 4 then 5 else q.elevel, rood := e / 1024,
                                            start := start, bound := bound }) s
    else
      let r := s.tunBad q (some tun)
      r.1.onSeq e (fun q => if q.poison.isSome then q else { q with poison := some r.2 })
  | _, _ => s

/-- The lowest free tag of a port. -/
def FarPortState.freeTag (x : FarPortState) : Option Nat := (List.range 2048).find? (fun k => (Tab.find x.tags k).isNone)

/-- The next BE read: round robin by rood in ascending number. -/
def FarPortState.nextBe (x : FarPortState) : Option FarReq :=
  ((List.range 16).map (fun k => (x.lastRood + 1 + k) % 16)).findSome? (fun r => x.be.find? (fun b => b.rood == r))

/-- Writes of the buffer whose MemWr has not been sent. -/
def FarPortState.unsent (x : FarPortState) : List FarWrite := x.wr.filter (fun w => !w.sent)

def FarPortState.sendWrite (x : FarPortState) : FarPortState :=
  match x.wr.findIdx? (fun w => !w.sent) with
  | some k => { x with wr := x.wr.modify k (fun w => { w with sent := true }) }
  | none => x

/-- The access of a far read is checked against the owner of its granule (R187, R310). -/
def State.farOwned (s : State) (r : FarReq) : Bool :=
  match r.seq with
  | some e => match Tab.find s.seqs e with
    | some q => s.owner (granuleOf (64 * r.line)) == .vf q.vf
    | none => true
  | none => true

/-- A read takes a tag and its MemRd is sent. -/
def State.sendFar (s : State) (n tag : Nat) (r : FarReq) : State :=
  if s.farOwned r then
    let x := s.farAt n
    s.setFar n { x with tags := Tab.insert x.tags tag { r with sent := s.now, data := s.bytes (64 * r.line) 64 } }
  else s.record { cause := Cause.ownerFault 6, subject := n, addr := 64 * r.line }

/-- FAR_READ_ISSUE (R314): the first candidate of the order, when a tag is free. -/
def execFarReadIssue (n : FarPort) (s : State) : Host.Outcome State Fault Refusal :=
  let x := s.farAt n
  if !s.farUp n || x.gpf != 0 then .next s
  else match x.freeTag with
    | none => .next s
    | some k =>
      match x.lc with
      | r :: l => .next ((s.setFar n { x with lc := l }).sendFar n k r)
      | [] =>
        if 64 ≤ x.unsent.length then .next (s.setFar n x.sendWrite)
        else match x.fw with
          | r :: l => .next ((s.setFar n { x with fw := l }).sendFar n k r)
          | [] =>
            match x.nextBe with
            | some r => .next ((s.setFar n { x with be := x.be.erase r, lastRood := r.rood }).sendFar n k r)
            | none => .next (s.setFar n x.sendWrite)

/-- Phase 1 of a flush ends when nothing is in flight and the buffer is empty (R320). -/
def State.gpfPhase (s : State) (n : Nat) : State :=
  let x := s.farAt n
  if x.gpf = 1 && x.wr.isEmpty && x.tags.isEmpty then s.setFar n { x with gpf := 2 } else s

/-- Global Persistent Flush starts on each ONLINE port that runs none (R320, R616). -/
def State.startGpf (s : State) (notice : Bool) : State :=
  forAll [0, 1] (fun n s =>
    let x := s.farAt n
    if s.farUp n && x.gpf = 0 then (s.setFar n { x with gpf := 1, gpfNotice := notice }).gpfPhase n else s) s

/-- Reads that wait for a tag complete as timeouts when a notice comes into force (R479). -/
def State.endQueued (s : State) : State :=
  forAll [0, 1] (fun n s =>
    let x := s.farAt n
    forAll (x.lc ++ x.fw ++ x.be) (fun r s => (s.farBad r Cause.readTimeout).farTaken r) (s.setFar n { x with lc := [], fw := [], be := [] })) s

/-- Far traffic resumes on each port whose flush has ended (R320). -/
def State.resumeFar (s : State) : State :=
  forAll [0, 1] (fun n s => let x := s.farAt n; if x.gpf = 3 then s.setFar n { x with gpf := 0, gpfNotice := false } else s) s

/-- FAR_READ_RETURN (R314, R316, R317). -/
def execFarReadReturn (n : FarPort) (tag : Nat) (poisoned : Bool) (s : State) : Host.Outcome State Fault Refusal :=
  let x := s.farAt n
  match Tab.find x.tags tag with
  | none => .next s
  | some r =>
    let s := s.setFar n { x with tags := Tab.erase x.tags tag }
    let s := s.setReg (Reg.FTC_RDLAT n) (max (s.reg (Reg.FTC_RDLAT n)) (min (ones 32) ((s.now - r.sent) / 63)))
    let s := if poisoned then s.farBad r Cause.farPoison else s
    let s := s.act 15 (match r.seq with | some e => s.seqVf e | none => 0) 1
    let s := (if s.farLate r then s.count (Reg.FTC_LATE n) 1 else s).farContend r
    .next ((s.farTaken r).gpfPhase n)

/-- READ_TIMEOUT (R316): the tag is freed, and its late return finds none. A bound that has passed by then is exceeded
(Table 4.7); FTC_LATE counts reads that return. -/
def execReadTimeout (n : FarPort) (tag : Nat) (s : State) : Host.Outcome State Fault Refusal :=
  let x := s.farAt n
  match Tab.find x.tags tag with
  | none => .next s
  | some r =>
    if s.now < r.sent + usec (s.fld Reg.FTC_TIMEOUT (15, 0)) then .next s
    else
      let s := s.setFar n { x with tags := Tab.erase x.tags tag }
      .next ((((s.farContend r).farBad r Cause.readTimeout).farTaken r).gpfPhase n)

/-- FAR_WRITE_COMPLETE (R315): the oldest MemWr sent completes, and its entry leaves the buffer. Under a flush the buffer
drains itself (R320). -/
def execFarWriteComplete (n : FarPort) (s : State) : Host.Outcome State Fault Refusal :=
  let x := s.farAt n
  let x := if x.gpf = 1 then { x with wr := x.wr.map (fun w => { w with sent := true }) } else x
  match x.wr with
  | w :: l =>
    if w.sent && s.farUp n then
      .next (((s.setFar n { x with wr := l }).act 15 (s.ownerVf (granuleOf (64 * w.line))) 1).gpfPhase n)
    else .next s
  | [] => .next s

/-! ### Failures (R325, R326) -/

/-- The line of a discarded write holds what the device held before it. -/
def State.undoWrites (s : State) : List FarWrite → State
  | [] => s
  | w :: ws => ((s.undoWrites ws).setInk w.line w.oldInk).setBytes (64 * w.line) w.old

/-- Does a line lie in a tun? -/
def Tun.holds (t : Tun) (line : Nat) : Bool := t.extents.any (fun x => x.2.1 ≤ 64 * line && 64 * line < x.2.1 + x.2.2)

/-- What the loss of a port does to a tun on it. -/
def State.tunLoss (s : State) (n h : Nat) (t : Tun) (lost : List FarWrite) : State :=
  if !t.on n || t.st == .lost then s
  else if t.persist && !lost.any (fun w => !w.ckpt && t.holds w.line) then s.setTun h { t with st := .offline }
  else (s.setTun h { t with st := .lost }).record
    { cause := Cause.tunLost, func := t.vf, subject := n, arg0 := field t.name 0 8, arg1 := field t.name 8 8 }

/-- FAR_LINK_DOWN (R325). -/
def execFarLinkDown (n : FarPort) (s : State) : Host.Outcome State Fault Refusal :=
  if !s.farUp n then .next s
  else
    let x := s.farAt n
    let reads := x.tags.map (·.2) ++ x.lc ++ x.fw ++ x.be
    let s := s.setFarState n 3
    let s := s.record { cause := Cause.linkDown, subject := n }
    let s := s.setFar n { x with lc := [], fw := [], be := [], wr := [], tags := [], retryAt := s.now + msec 1000,
                                 gpf := if x.gpf = 0 then 0 else 2 }
    let s := forAll reads (fun r s => (s.farBad r Cause.linkDown).farTaken r) s
    let s := s.undoWrites x.wr
    let s := s.count (Reg.FTC_WLOST n) x.wr.length
    let s := if x.wr.isEmpty then s else s.record { cause := Cause.writeLost, subject := n, arg0 := x.wr.length }
    .next (forAll s.far.tuns (fun t s => s.tunLoss n t.1 t.2 x.wr) s)

/-- FAR_LINK_RETRAIN (R325, R326). -/
def execFarLinkRetrain (n : FarPort) (c : FarCard) (s : State) : Host.Outcome State Fault Refusal :=
  let x := s.farAt n
  if s.farState n != 3 || s.now < x.retryAt || s.inReset then .next s
  else
    let same := x.serial == some c.serial
    let s := s.enumerate n c
    if !s.farUp n then .next s
    else
      let s := s.record { cause := Cause.linkUp, subject := n, arg0 := c.serial }
      if same then .next s.returnTuns
      else
        -- another device: none of the old one's bytes are on it, and its granules are FREE beyond its tun table
        let s := s.zeroRange (farBase n) (2 ^ 42)
        let lo := granuleOf (farBase n)
        .next (({ s with owners := Tab.clear s.owners lo (2 ^ 21) } : State).setOwner lo .device)

/-- DEV_EVENT_POLL (R329): the events that the devices' logs hold, by port, severity and the first 24 bytes of each. -/
def execDevEventPoll (events : List (FarPort × Nat × List Byte)) (s : State) : Host.Outcome State Fault Refusal :=
  if s.now < s.far.pollAt then .next s
  else
    let s := { s with far := { s.far with pollAt := s.now + msec 100 } }
    .next (forAll events (fun x s =>
      if s.farUp x.1 then
        s.record { cause := Cause.devEvent (x.2.1 % 4), subject := x.1.val, arg0 := field x.2.2 0 8, arg1 := field x.2.2 8 8,
                   arg2 := field x.2.2 16 8 }
      else s) s)

end Sys2Proof.Machine
end

