-- ==== Sys2Proof/Machine/Work.lean ====
section
/-! DEFINITION. Machine/Work.lean: how a stage starts (R126 rung 5, R136, R139, R169, R261), the steps of the engines inside a
stage, and a descriptor run whole. -/

namespace Sys2Proof.Machine

/-! ### Starts -/

/-- What the start of a stage comes to: it started, it is withheld for want of a resource (R130), or it was not ready. -/
inductive Begin where
  | started (s : State)
  | withheld (s : State)
  | notReady (s : State)

/-- The state a start leaves. -/
def Begin.state : Begin → State
  | .started s => s
  | .withheld s => s
  | .notReady s => s

/-- A sequence enters a stage: a new issue, its seed recorded (R164). -/
def State.beginStage (s : State) (e st : Nat) (ph : SeqPhase) : State :=
  (s.newIssue e).onSeq e (fun q => { q with stage := st, phase := ph, stageTick := s.tick, seedAtStage := q.seed, redo := false,
                                            killed := false, waitsOn := [] })

/-- The stage waits for its reads, or they are over at once. -/
def State.awaitReads (s : State) (e : Nat) : State :=
  match Tab.find s.seqs e with
  | some q => if q.pending = 0 && q.listWait.isEmpty then s.stageReadsOver e else s
  | none => s

/-- ENC (R127, R177, R180): an image that is absent on a STREAM ring is streamed by STREAM_ENC. -/
def State.startEnc (s : State) (e : Nat) (q : Sequence) : State :=
  match s.imageOf q with
  | none => s.beginStage e stENC .running
  | some m =>
    let s := (s.setImage m.handle { m with running := m.running + 1 }).encStarts m.handle
    s.beginStage e stENC (if !m.resident && s.streams q then .waiting else .running)

/-- Pool group of an address (R265). -/
def poolGroup (a : Nat) : Nat := (a - poolBase) / 2 ^ 24

/-- A centroid pass that has streamed its table scores every CQ that started on it (R267). -/
def State.endPass (s : State) (g : Nat) : State :=
  match Tab.find s.passes g with
  | none => s
  | some x =>
    if x.endTick ≤ s.tick then
      let s := { s with passes := Tab.erase s.passes g }
      -- the MiB of the pass are shared evenly among its CQs (Table 15.7)
      let bytes := match Tab.find s.indexes x.table with | some i => i.buckets * i.s | none => 0
      let w := s.reg (Reg.MTR_COEF (36 + s.op))
      let vf := match Tab.find s.indexes x.table with | some i => i.vf | none => 0
      let s := s.addModel 0 vf (63 * w * bytes / 2 ^ 20)
      forAll (s.seqs.filter (fun (y : Nat × Sequence) => y.2.stage == stCQ && y.2.phase == .waiting && y.2.index == x.table
          && y.2.stageTick == x.startTick)) (fun y s => (s.cqEffect y.1).onSeq y.1 (fun q => { q with phase := .running })) s
    else s

/-- CQ (R267): it begins a pass of its group or joins one begun in this tick; else it is withheld. -/
def State.startCq (s : State) (e : Nat) (i : Index) : Begin :=
  let g := poolGroup i.cents
  let s := s.endPass g
  match Tab.find s.passes g with
  | none =>
    let x : CqPass := { table := i.handle, startTick := s.tick, endTick := s.tick + cdiv (i.buckets * i.s) (2 ^ 20), count := 1 }
    let s := { s with passes := Tab.insert s.passes g x }
    .started (s.beginStage e stCQ .waiting)
  | some x =>
    if x.table = i.handle && x.startTick = s.tick && x.count < 64 then
      let s := { s with passes := Tab.insert s.passes g { x with count := x.count + 1 } }
      .started (s.beginStage e stCQ .waiting)
    else .withheld (s.voidSeq e voidWithheld)

/-- Bushels that one line of a bucket's list of n entries names. -/
def State.lineBushels (s : State) (i : Index) (n c w : Nat) : List Nat :=
  ((List.range n).filter (fun p => (i.listBase c + 4 * p) / 64 == w)).map (fun p => i.bushel (s.listEntry i c p))

/-- PROBE (R134, R136, R653): bushels of pinned lines are requested at once; an unpinned line is read first. Each request carries
the view of its own issue (R249), and a line's the length of its list. -/
def State.startProbe (s : State) (e : Nat) (i : Index) : State :=
  let s := (s.beginStage e stPROBE .waiting).onSeq e (fun q => { q with survivors := [] })
  match Tab.find s.seqs e with
  | none => s
  | some q =>
    forAll q.buckets (fun c s =>
      let n := (i.bucket c).nbushel
      forAll (i.listLines c) (fun w s =>
        if i.pinned.contains w then forAll (s.lineBushels i n c w) (fun a s => s.issueRead e (.scan e) a 32 c) s
        else ((s.voidSeq e voidList).onSeq e (fun q => { q with listWait := q.listWait ++ [(c, w)] })).issueRead e (.list e) (64 * w) 1 n)
        s) s

/-- A PROBE of an earlier tick has ended, its requests all issued: SCAN follows it and needs no start (Table 4.4). -/
def State.probeEnds (s : State) (e : Nat) : State :=
  match Tab.find s.seqs e with
  | none => s
  | some q =>
    if q.stage = stPROBE && q.phase == .waiting && q.stageTick < s.tick && q.listWait.isEmpty then
      (s.setSeq e { q with stage := stSCAN, stageTick := s.tick }).awaitReads e
    else s

/-- t_far of a RERANK of n records (R317), in time units: the larger over the ports of the tun (log entry 14). -/
def State.tFar (s : State) (t : Tun) (n stride : Nat) : Nat :=
  (t.extents.map (fun x =>
    nsec (250 + s.fld (Reg.FTC_DLAT x.1) (15, 0)) + 63 * 2 * n * stride / max 1 ((if t.both then 2 else 1) * s.reg (Reg.FTC_BW x.1)))).foldl max 0

/-- RERANK: the vector reads of every candidate (R136, R314). -/
def State.startRerank (s : State) (e : Nat) (i : Index) (q : Sequence) : State :=
  let s := s.beginStage e stRERANK .waiting
  let s := match i.vecTun with
    | some h =>
      let bound := match s.tun h with | some t => s.tFar t q.cands.length i.stride | none => 0
      forAll q.cands (fun c s => s.issueFar e h (i.vecAddr c.lidx) i.stride s.now bound) s
    | none => forAll q.cands (fun c s => forAll (bursts (i.vecAddr c.lidx) i.stride) (fun b s => s.issueRead e (.raw e) b.1 b.2) s) s
  s.awaitReads e

/-- Semaphores of a write that another sequence holds, or that were released in this tick (R169, R170). -/
def State.semsBusy (s : State) (e : Nat) (i : Index) (q : Sequence) : List Nat :=
  (s.semsFor q).filter (fun k => (match Tab.find i.sems k with | some h => h != e | none => false) || i.cooling.contains k)

/-- A write takes its whole semaphore set (R169). -/
def State.takeSems (s : State) (e : Nat) (q : Sequence) : State :=
  let need := s.semsFor q
  (s.onIndex q.index (fun i => { i with sems := need.foldl (fun t k => Tab.insert t k e) i.sems })).onSeq e (fun q => { q with sems := need })

/-- PLACE of an insert or delete (R139, R169, R170): its whole semaphore set or none. -/
def State.startPlace (s : State) (e : Nat) (i : Index) (q : Sequence) : Begin :=
  let busy := s.semsBusy e i q
  if busy.isEmpty then
    let s := (s.beginStage e stPLACE .waiting).takeSems e q
    let r := s.placeReads q
    .started ((s.issueLines e (.raw e) (dedup (r.1 ++ r.2))).awaitReads e)
  else .notReady (s.setSeq e { q with waitsOn := busy })

/-- What a sequence has reserved in this tick for its COMMIT or the step of its FOLD (R261). -/
def State.reserved (s : State) (q : Sequence) : Nat :=
  if q.folding then s.foldRoom q
  else if !q.isQuery && q.committing && q.wrote.isNone && q.ending.isNone then s.commitWords q
  else 0

/-- Free entries of the share of a sequence's partition, less what the COMMITs and FOLD steps of this tick have reserved (R261). -/
def State.wcbFree (s : State) (q : Sequence) : Nat :=
  match s.partOf q.vf with
  | none => 0
  | some (k, p) =>
    let mine := fun (x : Nat × Sequence) => (match Tab.find s.tenants x.2.vf with | some t => t.part == k | none => false)
    240 * p.roods.length - s.wcbShare p.roods - (s.seqs.filter mine).foldl (fun n x => n + s.reserved x.2) 0

/-- Lines that an insert's COMMIT writes on each far port (R315). -/
def State.farLines (s : State) (q : Sequence) (n : Nat) : Nat :=
  match s.indexOf q with
  | some i =>
    match q.opcode == 2, i.vecTun.bind s.tun with
    | true, some t => if t.on n then i.stride / 64 else 0
    | _, _ => 0
  | none => 0

/-- Does the far write buffer of every port hold its lines? -/
def State.farRoom (s : State) (q : Sequence) : Bool :=
  (List.range 2).all (fun n =>
    let used := (s.farAt n).wr.length
      + (s.seqs.filter (fun (x : Nat × Sequence) => x.2.committing && !x.2.isQuery)).foldl (fun a x => a + s.farLines x.2 n) 0
    decide (s.farLines q n + used ≤ 512) || s.farLines q n == 0)

/-- Has a COMMIT the entries it reserves, in the write-combining buffer and on the far ports (R261, R315)? One that writes nothing
needs none. -/
def State.commitRoom (s : State) (q : Sequence) : Bool :=
  q.wrote.isSome || q.poison.isSome || (decide (s.commitWords q ≤ s.wcbFree q) && s.farRoom q)

/-- Earlier writes of the ring pair to the same index have committed (R106). -/
def State.inOrder (s : State) (q : Sequence) : Bool :=
  match q.rp with
  | none => true
  | some p => !s.seqs.any (fun (x : Nat × Sequence) => x.2.rp == some p && x.2.index == q.index && !x.2.isQuery && decide (x.2.order < q.order))

/-- COMMIT of a write that changes this device's shard (R105, R106, R261, R315). -/
def State.startLocalCommit (s : State) (e : Nat) (q : Sequence) : Begin :=
  if !s.inOrder q then .notReady s
  else if s.commitRoom q then
    .started ((s.beginStage e q.lastStage .running).onSeq e (fun q => { q with committing := true }))
  else .withheld s

/-- COMMIT of a publish at the home of a sharded index (R400): PCOMMIT when every shard is ready, its own commit when all are
done. -/
def State.startHomePublish (s : State) (e : Nat) (q : Sequence) : Begin :=
  let others := s.otherShards q
  if !s.inOrder q then .notReady s
  else if q.poison.isSome || q.wrote.isSome then .started ((s.beginStage e stCOMMIT .running).onSeq e (fun q => { q with committing := true }))
  else if others.all q.remote.finished.contains then
    .started ((s.beginStage e stCOMMIT .running).onSeq e (fun q => { q with committing := true }))
  else if others.all q.remote.ready.contains && !q.remote.commitSent then .started (s.sendPub e 8)
  else .notReady s

/-- COMMIT of a remote write (R398): at most 64 of an (index, shard) at once. -/
def State.startRemote (s : State) (e : Nat) (q : Sequence) : Begin :=
  if q.remote.report.isSome then .started ((s.beginStage e stCOMMIT .running).onSeq e (fun q => { q with committing := true }))
  else if !s.inOrder q then .notReady s
  else if 64 ≤ (s.remoteWrites q.index (WriteDesc.shard q.desc)).length then .withheld s
  else .started (s.startRemoteWrite e)

/-- UPSEND of a shard part (R141, R399, R400). A publish part reports that it is ready and waits for PCOMMIT. -/
def State.startUpsend (s : State) (e : Nat) (q : Sequence) : Begin :=
  if q.opcode = 4 && q.ending.isNone then
    if q.poison.isSome then .notReady s
    else match s.fab.pubs.find? (fun p => p.index == q.index && some (p.home, p.hent) == q.home) with
      | some p => .started (((s.setPub { p with phase := 1 }).pubReport { p with phase := 1 } 7).beginStage e stUPSEND .waiting)
      | none => .notReady s
  else if q.isQuery then
    if q.ending.isSome || q.missing.isEmpty then .started ((s.beginStage e stUPSEND .running).onSeq e (fun q => { q with committing := true }))
    else .notReady s
  else s.startLocalCommit e q

/-- Is FIN of a query ready: its list is complete and none of it evicted (R123), and a sharded one has what its lane emitted (R51,
R141, R393)? -/
def State.finReady (s : State) (q : Sequence) : Bool :=
  q.ending.isSome || (if s.isSharded q then q.remote.list.isSome else q.missing.isEmpty)

/-- Start the next stage of a ready sequence. -/
def State.startStage (s : State) (e : Nat) : Begin :=
  match Tab.find s.seqs e with
  | none => .notReady s
  | some q =>
    let st := s.nextStage q
    if st = stFIN then
      if s.finReady q then .started ((s.beginStage e stFIN .running).onSeq e (fun q => { q with committing := true })) else .notReady s
    else if st = stENC then
      match s.tilePlace (s.narrowTile q true) with
      | some t => .started ((s.startEnc e q).onSeq e (fun q => { q with tile := some t }))
      | none => .withheld s
    else if st = stUPSEND then s.startUpsend e q
    else match s.indexOf q with
      | none => .started (s.beginStage e st .running)
      | some i =>
        if st = stCQ then s.startCq e i
        else if st = stPROBE then .started (s.startProbe e i)
        else if st = stMERGE then .started (s.beginStage e stMERGE .running)
        else if st = stRERANK then
          match s.tilePlace (s.narrowTile q false) with
          | some t => .started ((s.startRerank e i q).onSeq e (fun q => { q with tile := some t }))
          | none => .withheld s
        else if st = stENTRY then
          .started (((s.beginStage e stENTRY .waiting).issueLines e (.line e) (s.entryLines i (s.viewOf q))).awaitReads e)
        else if st = stHOP then
          let s := s.beginStage e stHOP .waiting
          match q.walk.next with
          | some n => .started ((s.issueRead e (.hop e) (i.bushel n) 32 n).awaitReads e)
          | none => .started (s.awaitReads e)
        else if st = stPLACE then
          -- a publish waits in PLACE for its turn, then for its retiree (R41, R172)
          if q.opcode = 4 then .started (s.beginStage e stPLACE .waiting) else s.startPlace e i q
        else if st = stFOLD then
          let s := s.beginStage e stFOLD .running
          .started (if q.home.isNone && i.sharded then s.sendPub e 6 else s)
        else if q.home.isNone && q.opcode = 4 && i.sharded then s.startHomePublish e q
        else if s.localWrite q then s.startLocalCommit e q
        else s.startRemote e q

/-- A publish part in its turn takes the retiree that its home named, once nothing pins it here (R172, R400). -/
def State.shardChoose (s : State) (e : Nat) (q : Sequence) : State :=
  match s.fab.pubs.find? (fun p => p.index == q.index && some (p.home, p.hent) == q.home), s.indexOf q with
  | some p, some i =>
    if i.pubs.head? != some e then s
    else if i.st == .damaged then (s.endStage e).onSeq e (fun q => { q with poison := some i.damage })
    else match (List.range 5).find? (fun t => ((i.record t).st == .live || (i.record t).st == .retiring) && (i.record t).epoch == p.retiree) with
    | none => s.endStage e
    | some t =>
      if i.retiree.isSome || (i.record t).pins = 0 then (s.endStage e).setIndex q.index (i.retire t) else s
  | _, _ => s

/-- Publishes in PLACE choose their retirees at rung 6, after the tick's commits (R139). -/
def State.chooseRetirees (s : State) : State :=
  forAll (s.seqs.filter (fun (x : Nat × Sequence) => x.2.opcode == 4 && x.2.stage == stPLACE && x.2.phase == .waiting))
    (fun x s => if x.2.home.isSome then s.shardChoose x.1 x.2 else s.chooseEffect x.1) s

/-! ### Ends of stages -/

/-- STAGE_COMPLETE (R138): the engine of a compute stage reports; the sequence is ready from the next tick. MERGE and RERANK read
the lists of the context extension: while the sequence cache has evicted a line of them, they wait for it (R123). -/
def State.stageComplete (s : State) (e : Nat) : State :=
  match Tab.find s.seqs e with
  | none => s
  | some q =>
    if q.phase == .running && !q.committing then
      if q.stage = stENC then
        let s := s.encEffect e
        ((match Tab.find s.seqs e with | some q' => s.dropEnc q' | none => s)).endStage e
      else if q.stage = stCQ then s.endStage e
      else if q.stage = stMERGE then (if q.missing.isEmpty then (s.mergeEffect e).endStage e else s)
      else if q.stage = stRERANK then
        if q.poison.isSome then s.endStage e
        else if q.missing.isEmpty then (s.rerankEffect e).endStage e
        else s
      else if q.stage = stPLACE && q.opcode != 4 then (s.placeEffect e).endStage e
      else s
    else s

def execStageComplete (e : SeqNo) (s : State) : Host.Outcome State Fault Refusal := .next (s.stageComplete e)

/-- The first read of a kind and an address that has come back for a sequence. -/
def Sequence.back (q : Sequence) (kind a : Nat) : Option Landed := q.landed.find? (fun l => l.kind == kind && l.addr == a)

/-- LIST_LINE_RETURN (R653): the bushel reads that the line names are issued; a bad line names none (R281). -/
def execListLineReturn (e : SeqNo) (line : Nat) (s : State) : Host.Outcome State Fault Refusal :=
  match Tab.find s.seqs e with
  | none => .next s
  | some q =>
    match q.back 4 (64 * line), s.indexOf q with
    | some l, some i =>
      let mine := q.listWait.filter (fun x => x.2 == line)
      let s := s.setSeq e { q with landed := q.landed.erase l, listWait := q.listWait.filter (fun x => x.2 != line) }
      let s :=
        if (s.heldBad [l] line).isSome then s.usesHeld e [l] [line]
        else forAll mine (fun x s =>
          forAll ((s.seen [l]).lineBushels i l.expect x.1 x.2) (fun a s => s.issueRead e (.scan e) a 32 x.1) s) s
      .next (s.readTaken e)
    | _, _ => .next s

/-- CENTROID_PASS (R267). -/
def execCentroidPass (g : Rood) (s : State) : Host.Outcome State Fault Refusal := .next (s.endPass g)

/-- Slots below COUNT that an engine compares in a frame. -/
def State.frameSlots (s : State) (q : Sequence) (l : Landed) : Nat :=
  match s.indexOf q with | some i => min (leNat (slice (l.data.drop 2) 0 2)) (slotCap i.s) | none => 0

/-- A frame whose lines are all in leaves its engine: a hop's neighbours are taken at once, a bushel's list waits for the survivor
collector. -/
def State.finishFrame (s : State) (e : Nat) (l : Landed) : State :=
  match Tab.find s.seqs e with
  | none => s
  | some q =>
    let s := s.setSeq e { q with frames := q.frames.erase l }
    if l.kind = 1 then
      let r := s.hopFrame e l
      (r.1.onSeq e (fun q => { q with nbrs := r.2 })).readTaken e
    else
      let r := (s.act 11 q.vf (s.frameSlots q l)).scanFrame e l
      r.1.onSeq e (fun q => { q with returned := q.returned ++ [(l.expect, r.2)] })

/-- Does the stage hold every stacked line of a list (R251)? -/
def Sequence.holdsLines (q : Sequence) (ws : List Nat) : Bool :=
  (ws.filter isStacked).all (fun w => q.gotLines.any (fun l => l.addr == 64 * w))

/-- A bushel that has landed enters its engine: its line reads go out, and it waits for them (R250, R251, R253). -/
def State.engineTakes (s : State) (e a kind : Nat) (client : Client) : State :=
  match Tab.find s.seqs e with
  | none => s
  | some q =>
    match q.back kind a with
    | none => s
    | some l =>
      let ls := s.frameLines q l
      let s := (s.setSeq e { q with landed := q.landed.erase l, frames := q.frames ++ [l] }).issueLines e client ls (some l)
      match Tab.find s.seqs e with
      | some q => if q.holdsLines ls then s.finishFrame e l else s
      | none => s

/-- SCAN_REQUEST (R250). -/
def execScanRequest (e : SeqNo) (addr : Nat) (s : State) : Host.Outcome State Fault Refusal :=
  .next (s.engineTakes e addr 0 (.line e))

/-- HOP_REQUEST (R253). -/
def execHopRequest (e : SeqNo) (addr : Nat) (s : State) : Host.Outcome State Fault Refusal :=
  .next (s.engineTakes e addr 1 (.line e))

/-- A RAW burst that has come back is taken (R254): every word of it is used (R252). A line of the sequence's context extension is
in the sequence cache again (R123); PLACE and FOLD decide about their words themselves (R283, R286). -/
def State.rawTaken (s : State) (e : Nat) (q : Sequence) (l : Landed) : State :=
  let s := s.setSeq e { q with landed := q.landed.erase l }
  let ws := wordsOf l.addr l.data.length
  match extLineOf e l.addr with
  | some n => ((s.usesHeld e [l] ws).unspill e n).readTaken e
  | none =>
    let s := s.onSeq e (fun q => { q with gotLines := q.gotLines ++ [l] })
    (if q.stage = stPLACE || q.stage = stFOLD then s else s.usesHeld e [l] ws).readTaken e

/-- RAW_REQUEST (R254). The burst that came back from the address is taken, whatever its length. -/
def execRawRequest (e : SeqNo) (addr _words : Nat) (s : State) : Host.Outcome State Fault Refusal :=
  match Tab.find s.seqs e with
  | none => .next s
  | some q => .next (match q.back 2 addr with | some l => s.rawTaken e q l | none => s)

/-- LINE_READ_RETURN (R251): the line is held for the stage, and frames that waited for it may leave. -/
def execLineReadReturn (e : SeqNo) (line : Nat) (s : State) : Host.Outcome State Fault Refusal :=
  match Tab.find s.seqs e with
  | none => .next s
  | some q =>
    match q.back 3 (64 * line) with
    | none => .next s
    | some l =>
      let s := s.setSeq e { q with landed := q.landed.erase l, gotLines := q.gotLines ++ [l] }
      let s := if q.stage = stENTRY then s.usesHeld e [l] [line] else s
      let s := forAll q.frames (fun f s =>
        match Tab.find s.seqs e with
        | some q => if q.frames.contains f && q.holdsLines (s.frameLines q f) then s.finishFrame e f else s
        | none => s) s
      .next (s.readTaken e)

/-- SURVIVOR_COLLECT (R255): the oldest returned list joins its bucket's survivors, in lines of the context extension. -/
def execSurvivorCollect (e : SeqNo) (s : State) : Host.Outcome State Fault Refusal :=
  match Tab.find s.seqs e with
  | none => .next s
  | some q =>
    match q.returned with
    | (c, l) :: rest => .next ((((s.setSeq e { q with returned := rest }).collectInto e c l).writeLists e).readTaken e)
    | [] => .next s

/-- CONTEXT_MISS (R123): a line that the sequence wrote, still needs and the sequence cache has evicted is read back from its
extension in stacked memory. -/
def execContextMiss (e : SeqNo) (line : Nat) (s : State) : Host.Outcome State Fault Refusal :=
  match Tab.find s.seqs e with
  | none => .next s
  | some q =>
    if q.missing.contains line && !q.committing && q.ending.isNone && !q.lines.contains (extAddr e line / 64) then
      .next ((s.voidSeq e voidCtx).issueLines e (.raw e) [extAddr e line / 64])
    else .next s

/-- STREAM_ENC (R180): the layers are read from the image's home as the ENC runs, and a fill starts. -/
def execStreamEnc (e : SeqNo) (s : State) : Host.Outcome State Fault Refusal :=
  match Tab.find s.seqs e with
  | none => .next s
  | some q =>
    match s.imageOf q with
    | none => .next s
    | some m =>
      if q.stage = stENC && q.phase == .waiting && q.pending = 0 then
        let s := ((s.voidSeq e voidStream).startFill m.handle).1
        let s := match m.tun with
          | some h => s.issueFar e h m.base m.size s.now 0
          | none => forAll (bursts m.base m.size) (fun b s => s.issueRead e (.raw e) b.1 b.2) s
        .next (s.awaitReads e)
      else .next s

/-- FOLD_STEP (R74, R261, R283): the words of the next step of a publish's fold are read; once they are in, the step runs in this
tick if its share has the room it reserves, and is withheld otherwise (R130). What it writes enters the buffer at the end of the
tick (R259). -/
def State.foldOnce (s : State) (e : Nat) : State :=
  match Tab.find s.seqs e with
  | none => s
  | some q =>
    if q.opcode = 4 && q.stage = stFOLD && q.phase == .running && !q.folding && q.pending = 0 then
      let ws := (s.foldWords q).filter isStacked
      if q.lines.isEmpty && !ws.isEmpty then s.issueLines e (.raw e) ws
      else if s.foldRoom q ≤ s.wcbFree q then s.setSeq e { q with folding := true }
      else if q.heldBack then s
      else (s.setSeq e { q with heldBack := true }).count64 (Reg.STB_WITHHELD q.elevel) 1
    else s

def execFoldStep (e : SeqNo) (s : State) : Host.Outcome State Fault Refusal := .next (s.foldOnce e)

/-- The step of a fold that ran in a tick takes effect at its end (R259). -/
def State.foldEnds (s : State) (e : Nat) : State :=
  let r := s.foldEffect e
  let s := r.1.onSeq e (fun q => { q with folding := false, lines := [], gotLines := [] })
  if r.2 then s.endStage e else s

/-! ### Cancels, deadlines and reruns (R116 to R118, R132, R164, R393, R394) -/

/-- May a cancel, a deadline or a revocation still end it: it has not started FIN, COMMIT or UPSEND? -/
def Sequence.endable (q : Sequence) : Bool := !q.committing && q.stage != stFIN && q.stage != stCOMMIT && q.stage != stUPSEND

/-- End a query by a cancel or a deadline, with its lane (R394). The first row of Table 1.4 that applies decides (R52, R118). -/
def State.endQuery (s : State) (e : Nat) (st : Status) : State :=
  match Tab.find s.seqs e with
  | none => s
  | some q => (if q.ending.isSome || q.committing then s else s.closeLane e).endSeq e st false

/-- One cancel acts (R116, R117): every admitted query of the tag that has not committed ends, one that failed at admission under
the status it has; a cancel that finds none is a miss. -/
def State.actCancel (s : State) (p tag : Nat) : State :=
  let hit := s.seqs.filter (fun (x : Nat × Sequence) => x.2.rp == some p && x.2.isQuery && x.2.tag == tag && !x.2.committing)
  let failed := s.failing.any (fun f => f.rp == p && descOp f.desc == 1 && descTag f.desc == tag)
  if hit.isEmpty && !failed then s.count (Reg.QFE_CNCMISS p) 1 else forAll hit (fun x s => s.endQuery x.1 .cancelled) s

/-- The cancels of a ring pair act, in a tick after the one they were written in (R116). -/
def State.actCancels (s : State) (p : Nat) : State :=
  match Tab.find s.rings p with
  | none => s
  | some r =>
    if r.cancelTick < s.tick then forAll r.cancels (fun tag s => s.actCancel p tag) (s.setRing p { r with cancels := [] }) else s

/-- Cancels written for ring pairs that do not exist match nothing (R116). -/
def State.actStrays (s : State) : State :=
  if s.strayTick < s.tick then forAll s.strays (fun p s => s.count (Reg.QFE_CNCMISS p) 1) { s with strays := [] } else s

/-- CANCEL_ACT (R116). -/
def execCancelAct (p : RingPair) (s : State) : Host.Outcome State Fault Refusal := .next (if s.up then s.actCancels p else s)

/-- The deadline of a query acts at the first tick boundary at or after it (R118). -/
def State.actDeadline (s : State) (e : Nat) : State :=
  match Tab.find s.seqs e with
  | some q =>
    match q.dline with
    | some t => if t ≤ s.now && q.isQuery && q.home.isNone then s.endQuery e .deadline else s
    | none => s
  | none => s

/-- DEADLINE_EXPIRE (R118). -/
def execDeadlineExpire (e : SeqNo) (s : State) : Host.Outcome State Fault Refusal := .next (if s.up then s.actDeadline e else s)

/-- A killed sequence is armed to run its stage again, with its seed restored, once its tenant holds the partition (R140,
R164). -/
def State.rerun (s : State) (e : Nat) : State :=
  match Tab.find s.seqs e with
  | some q =>
    if q.phase == .again && s.holds q.vf q.elevel then
      s.setSeq e { q with phase := .done, redo := true, seed := q.seedAtStage }
    else s
  | none => s

/-- KILL_RERUN (R164). -/
def execKillRerun (e : SeqNo) (s : State) : Host.Outcome State Fault Refusal := .next (if s.up then s.rerun e else s)

/-! ### What a tick marks -/

/-- Does the device throttle in this tick (R520, R521)? -/
def State.throttling (s : State) : Bool :=
  s.fld Reg.PWR_STATE F.PWR_STATE_RATIO != 0 || decide (s.fld Reg.PWR_STATE F.PWR_STATE_PREF < s.op)

/-- Is a stack above 95 °C (Table 4.7)? -/
def State.hot (s : State) : Bool := decide (950 < signed 16 (s.fld Reg.THM_HOT F.THM_HOT_STACK))

/-- An LC query that failed at admission is marked HOT, counted once (R143). -/
def State.markFailing (s : State) : State :=
  let new := s.failing.filter (fun f => decide (f.cls < 4) && descOp f.desc == 1 && !f.void)
  ({ s with failing := s.failing.map (fun f => if new.contains f then { f with void := true } else f) } : State).count
    (Reg.STB_VOIDCNT voidHot) new.length

/-- What a tick marks on everything admitted: THROTTLED (R55, R521), and HOT above 95 °C (R143, Table 4.7). -/
def State.markTick (s : State) : State :=
  let s := if s.throttling then
      { s with seqs := s.seqs.map (fun (x : Nat × Sequence) => (x.1, { x.2 with throttled := true })),
               failing := s.failing.map (fun f => { f with throttled := true }) }
    else s
  if s.hot then (forAll s.seqs (fun x s => s.voidSeq x.1 voidHot) s).markFailing else s

/-! ### A descriptor run whole

QUERY, INSERT, DELETE and PUBLISH take a descriptor that the ring's doorbell covers from its fetch to its completion, with
the effects the stages have when nothing else happens in between: the device works on nothing else. -/

/-- ENC of a descriptor run whole, on the first free tile. -/
def State.wholeEnc (s : State) (e : Nat) (q : Sequence) : State :=
  if q.needsEnc then
    let s := match s.imageOf q with | some m => s.encStarts m.handle | none => s
    ((s.onSeq e (fun q => { q with tile := s.tilePlace (s.narrowTile q true) })).encEffect e).endStage e
  else s

/-- RERANK of a query run whole, its vectors read first (R254, R327). -/
def State.wholeRerank (s : State) (e : Nat) (i : Index) (q : Sequence) : State :=
  let s := (s.beginStage e stRERANK .waiting).onSeq e (fun q => { q with tile := s.tilePlace (s.narrowTile q false) })
  let s := match i.vecTun with
    | some h => if s.homeUp (some h) then s else s.issueFar e h i.vecs i.stride s.now 0
    | none =>
      let ws := i.vecWords q.cands
      let s := s.fetchLines e ws
      match Tab.find s.seqs e with
      | some q => s.usesHeld e q.gotLines ws
      | none => s
  match Tab.find s.seqs e with
  | some q => (if q.poison.isSome then s else s.rerankEffect e).endStage e
  | none => s

/-- ENTRY and the hops of a walk run whole (R251, R281). -/
def State.wholeWalk (s : State) (e : Nat) (i : Index) (q : Sequence) : State :=
  let ls := s.entryLines i (s.viewOf q)
  let s := (s.newIssue e).fetchLines e ls
  match Tab.find s.seqs e with
  | some q =>
    let s := s.usesHeld e q.gotLines ls
    match Tab.find s.seqs e with
    | some q => if q.poison.isSome then s else (s.entryEffect e).hopsWhole e (QueryDesc.fathom q.desc)
    | none => s
  | none => s

/-- Run the stages of a query in order. -/
def State.runQuery (s : State) (e : Nat) : State :=
  match Tab.find s.seqs e with
  | none => s
  | some q =>
    let s := s.wholeEnc e q
    match Tab.find s.seqs e, s.indexOf q with
    | some q, some i =>
      if q.ending.isSome || q.poison.isSome then s
      else
        let s := if i.chn then s.wholeWalk e i q else ((s.cqEffect e).scanEffect e).mergeEffect e
        match Tab.find s.seqs e with
        | some q => if q.poison.isSome || QueryDesc.rerank q.desc = 0 then s else s.wholeRerank e i q
        | none => s
    | _, _ => s

/-- The fold of a publish run whole, step by step while its share has room. -/
def State.foldWhole (s : State) (e : Nat) : Nat → State
  | 0 => s
  | n + 1 =>
    match Tab.find s.seqs e with
    | none => s
    | some q =>
      if s.wcbFree q < s.foldRoom q then s
      else
        let r := ((s.newIssue e).fetchLines e (s.foldWords q)).foldEffect e
        if r.2 then r.1.endStage e else r.1.foldWhole e n

/-- Run the stages of a write before COMMIT. -/
def State.runWrite (s : State) (e : Nat) : State :=
  match Tab.find s.seqs e with
  | none => s
  | some q =>
    let s := s.wholeEnc e q
    match Tab.find s.seqs e with
    | none => s
    | some q =>
      if q.ending.isSome || q.poison.isSome then s
      else if q.opcode = 4 then
        let s := (s.beginStage e stPLACE .waiting).chooseEffect e
        match Tab.find s.seqs e, s.indexOf q with
        | some q', some i =>
          if q'.phase != .done || q'.poison.isSome then s
          else
            let log := match i.retiree with | some r => (i.record r.record).dlcount | none => 0
            (s.beginStage e stFOLD .running).foldWhole e (log + 1)
        | _, _ => s
      else
        let s := (s.beginStage e stPLACE .waiting).takeSems e q
        let r := s.placeReads q
        ((s.fetchLines e (r.1 ++ r.2)).placeEffect e).endStage e

/-- Has a write run whole come to its COMMIT, with the room it needs? -/
def State.wholeDone (s : State) (e : Nat) : Bool :=
  match Tab.find s.seqs e with
  | some q => q.isQuery || (q.phase == .done && s.commitRoom q)
  | none => false

/-- Steps that a query may take before its deadline ends it: the boundary of its commit tick comes before (R118). -/
def State.stepsLeft (s : State) (q : Sequence) : Nat :=
  match q.dline with
  | some t => 1 + (t - 1 - s.now) / stepUnits s.op
  | none => 2 ^ 32 - 1

/-- The number of steps a descriptor takes: free, from 2 to n (log entry 15). -/
def State.freeSteps (s : State) (n : Nat) : Nat := 2 + s.peekFree (n - 1)

/-- Steps pass, with nothing else happening in them (R125, R147). -/
def State.passSteps (s : State) (n : Nat) : State :=
  ({ s with now := s.now + n * stepUnits s.op } : State).count64 Reg.STB_TICK n

/-- May a ring pair's next descriptor be run whole: ACTIVE, nothing staged, one covered by the doorbell (R87, R89), and no other
descriptor admitted? -/
def State.wholeReady (s : State) (p : Nat) (r : Ring) : Bool :=
  s.mayFetch p r && r.staged.isEmpty && r.unfetched != 0 && s.seqs.isEmpty && s.failing.isEmpty

/-- Does nothing stand in the way of running it now: an unsharded index, its turn or its semaphores, and time before its deadline
(R169, R172)? -/
def State.wholeOk (s : State) (e : Nat) (q : Sequence) : Bool :=
  !s.isSharded q && decide (2 ≤ s.stepsLeft q) &&
    (q.isQuery ||
      match s.indexOf q with
      | some i => if q.opcode = 4 then i.pubs.head? == some e else (s.semsBusy e i q).isEmpty
      | none => true)

/-- A descriptor admitted alone runs to its completion, which comes some steps later; a write that finds no room stays where it has
come to. -/
def State.runAdmitted (s : State) (e : Nat) : State :=
  match Tab.find s.seqs e with
  | none => s
  | some q =>
    if !s.wholeOk e q then s
    else
      let n := s.freeSteps (s.stepsLeft q)
      let s := (if q.isQuery then s.drew.runQuery e else s.drew.runWrite e).markTick
      if s.wholeDone e then (s.passSteps (n - 1)).commitSeq e n else s

/-- The descriptor as it would be staged with its operands (R95, R124). -/
def State.stageWhole (s : State) (vf : Nat) (d vec code : List Byte) : Staged :=
  let vn := match descVec d with | some (_, n) => n | none => 0
  let cn := match descCodeAddr d with | some _ => s.codeLen vf d | none => 0
  let x := s.stage vf d
  if x.bad then x else { x with ready := true, share := operandBytes d (s.codeLen vf d), vec := slice vec 0 vn, code := slice code 0 cn }

/-- Run a descriptor of an opcode whole (R108, R124, R126, R134). Where something else is under way, or the descriptor's index is
sharded, it is at most admitted, and goes on by STEP_TICK. -/
def State.runWhole (s : State) (p op : Nat) (desc vec code : List Byte) : State :=
  match Tab.find s.rings p with
  | none => s
  | some r =>
    let d := slice desc 0 128
    let vf := ringVf p
    let x := s.stageWhole vf d vec code
    if !s.wholeReady p r || descOp d != op || 262144 < s.shareUsed vf + x.share then s
    else
      let st := s.admitStatus vf r.stream x.bad d
      if s.missing s.headroom p r d st.isSome != 0 then s
      else
        let s := 
          forAll ((r.sqbase + 128 * r.fetched) :: (((descVec d).map (·.1)).toList ++ (descCodeAddr d).toList)) (fun a s => s.translate vf a) s
        let r' := { r with fetched := (r.fetched + 1) % r.sqsize, staged := [x] }
        let a := (s.setRing p r').admitOne p r' x st
        let s := { a.1 with served := Tab.insert a.1.served r.cls p }
        match st, a.2 with
        | some _, _ =>
          match s.markTick.failing.getLast? with
          | some f => (({ s.markTick with failing := [] } : State).passSteps 1).commitFailing f
          | none => s
        | none, some e => s.runAdmitted e
        | none, none => s

/-- QUERY (R19 to R57, R94 to R97, R101 to R105). -/
def execQuery (p : RingPair) (desc vec code : List Byte) (s : State) : Host.Outcome State Fault Refusal :=
  .next (s.runWhole p 1 desc vec code)

/-- INSERT (R28, R36 to R38, R78, R79, R99). -/
def execInsert (p : RingPair) (desc vec code : List Byte) (s : State) : Host.Outcome State Fault Refusal :=
  .next (s.runWhole p 2 desc vec code)

/-- DELETE (R37, R80). -/
def execDelete (p : RingPair) (desc : List Byte) (s : State) : Host.Outcome State Fault Refusal :=
  .next (s.runWhole p 3 desc [] [])

/-- PUBLISH (R40, R41, R74, R75). -/
def execPublish (p : RingPair) (desc : List Byte) (s : State) : Host.Outcome State Fault Refusal :=
  .next (s.runWhole p 4 desc [] [])

end Sys2Proof.Machine
end

