-- ==== Sys2Proof/Machine/Store.lean ====
section
/-! DEFINITION. Machine/Store.lean: where Sosin firmware places the structures of tenants, what they are charged, and how
their storage is given back (R58, R182, R186, R236, R280, R298, R311). Where the specification leaves a place open, a free
value chooses among the places that it allows (log entry 30). -/

namespace Sys2Proof.Machine

/-! ### Free ranges -/

/-- Free runs of [lo, hi) between used ranges, which rise by start: start and length. -/
def gaps (lo hi : Nat) : List (Nat × Nat) → List (Nat × Nat)
  | [] => if lo < hi then [(lo, hi - lo)] else []
  | (a, n) :: us => (if lo < min a hi then [(lo, min a hi - lo)] else []) ++ gaps (max lo (a + n)) hi us

/-- Ranges by start. -/
def byStart (l : List (Nat × Nat)) : List (Nat × Nat) := sortBy (fun a b => decide (a.1 ≤ b.1)) l

/-- Positions at which n units fit, over the free runs. -/
def positions (n : Nat) (g : List (Nat × Nat)) : Nat := g.foldl (fun t x => t + (x.2 + 1 - n)) 0

/-- The j-th position at which n units fit. -/
def nthPosition (n : Nat) : Nat → List (Nat × Nat) → Option Nat
  | _, [] => none
  | j, (a, l) :: g => if j < l + 1 - n then some (a + j) else nthPosition n (j - (l + 1 - n)) g

/-- Any position at which n units fit (log entry 30). -/
def State.anyPosition (s : State) (n : Nat) (g : List (Nat × Nat)) : Option Nat :=
  let t := positions n g
  if t = 0 then none else nthPosition n (s.peekFree t) g

/-- The lowest position at which n units fit. -/
def lowestPosition (n : Nat) (g : List (Nat × Nat)) : Option Nat := (g.find? (fun x => decide (n ≤ x.2))).map (·.1)

/-! ### Stacked memory -/

/-- Pseudo-channels on which a tenant's structures may not lie, because of quiet partitions (R182). -/
def State.closedPch (s : State) (vf : Nat) : List Nat :=
  let mine := (Tab.find s.tenants vf).map (·.part)
  (List.range 256).filter (fun p =>
    s.parts.any (fun x => x.2.quiet && some x.1 != mine && x.2.roods.contains (p / 16))
      || (match s.partOf vf with
          | some (_, x) => x.quiet && !x.roods.contains (p / 16)
          | none => false))

/-- Granules of the tenant quota that cannot be allocated to a tenant now: owned ones, refused ones (R298), and those on
closed pseudo-channels. -/
def State.usedGranules (s : State) (vf : Nat) : List (Nat × Nat) :=
  let own := s.owners.filterMap (fun (x : Nat × Owner) => if x.2 != .free && x.1 < 736 * 256 then some (x.1, 1) else none)
  let closed := s.closedPch vf
  let more := s.sosin.banned.map (fun g => (g, 1))
    ++ closed.flatMap (fun p => (List.range 736).map (fun l => (l * 256 + p, 1)))
  if more.isEmpty then own else byStart (own ++ more)

/-- Own a list of granules for a tenant and fill them under its key (R184, R280). -/
def State.takeGranules (s : State) (vf : Nat) (gs : List Nat) : State :=
  forAll gs (fun g s => ((s.setOwner g (.vf vf)).zeroRange (g * 2 ^ 21) (2 ^ 21)).inkGranule g (s.keyOf vf).key) s

/-- Granules of `n` bytes of stacked memory. -/
def granulesFor (n : Nat) : Nat := cdiv n (2 ^ 21)

/-- Place `n` bytes of a structure in stacked memory: its address. -/
def State.placeStacked (s : State) (vf n : Nat) : Option (State × Nat) :=
  let k := granulesFor n
  if k = 0 then some (s, 0)
  else match s.anyPosition k (gaps 0 (736 * 256) (s.usedGranules vf)) with
    | some g => some (s.drew.takeGranules vf ((List.range k).map (· + g)), g * 2 ^ 21)
    | none => none

/-- Granules of a region of R bushels on a channel set from local granule lg (R236). -/
def regionGranules (chans : List Nat) (r lg : Nat) : List Nat :=
  (List.range (cdiv r (chans.length * 1024))).flatMap (fun k => chans.map (fun p => (lg + k) * 256 + p))

/-- Base local granules from which a region of R bushels is free on every member (R236). -/
def State.regionBases (s : State) (vf : Nat) (chans : List Nat) (r : Nat) : List Nat :=
  let used := s.usedGranules vf
  (List.range (737 - cdiv r (chans.length * 1024))).filter (fun lg =>
    (regionGranules chans r lg).all (fun g => !used.any (fun u => u.1 == g)))

/-- Place a bushel region: its base local granule. A region of no bushels takes nothing. -/
def State.placeRegion (s : State) (vf : Nat) (chans : List Nat) (r : Nat) : Option (State × Nat) :=
  if r = 0 then some (s, 0)
  else
    let c := s.regionBases vf chans r
    let k := s.peekFree c.length
    match c.drop k with
    | lg :: _ => some (s.drew.takeGranules vf (regionGranules chans r lg), lg)
    | [] => none

/-- Granules that hold `n` bytes from an address. -/
def granulesAt (a n : Nat) : List Nat := (List.range (granulesFor n)).map (· + a / 2 ^ 21)

/-- Granules go back to FREE. Their bytes stay (R186). -/
def State.freeGranules (s : State) (gs : List Nat) : State :=
  { s with owners := gs.foldl (fun t g => Tab.erase t g) s.owners }

/-! ### Sizes of an index (Table 2.1) -/

def Index.listsBytes (i : Index) : Nat := if i.chn then 0 else i.buckets * i.listSpan
def Index.idBytes (i : Index) : Nat := roundUp (8 * i.nmax) 2048
def Index.dirBytes (i : Index) : Nat := 2 ^ i.w * 64
def Index.tombBytes (i : Index) : Nat := roundUp (cdiv i.nmax 64 * 32) 64
def Index.logsBytes (i : Index) : Nat := 5 * i.elog * 8
def Index.vecsBytes (i : Index) : Nat := if i.rerank && i.vecTun.isNone then i.nmax * i.stride else 0

/-- Stacked bytes an index is charged. -/
def Index.stackedNeed (i : Index) : Nat :=
  2048 * i.nbush + i.listsBytes + i.idBytes + i.dirBytes + i.tombBytes + i.logsBytes + i.vecsBytes

/-- Pool bytes an index is charged at creation: centroid table and bucket directory, or entry block; epoch records;
semaphore set. -/
def Index.poolNeed (i : Index) : Nat :=
  (if i.chn then 4096 else roundUp (i.buckets * i.s) 64 + 16 * i.buckets) + 320 + semBytes i.chn

/-- Where its pool structures begin. -/
def Index.poolAt (i : Index) : Nat := if i.chn then i.entries else i.cents

/-- Granules an index holds. -/
def Index.granules (i : Index) : List Nat :=
  regionGranules i.chans i.nbush i.lg0 ++ granulesAt i.lists i.listsBytes ++ granulesAt i.idtab i.idBytes
    ++ granulesAt i.iddir i.dirBytes ++ granulesAt i.tomb i.tombBytes ++ granulesAt (i.record 0).dlbase i.logsBytes
    ++ granulesAt i.vecs i.vecsBytes

/-! ### The pool (R265, Table 7.6) -/

/-- Lines of the pool in use by tenants: first line and number. -/
def State.usedPool (s : State) : List (Nat × Nat) :=
  byStart (s.indexes.map (fun (x : Nat × Index) => ((x.2.poolAt - poolBase) / 64, cdiv x.2.poolNeed 64))
    ++ (s.filters.filter (fun (x : Nat × Filter) => x.2.pool)).map (fun (x : Nat × Filter) =>
        ((x.2.base - poolBase) / 64, cdiv (8 * x.2.grains) 64)))

/-- Free runs in units of `k`, at its multiples. -/
def alignGaps (k : Nat) (g : List (Nat × Nat)) : List (Nat × Nat) := g.map (fun x => (cdiv x.1 k, (x.1 + x.2) / k - cdiv x.1 k))

/-- Alignment of the first pool structure of an index, in lines (Table 2.1): the entry block at 256 B, a centroid table at 64 B. -/
def poolAlign (chn : Bool) : Nat := if chn then 4 else 1

/-- Place `n` bytes in the tenant quota of a group of the tenant's roods, at a multiple of `k` lines (R58, R265): their address. -/
def State.placePool (s : State) (vf n : Nat) (k : Nat := 1) : Option (State × Nat) :=
  match s.partOf vf with
  | none => none
  | some (_, p) =>
    let used := s.usedPool
    let g := p.roods.flatMap (fun r => gaps (r * 2 ^ 18) (r * 2 ^ 18 + 12 * 2 ^ 14) used)
    match s.anyPosition (cdiv n (64 * k)) (alignGaps k g) with
    | some j => some ((s.drew.zeroRange (poolBase + 64 * (k * j)) (roundUp n 64)), poolBase + 64 * (k * j))
    | none => none

/-! ### Far memory (R311) -/

/-- The lowest run of FREE granules of a port that holds `n` bytes: its address. -/
def State.lowestFar (s : State) (port n : Nat) : Option Nat :=
  let lo := granuleOf (farBase port)
  let hi := lo + s.reg (Reg.FTC_CAP port) / 2 ^ 21
  let used := s.owners.filterMap (fun (x : Nat × Owner) => if x.2 != .free && lo ≤ x.1 && x.1 < hi then some (x.1, 1) else none)
  (lowestPosition (n / 2 ^ 21) (gaps lo hi used)).map (· * 2 ^ 21)

/-! ### Charges (R58, R153) -/

def State.charge (s : State) (vf stk pool far : Nat) : State :=
  s.onTenant vf (fun t => { t with stkUsed := t.stkUsed + stk, poolUsed := t.poolUsed + pool, farUsed := t.farUsed + far })

def State.refund (s : State) (vf stk pool far : Nat) : State :=
  s.onTenant vf (fun t => { t with stkUsed := t.stkUsed - stk, poolUsed := t.poolUsed - pool, farUsed := t.farUsed - far })

/-- Would a charge exceed a quota? The DETAIL of QUOTA (Table 13.6). -/
def Tenant.exceeds (t : Tenant) (stk pool far : Nat) : Option Nat :=
  if stk != 0 && decide (t.stkq * 2 ^ 21 < t.stkUsed + stk) then some 0
  else if pool != 0 && decide (t.poolq * 2 ^ 16 < t.poolUsed + pool) then some 1
  else if far != 0 && decide (t.farq * 2 ^ 21 < t.farUsed + far) then some 2
  else none

/-! ### Release -/

/-- Stacked or pool storage of a filter. -/
def State.freeFilter (s : State) (h : Nat) : State :=
  match Tab.find s.filters h with
  | none => s
  | some f =>
    let n := roundUp (8 * f.grains) 64
    let s := { s with filters := Tab.erase s.filters h }
    if f.pool then s.refund f.vf 0 n 0 else (s.freeGranules (granulesAt f.base n)).refund f.vf n 0 0

/-- The storage of an index, its filters with it, and its hold on its encoder. -/
def State.freeIndex (s : State) (h : Nat) : State :=
  match Tab.find s.indexes h with
  | none => s
  | some i =>
    let s := forAll (s.filters.keys (fun f => f.index == h)) (fun f s => s.freeFilter f) s
    let s := match i.encoder with
      | some m => s.onImage m (fun m => { m with bound := m.bound - 1 })
      | none => s
    let s := { s with indexes := Tab.erase s.indexes h }
    (s.freeGranules i.granules).refund i.vf i.stkBytes i.poolBytes 0

/-- Storage of an image homed in stacked memory, once nothing runs on it (R471). -/
def State.freeImage (s : State) (h : Nat) : State :=
  match Tab.find s.images h with
  | none => s
  | some m =>
    let s := { s with images := Tab.erase s.images h }
    match m.tun with
    | some _ => s
    | none => (s.freeGranules (granulesAt m.base m.size)).refund m.vf m.size 0 0

/-- A tun goes: its entries are zeroed and its granules are FREE (R313). -/
def State.freeTun (s : State) (h : Nat) : State :=
  match s.tun h with
  | none => s
  | some t =>
    let s := ({ s with far := { s.far with tuns := Tab.erase s.far.tuns h } } : State).zeroTunEntry t
    let s := t.extents.foldl (fun (s : State) x => s.freeGranules (Machine.granules x.2.1 x.2.2)) s
    s.refund t.vf 0 0 t.size

/-- Is anything homed in a tun: vectors of an index, or an image? -/
def State.tunUsed (s : State) (h : Nat) : Bool :=
  s.indexes.any (fun (x : Nat × Index) => x.2.vecTun == some h) || s.images.any (fun (x : Nat × Image) => x.2.tun == some h)

/-- A destroyed index whose last hold has drained, deleted filters without pins, deleted images on which nothing runs and
deleted tuns that hold nothing give their storage back (R25, R464, R471). -/
def State.reapStores (s : State) : State :=
  let s := forAll (s.indexes.keys (fun i => i.st == .destroying && i.holds == 0)) (fun h s => s.freeIndex h) s
  let s := forAll (s.filters.keys (fun f => f.deleted && f.pins == 0)) (fun h s => s.freeFilter h) s
  let s := forAll (s.images.keys (fun m => m.deleted && m.running == 0)) (fun h s => s.freeImage h) s
  forAll (s.far.tuns.keys (fun t => t.doomed)) (fun h s => if s.tunUsed h then s else s.freeTun h) s

/-- A persistent tun goes OFFLINE because its key has gone (R319, R458). -/
def State.tunOffline (s : State) (h : Nat) : State :=
  match s.tun h with
  | none => s
  | some t => if t.st == .online then (s.setTun h { t with st := .offline }) else s

/-- Sosin firmware deletes every stored structure, image and tun of a tenant. A removal leaves its persistent tuns OFFLINE (R458);
after the FLR of a confidential tenant, `all_`, none stays (R191, Table 12.5). What sequences still hold goes when they have
ended. -/
def State.dropTenantStores (s : State) (vf : Nat) (all_ : Bool) : State :=
  let s := forAll (s.indexes.keys (fun i => i.vf == vf)) (fun h s => s.onIndex h (fun i => { i with st := .destroying })) s
  let s := forAll (s.filters.keys (fun f => f.vf == vf)) (fun h s => s.onFilter h (fun f => { f with deleted := true })) s
  let s := forAll (s.images.keys (fun m => m.vf == vf)) (fun h s => s.onImage h (fun m =>
    { m with deleted := true, bound := 0, resident := false, filling := none, perches := [], pinned := false })) s
  let s := s.onTenant vf (fun t => { t with swset := [] })
  forAll s.far.tuns (fun x s => if x.2.vf != vf then s
    else if x.2.persist && !all_ then s.tunOffline x.1 else s.setTun x.1 { x.2 with doomed := true }) s

/-- Does a tenant hold a stored structure (R186)? An OFFLINE or LOST tun is none (log entry 31). -/
def State.holdsStores (s : State) (vf : Nat) : Bool :=
  s.indexes.any (fun (x : Nat × Index) => x.2.vf == vf) || s.filters.any (fun (x : Nat × Filter) => x.2.vf == vf)
    || s.images.any (fun (x : Nat × Image) => x.2.vf == vf) || s.far.tuns.any (fun x => x.2.vf == vf && x.2.st == .online)

/-- Zeroise a VF's key slot in every base die and in the FTC (R186, R191). The key is gone; the slot reads ZEROISING to the end of
the tick (log entry 120). -/
def State.zeroKey (s : State) (vf : Nat) : State :=
  let s := s.setKey vf {}
  { s with far := { s.far with zeroising := s.far.zeroising ++ [vf] } }

/-- STATE of SEC_KEYSTATE (R193). -/
def State.keyState (s : State) (n : Nat) : Nat :=
  if (s.keyOf n).st = 0 && s.far.zeroising.contains n then 3 else (s.keyOf n).st

/-- Put a key into a slot, and bring back the tuns that wait for it (R185, R319). -/
def State.installKey (s : State) (vf : Nat) (k : KeySlot) : State := (s.setKey vf k).returnTuns

end Sys2Proof.Machine
end

