-- ==== Sys2Proof/Machine/Tenancy.lean ====
section
/-! DEFINITION. Machine/Tenancy.lean: time slices, switches, fills and revocation (R156 to R180, R189, R190). -/

namespace Sys2Proof.Machine

/-- Tenant and length of a slot. -/
def Partition.slotOf (p : Partition) (j : Nat) : Nat × Nat := p.slices.getD j (0, 0)

/-- Does an event of Table 5.5 kill this sequence of the outgoing holder? -/
def Sequence.killedBy (q : Sequence) (quiet : Bool) (vf : Nat) : Bool := q.vf == vf && (quiet || q.elevel == 4) && q.killable

/-- Fills of a switch set (R175, R177). -/
def State.fillSet (s : State) (vf : Nat) : State :=
  match Tab.find s.tenants vf with
  | some t => forAll t.swset (fun h s => (s.startFill h).1) s
  | none => s

/-- Slot j of a partition starts now, up to a boundary (R156, R159): the kills of Table 5.5, and, when the tenant differs, a switch,
which writes back the outgoing tenant's lines of the sequence cache (R174) and fills the images of the incoming one's switch set
(R175). -/
def State.startSlot (s : State) (k j slotEnd : Nat) (kill : Bool) : State :=
  match Tab.find s.parts k with
  | none => s
  | some p =>
    let vf := (p.slotOf j).1
    let out := p.holder
    let differs := out != vf
    let s := s.setPart k { p with slot := j, slotEnd := slotEnd, holder := vf, switching := differs || p.switching }
    let s := if kill && differs then
        forAll (s.seqs.filter (fun (x : Nat × Sequence) => x.2.killedBy p.quiet out)) (fun x s => s.killSeq x.1) s
      else s
    if differs then (s.writeBack out p.quiet).fillSet vf else s

/-- A slot boundary that has come (R156): the next slot of the cycle. While a switch runs, its slot's boundary has not come: it moves
to 10 µs after the end of the switch (R159). -/
def State.slotBoundary (s : State) (k : Nat) : State :=
  match Tab.find s.parts k with
  | none => s
  | some p =>
    if p.slices.isEmpty || p.switching || s.now < p.slotEnd then s
    else
      let j := (p.slot + 1) % p.slices.length
      s.startSlot k j (p.slotEnd + usec (p.slotOf j).2) true

/-- A slice table that PART_SLICES or TENANT_BIND left is installed at a tick: T0 restarts (R156, R455). -/
def State.installSlices (s : State) (k : Nat) : State :=
  match Tab.find s.parts k with
  | none => s
  | some p =>
    match p.install with
    | none => s
    | some l =>
      let p := { p with slices := l, install := none, slot := 0 }
      match l with
      | [] => s.setPart k { p with holder := 0, switching := false }
      | x :: _ => (s.setPart k p).startSlot k 0 (s.now + usec x.2) true

/-- Is an image of the incoming tenant's switch set still being filled (R175)? -/
def State.switchFilling (s : State) (vf : Nat) : Bool :=
  match Tab.find s.tenants vf with
  | some t => t.swset.any (fun h => match Tab.find s.images h with | some m => m.filling.isSome && !m.resident | none => false)
  | none => false

/-- SWITCH_END (R159): the incoming tenant holds the partition, for at least 10 µs. -/
def execSwitchEnd (part : Rood) (s : State) : Host.Outcome State Fault Refusal :=
  match Tab.find s.parts part with
  | none => .next s
  | some p =>
    if p.switching && !s.switchFilling p.holder && s.up then
      .next (s.setPart part { p with switching := false, slotEnd := max p.slotEnd (s.now + usec 10) })
    else .next s

/-- Does a sequence wait for a semaphore or for its turn to publish: neither ready nor in a stage that goes on (R169, R172)? -/
def State.waiter (s : State) (e : Nat) (q : Sequence) : Bool :=
  !q.waitsOn.isEmpty
    || (q.opcode == 4 && q.stage == stPLACE && (match s.indexOf q with | some i => i.pubs.head? != some e | none => false))

/-- Is a sequence ready, its tenant's hold of the partition aside (R127, R158)? -/
def State.readyBut (s : State) (e : Nat) (q : Sequence) : Bool :=
  !q.committing && q.ending.isNone && !s.waiter e q && (q.phase == .done || q.phase == .again)

/-- Ready BE work of a tenant. -/
def State.beReady (s : State) (vf : Nat) : Bool :=
  s.seqs.any (fun (x : Nat × Sequence) => x.2.vf == vf && x.2.elevel == 4 && s.readyBut x.1 x.2)

/-- BE work of a tenant that is ready or has a stage in progress. -/
def State.beBusy (s : State) (vf : Nat) : Bool :=
  s.seqs.any (fun (x : Nat × Sequence) => x.2.vf == vf && x.2.elevel == 4
    && (s.readyBut x.1 x.2 || (!s.waiter x.1 x.2 && (x.2.phase == .running || x.2.phase == .waiting))))

/-- Early handover in shared mode (R158), during a switch too when the incoming tenant has no BE work (log entry 17). -/
def State.earlyHandover (s : State) (k : Nat) : State :=
  match Tab.find s.parts k with
  | none => s
  | some p =>
    let n := p.slices.length
    if p.quiet || n ≤ 1 || s.beBusy p.holder then s
    else
      match ((List.range (n - 1)).map (fun i => (p.slot + 1 + i) % n)).find? (fun j =>
          (p.slotOf j).1 != p.holder && s.beReady (p.slotOf j).1) with
      | some j => s.startSlot k j (s.now + usec (p.slotOf j).2) false
      | none => s

/-- FILL_DONE (R176, R177): the image is resident; its perches hold the bytes of its home. -/
def execFillDone (image : Nat) (s : State) : Host.Outcome State Fault Refusal :=
  .next (s.onImage image (fun m =>
    if m.filling.isSome then { m with resident := true, filling := none, loaded := s.homeBytes m.tun m.base m.size } else m))

/-! ### Revocation (R189, R190, R396) -/

/-- One sequence of a revoked tenant ends. A shard part leaves no report (R396). -/
def State.revokeSeq (s : State) (e : Nat) (silent : Bool) : State :=
  match Tab.find s.seqs e with
  | none => s
  | some q =>
    if q.home.isSome then
      if q.stage = stUPSEND || q.committing then s else (s.discardReads e).release e
    else if q.endable then ((if q.isQuery then s.closeLane e else s)).endSeq e .revoked silent
    else if silent then s.setSeq e { q with silent := true }
    else s

/-- The ring pairs of a VF are gone, every field at its reset value (R88, R491). -/
def State.dropRings (s : State) (vf : Nat) : State :=
  forAll (List.range 16) (fun k s =>
    let p := 16 * (vf - 1) + k
    ({ s with rings := Tab.erase s.rings p } : State).resetRegs (Reg.QFE_SQTAIL p) 64) s

/-- The sequences of a tenant end, one tick after its revocation (R189 rung 2). -/
def State.actRevoke (s : State) (vf : Nat) : State :=
  match Tab.find s.tenants vf with
  | none => s
  | some t =>
    match t.revokeDue with
    | none => s
    | some d =>
      if d ≤ s.tick then
        let s := s.setTenant vf { t with revokeDue := none, silent := false }
        let s := forAll (s.seqs.filter (fun (x : Nat × Sequence) => x.2.vf == vf)) (fun x s => s.revokeSeq x.1 t.silent) s
        -- descriptors that failed at admission commit under their own status, but not after an FLR
        if t.silent then ({ s with failing := s.failing.filter (fun (f : Failing) => ringVf f.rp != vf) } : State).dropRings vf else s
      else s

/-- What ends sequences in rung 2 of a tick, before any kill (R126, R162): cancels, deadlines and timers, and revocations. -/
def State.rungEnds (s : State) : State :=
  let s := (forAll (s.rings.filter (fun (x : Nat × Ring) => !x.2.cancels.isEmpty)) (fun x s => s.actCancels x.1) s).actStrays
  let s := forAll s.seqs (fun x s => (s.actDeadline x.1).homeTimeout x.1) s
  let s := forAll s.fab.lanes (fun l s => s.subtreeTimeout l) s
  forAll s.tenants (fun x s => s.actRevoke x.1) s

/-- Has a slot boundary of a partition come? -/
def State.boundaryDue (s : State) (k : Nat) : Bool :=
  match Tab.find s.parts k with
  | some p => !p.slices.isEmpty && !p.switching && decide (p.slotEnd ≤ s.now)
  | none => false

/-- SLOT_BOUNDARY (R156, R160 to R163): a boundary that has come acts, after everything that ends sequences in the same tick
(R162). -/
def execSlotBoundary (part : Rood) (s : State) : Host.Outcome State Fault Refusal :=
  .next (if s.up then (if s.boundaryDue part then s.rungEnds.slotBoundary part else s) else s)

/-- REVOKE_SEQUENCES (R189). -/
def execRevokeSequences (v : Vf) (s : State) : Host.Outcome State Fault Refusal :=
  .next (if s.up then s.actRevoke (v.val + 1) else s)

/-- Revocation of a tenant at t0 (R189 rung 1): every ring pair of its enters STOPPED, one in FAULT too, keeping its cause (R88), or
DISABLED under an FLR (R190). -/
def State.revokeTenant (s : State) (vf : Nat) (flr : Bool) : State :=
  let s := forAll (s.rings.filter (fun (x : Nat × Ring) => ringVf x.1 == vf)) (fun x s =>
    if flr then s.setReg (Reg.QFE_RSTATE x.1) 0
    else if s.ringState x.1 = 1 || s.ringState x.1 = 3 then
      (s.setReg (Reg.QFE_RSTATE x.1) (s.reg (Reg.QFE_RSTATE x.1) / 4 * 4 + 2)).setRing x.1 { x.2 with signalNow := true }
    else s) s
  s.onTenant vf (fun t => { t with revoked := t.revoked || !flr, revokeDue := some (s.tick + 1), silent := t.silent || flr })

end Sys2Proof.Machine
end

