-- ==== Sys2Proof/Machine/Host.lean ====
section
/-! DEFINITION. Machine/Host.lean: the PCIe host interface: configuration requests, DMA failures, MSI-X, IDE, TDISP and
function-level resets (chapter 12). -/

namespace Sys2Proof.Machine

/-- From configuration ready on, configuration requests are answered (R431, rung 6 of R593), with no valid image too (R569). A
request arrives only once the link has trained. -/
def State.configReady (s : State) : Bool :=
  s.rst.phase == .running || (s.rst.phase == .ladder && (decide (6 ≤ s.reg Reg.RST_STAGE) || s.mc.noImage))

/-- VFs that exist (R411). -/
def State.vfs (s : State) : List Nat := if s.host.vfEnable then (List.range s.host.numVfs).map (· + 1) else []

/-- Does a function exist? -/
def State.fnExists (s : State) (f : Nat) : Bool := f == 0 || s.vfs.contains f

/-- A change of a tenant's binding, access or keys (R486). -/
def State.tenantChanged (s : State) (vf : Nat) : State := if vf = 0 then s else s.setSummary vf 32 1

/-! ### TDISP (R423, R424) -/

def State.tdi (s : State) (vf : Nat) : Nat := (s.fnAt vf).tdi

/-- Is a TDI in CONFIG_LOCKED or RUN? -/
def State.tdiLocked (s : State) (vf : Nat) : Bool := s.tdi vf == 1 || s.tdi vf == 2

def State.setTdi (s : State) (vf st : Nat) : State :=
  (s.setFn vf { s.fnAt vf with tdi := st }).setReg (Reg.HIF_TDISTATE (vf - 1)) st

/-- A confidential tenant's key goes, and with it its stored structures (R186, R191). -/
def State.wipeTenant (s : State) (vf : Nat) : State := ((s.zeroKey vf).dropTenantStores vf true).tenantChanged vf

/-- A locked TDI moves to ERROR: a revocation, and the key goes (R424). No rule gives ARG0's numbers for the events: a free
value (log entry 1). -/
def State.tdiError (s : State) (vf : Nat) : State :=
  if s.tdiLocked vf then
    let s := s.setTdi vf 3
    let s := (s.drew).record { cause := Cause.tdiError, func := vf, subject := vf, arg0 := s.peekFree (2 ^ 32) }
    (s.revokeTenant vf false).wipeTenant vf
  else s

/-- Every locked TDI moves to ERROR. -/
def State.tdiErrors (s : State) (vfs : List Nat) : State := forAll vfs (fun v s => s.tdiError v) s

/-- An open SPDM session on a function's DOE, with Sosin firmware ready. -/
def State.secured (s : State) (f : Nat) : Bool := s.sosin.ready && (s.fnAt f).sessions != 0

/-- Is there a selective stream in Secure that covers a requester ID? -/
def State.covered (s : State) (f : Nat) : Bool :=
  (List.range 4).any (fun k => s.fld (Reg.HIF_IDESTATE k) F.HIF_IDESTATE_STATE == 2
    && s.fld (Reg.HIF_IDESTATE k) F.HIF_IDESTATE_LINK == 0 && (Tab.read s.host.ideCover [] k).contains f)

/-- LOCK_INTERFACE_REQUEST (R423): accepted only for a confidential tenant with a PASID and a Secure selective stream. -/
def execLockInterfaceRequest (v : Vf) (s : State) : Host.Outcome State Fault Refusal :=
  let f := v.val + 1
  let x := s.fnAt f
  match Tab.find s.tenants f, x.pasid with
  | some t, some pasid =>
    if s.secured 0 && s.tdi f = 0 && t.conf && s.covered f && !x.flr then
      let r := [s.host.bars.getD 2 0 + 65536 * v.val, pasid, t.part, t.lcmax, t.seqmax, t.stkq, t.poolq, t.farq, t.perchq, t.pinmax]
      .next ((s.setFn f { x with report := r }).setTdi f 1)
    else .next s
  | _, _ => .next s

/-- START_INTERFACE_REQUEST (R423). -/
def execStartInterfaceRequest (v : Vf) (s : State) : Host.Outcome State Fault Refusal :=
  .next (if s.secured 0 && s.tdi (v.val + 1) = 1 then s.setTdi (v.val + 1) 2 else s)

/-- STOP_INTERFACE_REQUEST (R423, R424): any state to CONFIG_UNLOCKED. -/
def execStopInterfaceRequest (v : Vf) (s : State) : Host.Outcome State Fault Refusal :=
  .next (if s.secured 0 then s.setTdi (v.val + 1) 0 else s)

/-- TDI_ERROR (R424): an event on the list of R424 that no other command stands for. -/
def execTdiError (v : Vf) (s : State) : Host.Outcome State Fault Refusal := .next (s.tdiError (v.val + 1))

/-- Status byte of an INSTALL request (R425), in the order that log entry 32 gives. -/
def State.installStatus (s : State) (vf : Nat) (p : List Byte) : Nat :=
  if p.length != 80 || field p 0 2 != 1 || !zeroAt p 2 6 then 4
  else if !((Tab.find s.tenants vf).any (·.conf)) then 3
  else if !s.tdiLocked vf then 1
  else if s.holdsStores vf then 2
  else 0

/-- INSTALL (R425, R185): over the VF's own DOE session; the response carries the status byte alone. -/
def execInstall (v : Vf) (payload : List Byte) (s : State) : Host.Outcome State Fault Refusal :=
  let f := v.val + 1
  if !s.secured f then .next s
  else
    let st := s.installStatus f payload
    let s := if st = 0 then (s.installKey f { st := 2, keyid := field payload 8 8, key := slice payload 16 64 }).tenantChanged f else s
    .next (s.emit (.doe f (leBytes 1 st)))

/-! ### IDE (R422) -/

/-- IDE_KM (R422): a stream context is set up, at most one of them as the link stream. -/
def execIdeKm (st : Fin 4) (link : Bool) (cover : List Fn) (key : List Byte) (s : State) : Host.Outcome State Fault Refusal :=
  let other := (List.range 4).any (fun k => k != st.val && s.fld (Reg.HIF_IDESTATE k) F.HIF_IDESTATE_STATE != 0
    && s.fld (Reg.HIF_IDESTATE k) F.HIF_IDESTATE_LINK == 1)
  if s.secured 0 && !(link && other) then
    let h := { s.host with ideCover := Tab.write s.host.ideCover [] st.val (cover.map (·.val)),
                           ideKeys := Tab.write s.host.ideKeys [] st.val key }
    .next (({ s with host := h } : State).setReg (Reg.HIF_IDESTATE st.val) (b2n link * 8 + 2))
  else .next s

/-- IDE_FAIL (R422, R424): the stream goes to Insecure, the TLP is dropped, and the locked TDIs on a selective stream go to
ERROR. -/
def execIdeFail (st : Fin 4) (s : State) : Host.Outcome State Fault Refusal :=
  let a := Reg.HIF_IDESTATE st.val
  if s.fld a F.HIF_IDESTATE_STATE = 2 then
    let s := (s.setFld a F.HIF_IDESTATE_STATE 1).record { cause := Cause.ideFail, arg0 := st.val }
    .next (if s.fld a F.HIF_IDESTATE_LINK = 1 then s
      else s.tdiErrors ((Tab.read s.host.ideCover [] st.val).filter (· != 0)))
  else .next s

/-- Every stream is torn down and its keys are erased (R427). -/
def State.dropStreams (s : State) : State :=
  let s := forAll (List.range 4) (fun k s => s.setReg (Reg.HIF_IDESTATE k) 0) s
  { s with host := { s.host with ideCover := [], ideKeys := [] } }

/-! ### Function-level resets (R426 to R428) -/

def State.mbxAt (s : State) (m : Nat) : Mailbox := Tab.read s.sosin.mbx {} m
def State.setMbx (s : State) (m : Nat) (x : Mailbox) : State :=
  { s with sosin := { s.sosin with mbx := Tab.write s.sosin.mbx {} m x } }

/-- t0 of an FLR (R426 rung 1). -/
def State.startFlr (s : State) (f : Nat) : State :=
  let x := s.fnAt f
  if x.flr then s
  else
    let s := s.setFn f { x with flr := true, flrAt := s.now, flrTick := s.tick }
    let s := s.setMbx f { s.mbxAt f with resetting := true }
    if f = 0 then s else s.revokeTenant f true

/-- The end of t0 (R426 rung 1, R489): the function's configuration, MSI-X, ATS, PASID and DOE state return to their reset
values, and so does its summary register; its cache entries and held DMA go. -/
def State.flrConfig (s : State) (f : Nat) : State :=
  let x := s.fnAt f
  let s := s.setFn f { flr := x.flr, flrAt := x.flrAt, flrTick := x.flrTick, tdi := x.tdi }
  let s := s.setReg (summary f) (regReset (summary f))
  { s with host := { s.host with atc := s.host.atc.filter (fun a => a.fn != f) } }

/-- Functions in their FLR. -/
def State.inFlr (s : State) : List Nat := (List.range 65).filter (fun f => (s.fnAt f).flr)

/-- Rung 4 of R426: key and TDI of a confidential tenant, once its sequences have ended. -/
def State.flrWipe (s : State) (f : Nat) : State :=
  if f = 0 || s.seqs.any (fun (x : Nat × Sequence) => x.2.vf == f) then s
  else
    let s := if s.tdi f = 0 then s else s.setTdi f 0
    match Tab.find s.tenants f with
    | some t => if t.conf && ((s.keyOf f).st != 0 || s.holdsStores f) then s.wipeTenant f else s
    | none => s

/-- FLRs at the start of a tick: the end of the tick before (R426 rung 1). -/
def State.flrStart (s : State) : State :=
  forAll s.inFlr (fun f s => if (s.fnAt f).flrTick + 1 = s.tick then s.flrConfig f else s) s

/-- FLRs at the end of a tick (R426 rung 4). -/
def State.flrEnd (s : State) : State :=
  forAll s.inFlr (fun f s => if (s.fnAt f).flrTick < s.tick then s.flrWipe f else s) s

/-- Does a read of a VF hold a far-read tag (R426 rung 3)? -/
def State.farReadsOf (s : State) (f : Nat) : Bool :=
  [0, 1].any (fun n => (s.farAt n).tags.any (fun (x : Nat × FarReq) =>
    x.2.level < 5 && s.owner (granuleOf (64 * x.2.line)) == .vf f))

/-- Slots of a mailbox at the end of an FLR (R426, R440): free, and a command that runs keeps running with its response
discarded. -/
def Mailbox.reset (x : Mailbox) : Mailbox :=
  let keep := x.slots.filter (fun (c : Nat × MbxSlot) => 4 ≤ c.1)
  let run := x.slots.filter (fun (c : Nat × MbxSlot) => c.1 < 4 && c.2.st == 2)
  { slots := run.foldl (fun t c => Tab.insert t (c.1 + 4) { c.2 with discard := true }) keep, resetting := false }

/-- Can the slots of a mailbox be freed: no place of an earlier discarded command is needed again? -/
def Mailbox.canReset (x : Mailbox) : Bool :=
  x.slots.all (fun (c : Nat × MbxSlot) => !(c.1 < 4 && c.2.st == 2) || (Tab.find x.slots (c.1 + 4)).isNone)

/-- Has the key of a function whose FLR runs been zeroised, where the FLR zeroises it (R191, R426 rung 4)? -/
def State.flrKeyGone (s : State) (f : Nat) : Bool :=
  match Tab.find s.tenants f with
  | some t => !t.conf || (s.keyState f == 0 && !s.holdsStores f)
  | none => true

/-- FLR_COMPLETE (R426 rung 6, R427): once the function's sequences and far reads have ended, and a confidential tenant's key is
gone (R191). -/
def execFlrComplete (f : Fn) (s : State) : Host.Outcome State Fault Refusal :=
  let x := s.fnAt f
  if x.flr && decide (x.flrTick < s.tick) && !s.seqs.any (fun (q : Nat × Sequence) => q.2.vf == f.val && f.val != 0) && !s.farReadsOf f
      && s.tdi f = 0 && s.flrKeyGone f && (s.mbxAt f).canReset then
    .next ((s.setFn f { x with flr := false }).setMbx f (s.mbxAt f).reset)
  else .next s

/-- VF_FLR (R426). -/
def execVfFlr (v : Vf) (s : State) : Host.Outcome State Fault Refusal :=
  .next (if s.fnExists (v.val + 1) && s.configReady then s.startFlr (v.val + 1) else s)

/-- An FLR of the PF (R192, R427): VF Enable is cleared, every VF resets and every tenant is revoked, that of a VF that does not
exist now too; every stream and TDI goes, and the configuration space of the PF returns to its reset values. -/
def State.pfFlr (s : State) : State :=
  let s := forAll s.vfs (fun f s => s.startFlr f) s
  let s := forAll (s.tenants.keys (fun _ => true)) (fun f s => if s.vfs.contains f then s else s.revokeTenant f true) s
  let s := forAll ((List.range 64).map (· + 1)) (fun f s => if s.tdi f = 0 then s else s.setTdi f 0) s
  let s := forAll (s.tenants.keys (fun t => t.conf)) (fun f s => s.wipeTenant f) s
  let s := (s.dropStreams).startFlr 0
  { s with host := { l0 := s.host.l0, atc := s.host.atc, protoDue := s.host.protoDue } }

/-- PF_FLR (R427). -/
def execPfFlr (s : State) : Host.Outcome State Fault Refusal := .next (if s.configReady then s.pfFlr else s)

/-- HOST_LINK_DOWN (R427, R429): a hot reset, or the link going down, acts as an FLR of the PF; the latter is recorded. -/
def execHostLinkDown (hot : Bool) (s : State) : Host.Outcome State Fault Refusal :=
  let s := s.pfFlr
  let s := { s with host := { s.host with l0 := false } }
  .next (if hot then s else (s.aer .surpriseDown).record { cause := Cause.hostLinkDown })

/-! ### SR-IOV (R411) -/

/-- VF_ENABLE (R411): VFs 1 to NumVFs appear, or each acts as its FLR. -/
def execVfEnable (on : Bool) (s : State) : Host.Outcome State Fault Refusal :=
  if !s.configReady || (s.fnAt 0).flr || on == s.host.vfEnable then .next s
  else if on then .next { s with host := { s.host with vfEnable := true, vfEnableAt := s.now } }
  else
    let s := forAll s.vfs (fun f s => s.startFlr f) s
    .next { s with host := { s.host with vfEnable := false } }

/-- NUMVFS_WRITE (R411). -/
def execNumvfsWrite (n : Nat) (s : State) : Host.Outcome State Fault Refusal :=
  if !s.configReady || (s.fnAt 0).flr || s.host.vfEnable || 64 < n then .next s
  else .next { s with host := { s.host with numVfs := n } }

/-- SYSTEM_PAGE_SIZE_WRITE (R411): exactly one bit, for 4 KiB to 64 KiB. -/
def execSystemPageSizeWrite (val : Nat) (s : State) : Host.Outcome State Fault Refusal :=
  if !s.configReady || (s.fnAt 0).flr || s.host.vfEnable || !(List.range 5).any (fun k => val == 2 ^ k) then .next s
  else .next { s with host := { s.host with pageSize := val } }

/-! ### MSI-X and Bus Master Enable (R421, R656) -/

/-- Send the message that a pending bit holds, once it may go. -/
def State.sendPending (s : State) (f : Nat) : State :=
  let x := s.fnAt f
  if x.msixPend && x.msixEnable && !x.msixMask && !x.msixFMask && s.maySend f then
    (s.setFn f { x with msixPend := false }).emit (.msi f x.msixAddr x.msixData)
  else s

/-- MSIX_UNMASK (R421). -/
def execMsixUnmask (f : Fn) (s : State) : Host.Outcome State Fault Refusal :=
  .next ((s.setFn f { s.fnAt f with msixMask := false }).sendPending f)

/-- Issue the DMA that waited for Bus Master Enable (R656). -/
def State.releaseDma (s : State) (f : Nat) : State :=
  let x := s.fnAt f
  forAll x.heldDma (fun d s => s.dmaWrite f d.1 d.2) (s.setFn f { x with heldDma := [] })

/-- BUS_MASTER_ENABLE (R421, R424, R656). -/
def execBusMasterEnable (f : Fn) (on : Bool) (s : State) : Host.Outcome State Fault Refusal :=
  let x := s.fnAt f
  if !s.configReady || x.flr || !s.fnExists f then .next s
  else
    let s := s.setFn f { x with bme := on }
    if on then .next (((if s.fatal then s else s.releaseDma f).sendPending f).fatalRequests)
    else .next (s.tdiError f)

/-! ### Configuration requests (R410, R411, R412, R431) -/

/-- Values of the identity fields (Table 12.2). -/
def State.identityOf (s : State) (f : Nat) : CfgOp → Nat
  | .readId => if f = 0 then 0x7A801F3C else 0xFFFFFFFF
  | .readClass => 0x120000A2
  | .readSubsystem => match s.mc.newest 2 0x0102 with | some r => field (flashPayload r) 0 4 | none => 0
  | .readSerial => leNat (slice (Config.identity 0) 0 8)
  | _ => 0

/-- Number of an AER status bit among the events of Table 12.6. -/
def aerOf : Nat → Aer
  | 0 => .unsupportedRequest | 1 => .poisonedTlp | 2 => .completionTimeout | 3 => .completerAbort | 4 => .unexpectedCompletion
  | 5 => .malformedTlp | 6 => .flowControl | 7 => .surpriseDown | 8 => .receiverError | 9 => .badTlp | 10 => .badDllp
  | 11 => .replay | _ => .fec

/-- What a configuration request reads: the fields of one capability together, at their PCI Express positions, controls in the
high half (log entry 13). -/
def State.configRead (s : State) (f : Nat) (op : CfgOp) : Option Nat :=
  match op with
  | .readId | .readClass | .readSubsystem | .readSerial => some (s.identityOf f op)
  | .readSriov => if f = 0 then some (64 + 64 * 2 ^ 16 + s.host.numVfs * 2 ^ 32 + 2 ^ 48 + 2 ^ 56 + 0x7A81 * 2 ^ 64) else some 0
  | .readSriovControl => some (if f = 0 then b2n s.host.vfEnable + 8 * b2n s.host.vfMse else 0)
  | .readCommand => some (4 * b2n (s.fnAt f).bme + (if f = 0 then 2 * b2n s.host.mse else 0))
  | .readMsix => some (2 ^ 14 * b2n (s.fnAt f).msixFMask + 2 ^ 15 * b2n (s.fnAt f).msixEnable)
  | .readPasid => some (20 * 2 ^ 8 + 2 ^ 16 * b2n (s.fnAt f).pasidEnable)
  | .readAts => some (2 ^ 31 * b2n (s.fnAt f).atsEnable)
  | .readTimeout => some (15 + 2 ^ 16 * (s.fnAt f).cto)
  | .readPageSize => if f = 0 then some (31 + s.host.pageSize * 2 ^ 32) else some 0
  | .readReadiness => some 1000000
  | .readAer k => some (b2n (f == 0 && s.host.aer.contains (aerOf k)))
  | .readBar k => some (if f = 0 then s.host.bars.getD k 0 else 0)
  | _ => none

/-- Low bits of a BAR that are its size (R412): PF BAR0 16 MiB, PF BAR2 512 KiB, VF BAR0 64 KiB. -/
def barSize : Nat → Nat
  | 0 => 2 ^ 24 | 1 => 2 ^ 19 | _ => 2 ^ 16

/-- Is VF BAR0 aligned to a VF's span and the system page size? A write keeps the aligned part. -/
def barValue (k a : Nat) : Nat := a % 2 ^ 64 / barSize k * barSize k

/-- What a configuration request writes (R414, R416, R417, R421, R424, R430). -/
def State.configWrite (s : State) (f : Nat) (op : CfgOp) : State :=
  let x := s.fnAt f
  match op with
  | .clearAer k => if f = 0 then { s with host := { s.host with aer := s.host.aer.filter (· != aerOf k) } } else s
  | .writeBar k a =>
    if f != 0 || 3 ≤ k then s
    else
      let s := { s with host := { s.host with bars := s.host.bars.set k (barValue k a) } }
      if k = 2 then s.tdiErrors s.vfs else s
  | .memSpace on => if f = 0 then { s with host := { s.host with mse := on } } else s
  | .vfMemSpace on =>
    if f != 0 then s
    else
      let s := { s with host := { s.host with vfMse := on } }
      if on then s else s.tdiErrors s.vfs
  | .pasidEnable on => if x.pasidEnable == on then s else (s.setFn f { x with pasidEnable := on }).tdiError f
  | .atsEnable on => if x.atsEnable == on then s else (s.setFn f { x with atsEnable := on }).tdiError f
  | .msixEnable on => (s.setFn f { x with msixEnable := on }).sendPending f
  | .msixFunctionMask on => (s.setFn f { x with msixFMask := on }).sendPending f
  | .completionTimeout v => if [0, 1, 2, 5, 6, 9, 10, 13, 14].contains v.toNat then s.setFn f { x with cto := v.toNat } else s
  | _ => s

/-- CONFIG_REQUEST (R411, R426, R431): Configuration Request Retry Status before configuration ready and during an FLR; a VF
never answers so after VF Enable, but for its FLR. -/
def execConfigRequest (f : Fn) (op : CfgOp) (s : State) : Host.Outcome State Fault Refusal :=
  if !s.configReady || (s.fnAt f).flr then .next (s.emit (.config f none))
  else if !s.fnExists f then .next s
  else match s.configRead f op with
    | some v => .next (s.emit (.config f (some v)))
    | none => .next (s.configWrite f op)

/-! ### Requests to closed memory (R411, R414, R415, R424) -/

/-- Address of a request as the host sends it. -/
def State.hostAddr (s : State) (v : BarView) (off : Nat) : Nat :=
  match v with
  | .pf0 => s.host.bars.getD 0 0 + off
  | .pf2 => s.host.bars.getD 1 0 + off
  | .vf f => s.host.bars.getD 2 0 + 65536 * f.val + off

/-- The Unsupported Request of a memory request to a function whose memory is closed (R414, R429), without a record to a VF in
its first millisecond (R411); only a read has a Completion. -/
def State.shutAccess (s : State) (v : BarView) (off : Nat) (read : Bool) : State :=
  let f := barFn v
  let t := if read then s.emit (.readData f none) else s
  if f != 0 && s.host.vfEnable && decide (s.now < s.host.vfEnableAt + msec 1) then t
  else if !s.fnExists f && !(s.fnAt f).flr then s
  else (t.aer .unsupportedRequest).record { cause := Cause.hostUr, func := f, subject := f, addr := s.hostAddr v off }

/-- HOST_UR: a memory read that completes with Unsupported Request: of a function whose memory is closed (R414, R429), of a VF
in its first millisecond (R411), and of a TDI in RUN without the T bit (R424), the last two without a record. -/
def execHostUr (v : BarView) (off : Nat) (secure : Bool) (s : State) : Host.Outcome State Fault Refusal :=
  let f := barFn v
  if f != 0 && s.host.vfEnable && decide (s.now < s.host.vfEnableAt + msec 1) then .next (s.emit (.readData f none))
  else if !s.memOpen f then .next (s.shutAccess v off true)
  else if s.tdi f = 2 && !secure then .next (s.emit (.readData f none))
  else .next s

/-- TDI_BLOCK (R415): a PF access to a ring window of a locked TDI, at an offset in it. -/
def execTdiBlock (p : RingPair) (off : Nat) (s : State) : Host.Outcome State Fault Refusal :=
  .next (if s.memOpen 0 && s.tdiBlocked .pf2 p then s.tdiBlock .pf2 (64 * p.val + off % 64) else s)

/-! ### Address translation (R417, R418) -/

/-- ATS_INVALIDATE (R418): the translations of a range go, once the requests that use them have ended. -/
def execAtsInvalidate (f : Fn) (pasid : Option Nat) (addr len : Nat) (s : State) : Host.Outcome State Fault Refusal :=
  let hit := fun (a : AtcEntry) => a.fn == f.val && a.pasid == pasid && decide (addr < 4096 * (a.page + 1)) && decide (4096 * a.page < addr + len)
  let s := { s with host := { s.host with atc := s.host.atc.filter (fun a => !hit a) } }
  .next ((s.count Reg.HIF_ATCINV 1).emit (.invalidated f))

/-! ### DMA failures (R419, R430) -/

/-- A DMA request of a command fails at a buffer offset (R419): the command will complete with DMA where it uses the
buffer. -/
def State.commandDma (s : State) (m k off : Nat) (f : DmaFault) : State :=
  let x := s.mbxAt m
  match Tab.find x.slots k with
  | some c =>
    if c.st = 2 && !c.ran && bit (field c.copy 2 2) 0 then s.setMbx m { x with slots := Tab.insert x.slots k { c with dma := some (f, off) } }
    else s
  | none => s

/-- Function of a mailbox. The BMC's has none. -/
def mbxFn (m : Nat) : Nat := if m = 65 then 0 else m

/-- A DMA request of the device fails. -/
def State.dmaUseFails (s : State) (u : DmaUse) (k : DmaFault) : State :=
  match u with
  | .sqFetch p => s.sqFetchFails p k
  | .operand p => s.stageOperands p (.fault k) (.fault k)
  | .result e => s.resultFails e k
  | .cqWrite p => s.cqWriteFails p k
  | .command m c off => s.commandDma m c off k

/-- Function a DMA request is made for. -/
def State.dmaFn (s : State) (u : DmaUse) : Nat :=
  match u with
  | .sqFetch p => ringVf p
  | .operand p => ringVf p
  | .cqWrite p => ringVf p
  | .result e => match Tab.find s.seqs e with | some q => q.vf | none => 0
  | .command m _ _ => mbxFn m

/-- ATS_DENIED (R419): only a function with ATS Enable set translates. -/
def execAtsDenied (u : DmaUse) (s : State) : Host.Outcome State Fault Refusal :=
  .next (if (s.fnAt (s.dmaFn u)).atsEnable then s.dmaUseFails u .denied else s)

/-- DMA_TIMEOUT (R419, R430): the completion timeout of the function has passed. -/
def execDmaTimeout (u : DmaUse) (s : State) : Host.Outcome State Fault Refusal := .next (s.dmaUseFails u .timeout)

/-- DMA_ABORT (R419). -/
def execDmaAbort (u : DmaUse) (ca : Bool) (s : State) : Host.Outcome State Fault Refusal :=
  .next (s.dmaUseFails u (if ca then .ca else .ur))

/-- HOST_POISON_RX (R419, R429): a poisoned completion fails its read at once; any other poisoned TLP is dropped. -/
def execHostPoisonRx (f : Fn) (u : Option DmaUse) (s : State) : Host.Outcome State Fault Refusal :=
  .next (match u with
    | some u => s.dmaUseFails u .poison
    | none => (s.aer .poisonedTlp).record { cause := Cause.hostPoisonRx, func := f, subject := f })

/-! ### Link events (R409, R429, R504) -/

/-- HOST_PROTO (R429, R504): kind 0 an unexpected completion, which is dropped; 1 a malformed TLP; 2 a flow-control error. The
latter two enter the fatal state unless the link is back in L0 within 1 s. -/
def execHostProto (kind : Fin 3) (s : State) : Host.Outcome State Fault Refusal :=
  if kind.val = 0 then .next ((s.aer .unexpectedCompletion).record { cause := { Cause.hostProto with sev := 2 } })
  else
    let s := s.aer (if kind.val = 1 then .malformedTlp else .flowControl)
    let r := s.occur { cause := Cause.hostProto }
    let s := r.1
    .next { s with host := { s.host with protoDue := s.host.protoDue <|> some (s.now + msec 1000, r.2) } }

/-- HOST_PROTO_RECOVERY_TIMEOUT (R504). -/
def execHostProtoRecoveryTimeout (s : State) : Host.Outcome State Fault Refusal :=
  match s.host.protoDue with
  | some (t, n) =>
    if t ≤ s.now then .next (({ s with host := { s.host with protoDue := none } } : State).fatalOccur 4 0x040A n) else .next s
  | none => .next s

/-- HOST_LINK_CE (R429): the link recovers. -/
def execHostLinkCe (kind : Fin 5) (s : State) : Host.Outcome State Fault Refusal :=
  .next ((s.aer (match kind.val with | 0 => .receiverError | 1 => .badTlp | 2 => .badDllp | 3 => .replay | _ => .fec)).record
    { cause := Cause.hostLinkCe })

/-- The host link trains: HIF_LSTAT, and the end of a HOST_PROTO recovery (R432, R504). -/
def State.hostTrained (s : State) (rate width : Nat) (flit l0p : Bool) : State :=
  let s := s.setReg Reg.HIF_LSTAT (b2n l0p * 512 + b2n flit * 256 + width % 16 * 16 + rate % 16)
  { s with host := { s.host with l0 := true, protoDue := none } }

/-- HOST_DEGRADED (R409): a training that settles below x4, or at 5 GT/s or less. WIDTH is log₂ of the lanes. -/
def execHostDegraded (rate width : Nat) (flit : Bool) (s : State) : Host.Outcome State Fault Refusal :=
  if width < 2 || rate ≤ 2 then
    .next ((s.hostTrained rate width flit false).record { cause := Cause.hostDegraded, arg0 := rate, arg1 := width })
  else .next s

end Sys2Proof.Machine
end

