-- ==== Sys2Proof/Machine/Sha.lean ====
section
/-! DEFINITION. Machine/Sha.lean: SHA-384 (FIPS 180-4), by which model images, checkpoints, firmware and meter records are
digested (R77, R323, R545, R564). -/

namespace Sys2Proof.Machine.Sha

/-- Round constants 0 to 39. -/
def roundA : List Nat := [
  0x428A2F98D728AE22, 0x7137449123EF65CD, 0xB5C0FBCFEC4D3B2F, 0xE9B5DBA58189DBBC,
  0x3956C25BF348B538, 0x59F111F1B605D019, 0x923F82A4AF194F9B, 0xAB1C5ED5DA6D8118,
  0xD807AA98A3030242, 0x12835B0145706FBE, 0x243185BE4EE4B28C, 0x550C7DC3D5FFB4E2,
  0x72BE5D74F27B896F, 0x80DEB1FE3B1696B1, 0x9BDC06A725C71235, 0xC19BF174CF692694,
  0xE49B69C19EF14AD2, 0xEFBE4786384F25E3, 0x0FC19DC68B8CD5B5, 0x240CA1CC77AC9C65,
  0x2DE92C6F592B0275, 0x4A7484AA6EA6E483, 0x5CB0A9DCBD41FBD4, 0x76F988DA831153B5,
  0x983E5152EE66DFAB, 0xA831C66D2DB43210, 0xB00327C898FB213F, 0xBF597FC7BEEF0EE4,
  0xC6E00BF33DA88FC2, 0xD5A79147930AA725, 0x06CA6351E003826F, 0x142929670A0E6E70,
  0x27B70A8546D22FFC, 0x2E1B21385C26C926, 0x4D2C6DFC5AC42AED, 0x53380D139D95B3DF,
  0x650A73548BAF63DE, 0x766A0ABB3C77B2A8, 0x81C2C92E47EDAEE6, 0x92722C851482353B]

/-- Round constants 40 to 79. -/
def roundB : List Nat := [
  0xA2BFE8A14CF10364, 0xA81A664BBC423001, 0xC24B8B70D0F89791, 0xC76C51A30654BE30,
  0xD192E819D6EF5218, 0xD69906245565A910, 0xF40E35855771202A, 0x106AA07032BBD1B8,
  0x19A4C116B8D2D0C8, 0x1E376C085141AB53, 0x2748774CDF8EEB99, 0x34B0BCB5E19B48A8,
  0x391C0CB3C5C95A63, 0x4ED8AA4AE3418ACB, 0x5B9CCA4F7763E373, 0x682E6FF3D6B2B8A3,
  0x748F82EE5DEFB2FC, 0x78A5636F43172F60, 0x84C87814A1F0AB72, 0x8CC702081A6439EC,
  0x90BEFFFA23631E28, 0xA4506CEBDE82BDE9, 0xBEF9A3F7B2C67915, 0xC67178F2E372532B,
  0xCA273ECEEA26619C, 0xD186B8C721C0C207, 0xEADA7DD6CDE0EB1E, 0xF57D4F7FEE6ED178,
  0x06F067AA72176FBA, 0x0A637DC5A2C898A6, 0x113F9804BEF90DAE, 0x1B710B35131C471B,
  0x28DB77F523047D84, 0x32CAAB7B40C72493, 0x3C9EBE0A15C9BEBC, 0x431D67C49C100D4C,
  0x4CC5D4BECB3E42B6, 0x597F299CFC657E2A, 0x5FCB6FAB3AD6FAEC, 0x6C44198C4A475817]

/-- Initial hash value of SHA-384. -/
def initial : List Nat := [
  0xCBBB9D5DC1059ED8, 0x629A292A367CD507, 0x9159015A3070DD17, 0x152FECD8F70E5939,
  0x67332667FFC00B31, 0x8EB44A8768581511, 0xDB0C2E0D64F98FA7, 0x47B5481DBEFA4FA4]

abbrev M : Nat := 2 ^ 64

def rotr (n x : Nat) : Nat := x / 2 ^ n + x % 2 ^ n * 2 ^ (64 - n)
def add (a b : Nat) : Nat := (a + b) % M
def bigS0 (x : Nat) : Nat := rotr 28 x ^^^ rotr 34 x ^^^ rotr 39 x
def bigS1 (x : Nat) : Nat := rotr 14 x ^^^ rotr 18 x ^^^ rotr 41 x
def smallS0 (x : Nat) : Nat := rotr 1 x ^^^ rotr 8 x ^^^ x / 2 ^ 7
def smallS1 (x : Nat) : Nat := rotr 19 x ^^^ rotr 61 x ^^^ x / 2 ^ 6
def ch (x y z : Nat) : Nat := (x &&& y) ^^^ ((M - 1 - x) &&& z)
def maj (x y z : Nat) : Nat := (x &&& y) ^^^ (x &&& z) ^^^ (y &&& z)

/-- The working variables. -/
structure Vars where
  a : Nat
  b : Nat
  c : Nat
  d : Nat
  e : Nat
  f : Nat
  g : Nat
  h : Nat
deriving DecidableEq, Repr

def Vars.round (v : Vars) (k w : Nat) : Vars :=
  let t1 := (v.h + bigS1 v.e + ch v.e v.f v.g + k + w) % M
  let t2 := (bigS0 v.a + maj v.a v.b v.c) % M
  { a := add t1 t2, b := v.a, c := v.b, d := v.c, e := add v.d t1, f := v.e, g := v.f, h := v.g }

def Vars.add (x y : Vars) : Vars :=
  { a := Sha.add x.a y.a, b := Sha.add x.b y.b, c := Sha.add x.c y.c, d := Sha.add x.d y.d,
    e := Sha.add x.e y.e, f := Sha.add x.f y.f, g := Sha.add x.g y.g, h := Sha.add x.h y.h }

def beNat (l : List Byte) : Nat := l.foldl (fun a b => 256 * a + b.toNat) 0

def beBytes : Nat → Nat → List Byte
  | 0, _ => []
  | n + 1, v => BitVec.ofNat 8 (v / 256 ^ n) :: beBytes n v

/-- The message schedule: the last 16 words, oldest first, give the next one. -/
def next (w : List Nat) : Nat := (smallS1 (w.getD 14 0) + w.getD 9 0 + smallS0 (w.getD 1 0) + w.getD 0 0) % M

/-- The 80 rounds. -/
def rounds : List Nat → List Nat → Vars → Vars
  | [], _, v => v
  | k :: ks, w, v => rounds ks (w.drop 1 ++ [next w]) (v.round k (w.headD 0))

def block (v : Vars) (bs : List Byte) : Vars :=
  let w := (List.range 16).map (fun i => beNat (slice bs (8 * i) 8))
  v.add (rounds (roundA ++ roundB) w v)

def blocks : Nat → List Byte → Vars → Vars
  | 0, _, v => v
  | n + 1, bs, v => blocks n (bs.drop 128) (block v (bs.take 128))

/-- Padding to whole blocks. -/
def pad (m : List Byte) : List Byte :=
  let z := (239 - m.length % 128) % 128
  m ++ [128] ++ List.replicate z 0 ++ beBytes 16 (8 * m.length)

def start : Vars :=
  let i := fun k => initial.getD k 0
  { a := i 0, b := i 1, c := i 2, d := i 3, e := i 4, f := i 5, g := i 6, h := i 7 }

end Sys2Proof.Machine.Sha

namespace Sys2Proof.Machine

/-- The 48 bytes of SHA-384. -/
def sha384 (m : List Byte) : List Byte :=
  let p := Sha.pad m
  let v := Sha.blocks (p.length / 128) p Sha.start
  [v.a, v.b, v.c, v.d, v.e, v.f].flatMap (Sha.beBytes 8)

end Sys2Proof.Machine
end

