-- ==== Sys2Proof/Machine/Sosin.lean ====
section
/-! DEFINITION. Machine/Sosin.lean: how a Sosin command passes through a mailbox: doorbells, acceptance, the checks of R448,
order, completion and the BMC's mailbox (R433 to R453, R483). -/

namespace Sys2Proof.Machine

/-! ### The command index (Table 13.8) -/

/-- A row of Table 13.8: opcode; mailboxes O, T and B; class 0 FAST, 1 MEDIUM, 2 LONG; abortable; and the listed bytes of its
request payload (first and last). -/
structure CmdRow where
  op : Nat
  o : Bool
  t : Bool
  b : Bool
  cls : Nat
  abortable : Bool
  fields : List (Nat × Nat)
deriving DecidableEq, Repr

def cmdRowsA : List CmdRow := [
  ⟨0x0001, true, true, true, 0, false, []⟩, ⟨0x0002, true, false, true, 0, false, []⟩,
  ⟨0x0003, true, false, true, 1, false, [(0, 0), (4, 7)]⟩,
  ⟨0x0101, true, false, false, 1, false, [(0, 3), (8, 39)]⟩, ⟨0x0102, true, false, false, 1, false, [(0, 5), (8, 39)]⟩,
  ⟨0x0103, true, false, false, 1, false, [(0, 0)]⟩, ⟨0x0104, true, false, false, 0, false, [(0, 1)]⟩,
  ⟨0x0105, true, false, false, 1, false, [(0, 23)]⟩, ⟨0x0106, true, false, false, 1, false, [(0, 2), (4, 19)]⟩,
  ⟨0x0107, true, false, false, 1, false, [(0, 0)]⟩, ⟨0x0108, true, false, false, 0, false, [(0, 0)]⟩,
  ⟨0x0109, true, false, false, 2, false, [(0, 0)]⟩, ⟨0x010A, true, false, false, 1, false, [(0, 0), (8, 15)]⟩,
  ⟨0x010B, true, false, false, 0, false, [(0, 3)]⟩, ⟨0x010C, true, true, true, 0, false, [(0, 0)]⟩]

def cmdRowsB : List CmdRow := [
  ⟨0x0201, false, true, false, 2, true, [(0, 6), (8, 77), (96, 127)]⟩, ⟨0x0202, false, true, false, 1, false, [(0, 7)]⟩,
  ⟨0x0203, false, true, false, 2, true, [(0, 10), (16, 39)]⟩, ⟨0x0204, true, true, false, 0, false, [(0, 9)]⟩,
  ⟨0x0205, false, true, false, 0, false, [(0, 15)]⟩, ⟨0x0206, false, true, false, 2, true, [(0, 9), (16, 31)]⟩,
  ⟨0x0207, false, true, false, 2, true, [(0, 47)]⟩, ⟨0x0208, false, true, false, 2, true, [(0, 15)]⟩,
  ⟨0x0301, false, true, false, 2, true, [(0, 8)]⟩, ⟨0x0302, false, true, false, 1, false, [(0, 11)]⟩,
  ⟨0x0401, false, true, false, 2, true, [(0, 1), (8, 55)]⟩, ⟨0x0402, false, true, false, 1, false, [(0, 7)]⟩,
  ⟨0x0403, false, true, false, 2, false, [(0, 7)]⟩, ⟨0x0404, false, true, false, 2, false, [(0, 7)]⟩,
  ⟨0x0405, false, true, false, 0, false, [(0, 7)]⟩, ⟨0x0406, false, true, false, 0, false, [(0, 0)]⟩,
  ⟨0x0407, true, true, false, 0, false, []⟩, ⟨0x0501, false, true, false, 0, false, [(0, 2), (4, 5), (8, 31)]⟩,
  ⟨0x0502, false, true, false, 2, false, [(0, 0)]⟩, ⟨0x0503, true, true, false, 0, false, [(0, 4)]⟩]

def cmdRowsC : List CmdRow := [
  ⟨0x0601, false, true, false, 1, false, [(0, 18), (24, 31)]⟩, ⟨0x0602, true, true, false, 1, false, [(0, 16)]⟩,
  ⟨0x0603, true, true, false, 0, false, [(0, 16)]⟩, ⟨0x0604, false, true, false, 2, true, [(0, 0), (8, 31)]⟩,
  ⟨0x0701, true, false, false, 1, false, [(0, 7)]⟩, ⟨0x0702, true, false, true, 0, false, []⟩,
  ⟨0x0801, true, false, false, 2, false, [(0, 7)]⟩, ⟨0x0802, true, false, false, 0, false, [(0, 1)]⟩,
  ⟨0x0803, true, false, false, 1, false, [(0, 12)]⟩, ⟨0x0901, true, false, false, 0, false, [(0, 9)]⟩,
  ⟨0x0902, false, true, false, 0, false, [(0, 0)]⟩, ⟨0x0903, true, false, true, 0, false, []⟩,
  ⟨0x0904, true, false, true, 1, false, [(0, 0)]⟩, ⟨0x0A01, true, true, true, 0, false, [(0, 10)]⟩,
  ⟨0x0A02, true, true, true, 0, false, []⟩, ⟨0x0B01, true, true, true, 0, false, [(0, 1), (8, 15)]⟩,
  ⟨0x0B02, true, false, false, 0, false, [(0, 0), (8, 15)]⟩, ⟨0x0B03, true, false, false, 0, false, [(0, 0), (2, 3)]⟩,
  ⟨0x0C01, true, false, false, 2, true, []⟩, ⟨0x0C02, true, false, false, 0, false, [(0, 1)]⟩,
  ⟨0x0C03, true, false, true, 0, false, []⟩, ⟨0x0D01, true, false, false, 1, false, []⟩,
  ⟨0x0D02, true, false, false, 1, false, []⟩]

def cmdRow? (op : Nat) : Option CmdRow := (cmdRowsA ++ cmdRowsB ++ cmdRowsC).find? (fun r => r.op == op)

/-- Listed bytes of a request, the entries of PART_SLICES and SWSET that its own count names included (R453). -/
def CmdRow.listed (r : CmdRow) (p : List Byte) : List (Nat × Nat) :=
  if r.op = 0x0104 then r.fields ++ (List.range (min (field p 1 1) 16)).flatMap (fun j => [(8 + 8 * j, 8 + 8 * j), (12 + 8 * j, 15 + 8 * j)])
  else if r.op = 0x0406 then r.fields ++ (List.range (min (field p 0 1) 4)).map (fun i => (8 + 8 * i, 15 + 8 * i))
  else r.fields

/-! ### Statuses (Table 13.6) -/

def sOK : Nat := 0x00
def sABORTED : Nat := 0x01
def sMALFORMED : Nat := 0x10
def sBADOP : Nat := 0x11
def sPERM : Nat := 0x12
def sRANGE : Nat := 0x13
def sSTATE : Nat := 0x14
def sNOOBJ : Nat := 0x15
def sEXISTS : Nat := 0x16
def sQUOTA : Nat := 0x17
def sNOSPACE : Nat := 0x18
def sBUSY : Nat := 0x19
def sDMA : Nat := 0x1A
def sIMAGE : Nat := 0x1B
def sPERCH : Nat := 0x1C
def sUNREACH : Nat := 0x1D
def sDAMAGED : Nat := 0x1E
def sSIGN : Nat := 0x1F
def sROLLBACK : Nat := 0x20
def sINTERNAL : Nat := 0x30

/-- What a command answers. -/
structure Reply where
  status : Nat := 0
  detail : Nat := 0
  payload : List Byte := []
  buf : List Byte := []
  wait : Wait := .none
  recseq : Nat := 0
  exchange : Option Exchange := none
deriving DecidableEq, Repr

/-- A command as it runs: its mailbox and place, its function, its request payload, and its buffer. -/
structure Cmd where
  m : Nat
  k : Nat
  fn : Nat
  payload : List Byte
  hasBuf : Bool
  addr : Nat
  len : Nat
  dma : Option (DmaFault × Nat)
  /-- Bytes that its DMA reads bring. -/
  data : List Byte
  /-- Set for a shard's part of a command of another device. -/
  part : Bool := false
deriving DecidableEq, Repr

/-- A field of the request payload. -/
def Cmd.fld (c : Cmd) (off n : Nat) : Nat := field c.payload off n
def Cmd.raw (c : Cmd) (off n : Nat) : List Byte := slice c.payload off n
/-- A command of the operator or of the BMC. -/
def Cmd.operator (c : Cmd) : Bool := c.m == 0 || c.m == 65

def refuse (st det : Nat) : Reply := { status := st, detail := det }

/-- The first check that fails decides (R448). -/
def firstFail : List (Bool × Nat × Nat) → Option Reply
  | [] => none
  | (f, st, det) :: l => if f then some (refuse st det) else firstFail l

/-- Run `f` when no check fails. -/
def checked (s : State) (l : List (Bool × Nat × Nat)) (f : State → State × Reply) : State × Reply :=
  match firstFail l with
  | some r => (s, r)
  | none => f s

/-- Read the buffer of a command (R419, R656): DMA with its record, or the bytes. -/
def Cmd.readBuf (c : Cmd) (s : State) (f : List Byte → State → State × Reply) : State × Reply :=
  if c.part then f c.data s
  else if !(s.fnAt c.fn).bme then (s, refuse sDMA 0)
  else match c.dma with
    | some (k, off) => (s.dmaFailed c.fn (c.addr + off) k, refuse sDMA off)
    | none => f (slice c.data 0 c.len) (s.translate c.fn c.addr)

/-! ### Mailboxes -/

def State.slotAt (s : State) (m k : Nat) : MbxSlot := Tab.read (s.mbxAt m).slots {} k
def State.setSlot (s : State) (m k : Nat) (x : MbxSlot) : State :=
  let b := s.mbxAt m
  s.setMbx m { b with slots := Tab.write b.slots {} k x }

/-- STATE of MBX_INFO: 0 NOTREADY, 1 READY, 2 RESETTING, 3 FATAL (R440). -/
def State.mbxState (s : State) (m : Nat) : Nat :=
  if !s.sosin.ready then 0 else if s.fatal then 3 else if (s.mbxAt m).resetting then 2 else 1

/-- All commands in flight or posted: mailbox, place and slot. -/
def State.slots (s : State) : List (Nat × Nat × MbxSlot) :=
  s.sosin.mbx.flatMap (fun (b : Nat × Mailbox) => b.2.slots.map (fun (c : Nat × MbxSlot) => (b.1, c.1, c.2)))

/-- Commands accepted and not DONE. -/
def State.running (s : State) : List (Nat × Nat × MbxSlot) := s.slots.filter (fun x => x.2.2.st == 2)

/-- A write of a slot bit that does nothing: a count and a record (R436). -/
def State.slotMisuse (s : State) (m v : Nat) : State :=
  (s.count (Reg.MBX_MALF m) 1).record { cause := Cause.mbxSlot, func := mbxFn m, subject := m, arg0 := v }

/-- A SUBMIT bit posts a FREE slot. -/
def State.submit (s : State) (m k : Nat) : State :=
  let x := s.slotAt m k
  let n := s.sosin.nextOrder
  ({ s with sosin := { s.sosin with nextOrder := n + 1 } } : State).setSlot m k { x with st := 1, order := n }

/-- Apply a change to each slot that a mask names and that stands in state `st`; any other bit is a misuse (R436). -/
def State.slotBits (s : State) (m v st : Nat) (f : Nat → State → State) : State :=
  let l := bitList v 4
  let bad := l.any (fun k => (s.slotAt m k).st != st)
  let s := forAll (l.filter (fun k => (s.slotAt m k).st == st)) f s
  if bad then s.slotMisuse m v else s

/-- May the host write a mailbox register now? -/
def State.mbxOpen (s : State) (m : Nat) : Bool := m != 65 && s.memOpen m && !s.inReset

/-- A host write of a mailbox register discards the low half that its function's write shadow holds (R8). -/
def State.touchMbx (s : State) (m : Nat) : State := if s.mbxOpen m then s.dropHeld m else s

def State.mbxDoorbell (s : State) (m v : Nat) : State :=
  if !s.mbxOpen m || (s.mbxAt m).resetting then s else s.slotBits m v 0 (fun k s => s.submit m k)

/-- MBX_DOORBELL (R436, R440). -/
def execMbxDoorbell (m : Mbx) (mask : BitVec 4) (s : State) : Host.Outcome State Fault Refusal :=
  .next ((s.touchMbx m).mbxDoorbell m mask.toNat)

def State.mbxAck (s : State) (m v : Nat) : State :=
  if !s.mbxOpen m || (s.mbxAt m).resetting then s
  else s.slotBits m v 3 (fun k s => s.setSlot m k { s.slotAt m k with st := 0 })

/-- MBX_ACK (R436). -/
def execMbxAck (m : Mbx) (mask : BitVec 4) (s : State) : Host.Outcome State Fault Refusal :=
  .next ((s.touchMbx m).mbxAck m mask.toNat)

/-- Is the command of a slot abortable (Table 13.8)? -/
def MbxSlot.abortable (x : MbxSlot) : Bool := match cmdRow? (field x.copy 0 2) with | some r => r.abortable | none => false

def State.mbxAbort (s : State) (m v : Nat) : State :=
  if !s.mbxOpen m then s
  else forAll (bitList v 4) (fun k s =>
    let x := s.slotAt m k
    if x.st = 2 && x.abortable then s.setSlot m k { x with abort := true } else s) s

/-- MBX_ABORT (R442). -/
def execMbxAbort (m : Mbx) (mask : BitVec 4) (s : State) : Host.Outcome State Fault Refusal :=
  .next ((s.touchMbx m).mbxAbort m mask.toNat)

/-! ### Acceptance (R437, R439, R446, R448) -/

/-- Places in use by mailbox 0, mailbox 65 and the VFs, and the places each has (R439). -/
def State.hasPlace (s : State) (m : Nat) : Bool :=
  let used := fun (p : Nat → Bool) => (s.running.filter (fun x => p x.1)).length
  if m = 0 then decide (used (· == 0) < 4)
  else if m = 65 then decide (used (· == 65) < 2)
  else decide (used (fun n => n != 0 && n != 65) < 58)

/-- Faults of a command header (Table 13.3), the lowest first. -/
def cmdFault (m : Nat) (r : List Byte) (msgLen : Option Nat) : Option Nat :=
  let flags := field r 2 2
  let buf := bit flags 0
  let plen := field r 8 4
  if 4 ≤ flags || (m = 65 && buf) then some 2
  else if 448 < plen || plen % 4 != 0 || (match msgLen with | some n => decide (n < 32 + plen) | none => false) then some 8
  else match (List.range 4).find? (fun k => slice r (12 + k) 1 != [0]) with
    | some k => some (12 + k)
    | none =>
      if (if buf then field r 16 8 % 64 != 0 else field r 16 8 != 0) then some 16
      else if (if buf then field r 24 8 % 64 != 0 else field r 24 8 != 0) then some 24
      else none

/-- Commands a VF may issue while it is not bound, and while it is revoked (R446). -/
def unboundOps : List Nat := [0x0001, 0x010C, 0x0A02]
def revokedOps : List Nat := unboundOps ++ [0x0204, 0x0603, 0x0407, 0x0A01, 0x0B01]

/-- May a mailbox issue a command (R446, R452)? -/
def State.mayIssue (s : State) (m : Nat) (r : CmdRow) : Bool :=
  if m = 0 then r.o else if m = 65 then r.b
  else r.t && (match Tab.find s.tenants m with
    | none => unboundOps.contains r.op
    | some t => !t.revoked || revokedOps.contains r.op)

/-- Checks 1 to 3 of R448, and FATAL of R440. DESIGN CHOICE: in the fatal state a command that its mailbox may not issue completes with
STATE, as R440 says of every other command, and not with PERM (log entry 123). -/
def State.earlyCheck (s : State) (m : Nat) (req : List Byte) (msgLen : Option Nat) : Option Reply :=
  match cmdFault m req msgLen with
  | some d => some (refuse sMALFORMED d)
  | none =>
    match cmdRow? (field req 0 2) with
    | none => some (refuse sBADOP 0)
    | some r =>
      if s.fatal && !([0x0001, 0x0002, 0x0B01].contains r.op) then some (refuse sSTATE 0)
      else if !s.mayIssue m r then some (refuse sPERM 0)
      else none

/-- The answer of a command in its place. A response payload is whole 4 B words, as PLEN is (Table 13.3; log entry 53). -/
def MbxSlot.answer (x : MbxSlot) (r : Reply) : MbxSlot :=
  { x with ran := true, status := r.status, detail := r.detail, payload := slice r.payload 0 (roundUp r.payload.length 4), buf := r.buf, wait := r.wait,
           recseq := r.recseq, exchange := r.exchange }

/-- The posted slot that is accepted next: the first in doorbell order that finds a place. -/
def State.nextPosted (s : State) : Option (Nat × Nat × MbxSlot) :=
  (s.slots.filter (fun x => x.2.2.st == 1 && s.hasPlace x.1)).foldl (fun (b : Option (Nat × Nat × MbxSlot)) x => match b with
    | none => some x
    | some y => if x.2.2.order < y.2.2.order then some x else some y) none

/-- Accept a posted slot: its request is copied (R437), and the early checks are made. -/
def State.accept (s : State) (m k : Nat) (x : MbxSlot) : State :=
  let req := slice x.req 0 480
  let n := s.sosin.nextAccept
  let y : MbxSlot := { req := x.req, resp := x.resp, st := 2, order := x.order, accepted := n, copy := req, since := s.now }
  let y := match s.earlyCheck m req (if m = 65 then some x.req.length else none) with
    | some r => y.answer r
    | none => y
  (({ s with sosin := { s.sosin with nextAccept := n + 1 } } : State).act 16 (if m = 65 then 0 else mbxFn m) 1).setSlot m k y

/-- COMMAND_ACCEPT (R437, R439, R440). -/
def execCommandAccept (s : State) : Host.Outcome State Fault Refusal :=
  if !s.sosin.ready || s.inReset then .next s
  else match s.nextPosted with
    | some (m, k, x) => .next (s.accept m k x)
    | none => .next s

/-! ### Order of commands (R444, Table 13.5) -/

/-- An object that a command names. -/
inductive Obj where
  | part (k : Nat)
  | rood (r : Nat)
  | tenant (v : Nat)
  /-- A tenant and every object it owns. -/
  | owned (v : Nat)
  | ring (p : Nat)
  | index (v h : Nat)
  | filter (v h : Nat)
  | image (v h : Nat)
  | tun (v : Nat) (name : List Byte)
  /-- Commands of a function that use a host buffer: used, or changed under them. -/
  | buffers (f : Nat)
  | pasid (f : Nat)
  | pch (p : Nat)
  | fmap
  | shardedIndex
  | policy
  | updates
  | all
deriving DecidableEq, Repr

def Obj.ofVf : Obj → Option Nat
  | .tenant v => some v
  | .ring p => some (ringVf p)
  | .index v _ => some v
  | .filter v _ => some v
  | .image v _ => some v
  | .tun v _ => some v
  | _ => none

/-- Do two names meet in one object? -/
def Obj.meets (a b : Obj) : Bool :=
  match a, b with
  | .all, _ => true
  | _, .all => true
  | .owned v, .owned w => v == w
  | .owned v, x => x.ofVf == some v
  | x, .owned v => x.ofVf == some v
  | .buffers _, .buffers _ => false
  | .buffers f, .pasid g => f == g
  | .pasid f, .buffers g => f == g
  | x, y => x == y

/-- Objects a request of a mailbox names (Table 13.5). -/
def State.objects (s : State) (m : Nat) (req : List Byte) : List Obj :=
  let op := field req 0 2
  let p := req.drop 32
  let v := mbxFn m
  let h := field p 0 8
  let tenantsOf := fun (k : Nat) => (s.tenantsOf k).map Obj.tenant
  let partRoods := fun (k : Nat) => match Tab.find s.parts k with | some x => x.roods.map Obj.rood | none => []
  let idx := fun (h : Nat) => [Obj.index v h] ++ (s.filters.keys (fun f => f.index == h)).map (Obj.filter v)
    ++ (match Tab.find s.indexes h with | some i => if i.sharded then [Obj.shardedIndex] else [] | none => [])
  let own : List Obj :=
    if op = 0x0101 then (bitList (field p 0 2) 16).map Obj.rood
    else if op = 0x0102 || op = 0x0103 || op = 0x0104 then
      let k := field p 0 1
      [Obj.part k] ++ partRoods k ++ tenantsOf k ++ (if op = 0x0102 then (bitList (field p 2 2) 16).map Obj.rood else [])
    else if op = 0x0105 then [Obj.owned (field p 0 1), Obj.part (field p 1 1)]
    else if 0x0106 ≤ op && op ≤ 0x010A then
      let w := field p 0 1
      [Obj.owned w] ++ (if op = 0x0109 then (match Tab.find s.tenants w with | some t => [Obj.part t.part] | none => []) else [])
    else if op = 0x0201 then (if bit (field p 4 1) 3 then [Obj.shardedIndex] else [])
      ++ (if bit (field p 4 1) 5 then [Obj.image v (field p 40 8)] else []) ++ (if bit (field p 4 1) 2 then [Obj.tun v (slice p 48 16)] else [])
    else if op = 0x0202 || op = 0x0208 then idx h
    else if op = 0x0203 then idx h ++ (if field p 10 1 = 1 then [Obj.tun v (slice p 16 16)] else [])
    else if op = 0x0205 then idx h ++ [Obj.image v (field p 8 8)]
    else if op = 0x0206 then idx h ++ [Obj.tun v (slice p 16 16)]
    else if op = 0x0207 then [Obj.tun v (slice p 0 16)]
    else if op = 0x0301 then idx h
    else if op = 0x0302 then idx h ++ [Obj.filter v (filterKey h (field p 8 4))]
    else if op = 0x0401 then [Obj.tun v (slice p 8 16), Obj.tun v (slice p 32 16)]
    else if op = 0x0402 || op = 0x0403 || op = 0x0405 then [Obj.image v h]
    else if op = 0x0404 then [Obj.tenant v, Obj.image v h]
    else if op = 0x0406 then [Obj.tenant v] ++ (List.range (min (field p 0 1) 4)).map (fun i => Obj.image v (field p (8 + 8 * i) 8))
    else if op = 0x0501 then [Obj.tenant v, Obj.ring (16 * (v - 1) + field p 0 1)]
    else if op = 0x0902 then [Obj.tenant v]
    else if op = 0x0502 then [Obj.ring (16 * (v - 1) + field p 0 1)]
    else if op = 0x0503 then [Obj.pasid v] ++ (if v = 0 then [] else (List.range 16).map (fun k => Obj.ring (16 * (v - 1) + k)))
    else if op = 0x0601 then [Obj.tun v (slice p 0 16)]
    else if op = 0x0602 then [Obj.tun (if v = 0 then field p 16 1 else v) (slice p 0 16)]
    else if op = 0x0604 then [Obj.tun v (slice p 8 16)]
    else if op = 0x0701 then [Obj.fmap, Obj.shardedIndex]
    else if op = 0x0801 || op = 0x0803 then [Obj.pch (pchOf (field p 0 8))]
    else if op = 0x0901 || op = 0x0904 then [Obj.policy]
    else if op = 0x0C01 || op = 0x0C02 then [Obj.updates]
    else if op = 0x0D01 || op = 0x0D02 then [Obj.all]
    else []
  own ++ (if bit (field req 2 2) 0 then [Obj.buffers v] else [])

/-- Commands whose refusal is stated for a command still running on their object, which they therefore do not wait for (log
entry 33): INDEX_DESTROY answers BUSY to a load or a checkpoint (R464), PASID_SET answers STATE to a command with a buffer
(R654). -/
def refusesInstead (op earlier : Nat) : Bool :=
  (op == 0x0202 && (earlier == 0x0203 || earlier == 0x0206)) || op == 0x0503

/-- Does a command wait for one accepted before it (R444)? -/
def State.mustWait (s : State) (m k : Nat) (x : MbxSlot) : Bool :=
  let mine := s.objects m x.copy
  s.running.any (fun y => (y.1 != m || y.2.1 != k) && decide (y.2.2.accepted < x.accepted)
    && !(y.2.2.ran && y.2.2.status != 0)
    && !refusesInstead (field x.copy 0 2) (field y.2.2.copy 0 2)
    && (s.objects y.1 y.2.2.copy).any (fun a => mine.any (fun b => a.meets b)))

/-! ### Execution and completion -/

/-- Reserved bits within the listed bytes of a request (R14), as byte and mask: MASK of PART_MODIFY and TENANT_MODIFY (R456), FLAGS
and VFMT of INDEX_CREATE (Table 13.11), FLAGS of TUN_CREATE (Table 13.15), PASID of PASID_SET (R654). -/
def CmdRow.reservedBits (r : CmdRow) : List (Nat × Nat) :=
  if r.op = 0x0102 then [(1, 0xF0)]
  else if r.op = 0x0106 then [(1, 0x40)]
  else if r.op = 0x0201 then [(4, 0xC0), (5, 0xE0)]
  else if r.op = 0x0601 then [(18, 0xFC)]
  else if r.op = 0x0503 then [(2, 0xF0), (3, 0xFF)]
  else []

/-- Is a reserved byte of a request, or a reserved bit of one, nonzero (R14, R453)? -/
def CmdRow.reservedAt (r : CmdRow) (p : List Byte) (b : Nat) : Bool :=
  (slice p b 1 != [0] && !(r.listed p).any (fun x => decide (x.1 ≤ b) && decide (b ≤ x.2)))
    || r.reservedBits.any (fun x => x.1 == b && field p b 1 &&& x.2 != 0)

/-- Step 4 of R448: PLEN and the reserved bytes and bits of the payload. -/
def payloadFault (r : CmdRow) (plen : Nat) (p : List Byte) : Option Nat :=
  if plen < (r.listed p).foldl (fun n x => max n (x.2 + 1)) 0 then some 8
  else ((List.range plen).find? (r.reservedAt p)).map (32 + ·)

/-- The command of a place. -/
def MbxSlot.cmd (x : MbxSlot) (m k : Nat) (data : List Byte) : Cmd :=
  { m := m, k := k, fn := mbxFn m, payload := slice x.copy 32 448, hasBuf := bit (field x.copy 2 2) 0, addr := field x.copy 16 8,
    len := field x.copy 24 8, dma := x.dma, data := data }

/-- Is a command at its turn: accepted, not yet executed, and waiting for none accepted before it? -/
def State.turnOf (s : State) (m k op : Nat) : Bool :=
  let x := s.slotAt m k
  x.st == 2 && !x.ran && field x.copy 0 2 == op && s.sosin.ready && !s.inReset && !s.mustWait m k x

/-- Execute the command of a place, when it is one of this opcode and at its turn (R442, R444, R448). -/
def State.runCmd (s : State) (m k op : Nat) (data : List Byte) (f : Cmd → State → State × Reply) : State :=
  let x := s.slotAt m k
  if !s.turnOf m k op then s
  else if x.abort then s.setSlot m k (x.answer (refuse sABORTED 0))
  else
    let r : State × Reply := match cmdRow? op with
      | some row =>
        match payloadFault row (field x.copy 8 4) (slice x.copy 32 448) with
        | some d => (s, refuse sMALFORMED d)
        | none => f (x.cmd m k data) s
      | none => (s, refuse sBADOP 0)
    r.1.setSlot m k ((r.1.slotAt m k).answer r.2)

/-- Does a status count and record under R449? -/
def isMalformed (st : Nat) : Bool := st == sMALFORMED || st == sBADOP || st == sPERM

/-- Count and record of a MALFORMED, BAD_OPCODE or PERM completion (R449). -/
def State.malformedDone (s : State) (m : Nat) (x : MbxSlot) : State × Nat :=
  if isMalformed x.status then
    let c := if m = 65 then Cause.sosinMalformed else Cause.sosinMalformedHost
    (s.count (Reg.MBX_MALF m) 1).occur { cause := c, func := mbxFn m, subject := m, arg0 := field x.copy 0 2, arg1 := x.status }
  else (s, x.recseq)

/-- The response header (Table 13.3). -/
def MbxSlot.header (x : MbxSlot) (now recseq : Nat) : List Byte :=
  slice x.copy 0 2 ++ leBytes 1 x.status ++ [0] ++ slice x.copy 4 4 ++ leBytes 4 x.payload.length ++ leBytes 4 x.detail
    ++ leBytes 2 1000 ++ [0, 0] ++ leBytes 4 (min ((now - x.since) / (63 * 1000)) (ones 32)) ++ leBytes 8 recseq

/-- Does a command that writes its buffer fail there (R419, R656)? -/
def State.bufFails (s : State) (m : Nat) (x : MbxSlot) : Option (State × Nat) :=
  if x.buf.isEmpty || !bit (field x.copy 2 2) 0 then none
  else if !(s.fnAt (mbxFn m)).bme then some (s, 0)
  else match x.dma with
    | some (.denied, off) => some (s.dmaFailed (mbxFn m) (field x.copy 16 8 + off) .denied, off)
    | _ => none

/-- The response of a command is written, and its slot is DONE (R438). -/
def State.respond (s : State) (m k : Nat) (x : MbxSlot) : State :=
  let sx : State × MbxSlot := match s.bufFails m x with
    | some (s, off) => (s, { x with status := sDMA, detail := off, payload := [], buf := [] })
    | none =>
      (if x.buf.isEmpty || !bit (field x.copy 2 2) 0 then s else s.dmaWrite (mbxFn m) (field x.copy 16 8) x.buf, x)
  let s := sx.1
  let x := sx.2
  let r := s.malformedDone m x
  let s := r.1
  let h := x.header s.now r.2
  if x.discard then s.setSlot m k {}
  else if m = 65 then
    -- a response message carries the tag of its request, which is its slot (R450)
    (s.setSlot m k {}).emit (.mctp (0x7E00 + k) ([0x1F, 0x3C] ++ h ++ x.payload))
  else
    let s := s.setSlot m k { req := x.req, resp := h ++ x.payload ++ x.resp.drop (32 + x.payload.length), st := 3, order := x.order,
                             accepted := x.accepted }
    if bit (field x.copy 2 2) 1 then s else s.setSummary m 16 (2 ^ k)

/-- SOSIN_STALL (R443): the watchdog completes a FAST or MEDIUM command not DONE 1 s after acceptance. -/
def execSosinStall (m : Mbx) (k : MSlot) (s : State) : Host.Outcome State Fault Refusal :=
  let x := s.slotAt m k
  match cmdRow? (field x.copy 0 2) with
  | some r =>
    if x.st = 2 && r.cls < 2 && x.since + msec 1000 ≤ s.now && s.sosin.ready && !s.inReset then
      let o := s.occur { cause := Cause.sosinStall, subject := m, arg0 := r.op }
      .next (o.1.respond m k { x with status := sINTERNAL, detail := 0, payload := [], buf := [], recseq := o.2 })
    else .next s
  | none => .next s

/-! ### The BMC's mailbox (R450, R451) -/

/-- A valid MCTP packet from the BMC makes it PRESENT at once (R579). -/
def State.bmcPresent (s : State) : State :=
  if s.sosin.bmcAbsent && s.mc.running then
    let s : State := { s with sosin := { s.sosin with bmcAbsent := false }, mc := { s.mc with probeFails := 0 } }
    (((s.setFld Reg.MGT_BMC F.MGT_BMC_STATE 0).log 7 (leBytes 1 0)).platRecord 0x0541 0 (s.fld Reg.MGT_BMC F.MGT_BMC_ADDR) 0)
  else s

/-- MCTP_MESSAGE (R450): a whole message of type 0x7E for the vendor ID, with the tag that is its slot. A tag in use, or a
message of another vendor, is dropped. -/
def execMctpMessage (tag : Fin 4) (msg : List Byte) (s : State) : Host.Outcome State Fault Refusal :=
  if s.inReset || slice msg 0 2 != [0x1F, 0x3C] || (s.slotAt 65 tag.val).st != 0 then .next s
  else .next ((s.bmcPresent.setSlot 65 tag.val { req := msg.drop 2 }).submit 65 tag.val)

/-- MCTP_BAD_PACKET (R451): dropped, and answered with nothing. -/
def execMctpBadPacket (s : State) : Host.Outcome State Fault Refusal := .next s

end Sys2Proof.Machine
end

