-- ==== Sys2Proof/Machine/SosinTenant.lean ====
section
/-! DEFINITION. Machine/SosinTenant.lean: the Sosin commands on the session, partitions, tenants, keys, ring pairs and PASIDs
(R452 to R459, R472, R473, R654). -/

namespace Sys2Proof.Machine

/-- Request-area offset of payload byte b (R435). -/
abbrev at_ (b : Nat) : Nat := 32 + b

/-! ### Session and device (Table 13.9) -/

/-- VERSION of the booted image. -/
def State.fwver (s : State) : Nat := s.reg Reg.MGT_FWVER

def hello (c : Cmd) (s : State) : State × Reply :=
  let t := if c.operator then none else Tab.find s.tenants c.fn
  let role := if c.m = 65 then 3 else if c.m = 0 then 0 else if t.isSome then 1 else 2
  let flags := b2n s.rst.degraded + 2 * b2n s.debug + 4 * b2n s.sealed + 8 * b2n (t.any (·.revoked)) + 16 * b2n (t.any (·.conf))
  (s, { payload := leBytes 2 0x0100 ++ leBytes 1 c.m ++ leBytes 1 role ++ leBytes 1 flags ++ leBytes 3 0 ++ leBytes 8 s.fwver
          ++ slice (Config.identity 0) 0 8 ++ leBytes 2 (if s.fab.map == .alone then 0xFFFF else s.devId)
          ++ leBytes 1 (match t with | some t => t.part | none => 0xFF) })

/-- HELLO (Table 13.9). -/
def execHello (m : Mbx) (k : MSlot) (s : State) : Host.Outcome State Fault Refusal := .next (s.runCmd m k 0x0001 [] hello)

/-- Ports of the fabric that meet a test, as a mask. -/
def State.portMask (s : State) (f : FabPort → Bool) : Nat := maskOf ((List.range 16).filter (fun n => f (s.fabPort n)))

/-- Pages retired on the device. -/
def State.retiredPages (s : State) : Nat :=
  s.pch.foldl (fun n (x : Nat × PchState) => n + (x.2.retired.filter (fun r => r.moved == 4)).length) 0

/-- Stacks with pending hard repairs. -/
def State.repairStacks (s : State) : List Nat := dedup (s.hardList.map (fun x => x.1 / 32))

def devInfo (_ : Cmd) (s : State) : State × Reply :=
  let trained := maskOf ((List.range 8).filter (fun k => Tab.read s.rst.stk 0 k == 3))
  let failed := ((List.range 256).filter (fun p => s.pchFailed p)).length
  (s, { payload := leBytes 1 0xA2 ++ leBytes 1 trained ++ leBytes 2 failed ++ leBytes 1 (s.farState 0 + 16 * s.farState 1)
          ++ leBytes 1 (b2n s.sosin.bmcAbsent) ++ leBytes 2 (s.portMask (·.carries)) ++ leBytes 4 s.retiredPages
          ++ leBytes 1 (maskOf s.repairStacks) ++ leBytes 3 0 ++ leBytes 8 (s.clkTime / 1000000) })

/-- DEVINFO (Table 13.9). -/
def execDevinfo (m : Mbx) (k : MSlot) (s : State) : Host.Outcome State Fault Refusal := .next (s.runCmd m k 0x0002 [] devInfo)

def devReset (c : Cmd) (s : State) : State × Reply :=
  checked s [(c.fld 0 1 != 1, sRANGE, at_ 0), (c.fld 4 4 != 0x54455352, sRANGE, at_ 4)] (fun s => (s, { wait := .reset 3 }))

/-- DEV_RESET (R454): the reset follows the response. -/
def execDevReset (m : Mbx) (k : MSlot) (s : State) : Host.Outcome State Fault Refusal := .next (s.runCmd m k 0x0003 [] devReset)

/-! ### Partitions (R152, R182, R455, R457) -/

/-- The rood is of another partition than `k`. -/
def State.roodTaken (s : State) (k : Option Nat) (r : Nat) : Bool := s.parts.any (fun x => some x.1 != k && x.2.roods.contains r)

/-- Has a rood no pseudo-channel left that works (R599)? -/
def State.roodFailed (s : State) (r : Nat) : Bool := (List.range 16).all (fun j => s.pchFailed (16 * r + j))

def State.perchesElsewhere (s : State) (k : Option Nat) : Nat := s.parts.foldl (fun n x => if some x.1 == k then n else n + x.2.perches) 0

/-- Does a structure of another partition lie on the pseudo-channels or pool groups of these roods (R182)? -/
def State.strangers (s : State) (k : Option Nat) (roods : List Nat) : Bool :=
  let foreign := fun (v : Nat) => (Tab.find s.tenants v).map (·.part) != k
  s.owners.any (fun (x : Nat × Owner) => x.1 < 736 * 256 && roods.contains (x.1 % 256 / 16)
      && (match x.2 with | .vf v => foreign v | _ => false))
    || s.indexes.any (fun (x : Nat × Index) => foreign x.2.vf && roods.contains (poolGroup x.2.poolAt))
    || s.filters.any (fun (x : Nat × Filter) => x.2.pool && foreign x.2.vf && roods.contains (poolGroup x.2.base))

/-- LCRES of the roods of a request. -/
def lcresOf (c : Cmd) (roods : List Nat) : Tab Nat := roods.foldl (fun t r => Tab.write t 0 r (c.fld (8 + 2 * r) 2)) []

/-- LCRES out of range: the offset of the first. -/
def lcresFault (c : Cmd) : Option Nat := ((List.range 16).find? (fun r => decide (1024 < c.fld (8 + 2 * r) 2))).map (fun r => at_ (8 + 2 * r))

def partCreate (c : Cmd) (s : State) : State × Reply :=
  let roods := bitList (c.fld 0 2) 16
  let perches := c.fld 2 1
  let quiet := c.fld 3 1 == 1
  checked s [(roods.isEmpty, sRANGE, at_ 0), (decide (16 < perches), sRANGE, at_ 2), (decide (1 < c.fld 3 1), sRANGE, at_ 3),
      ((lcresFault c).isSome, sRANGE, (lcresFault c).getD 0),
      (roods.any (s.roodTaken none) || roods.all s.roodFailed || (quiet && s.strangers none roods), sSTATE, at_ 0),
      (decide (16 < s.perchesElsewhere none + perches), sQUOTA, 3)] (fun s =>
    let k := roods.headD 0
    (s.setPart k { roods := roods, perches := perches, quiet := quiet, lcres := lcresOf c roods }, { payload := leBytes 1 k }))

/-- PART_CREATE (R152, R182). -/
def execPartCreate (m : Mbx) (k : MSlot) (s : State) : Host.Outcome State Fault Refusal := .next (s.runCmd m k 0x0101 [] partCreate)

def partModify (c : Cmd) (s : State) : State × Reply :=
  let k := c.fld 0 1
  let mask := c.fld 1 1
  let roods := bitList (c.fld 2 2) 16
  match firstFail [(bit mask 0 && roods.isEmpty, sRANGE, at_ 2),
      (bit mask 1 && decide (16 < c.fld 4 1), sRANGE, at_ 4), (bit mask 2 && decide (1 < c.fld 5 1), sRANGE, at_ 5),
      (bit mask 3 && (lcresFault c).isSome, sRANGE, (lcresFault c).getD 0)] with
  | some r => (s, r)
  | none =>
    match Tab.find s.parts k with
    | none => (s, refuse sNOOBJ (at_ 0))
    | some p =>
      let roods := if bit mask 0 then roods else p.roods
      let perches := if bit mask 1 then c.fld 4 1 else p.perches
      let quiet := if bit mask 2 then c.fld 5 1 == 1 else p.quiet
      checked s [(mask % 8 != 0 && !(s.tenantsOf k).isEmpty, sSTATE, at_ 0),
          (bit mask 0 && (roods.any (s.roodTaken (some k)) || roods.all s.roodFailed), sSTATE, at_ 2),
          (quiet && mask % 8 != 0 && s.strangers (some k) roods, sSTATE, at_ 0),
          (decide (16 < s.perchesElsewhere (some k) + perches), sQUOTA, 3)] (fun s =>
        let lc := if bit mask 3 then lcresOf c roods else roods.foldl (fun t r => Tab.write t 0 r (Tab.read p.lcres 0 r)) []
        let k' := roods.headD 0
        (({ s with parts := Tab.erase s.parts k } : State).setPart k'
            { p with roods := roods, perches := perches, quiet := quiet, lcres := lc }, { payload := leBytes 1 k' }))

/-- PART_MODIFY (R152, R182). -/
def execPartModify (m : Mbx) (k : MSlot) (s : State) : Host.Outcome State Fault Refusal := .next (s.runCmd m k 0x0102 [] partModify)

def partDestroy (c : Cmd) (s : State) : State × Reply :=
  let k := c.fld 0 1
  checked s [((Tab.find s.parts k).isNone, sNOOBJ, at_ 0), (!(s.tenantsOf k).isEmpty, sSTATE, at_ 0)] (fun s =>
    ({ s with parts := Tab.erase s.parts k }, {}))

/-- PART_DESTROY (R457). -/
def execPartDestroy (m : Mbx) (k : MSlot) (s : State) : Host.Outcome State Fault Refusal := .next (s.runCmd m k 0x0103 [] partDestroy)

/-- Slots of a PART_SLICES request: VF and length. -/
def sliceTable (c : Cmd) : List (Nat × Nat) := (List.range (c.fld 1 1)).map (fun j => (c.fld (8 + 8 * j) 1, c.fld (12 + 8 * j) 4))

def partSlices (c : Cmd) (s : State) : State × Reply :=
  let k := c.fld 0 1
  let n := c.fld 1 1
  let l := sliceTable c
  let badLen := (List.range n).find? (fun j => let x := (l.getD j (0, 0)).2; decide (x < 10) || decide (10000 < x))
  let badVf := (List.range n).find? (fun j => let v := (l.getD j (0, 0)).1; v == 0 || decide (64 < v))
  checked s [(n == 0 || decide (16 < n), sRANGE, at_ 1), (badVf.isSome, sRANGE, at_ (8 + 8 * badVf.getD 0)),
      (badLen.isSome, sRANGE, at_ (12 + 8 * badLen.getD 0)), ((Tab.find s.parts k).isNone, sNOOBJ, at_ 0),
      (!(l.all (fun x => (s.tenantsOf k).contains x.1) && (s.tenantsOf k).all (fun v => l.any (fun x => x.1 == v))), sSTATE, at_ 0)]
    (fun s => (s.onPart k (fun p => { p with install := some l }), { payload := leBytes 8 s.clkTime }))

/-- PART_SLICES (R455): the table is installed at the next step tick. -/
def execPartSlices (m : Mbx) (k : MSlot) (s : State) : Host.Outcome State Fault Refusal := .next (s.runCmd m k 0x0104 [] partSlices)

/-! ### Tenants (R153, R189, R455 to R458) -/

/-- The slice table of a partition as it stands, or as it is about to be installed. -/
def Partition.table (p : Partition) : List (Nat × Nat) := p.install.getD p.slices

/-- Sums of R153 over the tenants of a partition but one: stacked (2 MiB), pool (64 KiB), perches. -/
def State.quotaSums (s : State) (part skip : Nat) : Nat × Nat × Nat :=
  s.tenants.foldl (fun (a : Nat × Nat × Nat) (x : Nat × Tenant) => if x.2.part = part && x.1 != skip then
    (a.1 + x.2.stkq, a.2.1 + x.2.poolq, a.2.2 + x.2.perchq) else a) (0, 0, 0)

/-- Stacked quota of a partition in 2 MiB units: 23 GiB per rood, less 1,472 MiB for each FAILED pseudo-channel (R151, R301). -/
def State.stackedAmount (s : State) (roods : List Nat) : Nat :=
  roods.length * 11776 - (((List.range 256).filter (fun p => roods.contains (p / 16) && s.pchFailed p)).length) * 736

/-- Would quotas exceed the partition's amounts (R153)? The DETAIL of QUOTA. -/
def State.overAmount (s : State) (part skip : Nat) (p : Partition) (t : Tenant) : Option Nat :=
  let q := s.quotaSums part skip
  if s.stackedAmount p.roods < q.1 + t.stkq then some 0
  else if p.roods.length * 192 < q.2.1 + t.poolq then some 1
  else if p.perches < q.2.2 + t.perchq then some 3
  else none

/-- Ranges of tenant settings that need the partition (Table 5.3). -/
def tenantRanges (t : Tenant) (p : Partition) : List (Bool × Nat × Nat) :=
  [(t.seqmax == 0 || decide (p.roods.length * 1024 < t.seqmax), sRANGE, at_ 4), (decide (p.perches < t.perchq), sRANGE, at_ 6),
   (decide (t.perchq < t.pinmax) || (t.lcmax == 4 && t.pinmax != 0), sRANGE, at_ 7)]

/-- A key kept wrapped for a tenant's RETAINKEY tuns comes back with its binding (R319). -/
def State.restoreKey (s : State) (vf : Nat) : State :=
  match Tab.find s.far.retained vf with
  | some k => s.installKey vf k
  | none => s

/-- The metering account of a binding begins (R543). -/
def State.openAccount (s : State) (vf : Nat) : State :=
  { s with meter := { s.meter with accounts := s.meter.accounts ++ [{ vf := vf }],
                                   acc := s.meter.acc.filter (fun (x : Nat × Nat) => x.1 % 65 != vf) } }

def State.closeAccount (s : State) (vf : Nat) : State :=
  { s with meter := { s.meter with accounts := s.meter.accounts.map (fun a => if a.vf = vf then { a with live := false } else a) } }

def tenantBind (c : Cmd) (s : State) : State × Reply :=
  let vf := c.fld 0 1
  let part := c.fld 1 1
  let len := c.fld 20 4
  let t : Tenant := { part := part, lcmax := c.fld 2 1, seqmax := c.fld 4 2, stkq := c.fld 8 4, poolq := c.fld 12 4, farq := c.fld 16 4,
                      perchq := c.fld 6 1, pinmax := c.fld 7 1, conf := c.fld 3 1 == 1, phase := 1 }
  match firstFail [(vf == 0 || decide (64 < vf), sRANGE, at_ 0), (decide (4 < t.lcmax), sRANGE, at_ 2),
      (decide (1 < c.fld 3 1), sRANGE, at_ 3), (t.seqmax == 0, sRANGE, at_ 4), (decide (len < 10) || decide (10000 < len), sRANGE, at_ 20),
      (!s.fnExists vf, sNOOBJ, at_ 0)] with
  | some r => (s, r)
  | none =>
    match Tab.find s.parts part with
    | none => (s, refuse sNOOBJ (at_ 1))
    | some p =>
      let excess := s.overAmount part vf p t
      checked s (tenantRanges t p ++ [(s.debug, sSTATE, at_ 0),
          (decide (16 ≤ (s.tenantsOf part).length) || decide (16 ≤ p.table.length), sSTATE, at_ 1),
          ((Tab.find s.tenants vf).isSome, sEXISTS, at_ 0), (excess.isSome, sQUOTA, excess.getD 0)]) (fun s =>
        let s := (s.setTenant vf t).setPart part { p with install := some (p.table ++ [(vf, len)]) }
        let s := ((s.openAccount vf).restoreKey vf).returnTuns.tenantChanged vf
        (s, { payload := leBytes 8 s.clkTime }))

/-- TENANT_BIND (R153, R455, R456). -/
def execTenantBind (m : Mbx) (k : MSlot) (s : State) : Host.Outcome State Fault Refusal := .next (s.runCmd m k 0x0105 [] tenantBind)

/-- Perches a tenant's images occupy, and perches it has pinned. -/
def State.pinnedPerches (s : State) (vf : Nat) : Nat :=
  s.images.foldl (fun n (x : Nat × Image) => if x.2.vf = vf && x.2.pinned then n + x.2.need else n) 0

def tenantModify (c : Cmd) (s : State) : State × Reply :=
  let vf := c.fld 0 1
  let mask := c.fld 1 1
  match firstFail [(vf == 0 || decide (64 < vf), sRANGE, at_ 0),
      (bit mask 0 && decide (4 < c.fld 2 1), sRANGE, at_ 2)] with
  | some r => (s, r)
  | none =>
    match Tab.find s.tenants vf with
    | none => (s, refuse sNOOBJ (at_ 0))
    | some t =>
      match Tab.find s.parts t.part with
      | none => (s, refuse sNOOBJ (at_ 0))
      | some p =>
        let n := { t with lcmax := if bit mask 0 then c.fld 2 1 else t.lcmax, seqmax := if bit mask 1 then c.fld 4 2 else t.seqmax,
                          stkq := if bit mask 2 then c.fld 8 4 else t.stkq, poolq := if bit mask 3 then c.fld 12 4 else t.poolq,
                          farq := if bit mask 4 then c.fld 16 4 else t.farq, perchq := if bit mask 5 then c.fld 6 1 else t.perchq,
                          pinmax := if bit mask 5 then c.fld 7 1 else t.pinmax }
        let excess := s.overAmount t.part vf p n
        let locked := s.tdiLocked vf
        checked s (tenantRanges n p ++ [
            (decide (n.stkq * 2 ^ 21 < t.stkUsed) || decide (n.poolq * 2 ^ 16 < t.poolUsed) || decide (n.farq * 2 ^ 21 < t.farUsed)
              || decide (n.seqmax < s.seqsOf vf) || decide (n.perchq < s.perchesOf [vf]) || decide (n.pinmax < s.pinnedPerches vf)
              || (locked && !bit mask 7), sSTATE, at_ 0),
            (excess.isSome, sQUOTA, excess.getD 0)]) (fun s =>
          let s := s.setTenant vf n
          (if locked then s.tdiError vf else s, {}))

/-- TENANT_MODIFY (R155, R456). -/
def execTenantModify (m : Mbx) (k : MSlot) (s : State) : Host.Outcome State Fault Refusal := .next (s.runCmd m k 0x0106 [] tenantModify)

/-- A command that names one bound VF at byte 0. -/
def onTenant_ (c : Cmd) (s : State) (f : Nat → Tenant → State → State × Reply) : State × Reply :=
  let vf := c.fld 0 1
  if vf = 0 || 64 < vf then (s, refuse sRANGE (at_ 0))
  else match Tab.find s.tenants vf with
    | none => (s, refuse sNOOBJ (at_ 0))
    | some t => f vf t s

def tenantRevoke (c : Cmd) (s : State) : State × Reply :=
  onTenant_ c s (fun vf _ s => ((s.revokeTenant vf false).tenantChanged vf, { wait := .revoke vf false }))

/-- TENANT_REVOKE (R189, R458). -/
def execTenantRevoke (m : Mbx) (k : MSlot) (s : State) : Host.Outcome State Fault Refusal := .next (s.runCmd m k 0x0107 [] tenantRevoke)

def tenantRestore (c : Cmd) (s : State) : State × Reply :=
  onTenant_ c s (fun vf t s => ((s.setTenant vf { t with revoked := false }).tenantChanged vf, {}))

/-- TENANT_RESTORE (R458): the ring pairs stay STOPPED. -/
def execTenantRestore (m : Mbx) (k : MSlot) (s : State) : Host.Outcome State Fault Refusal := .next (s.runCmd m k 0x0108 [] tenantRestore)

def tenantRemove (c : Cmd) (s : State) : State × Reply :=
  onTenant_ c s (fun vf _ s => (((s.tdiError vf).revokeTenant vf false).tenantChanged vf, { wait := .revoke vf true }))

/-- TENANT_REMOVE (R458): step 1; steps 2 to 4 follow once its sequences have ended. -/
def execTenantRemove (m : Mbx) (k : MSlot) (s : State) : Host.Outcome State Fault Refusal := .next (s.runCmd m k 0x0109 [] tenantRemove)

/-- Is a stacked-memory read of a tenant's sequence still in service (R189 rung 3)? -/
def State.stackReadsOf (s : State) (vf : Nat) : Bool :=
  s.pch.any (fun (x : Nat × PchState) => match x.2.service with
    | some (.burst r _ _) => r.client.seq.isSome && !r.write && r.keySlot == vf
    | _ => false)

/-- Have a tenant's sequences and reads ended (R189 rung 3)? -/
def State.tenantQuiet (s : State) (vf : Nat) : Bool :=
  !s.seqs.any (fun (x : Nat × Sequence) => x.2.vf == vf) && !s.farReadsOf vf && !s.stackReadsOf vf
    && (match Tab.find s.tenants vf with | some t => t.revokeDue.isNone | none => true)

/-- The key kept for a VF is zeroised: records of all-zero wrapped bytes (Table 16.5). -/
def State.dropRetained (s : State) (vf : Nat) : State :=
  match Tab.find s.far.retained vf with
  | none => s
  | some _ =>
    let s := { s with far := { s.far with retained := Tab.erase s.far.retained vf } }
    let s := s.config 4 0x0106 (leBytes 1 vf ++ leBytes 1 0 ++ List.replicate 48 0)
    s.config 4 0x0106 (leBytes 1 vf ++ leBytes 1 1 ++ List.replicate 32 0)

/-- Steps 2 to 4 of a removal (R458): structures, key, slice table. -/
def State.removeTenant (s : State) (vf : Nat) : State :=
  match Tab.find s.tenants vf with
  | none => s
  | some t =>
    let s := (s.dropTenantStores vf false).reapStores
    let s := ((s.zeroKey vf).dropRetained vf).dropRings vf
    let s := s.onPart t.part (fun p => { p with install := some (p.table.filter (fun x => x.1 != vf)) })
    let s := (s.closeAccount vf).tenantChanged vf
    { s with tenants := Tab.erase s.tenants vf }

/-! ### Keys (R459) -/

def keyGenerate (c : Cmd) (s : State) : State × Reply :=
  onTenant_ c s (fun vf t s =>
    checked s [(t.conf, sSTATE, at_ 0), ((s.keyOf vf).st != 0 && s.holdsStores vf, sBUSY, 0), (!s.mc.entropyOk, sBUSY, 0)] (fun s =>
      let k : KeySlot := { st := 1, keyid := c.fld 8 8, key := s.freeKey }
      ((({ s with free := s.free + 64 } : State).installKey vf k).tenantChanged vf, {})))

/-- KEY_GENERATE (R185, R459, R551). -/
def execKeyGenerate (m : Mbx) (k : MSlot) (s : State) : Host.Outcome State Fault Refusal := .next (s.runCmd m k 0x010A [] keyGenerate)

def sealCmd (c : Cmd) (s : State) : State × Reply :=
  checked s [(c.fld 0 4 != 0x4C414553, sRANGE, at_ 0)] (fun s => ({ s with sealed := true }, {}))

/-- SEAL (R9, R459). -/
def execSeal (m : Mbx) (k : MSlot) (s : State) : Host.Outcome State Fault Refusal := .next (s.runCmd m k 0x010B [] sealCmd)

/-- The response of TENANT_INFO. -/
def State.tenantInfo (s : State) (vf : Nat) : List Byte :=
  let key := leBytes 1 (s.keyState vf) ++ leBytes 1 0
  match Tab.find s.tenants vf with
  | none => leBytes 1 vf ++ leBytes 1 0xFF ++ leBytes 2 0 ++ key ++ List.replicate 34 0
  | some t =>
    leBytes 1 vf ++ leBytes 1 t.part ++ leBytes 1 t.lcmax ++ leBytes 1 (b2n t.conf + 2 * b2n t.revoked) ++ key
      ++ leBytes 2 t.seqmax ++ leBytes 4 (s.seqsOf vf) ++ leBytes 4 t.stkq ++ leBytes 4 (cdiv t.stkUsed (2 ^ 21))
      ++ leBytes 4 t.poolq ++ leBytes 4 (cdiv t.poolUsed (2 ^ 16)) ++ leBytes 4 t.farq ++ leBytes 4 (cdiv t.farUsed (2 ^ 21))
      ++ leBytes 1 t.perchq ++ leBytes 1 (s.perchesOf [vf]) ++ leBytes 1 t.pinmax ++ leBytes 1 (s.pinnedPerches vf)

def tenantInfo (c : Cmd) (s : State) : State × Reply :=
  let v := c.fld 0 1
  if c.operator then
    if v = 0 || 64 < v then (s, refuse sRANGE (at_ 0)) else (s, { payload := s.tenantInfo v })
  else if v != 0 && v != c.fn then (s, refuse sNOOBJ (at_ 0))
  else (s, { payload := s.tenantInfo c.fn })

/-- TENANT_INFO (Table 13.10). -/
def execTenantInfo (m : Mbx) (k : MSlot) (s : State) : Host.Outcome State Fault Refusal := .next (s.runCmd m k 0x010C [] tenantInfo)

/-! ### Ring pairs and PASID (R472, R473, R654) -/

/-- The class is above LCMAX (R155). -/
def aboveMax (cls lcmax : Nat) : Bool := cls < 4 && cls < lcmax

def ringCreate (c : Cmd) (s : State) : State × Reply :=
  let r := c.fld 0 1
  let p := 16 * (c.fn - 1) + r
  let cls := c.fld 1 1
  let x := s.fnAt c.fn
  let lcmax := match Tab.find s.tenants c.fn with | some t => t.lcmax | none => 4
  let log := fun (o : Nat) => decide (c.fld o 1 < 6) || decide (16 < c.fld o 1)
  checked s [(aboveMax cls lcmax, sPERM, at_ 1), (decide (15 < r), sRANGE, at_ 0), (decide (4 < cls), sRANGE, at_ 1),
      (decide (1 < c.fld 2 1), sRANGE, at_ 2), (log 4, sRANGE, at_ 4), (log 5, sRANGE, at_ 5),
      (c.fld 8 8 % 4096 != 0, sRANGE, at_ 8), (c.fld 16 8 % 4096 != 0, sRANGE, at_ 16),
      (c.fld 24 4 == 0 || decide (65535 < c.fld 24 4), sRANGE, at_ 24), (decide (65535 < c.fld 28 4), sRANGE, at_ 28),
      (x.pasidEnable && x.pasid.isNone, sSTATE, at_ 0), ((Tab.find s.rings p).isSome, sEXISTS, at_ 0)] (fun s =>
    ((s.resetRegs (Reg.QFE_SQTAIL p) 64).setRing p
      { sqbase := c.fld 8 8, cqbase := c.fld 16 8, sqsize := 2 ^ c.fld 4 1, cqsize := 2 ^ c.fld 5 1, cls := cls,
        coalcnt := c.fld 24 4, coalus := c.fld 28 4, stream := c.fld 2 1 == 1 }, { payload := leBytes 2 p }))

/-- RING_CREATE (R88, R155, R416, R472, R490): ACTIVE from the tick after. -/
def execRingCreate (m : Mbx) (k : MSlot) (s : State) : Host.Outcome State Fault Refusal := .next (s.runCmd m k 0x0501 [] ringCreate)

def ringDestroy (c : Cmd) (s : State) : State × Reply :=
  let r := c.fld 0 1
  let p := 16 * (c.fn - 1) + r
  checked s [(decide (15 < r), sRANGE, at_ 0), ((Tab.find s.rings p).isNone, sNOOBJ, at_ 0)] (fun s =>
    (s.onRing p (fun x => { x with closing := true }), { wait := .ring p }))

/-- RING_DESTROY (R473). -/
def execRingDestroy (m : Mbx) (k : MSlot) (s : State) : Host.Outcome State Fault Refusal := .next (s.runCmd m k 0x0502 [] ringDestroy)

/-- Has the function another command in progress that uses a host buffer (R654)? -/
def State.bufferInUse (s : State) (c : Cmd) : Bool :=
  s.running.any (fun x => (x.1 != c.m || x.2.1 != c.k) && x.1 == c.m && bit (field x.2.2.copy 2 2) 0 && !(x.2.2.ran && x.2.2.buf.isEmpty)
    && decide (x.2.2.accepted < (s.slotAt c.m c.k).accepted))

def pasidSet (c : Cmd) (s : State) : State × Reply :=
  let f := c.fn
  let rings := s.rings.any (fun (x : Nat × Ring) => f != 0 && ringVf x.1 == f)
  checked s [(decide (1 < c.fld 4 1), sRANGE, at_ 4),
      (rings || s.bufferInUse c || s.tdiLocked f, sSTATE, 0)] (fun s =>
    (s.setFn f { s.fnAt f with pasid := if c.fld 4 1 = 1 then some (c.fld 0 4) else none }, {}))

/-- PASID_SET (R416, R654). -/
def execPasidSet (m : Mbx) (k : MSlot) (s : State) : Host.Outcome State Fault Refusal := .next (s.runCmd m k 0x0503 [] pasidSet)

end Sys2Proof.Machine
end

