-- ==== Sys2Proof/Machine/StackMem.lean ====
section
/-! DEFINITION. Machine/StackMem.lean: pseudo-channels at work: bursts and their arbitration, tokens, refresh, the drains of
the write-combining buffer, pool atomics and the traffic generator (R238 to R273). -/

namespace Sys2Proof.Machine

/-! ### Service (R238, R242 to R247) -/

/-- Read occupancy by words, in units of 1/63 ns (Table 7.3). A burst whose length the table does not list takes the time of the
next longer one (log entry 117). -/
def readTime (words : Nat) : Nat :=
  if words ≤ 1 then 63 * 51 / 10 else if words ≤ 2 then 63 * 64 / 10 else if words ≤ 4 then nsec 8
  else if words ≤ 8 then nsec 13 else if words ≤ 16 then nsec 23 else nsec 41

/-- Occupancy of a request. -/
def Req.time (r : Req) : Nat := readTime r.words + (if r.write then nsec 4 else 0)

/-- Tokens of a rood's bucket in a controller (R246): controller c, rood r. An unlisted bucket is full. -/
def State.bucketTokens (s : State) (c r : Nat) : Nat := Tab.read s.tokens (s.fld Reg.HMC_BEDEPTH (15, 0)) (16 * c + r)

/-- Controller of a pseudo-channel: eight to each of 32 (R234). -/
def controllerOf (p : Nat) : Nat := p / 8

/-- The refills that have fallen due by a time, one every 64 MCLK, 40 ns (R246): each bucket gains RATE tokens in each, up to
DEPTH. -/
def State.refillTo (s : State) (t : Nat) : State :=
  if t < s.tokenDue then s
  else
    let k := (t - s.tokenDue) / nsec 40 + 1
    let d := s.fld Reg.HMC_BEDEPTH (15, 0)
    let r := s.fld Reg.HMC_BERATE (7, 0)
    { s with tokenDue := s.tokenDue + k * nsec 40,
             tokens := (s.tokens.map (fun (x : Nat × Nat) => (x.1, min d (x.2 + k * r)))).filter (fun x => x.2 != d) }

/-- TOKEN_REFILL (R246). -/
def execTokenRefill (s : State) : Host.Outcome State Fault Refusal := .next (s.refillTo s.now)

/-- May a BER read start under row 4 of Table 7.4? Firmware reads take no tokens; a burst of the traffic generator competes under
row 6 (R273). -/
def State.hasTokens (s : State) (p : Nat) (r : Req) : Bool :=
  r.client != .tgc &&
    match r.rood with
    | some k => decide (r.words ≤ s.bucketTokens (controllerOf p) k)
    | none => true

/-- A start debits its bucket, to zero at most (R246, R247). -/
def State.debit (s : State) (p : Nat) (r : Req) : State :=
  match r.rood with
  | some k => { s with tokens := Tab.insert s.tokens (16 * controllerOf p + k) (s.bucketTokens (controllerOf p) k - r.words) }
  | none => s

/-- LC reads of other sequences that are passed by the start of `r` at a time (R245): each is counted, and marked when the count
exceeds its allowance. -/
def State.passes_ (s : State) (p st : Nat) (r : Req) : State :=
  let c := s.pchAt p
  let ahead := fun (x : Req) => x.lc && decide (r.level ≤ x.level) && decide (x.arrived ≤ st) && x.client.seq != r.client.seq
  let bump := fun (x : Req) => if ahead x then { x with passed := x.passed + 1 } else x
  let over_ := fun (x : Req) => ahead x && !x.marked && decide (x.allow < x.passed + 1)
  let late := (c.lcr ++ c.backlog).filter over_
  let mark := fun (x : Req) => if over_ x then { bump x with marked := true } else bump x
  let s := s.setPch p { c with lcr := c.lcr.map mark, backlog := c.backlog.map mark }
  let s := s.count (Reg.HMC_CONTEND p) late.length
  forAll late (fun x s => match x.client.seq with
    | some e => s.voidSeq e voidContend
    | none => s) s

/-- What a read has of its words from the start of its service (R260): plaintext with the overlay; a merge read, the old words. -/
def State.readData (s : State) (r : Req) : List Byte :=
  if r.write then []
  else if r.client == .merge then (List.range (64 * r.words)).map (fun k => s.dram (r.addr + k))
  else s.bytes r.addr (64 * r.words)

/-- A burst starts service at a time. A read covered by the write-combining buffer is served with its overlay (R260). -/
def State.serve (s : State) (p st : Nat) (r : Req) : State :=
  let ws := wordsOf r.addr (64 * r.words)
  let s := s.occupy p st r.time (.burst r (s.readData r) (if r.write || r.client == .merge then [] else ws.filter s.wholeInWcb))
  let covered := !r.write && r.client != .merge && ws.any (fun w => (Tab.find s.wcb w).isSome)
  let s := if covered then s.count (Reg.HMC_MERGED p) 1 else s
  if r.lc && !r.write then s.passes_ p st r else s

/-- Refresh interval of a stack from its multiplier code (Table 8.5), in time units; none when shut down. -/
def State.refreshEvery (s : State) (stack : Nat) : Option Nat :=
  match bits (s.fld Reg.HMC_REFRATE (15, 0)) (2 * stack + 1) (2 * stack) with
  | 0 => some (nsec 750)
  | 1 => some (nsec 375)
  | 2 => some (63 * 375 / 2)
  | _ => none

/-- REFRESH_DUE (R287, R288): a refresh at its interval, before every queued burst, for 26 ns; it waits only for the burst in
service. -/
def execRefreshDue (p : Pch) (s : State) : Host.Outcome State Fault Refusal :=
  let c := s.pchAt p
  match s.refreshEvery (p / 32) with
  | none => .next s
  | some t =>
    let st := max (s.freeFrom c) (c.lastRefresh + t)
    if c.trained && c.service.isNone && st < s.tickEnd then
      .next (s.setPch p { c with service := some .refresh, serviceEnd := st + nsec 26, lastRefresh := st, refreshDue := st + t })
    else .next s

/-- Is a refresh due at a time? -/
def State.refreshOwed (s : State) (p st : Nat) : Bool :=
  match s.refreshEvery (p / 32) with
  | some t => decide ((s.pchAt p).lastRefresh + t ≤ st)
  | none => false

/-- Is a step of a half-frame copy due at a time: one is under way or waits, and LCR is empty (R293)? -/
def PchState.copyOwed (c : PchState) (st : Nat) : Bool :=
  (c.copy.isSome || c.nextCopy.isSome) && c.lcr.all (fun r => decide (st < r.arrived))

/-- When the next burst of a pseudo-channel can start: when it is free and a request has arrived. -/
def State.startAt (s : State) (c : PchState) : Nat :=
  match (c.lcr ++ c.ber ++ c.wr ++ c.mnt).map (·.arrived) with
  | [] => s.freeFrom c
  | a :: l => max (s.freeFrom c) (l.foldl min a)

/-- The candidate of Table 7.4, rows 2 to 7, among the requests that have arrived by a time, with the queues it leaves and whether
it debits tokens. -/
def State.candidate (s : State) (p st : Nat) (c : PchState) : Option (Req × PchState × Bool) :=
  let here := fun (r : Req) => decide (r.arrived ≤ st)
  match c.lcr.find? here with
  | some r => some (r, { c with lcr := c.lcr.erase r }, false)
  | none =>
    let wr := (c.wr.find? here).map (fun r => (r, { c with wr := c.wr.erase r }, false))
    let be := fun (ok : Req → Bool) =>
      (c.ber.find? (fun r => here r && ok r)).map (fun r => (r, { c with ber := c.ber.erase r }, r.client != .tgc))
    let mnt := (c.mnt.find? here).map (fun r => (r, { c with mnt := c.mnt.erase r }, false))
    if 6 ≤ (c.wr.filter here).length then wr
    else ((be (s.hasTokens p)).orElse fun _ => wr.orElse fun _ => (be (fun r => !r.quiet)).orElse fun _ => mnt)

/-- Is the access of a request allowed by the owner of its granule (R187, R256)? A sequence's reads were checked when they
were issued; the owner may have changed since. A write of a tenant's data may go to no granule of another's. -/
def State.reqOwned (s : State) (r : Req) : Bool :=
  match r.client.seq with
  | some e => match Tab.find s.seqs e with
    | some q => q.issue != r.issue || s.mayTouch e q.vf r.addr
    | none => true
  | none =>
    if r.client == .drain || r.client == .merge then
      match s.owner (granuleOf r.addr) with
      | .vf n => n == r.keySlot
      | _ => true
    else true

/-- What kind of data a client waits for: 0 bushel for a scan, 1 for a hop, 2 raw, 3 line, 4 list line. -/
def Client.kind : Client → Nat
  | .scan _ => 0 | .hop _ => 1 | .line _ => 3 | .list _ => 4 | _ => 2

/-- The data of a read that has been served goes to its sequence with what its request carried, or is discarded (R132, R163,
R248, R257). -/
def State.land (s : State) (r : Req) (at_ : Nat) (data : List Byte) (whole : List Nat) : State :=
  match r.client.seq with
  | some e =>
    let l : Landed := { kind := r.client.kind, addr := r.addr, at_ := at_, view := r.view, expect := r.expect, level := r.level,
                        place := r.place, data := data, bad := s.badWords whole (wordsOf r.addr (64 * r.words)) }
    s.onSeq e (fun q => if q.issue = r.issue then { q with landed := q.landed ++ [l] } else q)
  | none => s

/-- A read that its stack no longer answers returns UNCORRECTABLE (R289). -/
def State.shutRead (s : State) (p : Nat) (r : Req) : State :=
  let s := s.setPch p ((s.pchAt p).promote 96)
  if r.write then (if r.client == .drain then s.drained r else s)
  else (s.countWords (wordsOf r.addr (64 * r.words))).land r s.now [] []

/-! ### Traffic generator (R271 to R273) -/

/-- Words of the range of a pseudo-channel's run, in order: granules G, G + 256, … (Table 7.9). -/
def State.tgcWord (s : State) (p i : Nat) : Nat :=
  let g := granuleOf (s.reg (Reg.TGC_BASE p)) + 256 * (i / 32768)
  g * 32768 + i % 32768

def State.tgcWords (s : State) (p : Nat) : Nat := s.reg (Reg.TGC_LEN p) / 64

/-- The 64 bytes of the pattern at a word (R272). -/
def State.tgcPattern (s : State) (p w : Nat) : List Byte :=
  let a := 64 * w
  (List.range 8).flatMap (fun j => leBytes 8 (match s.fld (Reg.TGC_CTL p) (15, 12) with
    | 0 => s.reg (Reg.TGC_SEED p) ^^^ (0x9E3779B97F4A7C15 * (w * 8 + j + 1) % 2 ^ 64)
    | 1 => 0
    | 2 => ones 64
    | 3 => (a + 8 * j) % 2 ^ 64
    | _ => if w % 2 = 0 then 0xAAAAAAAAAAAAAAAA else 0x5555555555555555))

/-- Granules of the range: every one that it touches. -/
def State.tgcGranules (s : State) (p : Nat) : List Nat :=
  (List.range (cdiv (s.reg (Reg.TGC_LEN p)) (2 ^ 21))).map (fun k => granuleOf (s.reg (Reg.TGC_BASE p)) + 256 * k)

/-- REASON of a refusal (R271), 0 for none. -/
def State.tgcReason (s : State) (p : Nat) : Nat :=
  let gs := s.tgcGranules p
  if gs.any (fun g => s.owner g != .test) then 1
  else if gs.any (fun g => g % 256 != p || stackedEnd ≤ g * 2 ^ 21) || s.reg (Reg.TGC_BASE p) % 2 ^ 21 != 0 then 2
  else if s.fld (Reg.TGC_CTL p) (5, 4) = 2 && !s.debug then 3 else 0

def State.tgcState (s : State) (p st reason : Nat) : State := s.setReg (Reg.TGC_STATUS p) (reason * 16 + st)

/-- Words of a burst of a run. -/
def State.tgcBurst (s : State) (p : Nat) : Nat := 2 ^ min 5 (s.fld (Reg.TGC_CTL p) (10, 8))

/-- Write bursts that one burst of a run is issued as: a 2 KiB one as two halves. -/
def tgcHalves (n : Nat) : Nat := if n = 32 then 2 else 1

/-- Burst number `pos` of a run in a mode, of bursts of n words over a range: whether it writes, its first word in the range, and
its words (R272). -/
def tgcStep (mode n total pos : Nat) : Bool × Nat × Nat :=
  let at_ := fun (i : Nat) => if total = 0 then 0 else i % total
  match mode with
  | 1 => (true, at_ (pos * min n 16), min n 16)
  | 2 => (false, at_ (pos * n), n)
  | 3 =>
    let h := tgcHalves n
    let k := pos / (h + 1)
    let j := pos % (h + 1)
    if j < h then (true, at_ (k * n + j * (n / h)), n / h) else (false, at_ (k * n), n)
  | _ => (false, 0, n)

/-- Has a WRITE or CHECK run gone over its range? -/
def State.tgcOver (s : State) (p : Nat) (t : TgcRun) : Bool :=
  let n := if t.mode = 1 then min (s.tgcBurst p) 16 else s.tgcBurst p
  decide (t.mode ≤ 2) && decide (s.tgcWords p ≤ t.pos * n)

/-- Queue the next burst of a run, at a time. Reads take slots like any other (R244). -/
def State.tgcNext (s : State) (p at_ : Nat) : State :=
  match (s.pchAt p).tgc with
  | none => s
  | some t =>
    let (write, i, n) := tgcStep t.mode (s.tgcBurst p) (s.tgcWords p) t.pos
    let prio := s.fld (Reg.TGC_CTL p) (5, 4)
    let r : Req := { client := .tgc, addr := 64 * s.tgcWord p i, words := n, write := write, level := if prio = 2 then 0 else 4,
                     place := [s.tick], allow := 32, arrived := at_ }
    let s := s.count64 (Reg.TGC_OPS p) 1
    let c := s.pchAt p
    if prio = 0 || 2 < prio then s.setPch p { c with mnt := c.mnt ++ [r] }
    else if write then s.setPch p (c.enqueue r)
    else s.arrive p r

/-- Writes of TGC_CTL (R271): setting GO starts a run or refuses it, clearing it stops MIX and LATENCY. -/
def State.tgcWrite (s : State) (p v : Nat) : State :=
  let was := s.fld (Reg.TGC_CTL p) (31, 31)
  let keep := setBits (setBits (setBits (setBits (setBits 0 31 31 (bits v 31 31)) 15 12 (bits v 15 12)) 10 8 (bits v 10 8)) 5 4 (bits v 5 4)) 2 0 (bits v 2 0)
  let s := s.setReg (Reg.TGC_CTL p) keep
  let c := s.pchAt p
  if was = 0 && bit v 31 then
    match s.tgcReason p with
    | 0 =>
      if bits v 2 0 = 0 || 4 < bits v 2 0 then s
      else
        let s := ((s.tgcState p 1 0).setReg (Reg.TGC_OPS p) 0).setReg (Reg.TGC_LATMAX p) 0
        let s := s.setPch p { c with tgc := some { mode := bits v 2 0 } }
        if s.tgcWords p = 0 then (s.setPch p { c with tgc := none }).tgcState p 2 0 else s.tgcNext p s.now
    | r => s.tgcState p 3 r
  else if was = 1 && !bit v 31 then
    match c.tgc with
    | some t => s.setPch p { c with tgc := some { t with stopping := true } }
    | none => s
  else s

/-- TGC_CTL, written by the PF, whose write shadow it empties (R8). -/
def execTgcCtl (p : Pch) (val : Word32) (s : State) : Host.Outcome State Fault Refusal := .next ((s.dropHeld 0).tgcWrite p val.toNat)

/-- A word of a TEST granule differs from its pattern (R273). -/
def State.tgcMismatch (s : State) (p w : Nat) : State :=
  let s := if s.reg (Reg.TGC_ERRS p) = 0 then s.setReg (Reg.TGC_FIRSTERR p) (64 * w) else s
  s.count (Reg.TGC_ERRS p) 1

/-- The words of a generator's read are decoded and counted like any others (R277, R290), and compared (R273). LATMAX is in MCLK
of 1.6 GHz, 39.375 time units. -/
def State.tgcCheck (s : State) (p : Nat) (r : Req) (end_ : Nat) (data : List Byte) : State :=
  let ws := wordsOf r.addr (64 * r.words)
  let s := s.setReg (Reg.TGC_LATMAX p) (max (s.reg (Reg.TGC_LATMAX p)) (min (ones 32) ((end_ - r.arrived) * 8 / 315)))
  forAll ws (fun w s =>
    let bad := match s.rawOutcome w with | .uncorrectable => true | .poisoned => true | _ => false
    if bad || slice (data.drop (64 * w - r.addr)) 0 64 != s.tgcPattern p w then s.tgcMismatch p w else s) (s.countWords ws)

/-- A burst of a run has been served, written under key slot 0 (R271) or checked; the next one follows it until the run is over or
stopped. -/
def State.tgcBurstDone (s : State) (p : Nat) (r : Req) (end_ : Nat) (data : List Byte) : State :=
  let s := if r.write then s.storeBurst { r with data := (wordsOf r.addr (64 * r.words)).flatMap (s.tgcPattern p) } else s.tgcCheck p r end_ data
  let c := s.pchAt p
  match c.tgc with
  | none => s
  | some t =>
    let t := { t with pos := t.pos + 1 }
    let s := s.setPch p { c with tgc := some t }
    if s.tgcOver p t then s
    else if 2 < t.mode && t.stopping then (s.setPch p { c with tgc := none }).tgcState p 0 0
    else s.tgcNext p end_

/-- A burst of the generator runs on TEST granules only (R271): the owner having changed, it is not performed, and the run ends
REFUSED (log entry 118). -/
def State.tgcLost (s : State) (p : Nat) : State := (s.setPch p { s.pchAt p with tgc := none }).tgcState p 3 1

/-- BURST_START (R242): a free pseudo-channel starts the first candidate. Row 1 of Table 7.4, refresh and copies, are steps of
their own and go first. A write burst to a row under copy joins the copy (R293). A stack that is shut down answers its reads
UNCORRECTABLE (R289). -/
def execBurstStart (p : Pch) (s : State) : Host.Outcome State Fault Refusal :=
  let c := s.pchAt p
  let st := s.startAt c
  let shut := s.stackShut (rowAddr p 0)
  if c.service.isSome || !c.trained || s.tickEnd ≤ st || (!shut && (s.refreshOwed p st || c.copyOwed st)) then .next s
  else
    let s := s.refillTo st
    match s.candidate p st c with
    | none => .next s
    | some (r, c', tok) =>
      let s := s.setPch p c'
      if shut then .next (s.shutRead p r)
      else if r.client == .tgc && s.owner (granuleOf r.addr) != .test then .next (s.tgcLost p)
      else if !s.reqOwned r then .next (s.ownerFault 0 r.addr)
      else match c'.copy with
        | some k =>
          if r.write && k.held.isSome && rowOf r.addr == k.row then
            .next (s.setPch p { c' with copy := some { k with merged := k.merged ++ [r] } })
          else .next ((if tok then s.debit p r else s).serve p st r)
        | none => .next ((if tok then s.debit p r else s).serve p st r)

/-! ### Drains (R262 to R264) -/

/-- Entries that the share of an entry may hold, and how many it holds. -/
def State.shareFull (s : State) (e : WcbEntry) : Bool :=
  match e.rood with
  | none => decide (192 ≤ (s.wcb.filter (fun (x : Nat × WcbEntry) => x.2.rood.isNone)).length)
  | some r =>
    match s.parts.find? (fun (x : Nat × Partition) => x.2.roods.contains r) with
    | some x => decide (180 * x.2.roods.length ≤ s.wcbShare x.2.roods)
    | none => false

/-- Are all 128 nibbles of an entry set? -/
def WcbEntry.full (e : WcbEntry) : Bool := e.mask == 2 ^ 128 - 1

/-- Is an entry eligible to drain (R262)? -/
def State.eligibleEntry (s : State) (e : WcbEntry) : Bool :=
  e.drain == 0 && (e.full || decide (e.first + usec 1 ≤ s.now) || s.shareFull e)

/-- The run of consecutive words around a word, within its half-frame, whose entries a test accepts (R262). -/
def State.wordRun (s : State) (ok : WcbEntry → Bool) (w : Nat) : List Nat :=
  let row := w / 16
  let yes := fun (x : Nat) => match Tab.find s.wcb x with | some e => ok e | none => false
  let up := ((List.range (16 * row + 16 - w)).map (· + w)).takeWhile yes
  let down := ((List.range (w - 16 * row)).map (fun k => w - 1 - k)).takeWhile yes
  down.reverse ++ up

/-- What an entry's burst stores: its nibbles over the old word that a merge has read (R263). -/
def WcbEntry.whole (e : WcbEntry) : List Byte := if e.drain = 5 then mergeNibbles e.mask e.merged e.data else e.data

/-- Queue a drain burst of some words, all consecutive. It carries what their entries hold now (R260). -/
def State.formDrain (s : State) (ws : List Nat) : State :=
  match ws with
  | [] => s
  | w :: _ =>
    let p := pchOf (64 * w)
    let es := ws.filterMap (Tab.find s.wcb)
    let slot := match es with | e :: _ => e.keySlot | [] => 0
    let r : Req := { client := .drain, addr := 64 * w, words := ws.length, write := true, data := es.flatMap WcbEntry.whole,
                     keySlot := slot, level := 4, place := [s.tick, 5], arrived := s.now }
    let s := { s with wcb := s.wcb.map (fun (x : Nat × WcbEntry) => if ws.contains x.1 then
      (x.1, { x.2 with drain := 2, rewritten := x.2.rewritten && x.2.drain == 5 }) else x) }
    let c := s.pchAt p
    (s.setPch p { c with wr := c.wr ++ [r] }).count64 Reg.WCB_DRAINS 1

/-- Is an entry ready to be part of a burst: eligible and whole, or made whole by a merge? -/
def State.drainReady (s : State) (e : WcbEntry) : Bool := e.drain == 5 || (e.full && s.eligibleEntry e)

/-- Does an entry's merge still have to come? -/
def WcbEntry.merging (e : WcbEntry) : Bool := e.drain == 1 || e.drain == 4

/-- The burst of the run around a word is formed once every word of the run is whole (R262, R263). -/
def State.tryDrain (s : State) (w : Nat) : State :=
  let ready := s.wordRun s.drainReady w
  let all_ := s.wordRun (fun e => s.drainReady e || e.merging) w
  if ready.length = all_.length then s.formDrain ready else s

/-- The line read of an old word, in WR class (R263). -/
def State.mergeRead (s : State) (w : Nat) : State :=
  match Tab.find s.wcb w with
  | none => s
  | some e =>
    let p := pchOf (64 * w)
    let c := s.pchAt p
    let r : Req := { client := .merge, addr := 64 * w, words := 1, keySlot := e.keySlot, level := 4, place := [s.tick, 5], arrived := s.now }
    ({ s with wcb := Tab.insert s.wcb w { e with drain := 1, rewritten := false } } : State).setPch p { c with wr := c.wr ++ [r] }

/-- DRAIN_ELIGIBLE (R262): an eligible entry drains with the run of eligible words around it; partial words of the run are read
first (R263). -/
def execDrainEligible (word : Nat) (s : State) : Host.Outcome State Fault Refusal :=
  match Tab.find s.wcb word with
  | none => .next s
  | some e =>
    if s.eligibleEntry e then
      let run := s.wordRun s.eligibleEntry word
      let partials := run.filter (fun w => match Tab.find s.wcb w with | some e => !e.full | none => false)
      .next (if partials.isEmpty then s.formDrain run else forAll partials (fun w s => s.mergeRead w) s)
    else .next s

/-- DRAIN_MERGE (R263, R284, R285): the merge read has come back; the old word's outcome decides what is stored. Bytes that an
UNCORRECTABLE word leaves uncovered are free values: undefined, and never read. -/
def execDrainMerge (word : Nat) (errs : List (Nat × Byte)) (s : State) : Host.Outcome State Fault Refusal :=
  match Tab.find s.wcb word with
  | none => .next s
  | some e =>
    if e.drain != 4 then .next s
    else
      let s := if errs.isEmpty then s else s.meetErrors [(word, errs)]
      let s := s.count64 Reg.WCB_MERGES 1
      let o := s.rawOutcome word
      let s := s.countWord true word
      let (s, old) := match o with
        | .uncorrectable => ({ s with free := s.free + 64 }, (List.range 64).map (fun k => BitVec.ofNat 8 (Config.freeValue (s.free + k)).toNat))
        | _ => (s, e.merged)
      let s := match o with
        | .poisoned => s.makePoison Cause.poisonMade word
        | .uncorrectable => s.makePoison (if e.sound then Cause.poisonLate else Cause.poisonMade) word
        | _ => s
      .next (({ s with wcb := Tab.insert s.wcb word { e with drain := 5, merged := old } } : State).tryDrain word)

/-- DRAIN_COMPLETE (R260): an entry that no batch has written since its drain began leaves; another stays, and drains again. -/
def execDrainComplete (word : Nat) (s : State) : Host.Outcome State Fault Refusal :=
  match Tab.find s.wcb word with
  | none => .next s
  | some e =>
    if e.drain != 3 then .next s
    else if e.rewritten then .next { s with wcb := Tab.insert s.wcb word { e with drain := 0, rewritten := false, merged := [] } }
    else .next { s with wcb := Tab.erase s.wcb word }

/-- WHOLE_WORD_STREAM (R264, R278): Sosin firmware writes whole words, in bursts that go to WR; a word's entry takes the stream's
data first. -/
def execWholeWordStream (addr : Nat) (data : List Byte) (s : State) : Host.Outcome State Fault Refusal :=
  let a := addr / 64 * 64
  let n := data.length / 64 * 64
  if n = 0 || stackedEnd < a + n then .next s
  else .next (forAll (halfFrames a n) (fun b s =>
    s.queueStream (s.keySlotAt b.1) b.1 (slice (data.drop (b.1 - a)) 0 (64 * b.2))) s)

/-! ### Ends of service -/

/-- A burst's service has ended: a write reaches the cells, a read's words are decoded and counted, and its data goes to whoever
waits (R238, R263, R277). -/
def State.burstDone (s : State) (p : Nat) (r : Req) (end_ : Nat) (data : List Byte) (whole : List Nat) (errs : List WordErr) : State :=
  let s := s.setPch p ({ s.pchAt p with service := none }.promote 96)
  if r.write then (if r.client == .tgc then s.tgcBurstDone p r end_ data else s.endWrite r)
  else
    let vf := match r.client.seq with | some e => s.seqVf e | none => 0
    let s := (if r.words = 32 then s.act 8 vf 1 else s.act 9 vf r.words).meetErrors errs
    if r.client == .tgc then s.tgcBurstDone p r end_ data
    else if r.client == .merge then
      -- the word is decoded when it is merged
      { s with wcb := s.wcb.map (fun (x : Nat × WcbEntry) => if 64 * x.1 = r.addr && x.2.drain = 1 then
          (x.1, { x.2 with drain := 4, merged := data }) else x) }
    -- a scrub's frame was decoded when its read started
    else if r.client == .scrub then s
    else (s.countWords (wordsOf r.addr (64 * r.words))).land r end_ data whole

/-- The service of a pseudo-channel ends, once its time has come within the open tick. -/
def State.serviceEnds (s : State) (p : Nat) (errs : List WordErr) : State :=
  let c := s.pchAt p
  if s.tickEnd < c.serviceEnd then s
  else match c.service with
    | none => s
    | some .copyRead => s.setPch p { c with service := none }
    | some .copyWrite =>
      let s := s.setPch p { c with service := none }
      match c.copy with
      | some k => s.copyDone p k
      | none => s
    | some .refresh => s.setPch p { c with service := none }
    | some (.burst r data whole) => s.burstDone p r c.serviceEnd data whole errs

/-- BURST_COMPLETE (R238, R277). -/
def execBurstComplete (p : Pch) (errs : List WordErr) (s : State) : Host.Outcome State Fault Refusal := .next (s.serviceEnds p errs)

/-- TGC_RUN_DONE (R272): a WRITE or CHECK run whose last burst has been served ends in DONE. -/
def execTgcRunDone (p : Pch) (errs : List WordErr) (s : State) : Host.Outcome State Fault Refusal :=
  let last := match (s.pchAt p).service with | some (.burst r _ _) => decide (r.client = .tgc) | _ => false
  let s := if last = true then s.serviceEnds p errs else s
  let c := s.pchAt p
  match c.tgc with
  | none => .next s
  | some t => .next (if s.tgcOver p t then (s.setPch p { c with tgc := none }).tgcState p 2 0 else s)

/-- DISPLACE (R244): an LC read that waits in the backlog for a slot of its size takes the youngest BE read's. -/
def execDisplace (p : Pch) (addr : Nat) (s : State) : Host.Outcome State Fault Refusal :=
  let c := s.pchAt p
  match c.backlog.find? (fun r => r.lc && r.addr == addr) with
  | none => .next s
  | some r =>
    if c.roomFor r then .next (s.setPch p ({ c with backlog := c.backlog.erase r }.enqueue r))
    else match c.victim r.big with
      | some v => .next ((s.setPch p ({ c with backlog := c.backlog.erase r }.displace v r)).count (Reg.HMC_DISPLACE p) 1)
      | none => .next s

/-- A tick opens: each pseudo-channel whose LCR holds a read may starve its other queues in it (R243). -/
def State.openStarve (s : State) : State :=
  { s with pch := s.pch.map (fun (x : Nat × PchState) => (x.1, { x.2 with starving := !x.2.lcr.isEmpty })) }

/-- STARVE (R243): at the end of a tick in which a pseudo-channel's LCR never emptied while other requests were queued. -/
def State.countStarve (s : State) : State :=
  forAll s.pch (fun (x : Nat × PchState) s =>
    let c := x.2
    let others := !c.ber.isEmpty || !c.wr.isEmpty || !c.mnt.isEmpty || c.backlog.any (fun r => !r.lc)
    if c.starving && !c.lcr.isEmpty && others then s.count (Reg.HMC_STARVE x.1) 1 else s) s

/-! ### Pool atomics (R268) -/

/-- The word of a pool atomic. -/
def poolApply (op : PoolOp) (w old x cmp : Nat) : Nat :=
  let m := 2 ^ w
  match op with
  | .add => (old + x) % m
  | .sadd => let v : Int := (old : Nat) + signed w x; if v < 0 then 0 else min v.toNat (m - 1)
  | .min => if signed w x < signed w old then x % m else old
  | .max => if signed w old < signed w x then x % m else old
  | .and => old &&& (x % m)
  | .or => old ||| (x % m)
  | .swap => x % m
  | .cas => if old = cmp % m then x % m else old
  | .setall => old
  | .clrall => old

/-- Slice of a pool offset (R265). -/
def poolSlice (off : Nat) : Nat := 4 * (off / 2 ^ 24) + off / 64 % 4

/-- The words a pool atomic works on, each with what it leaves there, or none when the operation is malformed. -/
def State.poolWords (s : State) (op : PoolOp) (a n : Nat) (operand comparand : Nat) (masks : List Word64) : Option (List (Nat × Nat)) :=
  let ms := masks.zipIdx.map (fun m => (a + n * m.2, m.1.toNat % 2 ^ (8 * n)))
  match op with
  | .setall =>
    if 8 < masks.length then none
    else
      let clear := ms.all (fun m => s.num m.1 n &&& m.2 == 0)
      some (ms.map (fun m => (m.1, if clear then s.num m.1 n ||| m.2 else s.num m.1 n)))
  | .clrall =>
    if 8 < masks.length then none else some (ms.map (fun m => (m.1, s.num m.1 n - (s.num m.1 n &&& m.2))))
  | _ => some [(a, poolApply op (8 * n) (s.num a n) operand comparand)]

/-- POOL_ATOMIC (R268, R269): one indivisible operation on naturally aligned 4 B or 8 B words of the pool, which returns the old
values. SETALL and CLRALL take up to 8 masks over consecutive words. -/
def execPoolAtomic (op : PoolOp) (off : Nat) (wide : Bool) (operand comparand : Word64) (masks : List Word64) (s : State) :
    Host.Outcome State Fault Refusal :=
  let n := if wide then 8 else 4
  if off % n != 0 then .next s
  else match s.poolWords op (poolBase + off) n operand.toNat comparand.toNat masks with
    | none => .next s
    | some ws =>
      if 2 ^ 28 < off + n * ws.length then .next s
      else .next (forAll ws (fun w s => s.setNum w.1 n w.2) (s.emit (.atomic (ws.map (fun w => s.num w.1 n)))))

end Sys2Proof.Machine
end

