-- ==== Sys2Proof/Machine/SosinIndex.lean ====
section
/-! DEFINITION. Machine/SosinIndex.lean: the Sosin commands on indexes, their checkpoints and their filters, and the messages by
which they reach the shards of other devices (chapter 2; R321 to R324, R460 to R470). -/

namespace Sys2Proof.Machine

/-! ### Numbers, homes and messages -/

/-- A 32-bit number, nonzero and not in use: which one, the specification leaves to the device (log entry 1). -/
def State.freshNumber (s : State) (used : List Nat) : Nat :=
  let f := s.peekFree (2 ^ 32 - 1)
  (((List.range (used.length + 1)).map (fun k => (f + k) % (2 ^ 32 - 1) + 1)).find? (fun n => !used.contains n)).getD 1

/-- A handle for a new index: number and reuse generation (R453). -/
def State.newIxHandle (s : State) : State × Nat :=
  let n := s.freshNumber (s.indexes.map (fun (x : Nat × Index) => x.1 % 2 ^ 32))
  let g := Tab.read s.sosin.ixGen 0 n
  ({ s.drew with sosin := { s.sosin with ixGen := Tab.write s.sosin.ixGen 0 n ((g + 1) % 2 ^ 16) } }, n + g * 2 ^ 32)

/-- A tenant's tun by its name. -/
def State.tunNamed (s : State) (vf : Nat) (name : List Byte) : Option (Nat × Tun) :=
  s.far.tuns.find? (fun x => x.2.vf == vf && x.2.name == name && !x.2.doomed)

/-- Sosin firmware has written bytes at an offset of a tun, and every write has completed on its port. -/
def State.tunStore (s : State) (h o : Nat) (bs : List Byte) : State :=
  match s.tun h with
  | none => s
  | some t =>
    let lines := (List.range (cdiv bs.length 64)).map (fun k => t.addr (o + 64 * k) / 64)
    let s := forAll lines (fun w s => s.setInk w (s.keyOf t.vf).key) s
    let s := forAll [0, 1] (fun n s =>
      let x := s.farAt n
      s.setFar n { x with wr := x.wr.filter (fun w => !lines.contains w.line) }) s
    forAll (List.range (cdiv bs.length 64)) (fun k s => s.streamWords (t.addr (o + 64 * k)) (slice bs (64 * k) 64)) s

/-- Sosin firmware writes a range of device memory, in whole words (R264), all within the command (log entry 124). -/
def State.store (s : State) (a : Nat) (bs : List Byte) : State := s.streamWords a bs

/-- Sosin firmware writes a structure in its home. -/
def State.storeHome (s : State) (tun : Option Nat) (o : Nat) (bs : List Byte) : State :=
  match tun with | some h => s.tunStore h o bs | none => s.store o bs

/-- Bytes of one MGT message at most. -/
def mgtChunk : Nat := 32768

/-- Send Sosin traffic to a device, in as many MGT messages as it takes (log entry 12): kind (1 request, 2 answer), serial,
total length, offset, bytes. -/
def State.mgtSend (s : State) (dest kind serial : Nat) (bs : List Byte) : State :=
  forAll (List.range (max 1 (cdiv bs.length mgtChunk))) (fun k s =>
    s.sendTo { mtype := 13, cls := 4, dest := dest, home := s.devId,
               body := leBytes 8 kind ++ leBytes 8 serial ++ leBytes 8 bs.length ++ leBytes 8 (mgtChunk * k)
                 ++ (bs.drop (mgtChunk * k)).take mgtChunk }) s

/-- The request to the shard of another device: shard, VF, opcode, handle at the home, request payload, and what else it
carries. -/
def shardRequest (shard vf op h : Nat) (p data : List Byte) : List Byte :=
  leBytes 2 shard ++ leBytes 1 vf ++ leBytes 1 0 ++ leBytes 2 op ++ leBytes 2 0 ++ leBytes 8 h ++ slice p 0 448 ++ data

/-- Ask some devices, each with its own bytes. The command waits for their answers. -/
def State.askAll (s : State) (h : Nat) (ms : List (Nat × List Byte)) (r : Reply) : State × Reply :=
  let n := s.sosin.nextSerial
  let s := forAll ms (fun m s => s.mgtSend m.1 1 n m.2) { s with sosin := { s.sosin with nextSerial := n + 1 } }
  (s, { r with wait := .shards h, exchange := some { serial := n, awaits := ms.map (·.1) } })

/-- Shards of an index on other devices: number and device. -/
def State.remoteShards (s : State) (i : Index) : List (Nat × Nat) :=
  if i.sharded then (i.shards.zipIdx.map (fun x => (x.2, x.1))).filter (fun x => x.2 != s.devId) else []

/-- The first shard whose device is outside the league or has no route: UNREACHABLE (Table 13.6). -/
def State.unreachable (s : State) (l : List (Nat × Nat)) : Option Nat :=
  (l.find? (fun x => decide (s.fab.map.size ≤ x.2) || !s.reachable x.2)).map (·.2)

/-- Run a command on every shard of an index: here, and by request on the others. -/
def State.onShards (s : State) (c : Cmd) (op : Nat) (i : Index) (p : List Byte) (f : State → State × Reply) : State × Reply :=
  let l := s.remoteShards i
  match s.unreachable l with
  | some d => (s, refuse sUNREACH d)
  | none =>
    let r := f s
    if l.isEmpty || r.2.status != 0 then r
    else r.1.askAll i.handle (l.map (fun x => (x.2, shardRequest x.1 c.fn op i.handle p []))) r.2

/-- Run a command on the one shard it names: here, or by request. -/
def State.onShard (s : State) (c : Cmd) (op shard : Nat) (i : Index) (data : List Byte) (f : State → State × Reply) : State × Reply :=
  match (s.remoteShards i).find? (fun x => x.1 == shard) with
  | none => f s
  | some x =>
    match s.unreachable [x] with
    | some d => (s, refuse sUNREACH d)
    | none => s.askAll i.handle [(x.2, shardRequest shard c.fn op i.handle c.payload data)] {}

/-! ### Creation (R58 to R60, R77, R82, R236, R387, R388, R460 to R463) -/

def isPow2 (x lo hi : Nat) : Bool := decide (lo ≤ x) && decide (x ≤ hi) && x == 2 ^ x.log2

/-- The index a creation request describes (Table 13.11), before its structures are placed. -/
def indexOfRequest (vf h : Nat) (p : List Byte) : Index :=
  let chn := field p 0 1 == 1
  let flags := field p 4 1
  let rerank := bit flags 0
  let fmt := field p 5 1 % 16
  let mx := bit (field p 5 1) 4
  let l2 := field p 6 1 == 1
  let d := field p 28 4
  { handle := h, vf := vf, chn := chn, t2 := field p 1 1 == 1, len := field p 2 2, nmax := field p 8 8, buckets := field p 16 4,
    bmax := field p 20 4, elog := field p 24 4, chans := bitList (field p 96 32) 256,
    nbush := if chn then field p 8 8 else field p 36 4, lg0 := 0, lists := 0, cents := 0, entries := 0, idtab := 0, iddir := 0,
    tomb := 0, rerank := rerank, vfmt := fmt, vmx := mx, dim := d, metric := if l2 then .l2sq else .dot, scale := field p 32 4,
    stride := roundUp (Numeric.normOff fmt mx d + if l2 then 4 else 0) 64, vecTun := none, vecs := 0, pinLists := bit flags 1,
    rrt := field p 72 4, request := slice p 0 128 }

/-- Depth of a shard map (R384). -/
def State.mapDepth (s : State) (devs : List Nat) : Nat := devs.foldl (fun d x => max d (s.fab.map.depth s.devId x)) 0

/-- Device of each entry of a shard directory, and its VF. -/
def shardDir (b : List Byte) (at0 n : Nat) : List (Nat × Nat) :=
  (List.range n).map (fun k => (field b (at0 + 4 * k) 2, field b (at0 + 4 * k + 2) 1))

/-- Bytes of the buffer before the shard directory: the centroids, padded (R460). -/
def Index.centBytes (i : Index) : Nat := if i.chn then 0 else roundUp (i.buckets * i.s) 64

/-- Ranges of a creation (Table 2.2, Table 13.11, R43, R44, R76, R301). DESIGN CHOICE: an SX of a plain integer format that is zero,
infinite or no number is out of range, of which no rule speaks (log entry 122). -/
def State.indexRanges (s : State) (i : Index) (p : List Byte) : List (Bool × Nat × Nat) :=
  let flags := field p 4 1
  let f := fun (b : Bool) (o : Nat) => (b, sRANGE, at_ o)
  let plainInt := !i.vmx && decide (2 ≤ i.vfmt) && decide (i.vfmt ≤ 5)
  [f (decide (1 < field p 0 1)) 0, f (decide (1 < field p 1 1)) 1,
   f (!(if i.t2 then [64, 128, 256, 512] else [64, 128, 256, 512, 1024]).contains i.len) 2,
   f ((bit flags 4 && i.chn) || (bit flags 2 && !i.rerank)) 4,
   f (if i.rerank then i.vfmt == 0 || i.vfmt == 1 || i.vfmt == 6 || i.vfmt == 7 || !mxLegal i.vfmt i.vmx
        || (plainInt && i.metric == .l2sq) else field p 5 1 != 0) 5,
   f (if i.rerank then decide (1 < field p 6 1) else field p 6 1 != 0) 6,
   f (i.nmax == 0 || decide (2 ^ 32 < i.nmax)) 8,
   f (if i.chn then i.buckets != 0 else i.buckets == 0 || decide (65536 < i.buckets)) 16,
   f (if i.chn then i.bmax != 0 else !isPow2 i.bmax 1 65536) 20, f (!isPow2 i.elog 65536 (32 * 2 ^ 20)) 24,
   f (if i.rerank then i.dim == 0 || (i.vmx && i.dim % 32 != 0) || (i.vfmt == 2 && i.dim % 2 != 0) else i.dim != 0) 28,
   f (if i.rerank && plainInt then !finiteNonzero i.scale else i.scale != 0) 32,
   f (field p 36 4 != 0 && (i.chn || (!i.chans.isEmpty && field p 36 4 % i.chans.length != 0))) 36, f (!bit flags 5 && field p 40 8 != 0) 40,
   f (!bit flags 2 && !zeroAt p 48 16) 48, f (if bit flags 2 then field p 64 8 % 64 != 0 else field p 64 8 != 0) 64,
   f (if bit flags 3 then decide (field p 72 4 < 20) || decide (10000000 < field p 72 4) else field p 72 4 != 0) 72,
   f (if bit flags 3 then decide (field p 76 2 < 2) || decide (8192 < field p 76 2) else field p 76 2 != 0) 76,
   f (i.chans.isEmpty || i.chans.any s.pchFailed) 96]

/-- Place every structure of an index, filled under R280; or the request offset of what found no place. -/
def State.placeIndex (s : State) (i : Index) : Except Nat (State × Index) :=
  let stk := fun (s : State) (n : Nat) => match s.placeStacked i.vf n with | some x => Except.ok x | none => Except.error 8
  match s.placeRegion i.vf i.chans i.nbush with
  | none => .error 96
  | some (s, lg) =>
    (stk s i.listsBytes).bind fun (s, lists) =>
    (stk s i.idBytes).bind fun (s, ids) =>
    (stk s i.dirBytes).bind fun (s, dir) =>
    (stk s i.tombBytes).bind fun (s, tomb) =>
    (stk s i.logsBytes).bind fun (s, logs) =>
    (stk s i.vecsBytes).bind fun (s, vecs) =>
    match s.placePool i.vf i.poolNeed (poolAlign i.chn) with
    | none => .error 16
    | some (s, pool) =>
      .ok (s, { i with lg0 := lg, lists := lists, idtab := ids, iddir := dir, tomb := tomb, cents := if i.chn then 0 else pool,
                       entries := if i.chn then pool else 0, vecs := if i.vecTun.isSome then i.vecs else vecs,
                       epochs := (List.range 5).map (fun t => { dlbase := logs + t * i.elog * 8 }),
                       stkBytes := i.stackedNeed, poolBytes := i.poolNeed })

/-- Publish epoch 0 with LIMIT n and open epoch 1 (R82). -/
def Index.publishZero (i : Index) (n tick : Nat) : Index :=
  let i := i.setRecord 0 { (i.record 0) with st := .live, epoch := 0, limit := n, pubtick := tick }
  { i.setRecord 1 { (i.record 1) with st := .opened, epoch := 1, limit := n } with st := .ready }

/-- ENCSTEPS of the encoder of an index, 0 with none. -/
def State.encStepsOf (s : State) (i : Index) : Nat := match s.encoderOf i with | some m => m.encsteps | none => 0

/-- R77: may the image encode for the index? -/
def Index.takes (i : Index) (m : Image) : Bool := m.t2 == i.t2 && m.outlen == i.len

/-- The image a tenant names. -/
def State.imageFor (s : State) (vf h : Nat) : Option Image :=
  match Tab.find s.images h with
  | some m => if m.vf = vf && !m.deleted then some m else none
  | none => none

/-- Is no usable key in the VF's slot (R185)? -/
def State.noKey (s : State) (vf : Nat) : Bool := let k := (s.keyOf vf).st; k != 1 && k != 2

/-- Checks 6 to 9 of a creation of one shard, its ranges apart, and its placement. -/
def State.prepareIndex (s : State) (i : Index) (p : List Byte) : Except Reply (State × Index) :=
  let flags := field p 4 1
  let enc := if bit flags 5 then s.imageFor i.vf (field p 40 8) else none
  let tun := if bit flags 2 then s.tunNamed i.vf (slice p 48 16) else none
  let i := { i with vecTun := tun.map (·.1), vecs := field p 64 8, encoder := enc.map (·.handle) }
  let short := match tun with | some (_, t) => decide (t.size < i.vecs + i.nmax * i.stride) | none => false
  let over_ := match Tab.find s.tenants i.vf with | some t => t.exceeds i.stackedNeed i.poolNeed 0 | none => some 0
  match firstFail [(bit flags 5 && enc.isNone, sNOOBJ, at_ 40), (bit flags 2 && tun.isNone, sNOOBJ, at_ 48), (short, sRANGE, at_ 64),
      (s.noKey i.vf, sSTATE, 0), (i.chans.any (fun c => (s.closedPch i.vf).contains c), sSTATE, at_ 96),
      (over_.isSome, sQUOTA, over_.getD 0)] with
  | some r => .error r
  | none =>
    match s.placeIndex i with
    | .error o => .error (refuse sNOSPACE (at_ o))
    | .ok x => if enc.any (fun m => !i.takes m) then .error (refuse sIMAGE 0) else .ok x

/-- The index stands: its centroids are written, its encoder is bound, its bytes are charged, and a BKT index created EMPTY is
ready (R60, R82, R460). -/
def State.standIndex (s : State) (i : Index) (cents : List Byte) : State :=
  let s := if i.chn then s else s.store i.cents (slice cents 0 (i.buckets * i.s))
  let s := match i.encoder with | some m => s.onImage m (fun m => { m with bound := m.bound + 1 }) | none => s
  let i := if !i.chn && bit (field i.request 4 1) 4 then i.publishZero 0 s.tick else i
  (s.charge i.vf i.stkBytes i.poolBytes 0).setIndex i.handle i

/-- The response of INDEX_CREATE. -/
def State.createdBytes (s : State) (i : Index) : List Byte :=
  leBytes 8 i.handle ++ leBytes 2 i.lg0 ++ leBytes 2 0 ++ leBytes 4 (s.encStepsOf i) ++ leBytes 8 i.stkBytes ++ leBytes 4 i.poolBytes

/-- Faults of a shard directory (R387, R460): the first bad entry. -/
def State.dirFault (s : State) (b : List Byte) (at0 : Nat) (l : List (Nat × Nat)) : Option Nat :=
  (List.range l.length).find? (fun k =>
    let x := l.getD k (0, 0)
    x.2 == 0 || decide (64 < x.2) || field b (at0 + 4 * k + 3) 1 != 0 || (k == 0 && x.1 != s.devId)
      || ((l.take k).any (fun y => y.1 == x.1)))

def indexCreate (c : Cmd) (s : State) : State × Reply :=
  let p := slice c.payload 0 128
  let n := s.newIxHandle
  let i := indexOfRequest c.fn n.2 p
  let sharded := bit (field p 4 1) 3
  let need := i.centBytes + (if sharded then 4 * field p 76 2 else 0)
  match firstFail (s.indexRanges i p ++ [(decide (c.len < need), sRANGE, 24)]) with
  | some r => (s, r)
  | none =>
    match n.1.prepareIndex i p with
    | .error r => (s, r)
    | .ok x =>
      let run := fun (b : List Byte) (s0 : State) =>
        -- what the DMA has done to the state, and what the placement has
        let st := { x.1 with host := s0.host, out := s0.out, errq := s0.errq, raised := s0.raised, regs := s0.regs, fatalPend := s0.fatalPend }
        if !sharded then (st.standIndex x.2 b, ({ payload := st.createdBytes x.2 } : Reply))
        else
          let dir := shardDir b i.centBytes (field p 76 2)
          let devs := dir.map (·.1)
          match s.dirFault b i.centBytes dir, s.unreachable (dir.zipIdx.map (fun d => (d.2, d.1.1))) with
          | some k, _ => (s0, refuse sRANGE (2 ^ 31 + k))
          | none, some d => (s0, refuse sUNREACH d)
          | none, none =>
            if i.rrt * 100 < s.mapDepth devs * 2400 + 2000 then (s0, refuse sRANGE (at_ 72))
            else
              let j := { x.2 with shards := devs, sharded := true, homeDev := s.devId, ghandle := i.handle }
              let data := slice b 0 i.centBytes ++ devs.flatMap (leBytes 2)
              (st.standIndex j b).askAll i.handle
                (((dir.zipIdx).drop 1).map (fun d => (d.1.1, shardRequest d.2 d.1.2 0x0201 i.handle p data)))
                { payload := st.createdBytes j }
      if need = 0 && !c.hasBuf then run [] s else c.readBuf s run

/-- INDEX_CREATE (R58 to R60, R460 to R462). -/
def execIndexCreate (m : Mbx) (k : MSlot) (data : List Byte) (s : State) : Host.Outcome State Fault Refusal :=
  .next (s.runCmd m k 0x0201 data indexCreate)

/-- The shard of an index created on device `home`, made here under a VF (R462). -/
def State.createShard (s : State) (home h shard vf : Nat) (p data : List Byte) : State × Reply :=
  let n := s.newIxHandle
  let i := indexOfRequest vf n.2 p
  if (Tab.find s.tenants vf).isNone then (s, refuse sNOOBJ shard)
  else match firstFail (s.indexRanges i p) with
    | some r => (s, r)
    | none =>
      match n.1.prepareIndex i p with
      | .error r => (s, r)
      | .ok x =>
        let devs := (List.range (field p 76 2)).map (fun k => field data (i.centBytes + 2 * k) 2)
        let j := { x.2 with shards := devs, sharded := true, homeDev := home, ghandle := h, myShard := shard }
        (x.1.standIndex j data, {})

/-! ### Commands on an index -/

/-- The index a command names: the caller's, or any for the operator, created here. -/
def State.indexNamed (s : State) (c : Cmd) (h : Nat) : Option Index :=
  match Tab.find s.indexes h with
  | some i => if (c.operator || i.vf == c.fn) && !s.foreignShard i then some i else none
  | none => none

/-- A command on the index whose handle stands at byte 0: NO_OBJECT, or STATE when it is being destroyed. -/
def onIndex_ (c : Cmd) (s : State) (f : Index → State → State × Reply) : State × Reply :=
  match s.indexNamed c (c.fld 0 8) with
  | none => (s, refuse sNOOBJ (at_ 0))
  | some i => if i.st == .destroying then (s, refuse sSTATE (at_ 0)) else f i s

/-- Shards of an index: one when it is not sharded. -/
def Index.shardCount (i : Index) : Nat := if i.sharded then i.shards.length else 1

/-- Do commands of these opcodes run on an index (R444, R464)? -/
def State.indexBusy (s : State) (ops : List Nat) (h : Nat) : Bool :=
  s.running.any (fun x => ops.contains (field x.2.2.copy 0 2) && field x.2.2.copy 32 8 == h && !(x.2.2.ran && x.2.2.exchange.isNone))

/-- The index can be admitted to no more; what holds it ends first (R464). -/
def State.destroyIndex (s : State) (h : Nat) : State := s.onIndex h (fun i => { i with st := .destroying })

def indexDestroy (c : Cmd) (s : State) : State × Reply :=
  onIndex_ c s (fun i s =>
    if s.indexBusy [0x0203, 0x0206] i.handle then (s, refuse sBUSY 0)
    else s.onShards c 0x0202 i c.payload (fun s => (s.destroyIndex i.handle, {})))

/-- INDEX_DESTROY (R464). -/
def execIndexDestroy (m : Mbx) (k : MSlot) (s : State) : Host.Outcome State Fault Refusal := .next (s.runCmd m k 0x0202 [] indexDestroy)

/-- Epoch summary of INDEX_INFO. -/
def EpochRec.summary (r : EpochRec) : List Byte :=
  leBytes 8 r.epoch ++ leBytes 8 r.limit ++ leBytes 4 r.pins
    ++ leBytes 1 (match r.st with | .free => 0 | .opened => 1 | .live => 2 | .retiring => 3) ++ leBytes 3 0 ++ leBytes 4 r.nins
    ++ leBytes 4 r.ndel

/-- Bucket-list lines in use. -/
def Index.linesUsed (i : Index) : Nat := i.dir.foldl (fun n (x : Nat × BucketDir) => n + cdiv x.2.nbushel 16) 0

/-- The response of INDEX_INFO for one shard (Table 13.12). -/
def State.indexInfo (s : State) (i : Index) : List Byte :=
  let o := match i.openRec with | some t => i.record t | none => {}
  let flags := b2n (i.st == .loading) + 2 * b2n (i.st == .damaged) + 4 * b2n (i.st == .destroying) + 8 * b2n (s.indexBusy [0x0206] i.handle)
  slice i.request 0 128 ++ leBytes 8 o.limit ++ leBytes 8 o.epoch ++ ((List.range 5).map (fun t => (i.record t).summary)).flatten
    ++ leBytes 1 flags ++ leBytes 7 0 ++ leBytes 4 (s.encStepsOf i) ++ leBytes 4 (if i.pinLists then i.linesUsed - i.pinned.length else 0)

def indexInfo (c : Cmd) (s : State) : State × Reply :=
  match s.indexNamed c (c.fld 0 8) with
  | none => (s, refuse sNOOBJ (at_ 0))
  | some i =>
    if i.shardCount ≤ c.fld 8 2 then (s, refuse sRANGE (at_ 8))
    else s.onShard c 0x0204 (c.fld 8 2) i [] (fun s => (s, { payload := s.indexInfo i }))

/-- INDEX_INFO (Table 13.12). -/
def execIndexInfo (m : Mbx) (k : MSlot) (s : State) : Host.Outcome State Fault Refusal := .next (s.runCmd m k 0x0204 [] indexInfo)

def indexEncoder (c : Cmd) (s : State) : State × Reply :=
  match s.indexNamed c (c.fld 0 8), s.imageFor c.fn (c.fld 8 8) with
  | none, _ => (s, refuse sNOOBJ (at_ 0))
  | some _, none => (s, refuse sNOOBJ (at_ 8))
  | some i, some m =>
    let next := match i.openRec with | some t => (i.record t).limit | none => 0
    checked s [(i.st == .destroying || (i.st != .loading && next != 0), sSTATE, at_ 0), (!i.takes m, sIMAGE, 0)] (fun s =>
      let s := match i.encoder with | some o => s.onImage o (fun m => { m with bound := m.bound - 1 }) | none => s
      let s := s.onImage m.handle (fun m => { m with bound := m.bound + 1 })
      (s.setIndex i.handle { i with encoder := some m.handle }, { payload := leBytes 4 m.encsteps }))

/-- INDEX_ENCODER (R77, R466). -/
def execIndexEncoder (m : Mbx) (k : MSlot) (s : State) : Host.Outcome State Fault Refusal :=
  .next (s.runCmd m k 0x0205 [] indexEncoder)

/-! ### Bulk load (R81, R82, R465) -/

def minOf (l : List Nat) : Option Nat := l.foldl (fun (b : Option Nat) x => match b with | none => some x | some y => some (min x y)) none

/-- The first nonzero byte of [lo, hi). -/
def firstNonzero (bs : List Byte) (lo hi : Nat) : Option Nat := ((List.range (hi - lo)).map (lo + ·)).find? (fun o => slice bs o 1 != [0])

/-- First byte of a list of ranges that is nonzero. -/
def dirty (bs : List Byte) (l : List (Nat × Nat)) : List Nat := l.filterMap (fun x => firstNonzero bs x.1 x.2)

structure LoadHdr where
  n : Nat
  bo : Nat
  nb : Nat
  io : Nat
  co : Nat
  vo : Nat
  ne : Nat
  stagger : Nat
deriving DecidableEq, Repr

def LoadHdr.parse (b : List Byte) : LoadHdr :=
  { n := field b 8 8, bo := field b 16 8, nb := field b 24 8, io := field b 32 8, co := field b 40 8, vo := field b 48 8,
    ne := field b 56 2, stagger := field b 6 2 }

/-- A section that is present must be a multiple of 2 KiB, after the header and inside the image (R81). DESIGN CHOICE: one whose
contents run past the image's end is refused at its offset field too (log entry 87). -/
def badSection (len off n : Nat) : Bool := off % 2048 != 0 || decide (len < off + max n 1) || (off == 0 && n != 0)

/-- The first of a list of values, each at an offset, that is out of range or repeats an earlier one. -/
def firstRepeat (n : Nat) (seen : List Nat) : List (Nat × Nat) → Option Nat
  | [] => none
  | (o, x) :: l => if n ≤ x || seen.contains x then some o else firstRepeat n (x :: seen) l

/-- Offset and bytes used of each slot of a bushel's local-index array: bushel offset, slots in use. -/
def slotIdx (b : List Byte) (off k : Nat) : List (Nat × Nat) := (List.range k).map (fun j => (off + 64 + 4 * j, field b (off + 64 + 4 * j) 4))

/-- The image offset of the first defect (R81, R465): the conditions in their order, each over the whole image. DESIGN CHOICE, the rule
naming no condition for them: NENTRY is checked after the section offsets, and STAGGER and bytes 58 to 63 with KIND and the reserved
fields (log entry 87). -/
def Index.loadDefect (i : Index) (cents b : List Byte) : Option Nat :=
  let len := b.length
  let h := LoadHdr.parse b
  let cap := slotCap i.s
  let a := lidxLen i.s
  let stride := if i.rerank then i.stride else 0
  let bush := (List.range h.nb).map (fun k => h.bo + 2048 * k)
  let cnt := fun (o : Nat) => min (field b (o + 2) 2) cap
  let bk := fun (o : Nat) => field b (o + 4) 2
  let ents := (List.range h.ne).map (fun e => h.co + 256 * e)
  if field b 0 4 != 0x494C4E4C then some 0
  else if field b 4 1 != b2n i.chn then some 4
  else if field b 5 1 != i.s then some 5
  else if i.nmax < h.n then some 8
  else if h.bo != 0 && badSection len h.bo (2048 * h.nb) || h.bo == 0 && h.nb != 0 then some 16
  else if h.io != 0 && badSection len h.io (8 * h.n) || h.io == 0 && h.n != 0 then some 32
  else if h.co == 0 || badSection len h.co (if i.chn then 256 * min h.ne 16 else i.buckets * i.s) then some 40
  else if (h.vo != 0 && badSection len h.vo (stride * h.n)) || ((h.vo != 0) != (i.rerank && decide (0 < h.n))) then some 48
  else if (if i.chn then h.ne == 0 || decide (16 < h.ne) else h.ne != 0) then some 56
  else
    let shape : Option Nat :=
      if i.chn then
        minOf ((if h.nb != h.n then [24] else [])
          ++ bush.zipIdx.flatMap (fun x => (if cap < field b (x.1 + 2) 2 then [x.1 + 2] else [])
              ++ (if field b (x.1 + 4) 4 != x.2 then [x.1 + 4] else [])
              ++ (slotIdx b x.1 (cnt x.1)).filterMap (fun y => if h.n ≤ y.2 then some y.1 else none))
          ++ (match firstRepeat h.n [] (ents.map (fun o => (o, field b o 4))) with | some o => [o] | none => []))
      else
        match minOf (bush.zipIdx.flatMap (fun x =>
            let o := x.1
            let prev := if x.2 = 0 then none else some (o - 2048)
            let same := prev.any (fun q => bk q == bk o)
            (match prev with | some q => if same && field b (q + 2) 2 != cap then [q + 2] else [] | none => [])
              ++ (if i.buckets ≤ bk o || prev.any (fun q => decide (bk o < bk q)) then [o + 4]
                  else if field b (o + 8) 4 != (match prev with | some q => if same then field b (q + 8) 4 + 1 else 0 | none => 0)
                      || i.bmax ≤ field b (o + 8) 4 then [o + 8] else []))) with
        | some o => some o
        | none =>
          let all := bush.flatMap (fun o => slotIdx b o (cnt o))
          match firstRepeat h.n [] all with
          | some o => some o
          | none => if all.length = h.n then none else some 8
    match shape with
    | some o => some o
    | none =>
      match minOf ((if 255 < h.stagger || (i.chn && h.stagger != 0) then [6] else []) ++ dirty b [(58, 64)]
          ++ bush.flatMap (fun o => (if field b o 1 != (if i.chn then 2 else 1) then [o] else [])
              ++ (if field b (o + 1) 1 != i.s then [o + 1] else []) ++ (if cap < field b (o + 2) 2 then [o + 2] else [])
              ++ dirty b ((if i.chn then [(o + 12, o + 64)] else [(o + 6, o + 8), (o + 16, o + 64)])
                  ++ [(o + 64 + 4 * cnt o, o + 64 + a), (o + 64 + a + i.s * cnt o, o + 2048)]))
          ++ ents.flatMap (fun o => dirty b [(o + 4, o + 64), (o + 64 + i.s, o + 256)])) with
      | some o => some o
      | none =>
        match firstRepeat (2 ^ 64) [] ((List.range h.n).map (fun x => (h.io + 8 * x, field b (h.io + 8 * x) 8))) with
        | some o => some o
        | none => if i.chn then none else
            ((List.range (i.buckets * i.s)).find? (fun k => slice b (h.co + k) 1 != slice cents k 1)).map (h.co + ·)

/-- Put the external IDs of local indices into the directory, in ascending order (R68, R82). -/
def State.buildDir (s : State) (i : Index) (n : Nat) : State :=
  forAll (List.range n) (fun x s =>
    let ext := s.extOf i x
    s.store (s.idLookup i ext).at_ (leBytes 4 (idPrint ext) ++ leBytes 4 x)) s

/-- A bushel of the load image goes to its place (R82), or finds none. -/
def State.loadBushel (s : State) (h stagger : Nat) (b : List Byte) (o : Nat) : Option State :=
  match Tab.find s.indexes h with
  | none => none
  | some i =>
    let c := field b (o + 4) 2
    let p := field b (o + 8) 4
    match i.tryMembers i.chans.length ((c * stagger + p) % i.chans.length) with
    | none => none
    | some (m, k) =>
      let d := i.bucket c
      let s := s.store (i.bushel k) (slice b o 12 ++ leBytes 4 i.ixtag ++ slice b (o + 16) 2032)
      let s := s.store (i.listBase c + 4 * p) (leBytes 4 k)
      some ((s.setIndex h { i with dir := Tab.write i.dir {} c { nbushel := d.nbushel + 1, nslot := d.nslot + field b (o + 2) 2 },
                                   used := Tab.write i.used 0 m (Tab.read i.used 0 m + 1) }).pinLine h c p)

/-- The bushels of a load image, in order. -/
def State.loadBushels (s : State) (h stagger : Nat) (b : List Byte) : List Nat → Option State
  | [] => some s
  | o :: l => match s.loadBushel h stagger b o with | some s => s.loadBushels h stagger b l | none => none

/-- Load a checked image (R82): bushels or chains, entries, IDs, vectors, each with the tile that computes its NORM (R215, R232); then the directory, the tombstone bitmap zeroed, and epoch
0. Every word is written whole (R264, R278). -/
def State.loadImage (s : State) (i : Index) (b : List Byte) : Option State :=
  let h := LoadHdr.parse b
  let bush := (List.range h.nb).map (fun k => h.bo + 2048 * k)
  let placed := if i.chn then
      some (forAll bush.zipIdx (fun x s => s.store (i.bushel x.2) (slice b x.1 8 ++ leBytes 4 i.ixtag ++ slice b (x.1 + 12) 2036)) s)
    else s.loadBushels i.handle h.stagger b bush
  match placed with
  | none => none
  | some s =>
    let s := if i.chn then s.store i.entries (slice b h.co (256 * h.ne)) else s
    let s := s.store i.idtab (slice (slice b h.io (8 * h.n)) 0 (roundUp (8 * h.n) 64))
    let s := (s.zeroRange i.iddir i.dirBytes).zeroRange i.tomb i.tombBytes
    let s := if i.rerank then
        forAll (List.range h.n) (fun x s =>
          let v := slice b (h.vo + x * i.stride) i.stride
          (s.storeHome i.vecTun (i.vecAddr x) (i.vecRecord v)).countTile (i.normTile v).2) s
      else s
    let s := s.buildDir i h.n
    some (s.onIndex i.handle (fun i => { i.publishZero h.n s.tick with nentry := h.ne }))

/-- One shard takes a load image. -/
def State.loadShard (s : State) (i : Index) (b : List Byte) : State × Reply :=
  let cents := if i.chn then [] else s.bytes i.cents (i.buckets * i.s)
  match i.loadDefect cents b with
  | some o => (s, refuse sIMAGE o)
  | none =>
    match s.loadImage i b with
    | none => (s, refuse sNOSPACE (at_ 0))
    | some s' => (s', { payload := leBytes 8 (LoadHdr.parse b).n ++ leBytes 8 (LoadHdr.parse b).nb })

/-- A load from the buffer's bytes or from a tun of the shard's device. -/
def State.loadFrom (s : State) (c : Cmd) (i : Index) (buf : List Byte) : State × Reply :=
  let up := s.homeUp i.vecTun
  match firstFail [(i.st != .loading || !up, sSTATE, at_ 0)] with
  | some r => (s, r)
  | none =>
    if c.fld 10 1 = 0 then s.loadShard i buf
    else match s.tunNamed i.vf (c.raw 16 16) with
      | none => (s, refuse sNOOBJ (at_ 16))
      | some (h, t) =>
        checked s [(t.st != .online, sSTATE, at_ 16), (decide (t.size < c.fld 32 8) || c.fld 32 8 % 64 != 0, sRANGE, at_ 32)] (fun s =>
          s.loadShard i (s.homeBytes (some h) (c.fld 32 8) (t.size - c.fld 32 8)))

def indexLoad (c : Cmd) (s : State) : State × Reply :=
  if 1 < c.fld 10 1 then (s, refuse sRANGE (at_ 10))
  else onIndex_ c s (fun i s =>
    let shard := c.fld 8 2
    if i.shardCount ≤ shard then (s, refuse sRANGE (at_ 8))
    else
      let here := !(s.remoteShards i).any (fun x => x.1 == shard)
      let run := fun (b : List Byte) (s : State) => s.onShard c 0x0203 shard i b (fun s => s.loadFrom c i b)
      if here && i.st != .loading then (s, refuse sSTATE (at_ 0))
      else if c.fld 10 1 = 0 then c.readBuf s run else run [] s)

/-- INDEX_LOAD (R81, R82, R465). -/
def execIndexLoad (m : Mbx) (k : MSlot) (data : List Byte) (s : State) : Host.Outcome State Fault Refusal :=
  .next (s.runCmd m k 0x0203 data indexLoad)

end Sys2Proof.Machine
end

