-- ==== Sys2Proof/Machine/SosinCkpt.lean ====
section
/-! DEFINITION. Machine/SosinCkpt.lean: checkpoints, restores, vector sums and filters (R25, R26, R69, R201, R222, R223, R321 to
R324, R467 to R470). -/

namespace Sys2Proof.Machine

/-! ### Checkpoints (R321 to R324, R467) -/

/-- A section: 64 B header, bytes, padded to 64 B. -/
def section_ (type arg res : Nat) (bs : List Byte) : List Byte :=
  leBytes 2 type ++ leBytes 6 0 ++ leBytes 8 bs.length ++ leBytes 8 arg ++ leBytes 1 res ++ leBytes 39 0 ++ slice bs 0 (roundUp bs.length 64)

/-- An epoch record (Table 2.10). -/
def EpochRec.bytes (r : EpochRec) : List Byte :=
  leBytes 8 r.epoch ++ leBytes 1 (match r.st with | .free => 0 | .opened => 1 | .live => 2 | .retiring => 3) ++ leBytes 7 0
    ++ leBytes 8 r.limit ++ leBytes 4 r.pins ++ leBytes 4 0 ++ leBytes 8 r.pubtick ++ leBytes 4 r.nins ++ leBytes 4 r.ndel
    ++ leBytes 8 r.dlbase ++ leBytes 4 r.dlcount ++ leBytes 4 0

/-- The next unassigned local index. -/
def Index.nextLocal (i : Index) : Nat := match i.openRec with | some t => (i.record t).limit | none => 0

/-- One above the highest bushel number in use. -/
def Index.bushelTop (i : Index) : Nat :=
  if i.chn then i.nextLocal
  else i.used.foldl (fun n (x : Nat × Nat) => if x.2 = 0 then n else max n (x.1 + i.chans.length * (x.2 - 1) + 1)) 0

/-- A bucket directory entry (Table 2.5). -/
def Index.dirBytesOf (i : Index) (c : Nat) : List Byte :=
  leBytes 8 (i.listBase c) ++ leBytes 4 (i.bucket c).nbushel ++ leBytes 4 (i.bucket c).nslot

/-- The body of a checkpoint (Table 13.13), in ascending TYPE. -/
def State.ckptBody (s : State) (i : Index) : List Byte :=
  let n := i.nextLocal
  section_ 1 0 0 (slice i.request 0 128)
    ++ section_ 2 0 0 (if i.chn then s.bytes i.entries 4096 else s.bytes i.cents (i.buckets * i.s))
    ++ (if i.chn then [] else section_ 3 0 0 ((List.range i.buckets).flatMap i.dirBytesOf ++ s.bytes i.lists i.listsBytes))
    ++ section_ 4 0 0 ((List.range i.bushelTop).flatMap (fun b => s.bytes (i.bushel b) 2048))
    ++ section_ 5 0 0 (s.bytes i.idtab (8 * n)) ++ section_ 6 0 0 (s.bytes i.iddir i.dirBytes) ++ section_ 7 0 0 (s.bytes i.tomb i.tombBytes)
    ++ section_ 8 0 0 ((List.range 5).flatMap (fun t => (i.record t).bytes)
        ++ (List.range 5).flatMap (fun t => let r := i.record t; if r.st == .free then [] else s.bytes r.dlbase (8 * r.dlcount)))
    ++ (s.filters.filter (fun (x : Nat × Filter) => x.2.index == i.handle && !x.2.deleted)).flatMap (fun (x : Nat × Filter) =>
        section_ 9 x.2.handle (b2n x.2.pool) (s.bytes x.2.base (8 * x.2.grains)))
    ++ (if i.rerank && i.vecTun.isNone then section_ 10 0 0 (s.bytes i.vecs (n * i.stride)) else [])

/-- The commit record of a slot (Table 9.4). -/
def ckptRecord (gen epoch : Nat) (body : List Byte) : List Byte :=
  leBytes 4 0x4B434E4C ++ leBytes 2 1 ++ leBytes 2 0 ++ leBytes 8 gen ++ leBytes 8 body.length ++ leBytes 8 epoch ++ slice (sha384 body) 0 48
    ++ leBytes 47 0 ++ leBytes 1 0xC3

/-- The generation and the body of a slot, if it is valid (R323). -/
def State.ckptSlot (s : State) (h off size : Nat) : Option (Nat × List Byte) :=
  let r := s.homeBytes (some h) off 128
  let n := field r 16 8
  if field r 0 4 = 0x4B434E4C && field r 4 2 = 1 && field r 127 1 = 0xC3 && zeroAt r 6 2 && zeroAt r 80 47 && n ≤ size / 2 - 4096
      && n % 64 = 0 then
    let body := s.homeBytes (some h) (off + 4096) n
    if sha384 body = slice r 32 48 then some (field r 8 8, body) else none
  else none

/-- Slots of a checkpoint tun: A and B. -/
def State.ckptSlots (s : State) (h : Nat) (t : Tun) : Option (Nat × List Byte) × Option (Nat × List Byte) :=
  (s.ckptSlot h 0 t.size, s.ckptSlot h (t.size / 2) t.size)

/-- Is a delta log of the index unreadable (R467)? -/
def State.logDamaged (s : State) (i : Index) : Bool :=
  i.epochs.any (fun r => r.st != .free && (wordsOf r.dlbase (8 * r.dlcount)).any s.bad)

/-- CHECKPOINT of one shard (R322, R467): the slot that does not hold the newest valid record is written, the commit last. -/
def State.checkpoint (s : State) (i : Index) (name : List Byte) : State × Reply :=
  match s.tunNamed i.vf name with
  | none => (s, refuse sNOOBJ (at_ 16))
  | some (h, t) =>
    let body := s.ckptBody i
    checked s [(i.st == .loading, sSTATE, at_ 0), (!t.persist || t.st != .online, sSTATE, at_ 16), (s.logDamaged i, sDAMAGED, 0),
        (decide (t.size / 2 - 4096 < body.length), sNOSPACE, at_ 16)] (fun s =>
      let slots := s.ckptSlots h t
      let target := match slots.1, slots.2 with
        | some a, some b => if a.1 < b.1 then 0 else 1
        | some _, none => 1
        | _, _ => 0
      let gen := max ((slots.1.map (·.1)).getD 0) ((slots.2.map (·.1)).getD 0) + 1
      let epoch := match i.latest with | some (_, e) => e | none => 0
      let off := target * (t.size / 2)
      let s := s.tunStore h off (leBytes 128 0)
      let s := s.tunStore h (off + 4096) body
      (s.tunStore h off (ckptRecord gen epoch body), { payload := leBytes 8 gen ++ leBytes 8 body.length ++ leBytes 8 epoch }))

def checkpointCmd (c : Cmd) (s : State) : State × Reply :=
  onIndex_ c s (fun i s =>
    if i.shardCount ≤ c.fld 8 2 then (s, refuse sRANGE (at_ 8))
    else s.onShard c 0x0206 (c.fld 8 2) i [] (fun s => s.checkpoint i (c.raw 16 16)))

/-- CHECKPOINT (R322, R324, R467). -/
def execCheckpoint (m : Mbx) (k : MSlot) (s : State) : Host.Outcome State Fault Refusal := .next (s.runCmd m k 0x0206 [] checkpointCmd)

/-! ### Restores (R323, R468) -/

/-- Sections of a body: type, argument, byte 24 and contents. -/
def sections : Nat → List Byte → List (Nat × Nat × Nat × List Byte)
  | 0, _ => []
  | k + 1, b =>
    if b.length < 64 then []
    else
      let n := field b 8 8
      (field b 0 2, field b 16 8, field b 24 1, slice b 64 n) :: sections k (b.drop (64 + roundUp n 64))

def epochState : Nat → EpochState
  | 1 => .opened | 2 => .live | 3 => .retiring | _ => .free

/-- A record restored with no pins, at its new delta log. -/
def restoredRecord (b : List Byte) (dlbase : Nat) : EpochRec :=
  { st := epochState (field b 8 1), epoch := field b 0 8, limit := field b 16 8, pubtick := field b 32 8, nins := field b 40 4,
    ndel := field b 44 4, dlbase := dlbase, dlcount := field b 56 4 }

/-- Bushel numbers of the buckets, in bucket and list order. -/
def bucketLists (i : Index) (dir lists : List Byte) : List (Nat × Nat × Nat) :=
  (List.range i.buckets).flatMap (fun c =>
    (List.range (field dir (16 * c + 8) 4)).map (fun p => (c, p, field lists (c * i.listSpan + 4 * p) 4)))

/-- The bushels of a BKT index on its new channel set: kept by number on as many members as before, else numbered in ascending
order of their old numbers, so that each member's numbers in use stay without gaps (log entry 34). -/
def State.restoreBushels (s : State) (i : Index) (same : Bool) (dir lists bush : List Byte) : State :=
  let old := bucketLists i dir lists
  let nums := sortBy (fun a b => decide (a ≤ b)) (old.map (fun x => x.2.2))
  let new := fun (b : Nat) => if same then b else (nums.idxOf b)
  let p := i.chans.length
  let s := forAll old (fun x s =>
    let b := new x.2.2
    let s := s.store (i.bushel b) (slice bush (2048 * x.2.2) 12 ++ leBytes 4 i.ixtag ++ slice bush (2048 * x.2.2 + 16) 2032)
    s.store (i.listBase x.1 + 4 * x.2.1) (leBytes 4 b)) s
  let used := nums.foldl (fun (t : Tab Nat) b => let m := new b % p; Tab.write t 0 m (Tab.read t 0 m + 1)) []
  let dirs := (List.range i.buckets).foldl (fun (t : Tab BucketDir) c =>
    Tab.write t {} c { nbushel := field dir (16 * c + 8) 4, nslot := field dir (16 * c + 12) 4 }) []
  forAll old (fun x s => s.pinLine i.handle x.1 x.2.1) (s.setIndex i.handle { i with used := used, dir := dirs })

/-- The filters of a restored index, under their handles. One that finds no place makes the restore fail. -/
def State.restoreFilters (s : State) (i : Index) : List (Nat × Nat × Nat × List Byte) → Except Nat State
  | [] => .ok s
  | x :: l =>
    let pool := x.2.2.1 == 1
    let n := roundUp x.2.2.2.length 64
    let over_ := match Tab.find s.tenants i.vf with | some t => (if pool then t.exceeds 0 n 0 else t.exceeds n 0 0).isSome | none => true
    match (if pool then s.placePool i.vf n else s.placeStacked i.vf n) with
    | none => .error sNOSPACE
    | some (s, a) =>
      if over_ then .error sQUOTA
      else
        let f : Filter := { handle := x.2.1, vf := i.vf, index := i.handle, grains := x.2.2.2.length / 8, base := a, pool := pool }
        let s := ((s.store a x.2.2.2).setFilter (filterKey i.handle x.2.1) f).charge i.vf (if pool then 0 else n) (if pool then n else 0) 0
        s.restoreFilters i l

/-- Build an index from a body. -/
def State.restoreBody (s : State) (vf : Nat) (chset body : List Byte) : State × Reply :=
  let secs := sections (body.length / 64 + 1) body
  let get := fun (t : Nat) => match secs.find? (fun x => x.1 == t) with | some x => x.2.2.2 | none => []
  let keep := zeroAt chset 0 32
  let old := get 1
  let p := slice old 0 96 ++ (if keep then slice old 96 32 else chset)
  let n := s.newIxHandle
  let i := indexOfRequest vf n.2 p
  let enc := match s.imageFor vf (field p 40 8) with | some m => if bit (field p 4 1) 5 && i.takes m then some m.handle else none | none => none
  let tun := if bit (field p 4 1) 2 then s.tunNamed vf (slice p 48 16) else none
  let away := bit (field p 4 1) 2 && !tun.any (fun t => t.2.st == .online)
  let i := { i with vecTun := tun.map (·.1), vecs := field p 64 8, encoder := enc }
  let over_ := match Tab.find s.tenants vf with | some t => t.exceeds i.stackedNeed i.poolNeed 0 | none => some 0
  match firstFail [(i.chans.isEmpty || i.chans.any s.pchFailed || (!i.chn && i.nbush % i.chans.length != 0), sRANGE, at_ 16),
      (s.noKey vf, sSTATE, 0), (away, sSTATE, at_ 0), (i.chans.any (fun c => (s.closedPch vf).contains c), sSTATE, at_ 16),
      (over_.isSome, sQUOTA, over_.getD 0)] with
  | some r => (s, r)
  | none =>
    match n.1.placeIndex i with
    | .error _ => (s, refuse sNOSPACE (at_ 0))
    | .ok (st, i) =>
      let recs := get 8
      let eps := (List.range 5).map (fun t => restoredRecord (slice recs (64 * t) 64) (i.record t).dlbase)
      let st := match i.encoder with | some m => st.onImage m (fun m => { m with bound := m.bound + 1 }) | none => st
      let i := { i with epochs := eps, st := .ready, nentry := (List.range 16).foldl (fun k e => if zeroAt (get 2) (256 * e) 256 then k else e + 1) 0,
                        retiree := ((List.range 5).find? (fun t => (eps.getD t {}).st == .retiring)).map (fun t => { record := t }) }
      let st := (st.charge vf i.stkBytes i.poolBytes 0).setIndex i.handle i
      let st := st.store (if i.chn then i.entries else i.cents) (get 2)
      let st := if i.chn then
          forAll (List.range ((get 4).length / 2048)) (fun b st =>
            st.store (i.bushel b) (slice (get 4) (2048 * b) 8 ++ leBytes 4 i.ixtag ++ slice (get 4) (2048 * b + 12) 2036)) st
        else st.restoreBushels i ((bitList (field old 96 32) 256).length == i.chans.length) (slice (get 3) 0 (16 * i.buckets))
          ((get 3).drop (16 * i.buckets)) (get 4)
      let st := ((st.store i.idtab (get 5)).store i.iddir (get 6)).store i.tomb (get 7)
      let st := ((List.range 5).foldl (fun (a : State × Nat) t =>
        let r := eps.getD t {}
        if r.st == .free then a else (a.1.store r.dlbase (slice recs a.2 (8 * r.dlcount)), a.2 + 8 * r.dlcount)) (st, 320)).1
      let st := if i.rerank && i.vecTun.isNone then st.store i.vecs (get 10) else st
      match st.restoreFilters i (secs.filter (fun x => x.1 == 9)) with
      | .error e => (s, refuse e 0)
      | .ok st => (st, { payload := leBytes 8 i.handle })

def restoreCmd (c : Cmd) (s : State) : State × Reply :=
  match s.tunNamed c.fn (c.raw 0 16) with
  | none => (s, refuse sNOOBJ (at_ 0))
  | some (h, t) =>
    if t.st != .online then (s, refuse sSTATE (at_ 0))
    else
      let best := match s.ckptSlots h t with
        | (some a, some b) => if a.1 < b.1 then some b else some a
        | (some a, none) => some a
        | (none, b) => b
      match best with
      | none => (s, refuse sIMAGE 0)
      | some (gen, body) =>
        let r := s.restoreBody c.fn (c.raw 16 32) body
        if r.2.status = 0 then (r.1, { r.2 with payload := r.2.payload ++ leBytes 8 gen }) else r

/-- RESTORE (R323, R468). -/
def execRestore (m : Mbx) (k : MSlot) (s : State) : Host.Outcome State Fault Refusal := .next (s.runCmd m k 0x0207 [] restoreCmd)

/-! ### Vector sums (R469) -/

/-- A sum of FP32 terms with SPLIT = 4, chunks of 128 and SEQ order, its partials added in ascending order (R222). -/
def splitSum (ts : List Numeric.Val) : Numeric.Val :=
  let parts := Numeric.cutParts (Numeric.partSizes ts.length (cdiv ts.length 128) 128 4) ts
  match parts.map (fun p => (Numeric.sumSeq none p).v) with
  | [] => .zero
  | x :: xs => xs.foldl (fun a y => (Numeric.fl (a.add y)).1) x

/-- Element sums of the vectors of one shard eligible in an epoch, and their number. -/
def State.vecSums (s : State) (i : Index) (t e : Nat) : List Numeric.Val × Nat :=
  let view : View := { vlimit := (i.record t).limit, tmask := i.tmask e, filter := none }
  let items := (List.range (i.record t).limit).filter (fun x => s.eligible i view x)
  let vecs := items.map (fun x => (Numeric.arrayVals i.vfmt i.vmx i.dim (s.vecBytes i x)).map (fun v => (Numeric.fl v).1))
  ((List.range i.dim).map (fun d => splitSum (vecs.map (fun v => v.getD d .zero))), items.length)

/-- Sums as bytes: 8 B count, then the FP32 sums. -/
def sumBytes (x : List Numeric.Val × Nat) : List Byte := leBytes 8 x.2 ++ x.1.flatMap (fun v => leBytes 4 v.bits32)

/-- Add the sums of two devices (R223). -/
def addSums (a b : List Byte) : List Byte :=
  leBytes 8 (field a 0 8 + field b 0 8) ++ (List.range ((a.length - 8) / 4)).flatMap (fun k =>
    leBytes 4 (Numeric.fl ((Numeric.fp32.decode (field a (8 + 4 * k) 4)).add (Numeric.fp32.decode (field b (8 + 4 * k) 4)))).1.bits32)

/-- The live epoch named, 0 for the latest published. -/
def Index.liveEpoch (i : Index) (e : Nat) : Option (Nat × Nat) :=
  if e = 0 then i.latest
  else ((List.range 5).find? (fun t => (i.record t).st == .live && (i.record t).epoch == e)).map (·, e)

/-- What a shard answers to VECSUM. -/
def State.vecSumShard (s : State) (i : Index) (e : Nat) : State × Reply :=
  match i.liveEpoch e with
  | none => (s, refuse sSTATE (at_ 8))
  | some (t, e) => (s, { payload := sumBytes (s.vecSums i t e) })

/-- What VECSUM answers from the sums of all shards: the count, and the sums and the count in the buffer. -/
def sumReply (b : List Byte) : Reply := { payload := slice b 0 8, buf := b.drop 8 ++ slice b 0 8 }

def vecSum (c : Cmd) (s : State) : State × Reply :=
  onIndex_ c s (fun i s =>
    match firstFail [(decide (c.len < 4 * i.dim + 8), sRANGE, 24), (!i.rerank || i.st == .loading, sSTATE, at_ 0)] with
    | some r => (s, r)
    | none =>
      match i.liveEpoch (c.fld 8 8) with
      | none => (s, refuse sSTATE (at_ 8))
      | some (t, e) =>
        let own := sumBytes (s.vecSums i t e)
        let r := s.onShards c 0x0208 i (leBytes 8 i.handle ++ leBytes 8 e) (fun s => (s, { payload := own }))
        if r.2.status = 0 && r.2.exchange.isNone then (r.1, sumReply own) else r)

/-- VECSUM (R222, R223, R469). -/
def execVecsum (m : Mbx) (k : MSlot) (s : State) : Host.Outcome State Fault Refusal := .next (s.runCmd m k 0x0208 [] vecSum)

/-! ### Filters (R69, R470) -/

/-- One shard's filter: G out of range, no quota, no space, or the filter with its bitmap. `det` is the shard. -/
def State.createFilter (s : State) (i : Index) (handle g : Nat) (pool : Bool) (bits_ : List Byte) (shard : Nat) : State × Reply :=
  let n := roundUp (8 * g) 64
  let over_ := match Tab.find s.tenants i.vf with | some t => (if pool then t.exceeds 0 n 0 else t.exceeds n 0 0) | none => some 0
  match firstFail [(g == 0 || decide (cdiv i.nmax 64 < g), sRANGE, 2 ^ 31 + shard), (over_.isSome, sQUOTA, over_.getD 0)] with
  | some r => (s, r)
  | none =>
    match (if pool then s.placePool i.vf n else s.placeStacked i.vf n) with
    | none => (s, refuse sNOSPACE (at_ 8))
    | some (s, a) =>
      let f : Filter := { handle := handle, vf := i.vf, index := i.handle, grains := g, base := a, pool := pool }
      (((s.store a (slice bits_ 0 (8 * g))).setFilter (filterKey i.handle handle) f).charge i.vf (if pool then 0 else n) (if pool then n else 0) 0,
       { payload := leBytes 4 handle })

def filterCreate (c : Cmd) (s : State) : State × Reply :=
  if 1 < c.fld 8 1 then (s, refuse sRANGE (at_ 8))
  else onIndex_ c s (fun i s =>
    let n := i.shardCount
    let pool := c.fld 8 1 == 1
    if c.len < 16 * n then (s, refuse sRANGE 24)
    else c.readBuf s (fun b s =>
      let g := fun (k : Nat) => field b (16 * k) 4
      let off := fun (k : Nat) => field b (16 * k + 8) 8
      match (List.range n).find? (fun k => g k == 0 || off k % 64 != 0 || decide (c.len < off k + 8 * g k)) with
      | some k => (s, refuse sRANGE (2 ^ 31 + k))
      | none =>
        let handle := s.freshNumber (s.filters.map (fun (x : Nat × Filter) => x.2.handle))
        let l := s.remoteShards i
        match s.unreachable l with
        | some d => (s, refuse sUNREACH d)
        | none =>
          let r := s.drew.createFilter i handle (g i.myShard) pool (slice b (off i.myShard) (8 * g i.myShard)) i.myShard
          if r.2.status != 0 || l.isEmpty then r
          else r.1.askAll i.handle (l.map (fun x => (x.2, shardRequest x.1 c.fn 0x0301 i.handle
              (leBytes 8 handle ++ leBytes 4 (b2n pool) ++ leBytes 4 (g x.1)) (slice b (off x.1) (8 * g x.1))))) r.2))

/-- FILTER_CREATE (R24, R69, R470). -/
def execFilterCreate (m : Mbx) (k : MSlot) (data : List Byte) (s : State) : Host.Outcome State Fault Refusal :=
  .next (s.runCmd m k 0x0301 data filterCreate)

/-- Queries admitted from now on do not find the filter (R25): the command's response is written in this tick too (R445). -/
def State.deleteFilter (s : State) (i h : Nat) : State := s.onFilter (filterKey i h) (fun f => { f with deleted := true })

def filterDelete (c : Cmd) (s : State) : State × Reply :=
  onIndex_ c s (fun i s =>
    let h := c.fld 8 4
    if (s.filterFor c.fn i h).isNone then (s, refuse sNOOBJ (at_ 8))
    else match s.unreachable (s.remoteShards i) with
      | some d => (s, refuse sUNREACH d)
      | none => (s.deleteFilter i.handle h, {}))

/-- FILTER_DELETE (R25, R470). The other shards of a sharded index delete theirs once no admitted query pins it: see
`State.dropShardFilters`. -/
def execFilterDelete (m : Mbx) (k : MSlot) (s : State) : Host.Outcome State Fault Refusal := .next (s.runCmd m k 0x0302 [] filterDelete)

end Sys2Proof.Machine
end

