-- ==== Sys2Proof/Machine/SosinFab.lean ====
section
/-! DEFINITION. Machine/SosinFab.lean: the shards' part of Sosin commands, the exchange of MGT messages between devices
(Table 11.5, R387, R462 to R470), and the fabric map (R371, R373, R475, R476). -/

namespace Sys2Proof.Machine

/-! ### Requests and answers between devices -/

/-- What the shard of an index on this device does for a request of the index's home. -/
def State.serveShard (s : State) (home : Nat) (b : List Byte) : State × Reply :=
  let shard := field b 0 2
  let op := field b 4 2
  let h := field b 8 8
  let p := slice b 16 448
  let data := b.drop 464
  if op = 0x0201 then s.createShard home h shard (field b 2 1) p data
  else match s.shardOf home h with
    | none => (s, refuse sNOOBJ 0)
    | some (_, i) =>
      let c : Cmd := { m := 66, k := 0, fn := i.vf, payload := p, hasBuf := true, addr := 0, len := data.length, dma := none, data := data,
                       part := true }
      if op = 0x0202 then (s.destroyIndex i.handle, {})
      else if op = 0x0203 then s.loadFrom c i data
      else if op = 0x0204 then (s, { payload := s.indexInfo i })
      else if op = 0x0206 then s.checkpoint i (slice p 16 16)
      else if op = 0x0208 then s.vecSumShard i (field p 8 8)
      else if op = 0x0301 then s.createFilter i (field p 0 8) (field p 12 4) (field p 8 4 == 1) data shard
      else if op = 0x0302 then (s.deleteFilter i.handle (field p 0 8), {})
      else (s, refuse sBADOP 0)

/-- The slot whose command waits for an exchange. -/
def State.waiterOf (s : State) (serial : Nat) : Option (Nat × Nat × MbxSlot) :=
  s.running.find? (fun x => match x.2.2.exchange with | some e => e.serial == serial | none => false)

/-- A whole message of Sosin traffic: a request is served and answered, and an answer joins its exchange. -/
def State.sosinTraffic (s : State) (home kind serial : Nat) (b : List Byte) : State :=
  if kind = 1 then
    let r := s.serveShard home b
    r.1.mgtSend home 2 serial (slice b 0 2 ++ leBytes 1 r.2.status ++ leBytes 1 0 ++ leBytes 4 r.2.detail ++ r.2.payload)
  else match s.waiterOf serial with
    | none => s
    | some (m, k, x) =>
      match x.exchange with
      | none => s
      | some e =>
        if e.awaits.contains home then
          let got := (field b 0 2, field b 2 1, field b 4 4, b.drop 8)
          let e : Exchange := { serial := e.serial, awaits := e.awaits.erase home, answers := e.answers ++ [got] }
          s.setSlot m k { x with exchange := some e }
        else s

/-- A piece of Sosin traffic from a device. The pieces of one message are put together. -/
def State.mgtPiece (s : State) (home : Nat) (body : List Byte) : State :=
  let pieces := s.fab.mgt ++ [leBytes 8 home ++ body]
  let key := leBytes 8 home ++ slice body 0 16
  let mine := pieces.filter (fun b => slice b 0 24 == key)
  if field body 16 8 ≤ mine.foldl (fun n b => n + (b.length - 40)) 0 then
    let whole := (sortBy (fun (a b : List Byte) => decide (field a 32 8 ≤ field b 32 8)) mine).flatMap (fun b => b.drop 40)
    ({ s with fab := { s.fab with mgt := pieces.filter (fun b => slice b 0 24 != key) } } : State).sosinTraffic home (field body 0 8)
      (field body 8 8) whole
  else { s with fab := { s.fab with mgt := pieces } }

/-- MGT (Table 11.5): passed on, or handed to Sosin firmware. -/
def execMgt (n : Port) (s : State) : Host.Outcome State Fault Refusal :=
  match s.take n 0x0D with
  | none => .next s
  | some (a, s) => .next (if a.msg.dest != s.devId then s.passOn a else if s.sosin.ready then s.mgtPiece a.msg.home a.msg.body else s)

/-! ### The end of an exchange -/

/-- Tell the other shards to undo what they made: nobody waits for the answer. -/
def State.tellShards (s : State) (i : Index) (op : Nat) (p : List Byte) : State :=
  forAll (s.remoteShards i) (fun x s => s.mgtSend x.2 1 0 (shardRequest x.1 i.vf op i.handle p [])) s

/-- A command on shards that failed or was aborted releases what it made (R462, R470). -/
def State.undoShards (s : State) (h op : Nat) (x : MbxSlot) : State :=
  match Tab.find s.indexes h with
  | none => s
  | some i =>
    if op = 0x0201 then (s.tellShards i 0x0202 []).destroyIndex h
    else if op = 0x0301 then
      let f := field x.payload 0 4
      (s.tellShards i 0x0302 (leBytes 8 f)).deleteFilter h f
    else s

/-- Status and detail of a command from those of its shards: UNREACHABLE for a device lost, else the first shard's refusal, with
its number (R462, R470). -/
def State.shardStatus (s : State) (op : Nat) (e : Exchange) : Option (Nat × Nat) :=
  match e.awaits.find? (fun d => !s.reachable d) with
  | some d => some (sUNREACH, d)
  | none => (e.answers.find? (fun a => a.2.1 != 0)).map (fun a =>
      if op = 0x0201 || op = 0x0301 then (a.2.1, if a.2.1 = sRANGE then 2 ^ 31 + a.1 else a.1) else (a.2.1, a.2.2.1))

/-- The answer of a command on shards, once every device has answered or is out of reach. Sums are added in ascending device ID
(R223, R469). -/
def State.shardsDone (s : State) (h op : Nat) (x : MbxSlot) (e : Exchange) : State × MbxSlot :=
  match (if x.abort then some (sABORTED, 0) else s.shardStatus op e) with
  | some (st, d) => (s.undoShards h op x, { x with status := st, detail := d, payload := [], buf := [] })
  | none =>
    if op = 0x0208 then
      let devs := match Tab.find s.indexes h with | some i => i.shards | none => []
      let all := (s.devId, x.payload) :: e.answers.map (fun a => (devs.getD a.1 0, a.2.2.2))
      match (sortBy (fun (a b : Nat × List Byte) => decide (a.1 ≤ b.1)) all).map (·.2) with
      | [] => (s, x)
      | b :: l => let r := sumReply (l.foldl addSums b); (s, { x with payload := r.payload, buf := r.buf })
    else if op = 0x0203 || op = 0x0204 || op = 0x0206 then
      (s, { x with payload := match e.answers with | a :: _ => a.2.2.2 | [] => [] })
    else (s, x)

/-- Has an exchange ended: every device answered or out of reach, or a create or a sum aborted? -/
def State.exchangeOver (s : State) (op : Nat) (x : MbxSlot) (e : Exchange) : Bool :=
  !e.awaits.any s.reachable || (x.abort && (op == 0x0201 || op == 0x0208 || op == 0x0301))

/-! ### The fabric map (R371, R475, R476) -/

/-- The map a request describes, if its ranges hold. -/
def mapOfRequest (p : List Byte) : Option FMap :=
  let k := fun j => field p (2 + j) 1
  match field p 0 1 with
  | 0 => some .alone
  | 1 => if 2 ≤ field p 1 1 && field p 1 1 ≤ 16 then some (.group (field p 1 1)) else none
  | 2 =>
    if (List.range 3).all (fun j => decide (1 ≤ k j) && decide (k j ≤ 8)) && decide (1 ≤ k 3) && decide (k 3 ≤ 16) then
      some (.torus (k 0) (k 1) (k 2) (k 3))
    else none
  | _ => none

/-- The request bytes of an installed map. -/
def FMap.bytes (m : FMap) (dev : Nat) : List Byte :=
  (match m with
    | .alone => leBytes 6 0
    | .group n => leBytes 1 1 ++ leBytes 1 n ++ leBytes 4 0
    | .torus a b c d => leBytes 1 2 ++ leBytes 1 0 ++ leBytes 1 a ++ leBytes 1 b ++ leBytes 1 c ++ leBytes 1 d) ++ leBytes 2 dev

/-- Offset of the first field of a map out of range. -/
def mapFault (p : List Byte) : Nat :=
  match field p 0 1 with
  | 1 => at_ 1
  | 2 => match (List.range 4).find? (fun j => field p (2 + j) 1 == 0 || decide ((if j = 3 then 16 else 8) < field p (2 + j) 1)) with
    | some j => at_ (2 + j)
    | none => at_ 0
  | _ => at_ 0

def fmapInstall (c : Cmd) (s : State) : State × Reply :=
  match mapOfRequest c.payload with
  | none => (s, refuse sRANGE (mapFault c.payload))
  | some m =>
    let dev := if m == .alone then 0 else c.fld 6 2
    checked s [(m != .alone && decide (m.size ≤ dev), sRANGE, at_ 6), (s.indexes.any (fun (x : Nat × Index) => x.2.sharded), sSTATE, at_ 0)]
      (fun s =>
        let s := s.setReg Reg.FAB_DEVID dev
        let s : State := { s with fab := { s.fab with map := m, league := {}, states := [], reach := [] } }
        let s := s.setReg Reg.FAB_LEAGUE 0
        (((forAll (List.range 16) (fun n s => s.judgePort n) s).showPorts).sendLstate, {}))

/-- FMAP_INSTALL (R371, R373, R475). -/
def execFmapInstall (m : Mbx) (k : MSlot) (s : State) : Host.Outcome State Fault Refusal := .next (s.runCmd m k 0x0701 [] fmapInstall)

def fmapInfo (c : Cmd) (s : State) : State × Reply :=
  let lone := maskOf ((List.range 16).filter (fun n => s.lnkState n == 2))
  let l := Reg.FAB_LEAGUE
  if c.hasBuf && c.len < 1024 then (s, refuse sRANGE 24)
  else (s, { payload := s.fab.map.bytes s.devId ++ leBytes 2 (s.portMask (·.carries)) ++ leBytes 2 (s.portMask (·.miswired))
                ++ leBytes 2 (s.portMask (·.isolated)) ++ leBytes 2 lone ++ leBytes 2 (s.fab.reach.length + 1)
                ++ leBytes 1 (s.fld l F.FAB_LEAGUE_OP) ++ leBytes 1 (s.fld l F.FAB_LEAGUE_RATIO) ++ leBytes 1 (s.fld l F.FAB_LEAGUE_AGREED),
             buf := if c.hasBuf then leBytes 1024 (maskOf (dedup (s.devId :: s.fab.reach))) else [] })

/-- FMAP_INFO (R476). -/
def execFmapInfo (m : Mbx) (k : MSlot) (s : State) : Host.Outcome State Fault Refusal := .next (s.runCmd m k 0x0702 [] fmapInfo)

end Sys2Proof.Machine
end

