-- ==== Sys2Proof/Machine/SosinModel.lean ====
section
/-! DEFINITION. Machine/SosinModel.lean: the Sosin commands on model images and perches (R77, R176 to R179, R226, R229, R471). -/

namespace Sys2Proof.Machine

/-! ### Checks of an image (Table 2.13, R226) -/

/-- The header of a model image (Table 2.13), as far as it is used. -/
structure ImageHeader where
  infmt : Nat
  din : Nat
  t2 : Bool
  outlen : Nat
  nlayer : Nat
  layeroff : Nat
  size : Nat
  digest : List Byte
deriving DecidableEq, Repr

def imageHeader (b : List Byte) : ImageHeader :=
  { infmt := field b 7 1, din := field b 8 4, t2 := field b 12 1 == 1, outlen := field b 14 2, nlayer := field b 16 2,
    layeroff := field b 20 4, size := field b 24 4, digest := slice b 32 48 }

/-- Code lengths (R16, R17). -/
def codeLengths (t2 : Bool) : List Nat := if t2 then [64, 128, 256, 512] else [64, 128, 256, 512, 1024]

/-- The header fields of Table 2.13 (step 1 of R471). DESIGN CHOICE: an INFMT outside R226's list is one of their faults, refused at
step 1 with DETAIL 0 and not at step 4 (log entry 127). -/
def headerOk (b : List Byte) : Bool :=
  let h := imageHeader b
  field b 0 4 == 0x494D4E4C && field b 4 2 == 1 && field b 6 1 == 1 && [0xF, 0xE, 0xD, 3, 4, 5, 7].contains h.infmt
    && decide (1 ≤ h.din) && decide (h.din ≤ 65536) && decide (field b 12 1 ≤ 1) && zeroAt b 13 1
    && (codeLengths h.t2).contains h.outlen && decide (1 ≤ h.nlayer) && decide (h.nlayer ≤ 64) && zeroAt b 18 2
    && h.layeroff % 64 == 0 && decide (128 ≤ h.layeroff) && decide (h.layeroff + 64 * h.nlayer ≤ h.size)
    && h.size % 64 == 0 && decide (128 ≤ h.size) && decide (h.size ≤ 2 ^ 26) && zeroAt b 28 4 && zeroAt b 80 48

def fp32Finite (v : Nat) : Bool := bits v 30 23 != 255
def fp32Zero (v : Nat) : Bool := bits v 30 0 == 0

/-- A scale that a layer uses is finite and nonzero; one it does not use is the all-zero pattern. -/
def scaleOk (used : Bool) (v : Nat) : Bool := if used then fp32Finite v && !fp32Zero v else v == 0

/-- A threshold that a layer uses is finite and at least +0, −0 included. -/
def thresholdOk (used : Bool) (v : Nat) : Bool := if used then fp32Finite v && (!bit v 31 || fp32Zero v) else v == 0

/-- Plain integer weight formats. -/
def plainInt (fmt : Nat) (mx : Bool) : Bool := !mx && [2, 3, 4, 5].contains fmt

/-- A layer record under R226: its bytes, whether it is the last, and the dimension it must take. -/
def layerOk (h : ImageHeader) (r : List Byte) (last : Bool) (din : Nat) : Bool :=
  let l := Numeric.Layer.parse r
  let int := plainInt l.wfmt l.wmx
  let mxOk := if [8, 9, 0xA, 0xB, 0xC].contains l.wfmt then l.wmx else l.wfmt == 3 || !l.wmx
  field r 0 1 == 1 && decide (l.act ≤ 4) && decide (field r 2 1 < 32) && decide (field r 3 1 < 16) && zeroAt r 13 3 && zeroAt r 44 20
    && l.wfmt != 6 && mxOk && (!l.wmx || l.din % 32 == 0)
    && decide (1 ≤ l.dout) && decide (l.dout ≤ 65536) && [1, 2, 4].contains l.split && decide (l.split ≤ cdiv l.din 128)
    && l.woff % 64 == 0 && l.wstride % 64 == 0 && decide (Numeric.arrayBytes l.wfmt l.wmx l.din ≤ l.wstride)
    && decide (l.woff + l.dout * l.wstride ≤ h.size) && decide (l.woff < h.size)
    && l.boff % 64 == 0 && (l.boff == 0 || decide (l.boff + 4 * l.dout ≤ h.size))
    && scaleOk (int || decide (l.wfmt ≤ 1)) l.sw && scaleOk int l.sa
    && thresholdOk (l.wfmt == 1) l.tin && thresholdOk (l.act == 4) l.tout
    && l.din == din
    && (if last then l.act == (if h.t2 then 4 else 3) && l.dout == h.outlen && l.ofmt == b2n h.t2
        else decide (l.act ≤ 2) && [0xF, 0xE, 0xD, 0xB, 0xC, 7].contains l.ofmt)

/-- Layer records of an image, in order. -/
def imageLayers (h : ImageHeader) (b : List Byte) : List (List Byte) := (List.range h.nlayer).map (fun k => slice b (h.layeroff + 64 * k) 64)

/-- The number of the first faulty layer, from 1 (step 4 of R471). -/
def layerFault (h : ImageHeader) : List (List Byte) → Nat → Nat → Option Nat
  | [], _, _ => none
  | r :: rs, n, din =>
    if layerOk h r rs.isEmpty din then layerFault h rs (n + 1) (Numeric.Layer.parse r).dout else some n

/-- The checks of R471, in its order, on the bytes of a source. -/
def imageRefusal (b : List Byte) : Option Reply :=
  let h := imageHeader b
  if b.length < 128 || !headerOk b || b.length < h.size then some (refuse sIMAGE 0)
  else if sha384 (slice b 128 (h.size - 128)) != h.digest then some (refuse sSIGN 0)
  else (layerFault h (imageLayers h b) 1 h.din).map (fun n => refuse sIMAGE n)

/-! ### Registration -/

/-- A handle for a new image: number and reuse generation (R453). -/
def State.newImHandle (s : State) : State × Nat :=
  let n := s.freshNumber (s.images.map (fun (x : Nat × Image) => x.1 % 2 ^ 32))
  let g := Tab.read s.sosin.imGen 0 n
  ({ s.drew with sosin := { s.sosin with imGen := Tab.write s.sosin.imGen 0 n ((g + 1) % 2 ^ 16) } }, n + g * 2 ^ 32)

/-- Copy a checked image to its home and register it. -/
def State.placeImage (s : State) (vf : Nat) (b : List Byte) (home : Option (Nat × Tun)) (off : Nat) : State × Reply :=
  let h := imageHeader b
  let done := fun (s : State) (base : Nat) =>
    let r := s.newImHandle
    let steps := Numeric.encSteps ((imageLayers h b).map Numeric.Layer.parse)
    let m : Image := { handle := r.2, vf := vf, size := h.size, digest := h.digest, tun := home.map (·.1), base := base, infmt := h.infmt,
                       din := h.din, t2 := h.t2, outlen := h.outlen, nlayer := h.nlayer, layeroff := h.layeroff, encsteps := steps }
    let s := (r.1.storeHome m.tun base (slice b 0 h.size)).setImage r.2 m
    (s, ({ payload := leBytes 8 r.2 ++ leBytes 4 h.size ++ leBytes 1 m.need ++ leBytes 3 0 ++ leBytes 4 steps } : Reply))
  match home with
  | some (_, t) => if t.size < off + h.size then (s, refuse sRANGE (at_ 48)) else done s off
  | none =>
    match (match Tab.find s.tenants vf with | some t => t.exceeds h.size 0 0 | none => some 0) with
    | some q => (s, refuse sQUOTA q)
    | none =>
      match s.placeStacked vf h.size with
      | some (s, a) => done (s.charge vf h.size 0 0) a
      | none => (s, refuse sNOSPACE 0)

def imageRegister (c : Cmd) (s : State) : State × Reply :=
  let src := if c.fld 0 1 = 1 then s.tunNamed c.fn (c.raw 8 16) else none
  let home := if c.fld 1 1 = 1 then s.tunNamed c.fn (c.raw 32 16) else none
  let off := if c.fld 1 1 = 1 then c.fld 48 8 else 0
  let down := fun (t : Option (Nat × Tun)) => match t with | some (_, t) => t.st != .online | none => false
  checked s [(decide (1 < c.fld 0 1), sRANGE, at_ 0), (decide (1 < c.fld 1 1), sRANGE, at_ 1), (c.fld 0 1 == 1 && c.fld 24 8 % 64 != 0, sRANGE, at_ 24),
      (off % 64 != 0, sRANGE, at_ 48), (c.fld 0 1 == 1 && src.isNone, sNOOBJ, at_ 8), (c.fld 1 1 == 1 && home.isNone, sNOOBJ, at_ 32),
      (down src, sSTATE, at_ 8), (down home, sSTATE, at_ 32), (s.noKey c.fn, sSTATE, 0)] (fun s =>
    let go := fun (b : List Byte) (s : State) => match imageRefusal b with
      | some r => (s, r)
      | none => s.placeImage c.fn b home off
    match src with
    | some (h, t) => go (s.homeBytes (some h) (c.fld 24 8) (t.size - c.fld 24 8)) s
    | none => if c.hasBuf then c.readBuf s go else (s, refuse sIMAGE 0))

/-- IMAGE_REGISTER (R471). -/
def execImageRegister (m : Mbx) (k : MSlot) (data : List Byte) (s : State) : Host.Outcome State Fault Refusal :=
  .next (s.runCmd m k 0x0401 data imageRegister)

/-- The image a request names in its first bytes. -/
def withImage (c : Cmd) (s : State) (f : Image → State × Reply) : State × Reply :=
  match s.imageFor c.fn (c.fld 0 8) with
  | some m => f m
  | none => (s, refuse sNOOBJ (at_ 0))

def imageDelete (c : Cmd) (s : State) : State × Reply :=
  withImage c s (fun m =>
    let inSet := match Tab.find s.tenants c.fn with | some t => t.swset.contains m.handle | none => false
    if m.bound != 0 || inSet then (s, refuse sSTATE (at_ 0))
    else
      -- what runs on it keeps its perches until it has ended
      let m := if m.running = 0 then { m with resident := false, filling := none, perches := [] } else m
      ((s.setImage m.handle { m with deleted := true, pinned := false }).reapStores, {}))

/-- IMAGE_DELETE (R471). -/
def execImageDelete (m : Mbx) (k : MSlot) (s : State) : Host.Outcome State Fault Refusal := .next (s.runCmd m k 0x0402 [] imageDelete)

/-! ### Perches -/

/-- Does a tenant of class NONE ask (R179, R471)? -/
def State.noClass (s : State) (vf : Nat) : Bool := match Tab.find s.tenants vf with | some t => decide (4 ≤ t.lcmax) | none => true

/-- A fill that a command asks for (R177, R178). -/
def fillFor (m : Image) (s : State) : State × Reply :=
  let r := s.startFill m.handle
  if r.2 then (r.1, { wait := .fill m.handle })
  else if !s.homeUp m.tun then (s, refuse sSTATE (at_ 0))
  else
    let perchq := match Tab.find s.tenants m.vf with | some t => t.perchq | none => 0
    (s, if perchq < s.perchesOf [m.vf] + m.need then refuse sQUOTA 3 else refuse sPERCH 0)

def imageFill (c : Cmd) (s : State) : State × Reply :=
  if s.noClass c.fn then (s, refuse sPERM 0) else withImage c s (fun m => fillFor m s)

/-- IMAGE_FILL (R177, R178, R471). -/
def execImageFill (m : Mbx) (k : MSlot) (s : State) : Host.Outcome State Fault Refusal := .next (s.runCmd m k 0x0403 [] imageFill)

def imagePin (c : Cmd) (s : State) : State × Reply :=
  if s.noClass c.fn then (s, refuse sPERM 0)
  else withImage c s (fun m =>
    let pinmax := match Tab.find s.tenants c.fn with | some t => t.pinmax | none => 0
    if !m.pinned && decide (pinmax < s.pinnedPerches c.fn + m.need) then (s, refuse sQUOTA 4)
    else
      let r := fillFor m s
      if r.2.status = 0 then (r.1.onImage m.handle (fun m => { m with pinned := true }), r.2) else r)

/-- IMAGE_PIN (R177 to R179, R471). -/
def execImagePin (m : Mbx) (k : MSlot) (s : State) : Host.Outcome State Fault Refusal := .next (s.runCmd m k 0x0404 [] imagePin)

def imageUnpin (c : Cmd) (s : State) : State × Reply :=
  withImage c s (fun m => (s.setImage m.handle { m with pinned := false }, {}))

/-- IMAGE_UNPIN (R179). -/
def execImageUnpin (m : Mbx) (k : MSlot) (s : State) : Host.Outcome State Fault Refusal := .next (s.runCmd m k 0x0405 [] imageUnpin)

def swSet (c : Cmd) (s : State) : State × Reply :=
  let n := c.fld 0 1
  let hs := (List.range n).map (fun i => c.fld (8 + 8 * i) 8)
  let missing := (List.range n).find? (fun i => (s.imageFor c.fn (c.fld (8 + 8 * i) 8)).isNone)
  let need : Nat := (dedup hs).foldl (fun a h => match s.imageFor c.fn h with | some m => a + m.need | none => a) 0
  let perchq : Nat := match Tab.find s.tenants c.fn with | some t => t.perchq | none => 0
  checked s [(decide (4 < n), sRANGE, at_ 0), (missing.isSome, sNOOBJ, at_ (8 + 8 * missing.getD 0)), (decide (perchq < need), sQUOTA, 3)]
    (fun s => (s.onTenant c.fn (fun t => { t with swset := hs }), {}))

/-- SWSET (R471). -/
def execSwset (m : Mbx) (k : MSlot) (s : State) : Host.Outcome State Fault Refusal := .next (s.runCmd m k 0x0406 [] swSet)

/-- The entry of a perch in PERCH_INFO, as a function sees it: another tenant's perch shows as free (log entry 35). -/
def State.perchEntry (s : State) (f p : Nat) : List Byte :=
  match s.images.find? (fun (x : Nat × Image) => x.2.occupies && x.2.perches.contains p && (f == 0 || x.2.vf == f)) with
  | some (h, m) =>
    leBytes 8 h ++ leBytes 1 m.vf ++ leBytes 1 (b2n m.pinned + 2 * b2n m.filling.isSome) ++ leBytes 2 0 ++ leBytes 4 (m.lastEnc % 2 ^ 32)
  | none => leBytes 16 0

def perchInfo (c : Cmd) (s : State) : State × Reply := (s, { payload := (List.range 16).flatMap (s.perchEntry c.fn) })

/-- PERCH_INFO (Table 13.14). -/
def execPerchInfo (m : Mbx) (k : MSlot) (s : State) : Host.Outcome State Fault Refusal := .next (s.runCmd m k 0x0407 [] perchInfo)

end Sys2Proof.Machine
end

