-- ==== Sys2Proof/Machine/SosinMisc.lean ====
section
/-! DEFINITION. Machine/SosinMisc.lean: the Sosin commands on tuns, memory, power phases, error records and debug mode
(R474, R477, R480, R482, R501). -/

namespace Sys2Proof.Machine

/-! ### Tuns (R311 to R313, R474) -/

/-- Keep a generated key wrapped in flash (R319, Table 16.5). What the wrapping gives is no one's to see (log entry 37). -/
def State.retainKey (s : State) (vf : Nat) : State :=
  let k := s.keyOf vf
  if k.st != 1 || Tab.find s.far.retained vf == some k then s
  else
    let s := { s with far := { s.far with retained := Tab.insert s.far.retained vf k } }
    let w := slice (Config.sign 9 k.key) 0 72
    (s.config 4 0x0106 (leBytes 1 vf ++ leBytes 1 0 ++ leBytes 8 k.keyid ++ slice w 0 40)).config 4 0x0106
      (leBytes 1 vf ++ leBytes 1 1 ++ slice w 40 32)

/-- The bytes of a new tun are undefined until written (R474). -/
def State.blankTun (s : State) (t : Tun) : State :=
  t.extents.foldl (fun (s : State) x => { s with far := { s.far with inks := Tab.clear s.far.inks (x.2.1 / 64) (x.2.2 / 64) } }) s

/-- Make a tun whose extents have been found. -/
def State.makeTun (s : State) (t : Tun) : State :=
  let h := s.far.nextTun
  let s := ({ s with far := { s.far with nextTun := h + 1, tuns := Tab.insert s.far.tuns h t } } : State).blankTun t
  let s := ((s.ownTun t (.vf t.vf)).putTunEntry t).charge t.vf 0 0 t.size
  if t.retain then s.retainKey t.vf else s

/-- Is a table entry free on a port? -/
def State.tunRoom (s : State) (n : Nat) : Bool := decide ((s.tunSlots n).length < tunEntries)

def tunCreate (c : Cmd) (s : State) : State × Reply :=
  let name := c.raw 0 16
  let span := c.fld 16 1
  let flags := c.fld 18 1
  let size := c.fld 24 8
  let ports := if span = 2 then [0, 1] else [c.fld 17 1]
  let per := size / ports.length
  let ext := ports.map (fun n => if s.tunRoom n then s.lowestFar n per else none)
  let quota : Option Nat := match Tab.find s.tenants c.fn with | some t => t.exceeds 0 0 size | none => some 2
  checked s [(name.all (· == 0), sRANGE, at_ 0), (span != 1 && span != 2, sRANGE, at_ 16), (span == 1 && decide (1 < c.fld 17 1), sRANGE, at_ 17),
      (bit flags 1 && !bit flags 0, sRANGE, at_ 18), (size == 0 || size % (span * 2 ^ 21) != 0, sRANGE, at_ 24),
      (s.noKey c.fn, sSTATE, 0), (ports.any (fun n => !s.farUp n), sSTATE, at_ 17),
      (bit flags 0 && ports.any (fun n => s.fld (Reg.FTC_PSTATE n) F.FTC_PSTATE_PERSIST == 0), sSTATE, at_ 18),
      ((s.tunNamed c.fn name).isSome, sEXISTS, at_ 0), (quota.isSome, sQUOTA, 2), (ext.any Option.isNone, sNOSPACE, at_ 24)] (fun s =>
    let b := ext.map (fun x => x.getD 0)
    let t : Tun := { name := name, vf := c.fn, both := span == 2, port := if span = 2 then 0 else c.fld 17 1, size := size,
                     persist := bit flags 0, retain := bit flags 1, base0 := b.headD 0, base1 := if span = 2 then b.getD 1 0 else 0,
                     keyid := (s.keyOf c.fn).keyid, st := .online, serial0 := (s.farAt 0).serial.getD 0,
                     serial1 := (s.farAt 1).serial.getD 0 }
    (s.makeTun t, { payload := leBytes 8 t.base0 ++ leBytes 8 t.base1 }))

/-- TUN_CREATE (R311, R313, R318, R319, R474). -/
def execTunCreate (m : Mbx) (k : MSlot) (s : State) : Host.Outcome State Fault Refusal := .next (s.runCmd m k 0x0601 [] tunCreate)

/-- The owner that TUN_DELETE and TUN_INFO name at byte 16: the operator gives it, a tenant writes zero. -/
def tunOwner (c : Cmd) : Except Reply Nat :=
  let v := c.fld 16 1
  if c.operator then (if v = 0 || 64 < v then .error (refuse sRANGE (at_ 16)) else .ok v)
  else if v != 0 then .error (refuse sRANGE (at_ 16)) else .ok c.fn

/-- Run `f` on the tun a request names at byte 0. -/
def onTun (c : Cmd) (s : State) (f : Nat → Nat → Tun → State × Reply) : State × Reply :=
  match tunOwner c with
  | .error r => (s, r)
  | .ok v =>
    match s.tunNamed v (c.raw 0 16) with
    | some (h, t) => f v h t
    | none => (s, refuse sNOOBJ (at_ 0))

def tunDelete (c : Cmd) (s : State) : State × Reply :=
  onTun c s (fun v h _ =>
    if s.tunUsed h || (c.operator && (Tab.find s.tenants v).isSome) then (s, refuse sSTATE (at_ 0)) else (s.freeTun h, {}))

/-- TUN_DELETE (R313, R474). -/
def execTunDelete (m : Mbx) (k : MSlot) (s : State) : Host.Outcome State Fault Refusal := .next (s.runCmd m k 0x0602 [] tunDelete)

def tunInfo (c : Cmd) (s : State) : State × Reply := onTun c s (fun _ _ t => (s, { payload := t.entry }))

/-- TUN_INFO (Tables 9.3 and 13.15). -/
def execTunInfo (m : Mbx) (k : MSlot) (s : State) : Host.Outcome State Fault Refusal := .next (s.runCmd m k 0x0603 [] tunInfo)

def tunCopy (c : Cmd) (s : State) : State × Reply :=
  let dir := c.fld 0 1
  let o := c.fld 24 8
  match firstFail [(decide (1 < dir), sRANGE, at_ 0), (o % 64 != 0, sRANGE, at_ 24)] with
  | some r => (s, r)
  | none =>
    match s.tunNamed c.fn (c.raw 8 16) with
    | none => (s, refuse sNOOBJ (at_ 8))
    | some (h, t) =>
      checked s [(decide (t.size < o + c.len), sRANGE, at_ 24), (t.st != .online, sSTATE, at_ 8)] (fun s =>
        if c.len = 0 then (s, {})
        else if dir = 0 then c.readBuf s (fun b s => (s.tunStore h o b, {}))
        else (s, { buf := s.homeBytes (some h) o c.len }))

/-- TUN_COPY (R474). -/
def execTunCopy (m : Mbx) (k : MSlot) (data : List Byte) (s : State) : Host.Outcome State Fault Refusal :=
  .next (s.runCmd m k 0x0604 data tunCopy)

/-! ### Memory (R271, R297, R298, R477) -/

/-- Does a stacked address lie in a replacement page (R297)? -/
def inReplacement (a : Nat) : Bool := localGranule a == 751 && decide (a % 2 ^ 21 < 2 ^ 20)

def pageRetire (c : Cmd) (s : State) : State × Reply :=
  let a := c.fld 0 8
  let p := pchOf a
  let ch := s.pchAt p
  match firstFail [(decide (stackedEnd ≤ a) || a % 4096 != 0, sRANGE, at_ 0),
      (ch.retired.any (fun r => r.page == a / 4096) || inReplacement a, sSTATE, at_ 0)] with
  | some r => (s, r)
  | none =>
    if 256 ≤ ch.retired.length then
      ({ s with sosin := { s.sosin with banned := granuleOf a :: s.sosin.banned } }, refuse sNOSPACE (at_ 0))
    else
      let n := ch.retired.length
      (s.setPch p { ch with retired := ch.retired ++ [{ page := a / 4096, repl := n }] },
       { payload := leBytes 2 p ++ leBytes 2 (255 - n), wait := .page p (a / 4096) })

/-- PAGE_RETIRE (R297, R298, R477): the command completes with the fourth copy. -/
def execPageRetire (m : Mbx) (k : MSlot) (s : State) : Host.Outcome State Fault Refusal := .next (s.runCmd m k 0x0801 [] pageRetire)

def retireList (c : Cmd) (s : State) : State × Reply :=
  let p := c.fld 0 2
  let l := sortBy (fun a b => decide (a ≤ b)) (((s.pchAt p).retired.filter (fun r => r.moved == 4)).map (fun r => 4096 * r.page))
  let bs := l.flatMap (leBytes 8)
  checked s [(decide (255 < p), sRANGE, at_ 0), (c.hasBuf && decide (c.len < bs.length), sRANGE, 24)] (fun s =>
    if c.hasBuf then (s, { payload := leBytes 2 l.length, buf := bs })
    else (s, { payload := leBytes 2 l.length ++ (if l.isEmpty then [] else leBytes 6 0 ++ bs.take 440) }))

/-- RETIRE_LIST (R477). -/
def execRetireList (m : Mbx) (k : MSlot) (s : State) : Host.Outcome State Fault Refusal := .next (s.runCmd m k 0x0802 [] retireList)

def granuleTest (c : Cmd) (s : State) : State × Reply :=
  let a := c.fld 0 8
  let n := c.fld 8 4
  let op := c.fld 12 1
  let gs := (List.range n).map (fun k => granuleOf a + 256 * k)
  let past := decide (768 * 256 ≤ granuleOf a + 256 * (n - 1))
  match firstFail [(decide (stackedEnd ≤ a) || a % 2 ^ 21 != 0, sRANGE, at_ 0), (past, sRANGE, at_ 8), (decide (1 < op), sRANGE, at_ 12)] with
  | some r => (s, r)
  | none =>
    let need : Owner := if op = 1 then .free else .test
    if gs.any (fun g => s.owner g != need) then (s, refuse sSTATE (at_ 0))
    else if op = 1 then (forAll gs (fun g s => s.setOwner g .test) s, {})
    else (s.freeGranules gs, {})

/-- GRANULE_TEST (R271, R477). -/
def execGranuleTest (m : Mbx) (k : MSlot) (s : State) : Host.Outcome State Fault Refusal := .next (s.runCmd m k 0x0803 [] granuleTest)

/-! ### Power phase (R478, R523) -/

def phaseSet (c : Cmd) (s : State) : State × Reply :=
  checked s [(decide (3 < c.fld 0 1), sRANGE, at_ 0)] (fun s => (s.onTenant c.fn (fun t => { t with phase := c.fld 0 1 }), {}))

/-- PHASE_SET (R523). -/
def execPhaseSet (m : Mbx) (k : MSlot) (s : State) : Host.Outcome State Fault Refusal := .next (s.runCmd m k 0x0902 [] phaseSet)

/-! ### Error records (R480, R493, R499, R501) -/

/-- A record as ERR_READ returns it (Table 14.3). -/
def ErrRec.bytes (r : ErrRec) : List Byte :=
  leBytes 8 r.seq ++ leBytes 8 r.time ++ leBytes 2 r.cause ++ leBytes 1 r.sev
    ++ leBytes 1 (b2n r.again + 2 * b2n r.acked + 4 * b2n r.ovf + 8 * b2n r.injected) ++ leBytes 1 r.againCnt ++ leBytes 1 r.func
    ++ leBytes 1 r.skind ++ leBytes 1 0 ++ leBytes 4 r.subject ++ leBytes 4 0 ++ leBytes 8 r.addr ++ leBytes 8 r.arg0
    ++ leBytes 8 r.arg1 ++ leBytes 8 r.arg2

/-- Held records that a function may read, from a sequence number on, at most n (R501). -/
def State.readRecords (s : State) (c : Cmd) (d seq n : Nat) : List ErrRec :=
  (sortBy (fun (a b : ErrRec) => decide (a.seq ≤ b.seq))
    ((s.errQueue d).recs.filter (fun r => decide (seq ≤ r.seq) && (c.operator || r.func == c.fn)))).take n

def errRead (c : Cmd) (s : State) : State × Reply :=
  let d := c.fld 0 1
  let n := c.fld 1 1
  let seq := c.fld 8 8
  checked s [(decide (5 < d), sRANGE, at_ 0), (n == 0 || decide (32 < n), sRANGE, at_ 1)] (fun s =>
    let l := s.readRecords c d seq (if c.hasBuf then min n (c.len / 64) else min n 6)
    let next := match l.getLast? with | some r => r.seq + 1 | none => seq
    let bs := l.flatMap ErrRec.bytes
    let h := leBytes 8 next ++ leBytes 1 l.length ++ leBytes 1 64
    if c.hasBuf then (s, { payload := h, buf := bs })
    else (s, { payload := h ++ (if l.isEmpty then [] else leBytes 6 0 ++ bs) }))

/-- ERR_READ (R480, R501). -/
def execErrRead (m : Mbx) (k : MSlot) (s : State) : Host.Outcome State Fault Refusal := .next (s.runCmd m k 0x0B01 [] errRead)

def errAck (c : Cmd) (s : State) : State × Reply :=
  checked s [(decide (5 < c.fld 0 1), sRANGE, at_ 0)] (fun s => (s.ackRecords (c.fld 0 1) (c.fld 8 8), {}))

/-- ERR_ACK (R480, R499). -/
def execErrAck (m : Mbx) (k : MSlot) (s : State) : Host.Outcome State Fault Refusal := .next (s.runCmd m k 0x0B02 [] errAck)

/-- Causes that can be injected, with severity and first subject kind (Tables 14.5, 15.10, 16.9, 17.8). -/
def injectable : List Cause :=
  [Cause.bushelHdr, Cause.remotePoison, Cause.ownerFault 4, Cause.ledgerBreach, Cause.eccCe, Cause.eccUe, Cause.poisonRead, Cause.poisonMade,
   Cause.poisonLate, Cause.remapDone, Cause.remapDrop, Cause.spareOut, Cause.retireAdvise, Cause.scrubLate, Cause.pchFailed,
   Cause.stackShut, Cause.tableUe]
  ++ [Cause.portRefused, Cause.linkDown, Cause.linkUp, Cause.farPoison, Cause.readTimeout, Cause.writeLost, Cause.tunLost, Cause.gpfDone,
   Cause.gpfFail, Cause.devEvent 2]
  ++ [Cause.portUp, Cause.portLone, Cause.portFault, Cause.lockLost, Cause.spareIn, Cause.rateDown, Cause.partnerChanged, Cause.replay,
   Cause.replayLimit, Cause.flitsLost, Cause.creditBreach, Cause.portIsolated, Cause.malformed, Cause.miswired, Cause.memberLost,
   Cause.leagueLost]
  ++ [Cause.regSize, Cause.dbRange, Cause.dbState, Cause.hostUr, Cause.tdiBlock, Cause.hostPoisonRx, Cause.dmaTimeout, Cause.dmaAbort,
   Cause.atsDenied, Cause.hostProto, Cause.hostLinkCe, Cause.ideFail, Cause.tdiError, Cause.hostDegraded, Cause.hostLinkDown,
   Cause.sosinMalformedHost, Cause.mbxSlot]
  ++ [Cause.sosinStall, Cause.sosinMalformed, Cause.logFault]
  ++ [plat 0x0520 0, plat 0x0521 1, plat 0x0522 2, plat 0x0523 2, plat 0x0524 3, plat 0x0525 2, plat 0x0526 2]
  ++ [plat 0x0540 0, plat 0x0541 0, plat 0x0542 2, plat 0x0543 2, plat 0x0544 2, plat 0x0545 2, plat 0x0546 0, plat 0x0547 0, plat 0x0548 1,
   plat 0x0549 3, plat 0x054A 3]
  ++ [plat 0x0560 3, plat 0x0561 3, plat 0x0562 1, plat 0x0563 3, ⟨0x0564, 2, 5⟩, ⟨0x0565, 1, 4⟩, plat 0x0566 0]

def errInject (c : Cmd) (s : State) : State × Reply :=
  let code := c.fld 2 2
  match injectable.find? (fun x => x.code == code) with
  | none => (s, refuse sRANGE (at_ 2))
  | some x =>
    checked s [(code / 256 != c.fld 0 1, sRANGE, at_ 2), (!s.debug, sSTATE, 0)] (fun s =>
      let r := s.occur { cause := x, injected := true }
      (r.1, { payload := leBytes 8 r.2 }))

/-- ERR_INJECT (R480). -/
def execErrInject (m : Mbx) (k : MSlot) (s : State) : Host.Outcome State Fault Refusal := .next (s.runCmd m k 0x0B03 [] errInject)

/-! ### Debug mode (R230, R231, R482) -/

/-- What entry to and exit from debug mode zero (R231): the accumulator registers, the sequence table with the lines of the sequence
cache, the operand store and every perch. -/
def State.zeroCore (s : State) : State :=
  { s with seqs := [], failing := [], passes := [], accs := [],
           rings := s.rings.map (fun (x : Nat × Ring) => (x.1, { x.2 with staged := [], fetched := (x.2.fetched + x.2.sqsize - x.2.staged.length) % x.2.sqsize })),
           images := s.images.map (fun (x : Nat × Image) => (x.1, { x.2 with resident := false, filling := none, perches := [], running := 0, loaded := [] })) }

def dbgEnter (_ : Cmd) (s : State) : State × Reply :=
  checked s [(!s.tenants.isEmpty || s.fld Reg.MGT_FUSE (6, 6) == 1, sSTATE, 0)] (fun s => (({ s with debug := true } : State).zeroCore, {}))

/-- DBG_ENTER (R482). A part whose DBGOFF fuse is burned never enters debug mode (Table 16.11). -/
def execDbgEnter (m : Mbx) (k : MSlot) (s : State) : Host.Outcome State Fault Refusal := .next (s.runCmd m k 0x0D01 [] dbgEnter)

def dbgExit (_ : Cmd) (s : State) : State × Reply := (({ s with debug := false } : State).zeroCore, {})

/-- DBG_EXIT (R482). -/
def execDbgExit (m : Mbx) (k : MSlot) (s : State) : Host.Outcome State Fault Refusal := .next (s.runCmd m k 0x0D02 [] dbgExit)

end Sys2Proof.Machine
end

