-- ==== Sys2Proof/Machine/Power.lean ====
section
/-! DEFINITION. Machine/Power.lean: regulators, windows and limits, bubbles, operating points, temperature, throttle reasons and
power-fail notices (R320, R478, R479, R510 to R534, R616). -/

namespace Sys2Proof.Machine

/-! ### The regulator map (R511, Table 15.2) -/

def regulatorOf (b : List Byte) : Regulator :=
  { seg := field b 0 1, addr := field b 1 1, domain := field b 2 1, corev := bit (field b 3 1) 0, lsb := field b 4 4, icc := field b 8 4 }

def regulatorOk (b : List Byte) : Bool :=
  decide (field b 0 1 ≤ 3) && decide (field b 1 1 < 128) && decide (field b 2 1 ≤ 3) && decide (field b 3 1 ≤ 1) && field b 4 4 != 0
    && zeroAt b 12 4

/-- REGMAP entries of flash, in entry order: number and 16 bytes. -/
def Mc.regmap (m : Mc) : List (Nat × List Byte) :=
  sortBy (fun a b => decide (a.1 ≤ b.1)) (((m.records 2).filter (fun c => flashKind c.2 == 0x0103)).map (fun c =>
    (field (flashPayload c.2) 0 1, slice (flashPayload c.2) 1 16)))

/-- The first faulty entry of a map, if it breaks a rule of R511. -/
def regmapFault (l : List (Nat × List Byte)) : Option Nat :=
  match l.find? (fun e => !regulatorOk e.2) with
  | some e => some e.1
  | none =>
    let rs := l.map (fun e => regulatorOf e.2)
    let inSeg := fun (k : Nat) => (rs.filter (fun r => r.seg == k)).length
    if 12 < l.length || (List.range 4).any (fun k => decide (3 < inSeg k)) || (List.range 4).any (fun d => !rs.any (fun r => r.domain == d))
        || !rs.any (fun r => r.domain == 0 && r.corev) then some l.length
    else none

/-- Sosin firmware checks the map at start-up. -/
def State.loadRegmap (s : State) : State :=
  let l := s.mc.regmap
  match regmapFault l with
  | some n => ({ s with pwr := { s.pwr with regs := [], mapOk := false }, meter := { s.meter with on := false } } : State).platRecord 0x0525 2 n 0
  | none => { s with pwr := { s.pwr with regs := l.map (fun e => { regulatorOf e.2 with goodAt := s.now }), mapOk := true } }

/-! ### Readings (R512, R513) -/

def State.onRegulator (s : State) (k : Nat) (f : Regulator → Regulator) : State :=
  { s with pwr := { s.pwr with regs := s.pwr.regs.modify k f } }

def addAt (d : Nat) (n : Nat) (l : List Nat) : List Nat := l.modify d (· + n)
def addInt (d : Nat) (n : Int) (l : List Int) : List Int := l.modify d (· + n)

/-- A good READ_EIN: the whole delta since the last good one, in whole microjoules (R512, R513). The first reading of a
regulator that was lost goes to the gap (R542). -/
def State.goodReading (s : State) (k : Nat) (r : Regulator) (count : Nat) : State :=
  let pj := r.rem + (match r.count with | some c => (count - c) * r.lsb | none => 0)
  let uj := pj / 1000000
  let s := s.onRegulator k (fun r => { r with count := some count, rem := pj % 1000000, goodAt := s.now, lost := false })
  if r.lost then { s with meter := { s.meter with gap := addInt r.domain uj s.meter.gap } }
  else { s with pwr := { s.pwr with booked := addAt r.domain uj s.pwr.booked } }

/-- PMBUS_POLL (R512, R513): a cycle's READ_EIN of each regulator, by entry, as its count with rollovers or the kind of its
fault, and the READ_IOUT readings of the cycle, as entry and mA. -/
def execPmbusPoll (eins : List (Bool × Nat)) (iouts : List (Nat × Nat)) (s : State) : Host.Outcome State Fault Refusal :=
  if s.now < s.pwr.pollAt || !s.pwr.mapOk then .next s
  else
    let s := { s with pwr := { s.pwr with pollAt := s.now / usec 500 * usec 500 + usec 500 } }
    let s := forAll (s.pwr.regs.zip eins).zipIdx (fun x s =>
      if x.1.2.1 then s.goodReading x.2 x.1.1 x.1.2.2 else s.platRecord 0x0521 1 x.2 x.1.2.2) s
    .next (forAll iouts (fun x s => s.onRegulator x.1 (fun r => { r with iout := x.2 })) s)

/-- REG_LOST (R513): no good reading for 100 ms. -/
def execRegLost (k : Fin 12) (s : State) : Host.Outcome State Fault Refusal :=
  match s.pwr.regs[k.val]? with
  | some r =>
    if !r.lost && r.goodAt + msec 100 ≤ s.now && s.sosin.ready then
      .next ((s.onRegulator k.val (fun r => { r with lost := true })).platRecord 0x0522 2 k 0)
    else .next s
  | none => .next s

/-! ### Operating points (R522 to R529) -/

/-- Fused core voltage of an operating point, mV. -/
def State.vid (s : State) (op : Nat) : Nat := s.fld (Reg.PWR_VID op) (15, 0)

/-- Command a voltage on every COREV regulator (R527). -/
def State.commandVolts (s : State) (op : Nat) : State :=
  forAll s.pwr.regs.zipIdx (fun x s => if x.1.corev then (s.onRegulator x.2 (fun r => { r with vout := s.vid op })).emit (.vout x.2 (s.vid op)) else s) s

/-- The preferred operating point (R523). -/
def State.preferred (s : State) : Nat :=
  let ph := fun (k : Nat) => s.pwr.policy.phaseop.getD k 5
  let l := s.tenants.filterMap (fun (x : Nat × Tenant) => if x.2.revoked then none else some (ph x.2.phase))
  if l.isEmpty then ph 3 else l.foldl min 5

/-- In an agreed league (R530)? -/
def State.agreed (s : State) : Bool := s.fld Reg.FAB_LEAGUE F.FAB_LEAGUE_AGREED == 1

/-- The permitted operating point (R511, R526, R528). -/
def State.permitted (s : State) : Nat :=
  if !s.pwr.mapOk then 5
  else
    let p := max s.pwr.policy.opmax (max (s.fld Reg.PWR_STATE F.PWR_STATE_PREF) (s.fld Reg.PWR_STATE F.PWR_STATE_THERM))
    match s.pwr.held with
    | some h => max p h
    | none => p

/-- What a league member reports in LUP (R528). -/
def State.reportedOp (s : State) : Nat :=
  let p := s.permitted
  if p < s.op && !(match s.pwr.settledFor with | some v => decide (v ≤ p) | none => false) then s.op else p

/-- The operating point the device goes to (R526, R530). -/
def State.wantedOp (s : State) : Nat := if s.agreed then s.fab.league.op else s.permitted

/-- Show PERMIT, and command the voltage of a faster point that is to come (R527 step 1, R528). -/
def State.seekOp (s : State) : State :=
  let s := s.setFld Reg.PWR_STATE F.PWR_STATE_PERMIT s.permitted
  -- a point held after a failed settling is sought again, as if the hold were not there
  let p := ({ s with pwr := { s.pwr with held := none } } : State).permitted
  let ready := match s.pwr.settledFor with | some v => decide (v ≤ p) | none => false
  let asked := match s.pwr.trans with | some t => t.target == p | none => false
  if p < s.op && !ready && !asked && s.sosin.ready then
    ({ s with pwr := { s.pwr with trans := some { target := p, asked := some s.now } } } : State).commandVolts p
  else s

/-- Is the voltage in place for a point? -/
def State.voltsFor (s : State) (op : Nat) : Bool :=
  decide (s.op ≤ op) || (match s.pwr.settledFor with | some v => decide (v ≤ op) | none => false)

/-- OP_TRANSITION (R527, R529, R530): ticks are suspended while the core synthesizer relocks, for `relock` ns, at most 2 µs. -/
def execOpTransition (relock : Nat) (s : State) : Host.Outcome State Fault Refusal :=
  let t := s.wantedOp
  let soon := match s.pwr.lastTrans with | some t0 => !s.agreed && decide (s.now < t0 + msec 1) | none => false
  if t = s.op || !s.voltsFor t || soon || !s.sosin.ready || s.inReset then .next s
  else
    let old := s.op
    let dt := nsec (min relock 2000)
    let s := forAll s.seqs (fun (x : Nat × Sequence) s => s.voidSeq x.1 voidSuspend) s
    let s := forAll (List.range 4) (fun d s => s.addModel d 0 (1000 * dt * s.reg (Reg.MTR_STATIC (6 * d + old)))) s
    let s := { s with pwr := { s.pwr with lastTrans := some s.now, trans := none,
                                          settledFor := match s.pwr.settledFor with | some v => if v < t then some v else none | none => none },
                      now := s.now + dt }
    let s := (s.setFld Reg.PWR_STATE F.PWR_STATE_OP t).count Reg.PWR_TRANS 1
    .next ((if old < t then s.commandVolts t else s).seekOp)

/-- VOLTAGE_SETTLE (R527 step 1, R528): READ_VOUT of the COREV regulators, in entry order. -/
def execVoltageSettle (mvs : List Nat) (s : State) : Host.Outcome State Fault Refusal :=
  match s.pwr.trans with
  | none => .next s
  | some t =>
    let v := s.vid t.target
    let n := (s.pwr.regs.filter (·.corev)).length
    if mvs.length = n && mvs.all (fun x => decide (x ≤ v + 10) && decide (v ≤ x + 10)) then
      .next (({ s with pwr := { s.pwr with trans := none, settledFor := some t.target, held := none } } : State).seekOp)
    else match t.asked with
      | some a =>
        if a + msec 1 ≤ s.now then
          let s := s.platRecord 0x0523 2 t.target (mvs.getLast?.getD 0)
          .next (({ s with pwr := { s.pwr with trans := some { t with asked := none }, held := some s.op } } : State).seekOp)
        else .next s
      | none => .next s

/-! ### Windows (R514 to R518) -/

/-- Cap of a domain under a limit, mW (Table 15.1). -/
def capOf (d limit : Nat) : Nat := limit * (match d with | 0 => 520 | 1 => 300 | 2 => 120 | _ => 60)

/-- Sum of a domain over the last n windows, and how many there are. -/
def windowSum (hist : List (List Nat)) (d n : Nat) : Nat × Nat :=
  let l := hist.take n
  (l.foldl (fun a w => a + w.getD d 0) 0, l.length)

/-- The term G × e in 1/64, rounded up (R515, R518): sum and windows of an average, its cap, and the gain. -/
def excessTerm (x : Nat × Nat) (cap g : Nat) : Nat := if x.1 ≤ x.2 * cap then 0 else min 64 (cdiv (64 * g * (x.1 - x.2 * cap)) (x.2 * cap))

/-- Averages, power excess and its term at the end of a window. -/
def State.limits (s : State) : State :=
  let p := s.pwr
  let a := fun (d : Nat) => windowSum p.hist d 1000
  let b := fun (d : Nat) => windowSum p.hist d 10000
  let ca := fun (d : Nat) => capOf d p.policy.pla
  let cb := fun (d : Nat) => capOf d p.policy.plb
  let above := fun (x : Nat × Nat) (cap : Nat) => decide (x.2 * cap < x.1)
  let q := [excessTerm (a 0) (ca 0) p.policy.gain, excessTerm (a 1) (ca 1) p.policy.gain, excessTerm (b 0) (cb 0) p.policy.gain,
            excessTerm (b 1) (cb 1) p.policy.gain].foldl max 0
  let s := { s with pwr := { p with qP := q, overA := above (a 0) (ca 0) || above (a 1) (ca 1), overB := above (b 0) (cb 0) || above (b 1) (cb 1) } }
  let s := forAll (List.range 4) (fun d s =>
    s.setReg (Reg.PWR_AVG d) ((b d).1 / max 1 (b d).2 * 2 ^ 32 + (a d).1 / max 1 (a d).2)) s
  forAll [2, 3] (fun d s => if above (a d) (ca d) then s.platRecord 0x0520 0 d ((a d).1 / max 1 (a d).2) else s) s

/-- A policy that waits takes effect with the window that begins (R478). -/
def State.installPolicy (s : State) : State :=
  match s.pwr.nextPolicy with
  | none => s
  | some p => ({ s with pwr := { s.pwr with policy := p, nextPolicy := none } } : State).setReg Reg.PWR_POLICY (p.pla * 2 ^ 16 + p.plb)

def State.setPreferred (s : State) : State := s.setFld Reg.PWR_STATE F.PWR_STATE_PREF s.preferred

/-! ### Temperature (R288, R289, R518, R525, R532, R533) -/

/-- A signed temperature as 16 bits. -/
def temp16 (t : Int) : Nat := (t % 65536).toNat

/-- Refresh code of a stack temperature (Table 8.5); a stack that was shut down stays so. -/
def refreshCode (was : Nat) (t : Int) : Nat := if was = 3 || 1050 ≤ t then 3 else if t ≤ 850 then 0 else if t ≤ 950 then 1 else 2

/-- The thermal OP limit (R525). -/
def State.thermalLimit (s : State) (hot : Int) : State :=
  let p := s.pwr
  let lim := s.fld Reg.THM_LIMIT F.THM_LIMIT_CORE
  let th := s.fld Reg.PWR_STATE F.PWR_STATE_THERM
  let past := fun (t : Option Nat) (d : Nat) => match t with | some t0 => decide (t0 + d ≤ s.now) | none => true
  if (lim : Int) ≤ hot then
    let s := { s with pwr := { p with coolSince := none } }
    if th < 5 && past p.slowAt (msec 10) then
      ({ s with pwr := { s.pwr with slowAt := some s.now } } : State).setFld Reg.PWR_STATE F.PWR_STATE_THERM (th + 1)
    else s
  else if hot < (lim : Int) - 50 then
    let since := p.coolSince.getD s.now
    let s := { s with pwr := { p with coolSince := some since } }
    if 0 < th && since + msec 100 ≤ s.now && past p.fastAt (msec 100) then
      ({ s with pwr := { s.pwr with fastAt := some s.now } } : State).setFld Reg.PWR_STATE F.PWR_STATE_THERM (th - 1)
    else s
  else { s with pwr := { p with coolSince := none } }

/-- THM reports the latest sample at a step tick, and every threshold acts on it (R532). -/
def State.thmReport (s : State) : State :=
  match s.pwr.sample with
  | none => s
  | some x =>
    let hotS := x.stk.foldl max (x.stk.headD 0)
    let hotC := x.cores.foldl max (x.cores.headD 0)
    let s := { s with pwr := { s.pwr with sample := none } }
    let s := forAll x.stk.zipIdx (fun t s => s.setReg (Reg.THM_STACK t.2) (temp16 t.1)) s
    let s := forAll x.cores.zipIdx (fun t s => s.setReg (Reg.THM_CORE t.2) (temp16 t.1)) s
    let s := s.setReg Reg.THM_HOT (temp16 hotS * 2 ^ 16 + temp16 hotC)
    let s := forAll x.stk.zipIdx (fun t s =>
      let was := bits (s.reg Reg.HMC_REFRATE) (2 * t.2 + 1) (2 * t.2)
      let c := refreshCode was t.1
      let s := s.setReg Reg.HMC_REFRATE (setBits (s.reg Reg.HMC_REFRATE) (2 * t.2 + 1) (2 * t.2) c)
      if c = 3 && was != 3 then
        ({ s with pwr := { s.pwr with shutStacks := s.pwr.shutStacks ++ [t.2] } } : State).record
          { cause := Cause.stackShut, subject := t.2, arg0 := temp16 t.1 }
      else s) s
    let lim : Int := s.fld Reg.THM_LIMIT F.THM_LIMIT_STACK
    let s := { s with pwr := { s.pwr with qT := if lim < hotS then min 64 (cdiv (64 * (hotS - lim).toNat) 70) else 0 } }
    let s := (s.thermalLimit hotC).seekOp
    match x.cores.zipIdx.find? (fun t => decide (1150 ≤ t.1)) with
    | some (t, j) =>
      -- OP5 at once, without a suspension, and then its voltage (R533)
      let s := s.platRecord 0x0524 3 j (temp16 t)
      if s.op = 5 then s
      else (((s.setFld Reg.PWR_STATE F.PWR_STATE_OP 5).count Reg.PWR_TRANS 1).commandVolts 5)
    | none => s

/-- THM_SAMPLE (R532): a sample of the base dies and the core sensors, in 0.1 °C, completes. -/
def execThmSample (stk : List Int) (cores : List Int) (s : State) : Host.Outcome State Fault Refusal :=
  if s.inReset then .next s
  else .next { s with pwr := { s.pwr with sample := some { at_ := s.now, stk := firstOf stk 8, cores := firstOf cores 16 } } }
where
  /-- The first n readings. -/
  firstOf (l : List Int) (n : Nat) : List Int := l.take n ++ List.replicate (n - l.length) 0

/-! ### Throttle reasons and the ratio (R518, R519, R530, R531, R534) -/

/-- The device's own target ratio (R518). -/
def PwrState.q (p : PwrState) : Nat := max p.qP (max p.qT p.qC)

/-- Reasons active now (Table 15.6). -/
def State.reasons (s : State) : Nat :=
  let p := s.pwr
  let refresh := s.fld Reg.HMC_REFRATE (15, 0) != 0
  let therm := p.qT != 0 || decide (p.policy.opmax < s.fld Reg.PWR_STATE F.PWR_STATE_THERM)
  let league := s.agreed && (decide (s.permitted < s.op) || decide (p.q < s.fab.league.ratio))
  b2n p.overA + 2 * b2n p.overB + 4 * b2n therm + 8 * b2n (p.qC != 0) + 16 * b2n league + 32 * b2n refresh

/-- Count microseconds for the reasons of a mask. -/
def State.countReasons (s : State) (mask n : Nat) : State :=
  let s := forAll (bitList mask 6) (fun i s => s.count64 (Reg.PWR_REASONUS i) n) s
  if mask % 32 != 0 && s.meter.on then { s with meter := { s.meter with thrus := s.meter.thrus + n } } else s

/-- The power terms of a tick: CURRENT, reasons, their counters, and the target of the next tick's ratio. -/
def State.powerTick (s : State) : State :=
  let p := s.pwr
  -- microseconds whose start lies between this tick and the one before count the reasons that held then
  let old := s.fld Reg.PWR_STATE F.PWR_STATE_REASONS
  let s := s.countReasons old ((s.now - 1) / usec 1 - p.microAt)
  let trip := p.vralert || p.regs.any (fun r => decide (r.icc < r.iout))
  let e := if trip then s.now + msec 1 else p.currentEnd
  let s := { s with pwr := { p with currentEnd := e, qC := if s.now < e then 32 else 0 } }
  let new := s.reasons
  let s := forAll (bitList (new - (new &&& old)) 6) (fun i s => s.count (Reg.PWR_REASONEV i) 1) s
  let s := s.countReasons new (b2n (decide (s.now % usec 1 = 0 && s.pwr.microAt < s.now / usec 1)))
  let t := if s.agreed then max s.fab.league.ratio (max s.pwr.qT s.pwr.qC) else s.pwr.q
  let s := { s with pwr := { s.pwr with microAt := max s.pwr.microAt (s.now / usec 1), target := t } }
  (s.setFld Reg.PWR_STATE F.PWR_STATE_REASONS new).setFld Reg.PWR_STATE F.PWR_STATE_TARGET t

/-- The ratio in force moves by at most 1/64 per tick toward the target of the tick before (R519). -/
def State.slewRatio (s : State) : State :=
  let r := s.fld Reg.PWR_STATE F.PWR_STATE_RATIO
  let t := s.pwr.target
  s.setFld Reg.PWR_STATE F.PWR_STATE_RATIO (if r < t then r + 1 else if t < r then r - 1 else r)

/-- VRALERT_N (R534, R615): the level taken on the pin. -/
def execVralertN (asserted : Bool) (s : State) : Host.Outcome State Fault Refusal := .next { s with pwr := { s.pwr with vralert := asserted } }

/-! ### Power-fail notices (R320, R479, R616) -/

/-- A notice comes into force or is withdrawn. -/
def State.notices (s : State) (pin cmd : Bool) : State :=
  let was := s.pfail
  let s := { s with pwr := { s.pwr with pfailPin := pin, pfailCmd := cmd } }
  if !was && s.pfail then (s.startGpf true).endQueued
  else if was && !s.pfail then s.resumeFar
  else s

/-- PFAIL_N (R615, R616): the level taken on the pin. -/
def execPfailN (asserted : Bool) (s : State) : Host.Outcome State Fault Refusal := .next (s.notices asserted s.pwr.pfailCmd)

/-- The end of a port's flush is recorded, and logged for a notice (R320, Table 16.4). -/
def State.gpfEnd (s : State) (n : Nat) (ok : Bool) : State :=
  let x := s.farAt n
  let s := s.setFar n { x with gpf := if x.gpfNotice && !s.pfail then 0 else 3, gpfNotice := x.gpfNotice && s.pfail }
  let s := s.record { cause := if ok then Cause.gpfDone else Cause.gpfFail, subject := n }
  if x.gpfNotice then s.log 4 (leBytes 1 n ++ leBytes 1 (b2n !ok) ++ leBytes 1 1) else s

/-- GPF_PHASE2_RESPONSE (R320): the device has answered phase 2, or its timeout has passed. -/
def execGpfPhase2Response (n : FarPort) (done : Bool) (s : State) : Host.Outcome State Fault Refusal :=
  .next (if (s.farAt n).gpf = 2 then s.gpfEnd n done else s)

def pfailNotice (c : Cmd) (s : State) : State × Reply :=
  checked s [(decide (1 < c.fld 0 1), sRANGE, at_ 0)] (fun s =>
    if c.fld 0 1 = 1 then (s.notices s.pwr.pfailPin true, { wait := .gpf }) else (s.notices s.pwr.pfailPin false, {}))

/-- PFAIL_NOTICE (R479). -/
def execPfailNotice (m : Mbx) (k : MSlot) (s : State) : Host.Outcome State Fault Refusal := .next (s.runCmd m k 0x0904 [] pfailNotice)

/-! ### Policy and status (R478) -/

def powerPolicy (c : Cmd) (s : State) : State × Reply :=
  let pla := c.fld 0 2
  let plb := c.fld 2 2
  let bad := (List.range 4).find? (fun i => decide (5 < c.fld (6 + i) 1))
  checked s [(pla == 0 || decide (1100 < pla), sRANGE, at_ 0), (plb == 0 || decide (1100 < plb), sRANGE, at_ 2), (decide (plb < pla), sRANGE, at_ 0),
      (c.fld 4 1 == 0 || decide (16 < c.fld 4 1), sRANGE, at_ 4), (decide (5 < c.fld 5 1), sRANGE, at_ 5),
      (bad.isSome, sRANGE, at_ (6 + bad.getD 0))] (fun s =>
    ({ s with pwr := { s.pwr with nextPolicy := some { pla := pla, plb := plb, gain := c.fld 4 1, opmax := c.fld 5 1,
                                                       phaseop := (List.range 4).map (fun i => c.fld (6 + i) 1) } } }, {}))

/-- POWER_POLICY (R478). -/
def execPowerPolicy (m : Mbx) (k : MSlot) (s : State) : Host.Outcome State Fault Refusal := .next (s.runCmd m k 0x0901 [] powerPolicy)

def powerStatus (_ : Cmd) (s : State) : State × Reply :=
  let sum := fun (lo hi : Nat) => (List.range 4).foldl (fun a d => a + bits (s.reg (Reg.PWR_AVG d)) hi lo) 0
  (s, { payload := leBytes 1 s.op ++ leBytes 1 (s.fld Reg.PWR_STATE F.PWR_STATE_RATIO) ++ leBytes 2 0 ++ leBytes 4 (sum 0 31)
          ++ leBytes 4 (sum 32 63) ++ leBytes 1 (s.fld Reg.PWR_STATE F.PWR_STATE_REASONS) ++ leBytes 3 0
          ++ (List.range 6).flatMap (fun i => leBytes 8 (s.reg (Reg.PWR_REASONUS i))) })

/-- POWER_STATUS (Table 13.16). -/
def execPowerStatus (m : Mbx) (k : MSlot) (s : State) : Host.Outcome State Fault Refusal := .next (s.runCmd m k 0x0903 [] powerStatus)

end Sys2Proof.Machine
end

