-- ==== Sys2Proof/Machine/Meter.lean ====
section
/-! DEFINITION. Machine/Meter.lean: the end of a window, the attribution of its energy, meter records and their signatures
(R478, R537 to R545). -/

namespace Sys2Proof.Machine

/-! ### Attribution (R539, R542) -/

/-- The shares of the tenants: floor of E × 2³² × model / M, with the remainders carried; for VF t at place t − 1. -/
def shares (e m : Nat) (model acc : Nat → Nat) : List (Nat × Nat) :=
  (List.range 64).map (fun k =>
    let t := k + 1
    let x := acc t + (if m = 0 then 0 else e * 2 ^ 32 * model t / m)
    (x / 2 ^ 32, x % 2 ^ 32))

/-- From VF 64 down, take back 1 µJ from each tenant that has one, while the shares exceed E (R539): shares from the highest
VF, and the excess. -/
def takeBack : List (Nat × Nat) → Nat → List (Nat × Nat)
  | [], _ => []
  | (a, r) :: l, n => if n = 0 || a = 0 then (a, r) :: takeBack l n else (a - 1, r + 2 ^ 32) :: takeBack l (n - 1)

/-- Whole microjoules and remainders of the tenants, in VF order, whose sum is at most E. -/
def attribute_ (e m : Nat) (model acc : Nat → Nat) : List (Nat × Nat) :=
  let l := shares e m model acc
  let sum := l.foldl (fun a x => a + x.1) 0
  (takeBack l.reverse (sum - e)).reverse

/-- Add energy of a domain to the account of a VF's binding, or to idle. -/
def Meter.credit (m : Meter) (vf d : Nat) (e : Int) : Meter :=
  { m with accounts := m.accounts.map (fun a => if a.vf = vf && a.live then { a with energy := addInt d e a.energy } else a) }

/-- Is a regulator of a domain lost (R513)? -/
def State.domainLost (s : State) (d : Nat) : Bool := s.pwr.regs.any (fun r => r.domain == d && r.lost)

/-- Model energy of an owner, and of a domain, in 1/63 fJ; an unbound VF contributes none. -/
def State.modelOf (s : State) (d t : Nat) : Nat := if t = 0 || (Tab.find s.tenants t).isSome then Tab.read s.meter.model 0 (65 * d + t) else 0
def State.modelTotal (s : State) (d : Nat) : Nat := (List.range 65).foldl (fun a t => a + s.modelOf d t) 0

/-- Measured energy of a domain in the window that ends, in µJ, and what enters its idle share beside it (R512, R542). -/
def State.windowEnergy (s : State) (d : Nat) : Nat × Int :=
  if s.domainLost d then (s.modelTotal d / (63 * 10 ^ 9), 0)
  else (s.pwr.booked.getD d 0, s.meter.gap.getD d 0 - s.meter.owed.getD d 0)

/-- Attribute a domain's energy of the window. -/
def State.attributeDomain (s : State) (d : Nat) : State :=
  let e := s.windowEnergy d
  let m := s.meter
  let m := if s.domainLost d then
      { m with gap := addInt d (s.pwr.booked.getD d 0) m.gap, owed := addInt d e.1 m.owed, estimated := true }
    else { m with gap := m.gap.set d 0, owed := m.owed.set d 0 }
  let l := attribute_ e.1 (s.modelTotal d) (s.modelOf d) (fun t => Tab.read m.acc 0 (65 * d + t))
  let m := l.zipIdx.foldl (fun (m : Meter) x =>
    if x.1.1 = 0 && x.1.2 = Tab.read m.acc 0 (65 * d + x.2 + 1) then m
    else ({ (m.credit (x.2 + 1) d x.1.1) with acc := Tab.write m.acc 0 (65 * d + x.2 + 1) x.1.2 } : Meter)) m
  let sum : Int := l.foldl (fun a x => a + x.1) 0
  let m := m.credit 0 d ((e.1 : Int) + e.2 - sum)
  { s with meter := { m with measured := addInt d ((e.1 : Int) + e.2) m.measured } }

/-- The window of every account (Table 15.8). -/
def State.countWindow (s : State) : State :=
  let one := fun (a : Account) =>
    let r := match s.partOf a.vf with | some (_, p) => p.roods.length | none => 0
    if a.live then { a with nwin := a.nwin + 1, roodms := a.roodms + r } else a
  { s with meter := { s.meter with minuteWin := s.meter.minuteWin + 1, model := [], accounts := s.meter.accounts.map one } }

/-! ### Records (R543 to R545) -/

/-- A signed 64-bit value. -/
def int64 (v : Int) : List Byte := leBytes 8 (v % (2 ^ 64 : Nat)).toNat

/-- A meter record (Table 15.8). -/
def State.meterRecord (s : State) (a : Account) : List Byte :=
  let m := s.meter
  let flags := b2n (decide (a.nwin < 60000)) + 2 * b2n m.estimated + 4 * b2n m.firstOfBoot
  leBytes 8 m.mseq ++ leBytes 4 m.bootid ++ leBytes 4 m.minute ++ slice (Config.identity 0) 0 8 ++ leBytes 1 a.vf ++ leBytes 1 flags
    ++ leBytes 2 0 ++ leBytes 4 a.nwin ++ (List.range 4).flatMap (fun d => int64 (a.energy.getD d 0))
    ++ (List.range 4).flatMap (fun d => int64 (if a.vf = 0 then m.measured.getD d 0 else 0)) ++ leBytes 8 a.roodms
    ++ leBytes 8 m.thrus ++ leBytes 8 (m.minuteAt / 63) ++ leBytes 40 0 ++ slice m.prev 0 48 ++ leBytes 48 0

/-- Write one record: MSEQ and the chain move on. -/
def State.writeMeter (s : State) (a : Account) : State :=
  let b := s.meterRecord a
  let m := s.meter
  let old := fun (r : MeterRec) => field r.bytes 8 4 == m.bootid && decide (field r.bytes 12 4 + 1440 ≤ m.minute)
  let keep := m.recs.filter (fun r => !old r)
  let m := { m with recs := keep.drop (keep.length + 1 - 131072) ++ [{ mseq := m.mseq, vf := a.vf, bytes := b }], mseq := m.mseq + 1,
                    prev := sha384 b, firstOfBoot := false }
  ({ s with meter := m } : State).setReg Reg.MTR_NEXTSEQ m.mseq

/-- Accounts of the minute, VF 0 first, then by VF and binding. -/
def Meter.inOrder (m : Meter) : List Account := sortBy (fun (a b : Account) => decide (a.vf ≤ b.vf)) m.accounts

/-- Close the minute: its records, and accounts at zero (R543). A change of MTR_CTL.ENABLE acts now. -/
def State.minuteEnd (s : State) : State :=
  let s := if s.meter.on then forAll (s.meter.inOrder.filter (fun a => a.nwin != 0)) (fun a s => s.writeMeter a) s else s
  let m := s.meter
  { s with meter := { m with accounts := (m.accounts.filter (·.live)).map (fun a => { vf := a.vf }), measured := [0, 0, 0, 0],
                             minute := m.minute + 1, minuteWin := 0, minuteAt := s.now, thrus := 0, estimated := false,
                             on := s.fld Reg.MTR_CTL F.MTR_CTL_ENABLE == 1 && s.pwr.mapOk } }

/-- MINUTE_END (R543): every 60,000 windows. -/
def execMinuteEnd (s : State) : Host.Outcome State Fault Refusal := .next (if s.meter.minuteWin = 60000 then s.minuteEnd else s)

/-- WINDOW_END (R514 to R518, R523, R539): the 1 ms window that runs ends. -/
def State.windowEnd (s : State) : State :=
  let s := if s.meter.minuteWin = 60000 then s.minuteEnd else s
  let es := (List.range 4).map (fun d => let e := s.windowEnergy d; ((e.1 : Int) + e.2).toNat)
  let s := { s with pwr := { s.pwr with hist := (es :: s.pwr.hist).take 10000 } }
  let s := if s.meter.on then (forAll (List.range 4) (fun d s => s.attributeDomain d) s).countWindow
    else { s with meter := { s.meter with minuteWin := s.meter.minuteWin + 1, model := [] } }
  let s := s.limits
  let s := { s with pwr := { s.pwr with booked := [0, 0, 0, 0], windowEnd := s.pwr.windowEnd + msec 1 } }
  (((s.count64 Reg.MTR_WINDOW 1).setPreferred).seekOp).installPolicy

def execWindowEnd (s : State) : Host.Outcome State Fault Refusal :=
  if s.now < s.pwr.windowEnd || s.inReset || !s.sosin.ready then .next s else .next s.windowEnd

/-- Sign a record under the meter-signing key, and save its MSEQ and digest (R544, R545, Table 16.5). -/
def State.signMeter (s : State) (r : MeterRec) : State :=
  let dig := sha384 r.bytes
  let one := fun (x : MeterRec) => if x.mseq = r.mseq && x.sig.isNone then { x with sig := some (slice (Config.sign 1 dig) 0 96) } else x
  let s := { s with meter := { s.meter with recs := s.meter.recs.map one } }
  s.config 7 0x0109 (leBytes 6 r.mseq ++ dig)

/-- METER_SIGN (R544, R545): the oldest record that has no signature gets it. -/
def execMeterSign (s : State) : Host.Outcome State Fault Refusal :=
  match s.meter.recs.find? (fun r => r.sig.isNone) with
  | some r => .next (s.signMeter r)
  | none => .next s

/-- Sign every record that is not signed. -/
def State.signAll (s : State) : State := forAll (s.meter.recs.filter (fun r => r.sig.isNone)) (fun r s => s.signMeter r) s

/-! ### Commands (R478, Table 13.16) -/

/-- Signed records that a reader gets, from a sequence number on. -/
def State.meterRead (s : State) (vf seq n : Nat) : List MeterRec :=
  ((s.meter.recs.takeWhile (fun r => r.sig.isSome)).filter (fun r => decide (seq ≤ r.mseq) && (vf == 0 || r.vf == vf))).take n

/-- The words of the device tables that keep a meter record: six for each of the 131,072 places of the store, from local granule
736 on (R235, R545, log entry 128). -/
def meterWords (r : MeterRec) : List Nat := (List.range 6).map (fun k => 736 * 2 ^ 23 + r.mseq % 131072 * 6 + k)

/-- Sosin firmware reads a record of its device tables: the words are decoded and counted, and a bad one is a fatal error of the
memory domain (R277, R281). -/
def State.tableRead (s : State) (r : MeterRec) : State :=
  let ws := meterWords r
  let s := s.countWords ws
  match ws.find? (fun w => s.rawOutcome w == .poisoned || s.rawOutcome w == .uncorrectable) with
  | some w => s.record (wordOcc Cause.tableUe w 0)
  | none => s

def meterRead (c : Cmd) (s : State) : State × Reply :=
  let vf := if c.operator then c.fld 10 1 else c.fn
  let seq := c.fld 0 8
  checked s [(c.operator && decide (64 < c.fld 10 1), sRANGE, at_ 10)] (fun s =>
    let n := min (c.fld 8 2) (if c.hasBuf then c.len / 352 else 1)
    let l := s.meterRead vf seq n
    let bs := l.flatMap (fun r => r.bytes ++ r.sig.getD [])
    let s := forAll l (fun r s => s.tableRead r) s
    let next := match l.getLast? with | some r => r.mseq + 1 | none => seq
    let h := leBytes 8 next ++ leBytes 2 l.length ++ leBytes 2 352
    if c.hasBuf then (s, { payload := h, buf := bs })
    else (s, { payload := h ++ (if l.isEmpty then [] else leBytes 4 0 ++ bs) }))

/-- METER_READ (R478, R545). -/
def execMeterRead (m : Mbx) (k : MSlot) (s : State) : Host.Outcome State Fault Refusal := .next (s.runCmd m k 0x0A01 [] meterRead)

def meterCert (c : Cmd) (s : State) : State × Reply :=
  let chain := Config.identity 2
  checked s [(c.hasBuf && decide (c.len < chain.length), sRANGE, 24)] (fun s =>
    (s, { payload := slice (Config.identity 1) 0 97, buf := if c.hasBuf then chain else [] }))

/-- METER_CERT (Table 13.16): the public key and the chain of the meter-signing key are fused identity (log entry 2). -/
def execMeterCert (m : Mbx) (k : MSlot) (s : State) : Host.Outcome State Fault Refusal := .next (s.runCmd m k 0x0A02 [] meterCert)

end Sys2Proof.Machine
end

