-- ==== Sys2Proof/Machine/League.lean ====
section
/-! DEFINITION. Machine/League.lean: the league of a fabric map: LDOWN and LUP, and members lost (R401, R402, R526, R529, R530). -/

namespace Sys2Proof.Machine

def State.setLeague (s : State) (l : League) : State := { s with fab := { s.fab with league := l } }

/-- The 4 B of LUP and LDOWN (Table 11.5). -/
def leagueBody (op ratio : Nat) : List Byte := leBytes 4 (op % 8 + ratio % 128 * 256)

/-- An LDOWN applies: the league's operating point and ratio, and AGREED. -/
def State.applyLeague (s : State) (op ratio : Nat) : State :=
  let s := s.setLeague { s.fab.league with op := op, ratio := ratio, heardAt := some s.now, lost := false }
  ((s.setFld Reg.FAB_LEAGUE F.FAB_LEAGUE_OP op).setFld Reg.FAB_LEAGUE F.FAB_LEAGUE_RATIO ratio).setFld Reg.FAB_LEAGUE F.FAB_LEAGUE_AGREED 1

/-- Does this device lead a league: device 0 of a map, with a port that carries traffic (R401)? -/
def State.leads (s : State) : Bool := s.fab.map != .alone && s.devId == 0 && s.anyPort && s.sosin.ready && !s.inReset

/-- The combination over the LUPs of the period that ends: a member not heard in it contributes its last LUP, and one not heard
for 4 periods nothing (R401). The leader contributes its own values (log entry 40). -/
def State.leagueWants (s : State) : Nat × Nat :=
  (s.fab.league.lups.filter (fun x => decide (x.2.2.2 < 4))).foldl (fun a x => (max a.1 x.2.1, max a.2 x.2.2.1)) (s.reportedOp, s.pwr.q)

/-- Operating point of the next LDOWN: one other than that in force only 1 ms after the last change (R529). -/
def State.leagueOp (s : State) (want : Nat) : Nat :=
  let cur := if s.agreed then s.fab.league.op else s.op
  let soon := match s.pwr.lastTrans with | some t0 => decide (s.now < t0 + msec 1) | none => false
  if cur != s.op || soon then cur else want

/-- LDOWN_PERIOD (R401): every 250 µs the leader sends LDOWN on its tree. -/
def execLdownPeriod (s : State) : Host.Outcome State Fault Refusal :=
  let l := s.fab.league
  if !s.leads || s.now < l.ldownDue then .next s
  else
    let (want, ratio) := s.leagueWants
    let op := s.leagueOp want
    let heard := (l.lups.filter (fun x => x.2.2.2 == 0)).length
    let due := if l.ldownDue = 0 then s.now else l.ldownDue
    let s := s.setLeague { l with period := (l.period + 1) % 2 ^ 32, ldownDue := due + usec 250,
                                  lups := l.lups.map (fun x => (x.1, (x.2.1, x.2.2.1, x.2.2.2 + 1))) }
    let s := s.setFld Reg.FAB_LEAGUE F.FAB_LEAGUE_HEARD heard
    let s := s.sendDown 0 [] { mtype := 12, cls := 4, home := 0, xarg := s.fab.league.period, body := leagueBody op ratio }
    .next (s.applyLeague op ratio)

/-- Send a LUP up the tree of device 0, as the member of a device (log entry 40: HENT names the member). -/
def State.sendLup (s : State) (d period : Nat) : State :=
  s.sendUp 0 { mtype := 11, cls := 4, home := 0, hent := d, xarg := period, body := leagueBody s.fab.league.combOp s.fab.league.combRatio }

/-- LDOWN (R401, R528, R530): forwarded on the tree, applied, and answered with a LUP of the device's own permitted operating
point and ratio, which start its combination of the period. -/
def execLdown (n : Port) (s : State) : Host.Outcome State Fault Refusal :=
  match s.take n 12 with
  | none => .next s
  | some (a, s) =>
    let m := a.msg
    let v := field m.body 0 4
    let s := s.sendDown 0 [] m
    let s := s.applyLeague (bits v 2 0) (bits v 14 8)
    let s := s.setLeague { s.fab.league with period := m.xarg, combOp := s.reportedOp, combRatio := s.pwr.q }
    .next (s.sendLup s.devId m.xarg)

/-- LUP (R401): the leader keeps it; another device combines it with those of its subtree by highest OP number and highest ratio,
and sends the combination on. -/
def execLup (n : Port) (s : State) : Host.Outcome State Fault Refusal :=
  match s.take n 11 with
  | none => .next s
  | some (a, s) =>
    let m := a.msg
    let v := field m.body 0 4
    let l := s.fab.league
    if s.devId = 0 then .next (s.setLeague { l with lups := Tab.insert l.lups m.hent (bits v 2 0, bits v 14 8, 0) })
    else
      let s := s.setLeague { l with combOp := max l.combOp (bits v 2 0), combRatio := max l.combRatio (bits v 14 8) }
      .next (s.sendLup m.hent m.xarg)

/-- A member that has received no LDOWN for 1 ms runs on its own permitted values (R402). -/
def State.leagueLost (s : State) : State :=
  match s.fab.league.heardAt with
  | some t =>
    if t + msec 1 ≤ s.now && s.agreed then
      let s := s.setLeague { s.fab.league with heardAt := none, lost := true }
      (s.setFld Reg.FAB_LEAGUE F.FAB_LEAGUE_AGREED 0).record { cause := Cause.leagueLost }
    else s
  | none => s

/-- LEAGUE_LOST (R402). -/
def execLeagueLost (s : State) : Host.Outcome State Fault Refusal := .next s.leagueLost

/-- MEMBER_LOST (R401): a member unheard for 4 periods is left out. -/
def execMemberLost (d : Nat) (s : State) : Host.Outcome State Fault Refusal :=
  match Tab.find s.fab.league.lups d with
  | some x =>
    .next (if 4 < x.2.2 then
      (s.setLeague { s.fab.league with lups := Tab.erase s.fab.league.lups d }).record { cause := Cause.memberLost, subject := d }
    else s)
  | none => .next s

end Sys2Proof.Machine
end

