-- ==== Sys2Proof/Machine/Entry.lean ====
section
/-! DEFINITION. Machine/Entry.lean: reset requests and the start of reset entry (R588, R590, R597). -/

namespace Sys2Proof.Machine

/-- Serve every flash write that waits (log entry 41: a reset's own records are valid before its rung 1). -/
def State.flashDrain (s : State) : State := forAll (List.range (2 * s.mc.jobs.length)) (fun _ s => s.flashStep true) s

/-- Rung 1 of reset entry (R590): no command, stage start, commit or flit from here; uncommitted sequences end without
completion records; and Global Persistent Flush starts on the far ports. A request that comes while another stands is absorbed,
a cold one prevailing (R588); without power good there is nothing to reset. -/
def State.startReset (s : State) (cold : Bool) (trigger : Nat) : State :=
  if s.rst.phase == .off then s
  else if s.rst.phase == .entry || s.rst.phase == .held then
    if cold && !s.rst.cold then { s with rst := { s.rst with cold := true, trigger := trigger } } else s
  else
    let s := s.startGpf false
    { s with inReset := true, seqs := [], failing := [], rst := { s.rst with phase := .entry, r0 := s.now, cold := cold, trigger := trigger } }

/-- Trigger codes of RST_CAUSE. -/
def trigPwr : Nat := 0
def trigSys : Nat := 1
def trigPerst : Nat := 2
def trigCommand : Nat := 3
def trigUpdate : Nat := 4
def trigWatchdog : Nat := 5

/-- A warm reset that Sosin firmware performs (R454, R481, R590): the minute is closed and signed and the RESET record written
before rung 1. -/
def State.commandReset (s : State) (trigger : Nat) : State :=
  let s := if s.meter.minuteWin = 0 then s else s.minuteEnd
  let s := s.signAll
  let s := s.log 9 (leBytes 1 1 ++ leBytes 1 (if trigger = trigUpdate then 1 else 0))
  (s.flashDrain).startReset false trigger

end Sys2Proof.Machine
end

