-- ==== Sys2Proof/Machine/Mgmt.lean ====
section
/-! DEFINITION. Machine/Mgmt.lean: the management controller: its watchdog and memory, firmware images, boot choice, updates
(R481, R548 to R551, R562 to R573). -/

namespace Sys2Proof.Machine

/-! ### Fuses (R550, R565, R568; log entry 2) -/

/-- The rollback floor and the revoked root keys: fused at manufacture, or burned since. -/
def State.fuseFloor (s : State) : Nat := s.mc.floor.getD (bits (regReset Reg.MGT_FUSE) 5 0)
def State.fuseRevoked (s : State) : Nat := bits (regReset Reg.MGT_FUSE) 11 8 ||| s.mc.revoked

/-- Show the fuses in MGT_FUSE. -/
def State.showFuses (s : State) : State :=
  (s.setFld Reg.MGT_FUSE F.MGT_FUSE_FLOOR s.fuseFloor).setFld Reg.MGT_FUSE F.MGT_FUSE_REVOKED s.fuseRevoked

/-- Root-key digest ROOTDIG[k]. -/
def rootDig (k : Nat) : List Byte := slice (Config.identity (16 + k)) 0 48

/-! ### Firmware images (R564, R565, Table 16.6) -/

def fwSvn (b : List Byte) : Nat := field b 7 1
def fwVersion (b : List Byte) : Nat := field b 8 8
def fwSize (b : List Byte) : Nat := field b 16 4
def fwNsect (b : List Byte) : Nat := field b 24 2
/-- Entry i of the section table. -/
def fwSect (b : List Byte) (i : Nat) : List Byte := slice b (160 + 64 * i) 64

/-- Does a section entry in use meet the table? -/
def sectOk (b : List Byte) (i : Nat) : Bool :=
  let e := fwSect b i
  zeroAt e 2 2 && zeroAt e 12 4 && field e 4 4 % 4096 == 0 && decide (4096 ≤ field e 4 4) && decide (field e 4 4 + field e 8 4 ≤ fwSize b)
    && (i != 0 || decide (field e 8 4 ≤ 1835008))

/-- Does a header meet Table 16.6? -/
def fwHeaderOk (b : List Byte) : Bool :=
  field b 0 4 == 0x57464E4C && field b 4 2 == 1 && decide (field b 6 1 ≤ 3) && decide (fwSvn b ≤ 63) && fwSize b % 4096 == 0
    && decide (4096 ≤ fwSize b) && decide (fwSize b ≤ 2 ^ 24) && decide (field b 20 4 < 16) && decide (1 ≤ fwNsect b)
    && decide (fwNsect b ≤ 16) && zeroAt b 26 6 && zeroAt b 129 31 && zeroAt b 1280 2816
    && (List.range 16).all (fun i => if i < fwNsect b then sectOk b i else zeroAt (fwSect b i) 0 64)

/-- Does a section's digest match? -/
def sectDigestOk (b : List Byte) (i : Nat) : Bool :=
  let e := fwSect b i
  slice e 16 48 == sha384 (slice b (field e 4 4) (field e 8 4))

/-- The checks of R565 on a header: none, or the number of the first that fails (Table 16.9). -/
def State.headerCheck (s : State) (b : List Byte) : Option Nat :=
  if !fwHeaderOk b then some 1
  else if rootDig (field b 6 1) != sha384 (slice b 32 97) || bit s.fuseRevoked (field b 6 1) then some 2
  else if !Config.verify (field b 6 1) (sha384 (slice b 0 1184)) (slice b 1184 96) then some 3
  else if fwSvn b < s.fuseFloor then some 4
  else none

def State.fwSlot (s : State) (k : Nat) : FwSlot := Tab.read s.mc.fw {} k
def State.setFw (s : State) (k : Nat) (x : FwSlot) : State := { s with mc := { s.mc with fw := Tab.write s.mc.fw {} k x } }

/-- Sections whose digest differs, from number `from_` on. -/
def badSections (b : List Byte) (from_ : Nat) : List Nat :=
  (List.range (fwNsect b)).filter (fun i => decide (from_ ≤ i) && !sectDigestOk b i)

/-- The boot ROM's checks of a slot: the four of the header, and section 0. -/
def State.romCheck (s : State) (k : Nat) : Option Nat :=
  let x := s.fwSlot k
  if !x.committed then some 1
  else match s.headerCheck x.bytes with
    | some c => some c
    | none => if sectDigestOk x.bytes 0 then none else some 5

/-- Is a slot valid (R565)? -/
def State.slotValid (s : State) (k : Nat) : Bool := s.romCheck k == none && (badSections (s.fwSlot k).bytes 1).isEmpty

/-! ### Boot control (Table 16.5, R566) -/

structure BootCtl where
  active : Nat := 0
  next : Nat := 0
  attempt : Nat := 0xFF
  failsA : Nat := 0
  failsB : Nat := 0
  bootid : Nat := 0
deriving DecidableEq, Repr

def bootCtlOf (p : List Byte) : BootCtl :=
  { active := field p 0 1, next := field p 1 1, attempt := field p 2 1, failsA := field p 3 1, failsB := field p 4 1, bootid := field p 8 4 }

def BootCtl.bytes (r : BootCtl) : List Byte :=
  leBytes 1 r.active ++ leBytes 1 r.next ++ leBytes 1 r.attempt ++ leBytes 1 r.failsA ++ leBytes 1 r.failsB ++ leBytes 3 0 ++ leBytes 4 r.bootid

def BootCtl.fails (r : BootCtl) (k : Nat) : Nat := if k = 0 then r.failsA else r.failsB
def BootCtl.setFails (r : BootCtl) (k n : Nat) : BootCtl := if k = 0 then { r with failsA := n } else { r with failsB := n }

/-- The newest BOOTCTL record, one that waits for the flash included. -/
def State.bootCtl (s : State) : BootCtl :=
  match (s.mc.jobs.filter (fun j => j.area == 1)).getLast? with
  | some j => bootCtlOf j.payload
  | none => match s.mc.newest 1 0x0101 with
    | some b => bootCtlOf (flashPayload b)
    | none => {}

/-- Show a BOOTCTL record in MGT_BOOT. -/
def State.showBoot (s : State) (r : BootCtl) : State :=
  ((s.setFld Reg.MGT_BOOT F.MGT_BOOT_FAILA r.failsA).setFld Reg.MGT_BOOT F.MGT_BOOT_FAILB r.failsB).setFld Reg.MGT_BOOT F.MGT_BOOT_NEXT r.next

/-- Append a BOOTCTL record. -/
def State.writeBoot (s : State) (r : BootCtl) : State := (s.config 1 0x0101 r.bytes).showBoot r

/-- Candidates of a boot, in order (R566). -/
def BootCtl.candidates (r : BootCtl) : List Nat :=
  (if r.next != r.active && decide (r.fails r.next < 2) then [r.next] else []) ++ (if r.fails r.active < 2 then [r.active] else [])
    ++ [1 - r.active, r.active]

/-- Try the candidates: a slot that fails the ROM's checks is recorded and skipped. -/
def State.tryBoot (s : State) (r : BootCtl) (first : Nat) : List Nat → State
  | [] =>
    let s := (s.log 0x000A (leBytes 1 ((s.romCheck 0).getD 0) ++ leBytes 1 ((s.romCheck 1).getD 0))).flashDrain
    ({ s with inReset := false, mc := { s.mc with noImage := true } } : State).setFld Reg.MGT_BOOT F.MGT_BOOT_STATE 3
  | k :: l =>
    match s.romCheck k with
    | some c => (s.platRecord 0x0545 2 k c).tryBoot r first l
    | none =>
      let b := (s.fwSlot k).bytes
      let s := s.writeBoot { r with attempt := k }
      let s := (s.log 1 (leBytes 1 k ++ leBytes 8 (fwVersion b) ++ leBytes 1 (fwSvn b) ++ leBytes 1 (b2n (k != first))
        ++ leBytes 1 (b2n !s.rst.cold))).flashDrain
      let s : State := { s with mc := { s.mc with bootSlot := k, wasActive := r.active, wasNext := r.next } }
      let s := (s.setFld Reg.MGT_BOOT F.MGT_BOOT_SLOT k).setFld Reg.MGT_BOOT F.MGT_BOOT_FALLBACK (b2n (k != first))
      ((s.setFld Reg.MGT_BOOT F.MGT_BOOT_STATE 1).setReg Reg.MGT_FWVER (fwVersion b)).setFld Reg.RST_STAGE F.RST_STAGE_RUNG 5

/-- The procedure of R566. -/
def State.bootSelect (s : State) : State :=
  let r := s.bootCtl
  let r := if s.rst.cold then { r with bootid := (r.bootid + 1) % 2 ^ 32 } else r
  let r := if r.attempt = 0xFF then r else r.setFails r.attempt (min (r.fails r.attempt + 1) 255)
  let s := { s with meter := { s.meter with bootid := r.bootid } }
  s.tryBoot r (r.candidates.headD r.active) r.candidates

/-- BOOT_IMAGE_SELECT (R566, R569): rung 5 of the start-up ladder. -/
def execBootImageSelect (s : State) : Host.Outcome State Fault Refusal :=
  .next (if s.rst.phase == .ladder && s.fld Reg.RST_STAGE F.RST_STAGE_RUNG == 4 && !s.mc.noImage && s.mc.running then s.bootSelect else s)

/-- Sosin firmware checks the sections it uses: a bad one is recorded and, before READY, resets the device (R565). The trigger is
that of the watchdog (log entry 42). -/
def State.checkSections (s : State) : State :=
  match badSections (s.fwSlot s.mc.bootSlot).bytes 1 with
  | [] => s
  | k :: _ => (s.platRecord 0x0545 2 s.mc.bootSlot (5 + 256 * k)).startReset false trigWatchdog

/-! ### The controller itself (R548, R549, R551) -/

/-- MC_WATCHDOG (R549): before READY a failed boot and a warm reset; after it the fatal state, and the boot ROM's fatal service. -/
def execMcWatchdog (s : State) : Host.Outcome State Fault Refusal :=
  let stage := s.fld Reg.RST_STAGE F.RST_STAGE_RUNG
  if !s.mc.running || s.mc.fatalService || s.mc.noImage || s.now < s.mc.wdogAt then .next s
  else if s.sosin.ready then
    .next (({ s with mc := { s.mc with fatalService := true } } : State).platRecord 0x054A 3 stage 0)
  else .next (((s.log 8 (leBytes 4 stage)).flashDrain).startReset false trigWatchdog)

/-- ENTROPY_FAIL (R551): commands that need random bits complete with BUSY. -/
def execEntropyFail (s : State) : Host.Outcome State Fault Refusal := .next { s with mc := { s.mc with entropyOk := false } }

/-- ENTROPY_HEALTH_PASS (R551). -/
def execEntropyHealthPass (s : State) : Host.Outcome State Fault Refusal := .next { s with mc := { s.mc with entropyOk := true } }

/-- MC_SRAM_ERROR (R548). -/
def execMcSramError (ue : Bool) (addr : Nat) (s : State) : Host.Outcome State Fault Refusal :=
  .next (if ue then s.platRecord 0x0549 3 addr 0 else (s.count Reg.MGT_MCECC 1).platRecord 0x0548 1 addr 0)

/-! ### READY (R567, R568, R595, R598) -/

/-- ms from the release of reset. -/
def State.bootMs (s : State) : Nat := (s.now - s.rst.t0) / msec 1

/-- Has a far port settled (R595)? -/
def State.farSettled (s : State) (n : Nat) : Bool := let st := s.farState n; st != 1 || decide (s.rst.t0 + msec 2000 ≤ s.now)

/-- The conditions of READY (R595, R599). -/
def State.readyNow (s : State) : Bool :=
  let k := fun (n : Nat) => Tab.read s.rst.stk 0 n
  s.rst.phase == .ladder && s.fld Reg.RST_STAGE F.RST_STAGE_RUNG == 12 && (List.range 8).all (fun n => k n == 3 || k n == 4)
    && (List.range 8).any (fun n => k n == 3) && s.farSettled 0 && s.farSettled 1 && !s.fatal && !s.rst.synthFail

/-- The floor and the revocations of the booted image (R568). -/
def State.raiseFloor (s : State) : State :=
  let b := (s.fwSlot s.mc.bootSlot).bytes
  let old := s.fuseFloor
  if fwSvn b ≤ old then s
  else
    let keys := field b 20 4 % 16
    let keys := if bit keys (field b 6 1) then keys - 2 ^ (field b 6 1) else keys
    let s := ({ s with mc := { s.mc with floor := some (fwSvn b), revoked := s.mc.revoked ||| keys } } : State).showFuses
    (s.log 6 (leBytes 1 old ++ leBytes 1 (fwSvn b) ++ leBytes 1 s.fuseRevoked)).platRecord 0x0547 0 old (fwSvn b)

/-- Records of READY (R567, R568, R545, R598). -/
def State.readyRecords (s : State) : State :=
  let r := s.bootCtl
  let k := s.mc.bootSlot
  let s := s.writeBoot { active := k, next := k, bootid := r.bootid }
  let s := s.log 2 (leBytes 4 s.bootMs)
  let s := if k != s.mc.wasActive && k != s.mc.wasNext then s.platRecord 0x0544 2 k (r.failsA + r.failsB * 256) else s
  let s := s.raiseFloor
  let s := if s.meter.lost then
      ({ s with meter := { s.meter with lost := false } } : State).platRecord 0x0526 2 (s.meter.mseq - 1) s.meter.mseq else s
  if 2500 + 40 * s.rst.repairs.length < s.bootMs then s.platRecord 0x0566 0 (s.fld Reg.RST_STAGE F.RST_STAGE_RUNG) s.bootMs else s

/-- READY is declared: mailboxes open, metering windows start, and the BMC is probed (R593 rung 13). -/
def State.declareReady (s : State) : State :=
  let s := s.readyRecords
  let s : State := { s with
    sosin := { s.sosin with ready := true }, rst := { s.rst with phase := .running },
    mc := { s.mc with wdogAt := s.now, probeAt := s.now, probeFails := 0 },
    pwr := { s.pwr with windowEnd := s.now + msec 1, booked := [0, 0, 0, 0], hist := [] },
    meter := { s.meter with accounts := [{ vf := 0 }], minuteAt := s.now, minute := 0, minuteWin := 0, firstOfBoot := true,
                            on := s.fld Reg.MTR_CTL F.MTR_CTL_ENABLE == 1 && s.pwr.mapOk } }
  let s := ((s.setFld Reg.MGT_BOOT F.MGT_BOOT_STATE 2).setReg Reg.RST_READY s.bootMs).setFld Reg.RST_STAGE F.RST_STAGE_RUNG 13
  (s.setPreferred).seekOp

/-- READY (R595). -/
def execReady (s : State) : Host.Outcome State Fault Refusal := .next (if s.readyNow then s.declareReady else s)

/-! ### Updates (R481, R570 to R573) -/

/-- The slot other than ACTIVE. -/
def State.inactiveSlot (s : State) : Nat := 1 - s.bootCtl.active

/-- An UPDATE log record: slot, version, status, source. -/
def State.logUpdate (s : State) (k v st src : Nat) : State := s.log 5 (leBytes 1 k ++ leBytes 8 v ++ leBytes 1 st ++ leBytes 1 src)

/-- Steps 1 to 5 of R570 for an image: status, and the state with the slot written or left invalid. A header that does not meet
Table 16.6 fails as a signature does (log entry 43). -/
def State.stageImage (s : State) (b : List Byte) (src : Nat) : State × Nat :=
  let k := s.inactiveSlot
  let s := s.setFw k {}
  let st := match s.headerCheck b with
    | some 4 => sROLLBACK
    | some _ => sSIGN
    | none => if (badSections b 0).isEmpty then sOK else sSIGN
  let s := if st = sOK then (s.setFw k { bytes := slice b 0 (fwSize b), committed := true }).platRecord 0x0546 0 k (fwVersion b) else s
  (s.logUpdate k (fwVersion b) st src, st)

def updStage (c : Cmd) (s : State) : State × Reply :=
  checked s [(s.sosin.pldm.isSome, sBUSY, 0)] (fun s =>
    c.readBuf s (fun b s =>
      if b.length < 4096 || b.length < fwSize b then ((s.setFw s.inactiveSlot {}), refuse sRANGE 24)
      else
        let r := s.stageImage b 0
        if r.2 = sOK then (r.1, { payload := leBytes 1 s.inactiveSlot ++ leBytes 7 0 ++ leBytes 8 (fwVersion b) })
        else (r.1, refuse r.2 0)))

/-- UPD_STAGE (R481, R570): the image lies in the command's buffer. -/
def execUpdStage (m : Mbx) (k : MSlot) (data : List Byte) (s : State) : Host.Outcome State Fault Refusal :=
  -- an abort leaves the slot invalid too
  let s := if s.turnOf m k 0x0C01 && (s.slotAt m k).abort then s.setFw s.inactiveSlot {} else s
  .next (s.runCmd m k 0x0C01 data updStage)

/-- NEXT becomes a slot, with no failed boots; the slot already ACTIVE changes nothing (R571). -/
def State.activate (s : State) (k : Nat) : State :=
  let r := s.bootCtl
  if k = r.active then s else s.writeBoot (({ r with next := k } : BootCtl).setFails k 0)

def updActivate (c : Cmd) (s : State) : State × Reply :=
  let k := c.fld 0 1
  checked s [(decide (1 < k), sRANGE, at_ 0), (decide (1 < c.fld 1 1), sRANGE, at_ 1),
      ((s.sosin.pldm.isSome && k == s.inactiveSlot) || !s.slotValid k, sSTATE, 0)] (fun s =>
    (s.activate k, if c.fld 1 1 = 1 then { wait := .reset trigUpdate } else {}))

/-- UPD_ACTIVATE (R481, R571, R573). -/
def execUpdActivate (m : Mbx) (k : MSlot) (s : State) : Host.Outcome State Fault Refusal := .next (s.runCmd m k 0x0C02 [] updActivate)

/-- VERSION of a slot, 0 with no header. -/
def State.slotVersion (s : State) (k : Nat) : Nat := let x := s.fwSlot k; if x.committed then fwVersion x.bytes else 0

def updStatus (_ : Cmd) (s : State) : State × Reply :=
  let r := s.bootCtl
  (s, { payload := leBytes 1 r.active ++ leBytes 1 r.next ++ leBytes 1 (b2n (s.slotValid 0) + 2 * b2n (s.slotValid 1)) ++ leBytes 5 0
          ++ leBytes 8 (s.slotVersion 0) ++ leBytes 8 (s.slotVersion 1) ++ leBytes 4 s.fuseFloor })

/-- UPD_STATUS (R481). -/
def execUpdStatus (m : Mbx) (k : MSlot) (s : State) : Host.Outcome State Fault Refusal := .next (s.runCmd m k 0x0C03 [] updStatus)

/-! ### PLDM for Firmware Update (R572, R573; completion codes of DSP0267, log entry 44) -/

def State.pldmAnswer (s : State) (cc : Nat) (bs : List Byte) : State := s.emit (.mctp 1 (leBytes 1 cc ++ bs))

def State.setPldm (s : State) (p : Option Pldm) : State := { s with sosin := { s.sosin with pldm := p } }

/-- An UPD_STAGE is running. -/
def State.staging_ (s : State) : Bool := s.running.any (fun x => field x.2.2.copy 0 2 == 0x0C01)

/-- A PLDM update ends with the slot left invalid (R572). -/
def State.cancelPldm (s : State) : State :=
  if s.sosin.pldm.isSome then (s.setFw s.inactiveSlot {}).setPldm none else s

/-- A command of the update agent in an update that stands in a phase. -/
def State.pldmStep (s : State) (p : Pldm) (c : PldmCmd) : State :=
  let p := { p with lastAt := s.now }
  let goto := fun (s : State) (n : Nat) => (s.setPldm (some { p with phase := n })).pldmAnswer 0 []
  let wrong := (s.setPldm (some p)).pldmAnswer 0x84 []
  match c with
  | .requestUpdate _ => (s.setPldm (some p)).pldmAnswer 0x81 []
  | .passComponentTable => if p.phase = 0 then goto s 1 else wrong
  | .updateComponent id =>
    if p.phase != 1 then wrong
    else if id != 1 then (s.setPldm (some p)).pldmAnswer 0x82 []
    else (s.setPldm (some { p with phase := 2, data := [] })).pldmAnswer 0 []
  | .firmwareData bs =>
    if p.phase = 2 && bs.length ≤ p.xfer then s.setPldm (some { p with data := p.data ++ bs }) else s.setPldm (some p)
  | .transferComplete => if p.phase = 2 then goto s 3 else wrong
  | .verifyComplete =>
    if p.phase != 3 then wrong
    else match s.headerCheck p.data with
      | none =>
        if (badSections p.data 0).isEmpty && fwSize p.data ≤ p.data.length then goto s 4
        else ((s.logUpdate s.inactiveSlot (fwVersion p.data) sSIGN 1).setPldm (some { p with phase := 1, data := [] })).pldmAnswer 0 [1]
      | some k =>
        ((s.logUpdate s.inactiveSlot (fwVersion p.data) (if k = 4 then sROLLBACK else sSIGN) 1).setPldm
          (some { p with phase := 1, data := [] })).pldmAnswer 0 [1]
  | .applyComplete => if p.phase = 4 then goto (s.stageImage p.data 1).1 5 else wrong
  | .activateFirmware self =>
    if p.phase != 5 then wrong
    else if self then (s.setPldm (some p)).pldmAnswer 0x8C []
    else ((s.setPldm none).activate s.inactiveSlot).pldmAnswer 0 []
  | .getStatus => (s.setPldm (some p)).pldmAnswer 0 (leBytes 1 p.phase)
  | .cancelUpdateComponent => ((s.setFw s.inactiveSlot {}).setPldm (some { p with phase := min p.phase 1, data := [] })).pldmAnswer 0 []
  | .cancelUpdate => s.cancelPldm.pldmAnswer 0 []
  | .queryDeviceIdentifiers => (s.setPldm (some p)).pldmAnswer 0 ([0x3C, 0x1F, 0x80, 0x7A])
  | .getFirmwareParameters =>
    (s.setPldm (some p)).pldmAnswer 0 (leBytes 2 1 ++ leBytes 8 (s.slotVersion s.bootCtl.active) ++ leBytes 8 (s.slotVersion s.inactiveSlot))

/-- A command outside an update. -/
def State.pldmIdle (s : State) (c : PldmCmd) : State :=
  match c with
  | .queryDeviceIdentifiers => s.pldmAnswer 0 ([0x3C, 0x1F, 0x80, 0x7A])
  | .getFirmwareParameters =>
    s.pldmAnswer 0 (leBytes 2 1 ++ leBytes 8 (s.slotVersion s.bootCtl.active) ++ leBytes 8 (s.slotVersion s.inactiveSlot))
  | .requestUpdate n =>
    if s.staging_ then s.pldmAnswer 0x8E []
    else ((s.setFw s.inactiveSlot {}).setPldm (some { lastAt := s.now, xfer := min 1024 n })).pldmAnswer 0 []
  | .getStatus => s.pldmAnswer 0 (leBytes 1 0)
  | _ => s.pldmAnswer 0x80 []

/-- PLDM_UPDATE_COMMAND (R572). -/
def execPldmUpdateCommand (c : PldmCmd) (s : State) : Host.Outcome State Fault Refusal :=
  if !s.sosin.ready || s.inReset || s.fatal then .next s
  else
    let s := s.bmcPresent
    match s.sosin.pldm with
    | some p => .next (s.pldmStep p c)
    | none => .next (s.pldmIdle c)

/-- PLDM_UPDATE_TIMEOUT (R572): no command or data for 90 s. -/
def execPldmUpdateTimeout (s : State) : Host.Outcome State Fault Refusal :=
  match s.sosin.pldm with
  | some p => .next (if p.lastAt + msec 90000 ≤ s.now then s.cancelPldm else s)
  | none => .next s

end Sys2Proof.Machine
end

