-- ==== Sys2Proof/Machine/Bmc.lean ====
section
/-! DEFINITION. Machine/Bmc.lean: the BMC link, MCTP control, PLDM sensors, and attestation (R574 to R580). Message bytes of the
DMTF standards that the specification cites by name are taken from those standards (log entry 44). -/

namespace Sys2Proof.Machine

/-! ### Presence (R578 to R580) -/

/-- The BMC becomes ABSENT: responses of its commands are discarded, its update is cancelled and its sessions end (R580). -/
def State.bmcGone (s : State) : State :=
  let s := s.cancelPldm
  let b := s.mbxAt 65
  let s := s.setMbx 65 { b with slots := b.slots.map (fun (c : Nat × MbxSlot) => if c.2.st == 2 then (c.1, { c.2 with discard := true }) else c) }
  let s : State := { s with mc := { s.mc with sessions := 0, probeFails := 0, probeAt := s.now + msec 10000 } }
  if s.sosin.bmcAbsent then s
  else
    let s : State := { s with sosin := { s.sosin with bmcAbsent := true } }
    (((s.setFld Reg.MGT_BMC F.MGT_BMC_STATE 1).log 7 (leBytes 1 1)).platRecord 0x0540 0 (s.fld Reg.MGT_BMC F.MGT_BMC_ADDR) 0)

/-- BMC_PROBE (R579): 0 a probe fails, 1 a probe is answered, 2 a message to a present BMC was NACKed through its retries. -/
def execBmcProbe (outcome : Fin 3) (s : State) : Host.Outcome State Fault Refusal :=
  if !s.sosin.ready || s.inReset then .next s
  else if outcome.val = 2 then .next (if s.sosin.bmcAbsent then s else s.bmcGone)
  else if s.now < s.mc.probeAt then .next s
  else if outcome.val = 1 then .next (s.bmcPresent)
  else if s.mc.probeFails < 3 then .next { s with mc := { s.mc with probeFails := s.mc.probeFails + 1, probeAt := s.now + msec 100 } }
  else .next s.bmcGone

/-- BMC_PRESENT (R579). -/
def execBmcPresent (s : State) : Host.Outcome State Fault Refusal := .next s.bmcPresent

def State.mctpControl (s : State) (c : MctpCtl) : State :=
  let eid := s.fld Reg.MGT_BMC F.MGT_BMC_EID
  match c with
  | .setEid e => (s.setFld Reg.MGT_BMC F.MGT_BMC_EID e.toNat).emit (.mctp 0 ([0, 0] ++ [e] ++ [0]))
  | .getEid => s.emit (.mctp 0 ([0] ++ leBytes 1 eid ++ [0, 0]))
  | .getVersion => s.emit (.mctp 0 ([0, 1, 0xF1, 0xF3, 0xF1, 0]))
  | .getTypes => s.emit (.mctp 0 ([0, 5, 0x00, 0x01, 0x05, 0x06, 0x7E]))
  | .getVendor => s.emit (.mctp 0 ([0, 0xFF, 0, 0x1F, 0x3C, 0, 0]))
  | .other _ => s.emit (.mctp 0 [5])

/-- MCTP_CONTROL (R578). -/
def execMctpControl (c : MctpCtl) (s : State) : Host.Outcome State Fault Refusal :=
  .next (if !s.mc.running || s.inReset then s else (s.bmcPresent).mctpControl c)

/-! ### Sensors (R577, Table 16.8) -/

/-- A reading: its value, or none when the source is unavailable. -/
def State.sensor (s : State) (id : Nat) : Option (Option Int) :=
  let temp := fun (off : Nat) => signed 16 (s.fld off (15, 0))
  let avg := fun (d : Nat) => s.fld (Reg.PWR_AVG d) (31, 0)
  if id = 0 || 44 < id then none
  else if id ≤ 8 then some (if bits (s.reg Reg.HMC_REFRATE) (2 * id - 1) (2 * id - 2) = 3 then none else some (temp (Reg.THM_STACK (id - 1))))
  else if id = 9 then some (some (temp Reg.THM_HOT))
  else if id ≤ 25 then some (some (temp (Reg.THM_CORE (id - 10))))
  else if id ≤ 29 then some (some (avg (id - 26)))
  else if id = 30 then some (some ((List.range 4).foldl (fun a d => a + avg d) 0 : Nat))
  else if id ≤ 42 then
    some (match s.pwr.regs[id - 31]? with
      | some r => if r.lost then none else some (r.iout : Int)
      | none => none)
  else if id = 43 then some (some (s.op : Int))
  else some (some (s.fld Reg.PWR_STATE F.PWR_STATE_RATIO : Int))

def int32 (v : Int) : List Byte := leBytes 4 (v % (2 ^ 32 : Nat)).toNat

/-- GET_SENSOR_READING (R577): operational state 0 enabled or 2 unavailable, and the reading; 0x80 for no such sensor. -/
def execGetSensorReading (id : Nat) (s : State) : Host.Outcome State Fault Refusal :=
  if !s.sosin.ready || s.inReset || s.fatal then .next s
  else
    let s := s.bmcPresent
    .next (match s.sensor id with
      | none => s.pldmAnswer 0x80 []
      | some none => s.pldmAnswer 0 (leBytes 1 2)
      | some (some v) => s.pldmAnswer 0 (leBytes 1 0 ++ int32 v))

/-- Thresholds of a sensor's PDR: warning, critical, fatal. -/
def State.thresholds (s : State) (id : Nat) : List (Option Int) :=
  let cap := fun (d : Nat) => ((capOf d s.pwr.policy.pla : Nat) : Int)
  if id ≤ 8 then [some 850, some 950, some 1050]
  else if id ≤ 25 then [none, some (s.fld Reg.THM_LIMIT F.THM_LIMIT_CORE : Int), some 1150]
  else if id ≤ 29 then [none, some (cap (id - 26)), none]
  else if id = 30 then [none, some ((1000 * s.pwr.policy.pla : Nat) : Int), none]
  else if id ≤ 42 then [none, (s.pwr.regs[id - 31]?).map (fun r => (r.icc : Int)), none]
  else [none, none, none]

/-- PLDM_PDR_REQUEST (R577). -/
def execPldmPdrRequest (q : PldmQuery) (s : State) : Host.Outcome State Fault Refusal :=
  if !s.sosin.ready || s.inReset || s.fatal then .next s
  else
    let s := s.bmcPresent
    .next (match q with
      | .getTid => s.pldmAnswer 0 [0]
      | .getVersion t => if t = 0 || t = 2 || t = 5 then s.pldmAnswer 0 (leBytes 1 t) else s.pldmAnswer 0x83 []
      | .getTypes => s.pldmAnswer 0 (leBytes 8 0x25)
      | .getCommands t =>
        if t = 0 then s.pldmAnswer 0 [2, 3, 4, 5]
        else if t = 2 then s.pldmAnswer 0 [0x11, 0x50, 0x51]
        else if t = 5 then s.pldmAnswer 0 [1, 2, 0x10, 0x13, 0x14, 0x15, 0x16, 0x17, 0x18, 0x1A, 0x1B, 0x1C, 0x1D]
        else s.pldmAnswer 0x83 []
      | .getPdrRepositoryInfo => s.pldmAnswer 0 (leBytes 4 44)
      | .getPdr k =>
        if k = 0 || 44 < k then s.pldmAnswer 0x82 []
        else s.pldmAnswer 0 (leBytes 2 k ++ (s.thresholds k).flatMap (fun t => match t with
          | some v => [1] ++ int32 v
          | none => leBytes 5 0)))

/-! ### Attestation (R574 to R576) -/

/-- What a peer reads: the BMC, or a function over its DOE. -/
def State.spdmAnswer (s : State) (peer : Option Fn) (bs : List Byte) : State :=
  match peer with
  | none => s.emit (.mctp 5 bs)
  | some f => s.emit (.doe f bs)

/-- Sessions of a peer. -/
def State.sessions (s : State) (peer : Option Fn) : Nat :=
  match peer with | none => s.mc.sessions | some f => (s.fnAt f).sessions

def State.setSessions (s : State) (peer : Option Fn) (n : Nat) : State :=
  match peer with
  | none => { s with mc := { s.mc with sessions := n } }
  | some f => s.setFn f { s.fnAt f with sessions := n }

/-- Does the responder serve a peer now (R431, R574)? -/
def State.spdmOpen (s : State) (peer : Option Fn) : Bool :=
  s.sosin.ready && !s.inReset && !s.fatal && (match peer with | none => true | some f => s.fnExists f && !(s.fnAt f).flr)

/-- SPDM_REQUEST (R574, R575): at most 2 sessions of each peer; DOE answers Busy until READY (R431). Signatures are made under
the ALIAS key, over a transcript that begins with the request. -/
def execSpdmRequest (peer : Option Fn) (r : SpdmReq) (s : State) : Host.Outcome State Fault Refusal :=
  if !s.spdmOpen peer then
    .next (match peer with
      | some f => if s.sosin.ready || s.inReset || s.fatal || !s.fnExists f then s else s.spdmAnswer peer [0x7F, 0x03]
      | none => s)
  else
    let s := if peer.isNone then s.bmcPresent else s
    let n := s.sessions peer
    .next (match r with
      | .getVersion => s.spdmAnswer peer [0x04, 0x13]
      | .getCapabilities => s.spdmAnswer peer ([0x61] ++ leBytes 4 1024)
      | .negotiateAlgorithms => s.spdmAnswer peer [0x63]
      | .getDigests => s.spdmAnswer peer ([0x01, 0x01] ++ sha384 (Config.identity 3))
      | .getCertificate slot off len =>
        if slot = 0 then s.spdmAnswer peer ([0x02] ++ slice (Config.identity 3) off (min len ((Config.identity 3).length - off)))
        else s.spdmAnswer peer [0x7F, 0x01]
      | .challenge nonce => (s.drew).spdmAnswer peer ([0x03] ++ Config.sign 0 (nonce ++ leBytes 8 s.free))
      | .keyExchange =>
        if 2 ≤ n then s.spdmAnswer peer [0x7F, 0x0A]
        else if !s.mc.entropyOk then s.spdmAnswer peer [0x7F, 0x03]
        else ((s.setSessions peer (n + 1)).drew).spdmAnswer peer [0x64]
      | .finish => s.spdmAnswer peer (if n = 0 then [0x7F, 0x02] else [0x65])
      | .endSession => if n = 0 then s.spdmAnswer peer [0x7F, 0x02] else (s.setSessions peer (n - 1)).spdmAnswer peer [0x6C]
      | .heartbeat => s.spdmAnswer peer (if n = 0 then [0x7F, 0x02] else [0x68])
      | .keyUpdate => s.spdmAnswer peer (if n = 0 then [0x7F, 0x02] else [0x69])
      | .other _ => s.spdmAnswer peer [0x7F, 0x07])

/-- Every LK field, in ascending register address, 8 B each (Table 16.7; the form is log entry 45's). -/
def State.lkBytes (s : State) : List Byte :=
  let l := regTable.flatMap (fun r => (List.range r.count).flatMap (fun n =>
    (r.fields.filter (fun f => f.acc == Access.LK)).map (fun f => (r.base + n * r.stride, f.hi, f.lo))))
  (sortBy (fun (a b : Nat × Nat × Nat) => decide (64 * a.1 + a.2.2 ≤ 64 * b.1 + b.2.2)) l).flatMap (fun x => leBytes 8 (s.fld x.1 x.2))

/-- A binding as bytes: roods, QUIET, LCMAX, quotas and CONF. -/
def State.bindingBytes (s : State) (v : Nat) : List Byte :=
  match Tab.find s.tenants v with
  | none => []
  | some t =>
    let p := (Tab.find s.parts t.part)
    let roods := match p with | some x => maskOf x.roods | none => 0
    let quiet := match p with | some x => x.quiet | none => false
    leBytes 2 roods ++ leBytes 1 (b2n quiet) ++ leBytes 1 t.lcmax ++ leBytes 4 t.seqmax ++ leBytes 8 t.stkq ++ leBytes 4 t.poolq
      ++ leBytes 8 t.farq ++ leBytes 4 t.perchq ++ leBytes 4 t.pinmax ++ leBytes 1 (b2n t.conf)

/-- Every partition and binding. -/
def State.allBindings (s : State) : List Byte :=
  s.parts.flatMap (fun x => leBytes 1 x.1 ++ leBytes 2 (maskOf x.2.roods) ++ leBytes 1 (b2n x.2.quiet) ++ leBytes 4 x.2.perches)
    ++ s.tenants.flatMap (fun x => leBytes 1 x.1 ++ s.bindingBytes x.1)

/-- A measurement: its DMTF value type and value (Table 16.7). -/
def State.measurement (s : State) (peer : Option Fn) (index : Nat) : Option (Nat × List Byte) :=
  let b := (s.fwSlot s.mc.bootSlot).bytes
  match index with
  | 1 => some (0x00, slice (Config.identity 20) 0 48)
  | 2 => some (0x01, sha384 (slice b 0 1184))
  | 3 => some (0x87, leBytes 1 (fwSvn b) ++ leBytes 8 (fwVersion b))
  | 4 => some (0x82, leBytes 1 s.fuseFloor ++ leBytes 1 s.fuseRevoked ++ leBytes 1 (s.fld Reg.MGT_FUSE F.MGT_FUSE_DBGOFF))
  | 5 => some (0x03, if s.sealed then sha384 s.lkBytes else leBytes 48 0)
  | 6 => some (0x85, leBytes 1 (b2n s.debug))
  | 7 => match peer with
    | some f => if f.val = 0 then some (0x03, sha384 s.allBindings) else some (0x83, s.bindingBytes f)
    | none => some (0x03, sha384 s.allBindings)
  | _ => none

/-- A measurement block: index, DMTF form, size, value type, value size and value. -/
def measurementBlock (index : Nat) (m : Nat × List Byte) : List Byte :=
  leBytes 1 index ++ [1] ++ leBytes 2 (m.2.length + 3) ++ leBytes 1 m.1 ++ leBytes 2 m.2.length ++ m.2

/-- GET_MEASUREMENTS (R576): index 0 the number of blocks, 1 to 7 one block, 0xFF all of them; signed under ALIAS. -/
def execGetMeasurements (peer : Option Fn) (index : Nat) (s : State) : Host.Outcome State Fault Refusal :=
  if !s.spdmOpen peer then .next s
  else
    let s := if peer.isNone then s.bmcPresent else s
    let bs : Option (List Byte) :=
      if index = 0 then some [7]
      else if index = 255 then some ((List.range 7).flatMap (fun i => match s.measurement peer (i + 1) with
        | some m => measurementBlock (i + 1) m
        | none => []))
      else (s.measurement peer index).map (measurementBlock index)
    .next (match bs with
      | some b => s.spdmAnswer peer ([0x60] ++ b ++ Config.sign 0 b)
      | none => s.spdmAnswer peer [0x7F, 0x01])

end Sys2Proof.Machine
end

