-- ==== Sys2Proof/Machine/Fatal.lean ====
section
/-! DEFINITION. Machine/Fatal.lean: what the device does once it has entered the fatal state (R505, R507, R549). -/

namespace Sys2Proof.Machine

/-- The FATAL record of the flash log (Table 16.4): the entering occurrence, as its record holds it. A LOG_FAULT has none. -/
def State.fatalLog (s : State) : State :=
  let v := s.reg Reg.ERR_FATAL
  let seq := bits v 31 0
  match if seq = 0 then none else (s.errQueue (bits v 62 60)).recs.find? (fun r => r.seq % 2 ^ 32 == seq) with
  | some r =>
    s.log 3 (leBytes 2 r.cause ++ leBytes 1 r.sev ++ leBytes 1 r.func ++ leBytes 1 r.skind ++ leBytes 1 0 ++ leBytes 4 r.subject
      ++ leBytes 4 seq ++ leBytes 8 r.addr ++ leBytes 8 r.arg0 ++ leBytes 8 r.arg1 ++ leBytes 4 0)
  | none => s.log 3 (leBytes 2 (bits v 47 32) ++ leBytes 1 3 ++ leBytes 7 0 ++ leBytes 4 seq ++ leBytes 28 0)

/-- Rung 2 of R505: the ports ramp down into DISABLED, the far ports flush and carry nothing, and the record is logged. The
front end, the step builder and DMA stop where they look at the fatal state. -/
def State.fatalStop (s : State) : State :=
  let s := forAll (List.range 16) (fun n s => if s.lnkState n = 0 then s else s.enterDisabled n) s
  (s.startGpf false).fatalLog

/-- A fatal occurrence that leaves no tick to follow: the clocks have gone (R587). -/
def State.fatalNow (s : State) : State :=
  match s.fatalPend with
  | some p => ({ s.enterFatal p with fatalTick := none } : State).fatalStop
  | none => s

end Sys2Proof.Machine
end

