-- ==== Sys2Proof/Machine/Reset.lean ====
section
/-! DEFINITION. Machine/Reset.lean: reset entry, what a reset keeps, the start-up ladder, and the clock and reset pins (R583 to
R601, R609 to R612). -/

namespace Sys2Proof.Machine

/-! ### What a reset resets and keeps (R589 to R592, Table 17.4) -/

/-- The value a register keeps through a warm reset: its LK fields, every other field at its reset value. -/
def keptReg (off v : Nat) : Nat :=
  match regRow? off with
  | none => 0
  | some r => (r.fields.filter (fun f => f.acc == Access.LK)).foldl (fun a f => setBits a f.hi f.lo (bits v f.hi f.lo)) (regReset off)

/-- Registers after a warm reset. -/
def keptRegs (s : State) : State :=
  forAll s.regs (fun x t => t.setReg x.1 (keptReg x.1 x.2.toNat)) ({ s with regs := [] } : State)

/-- The last METERCHAIN record saved (R545): MSEQ and digest. -/
def Mc.chain (m : Mc) : Option (Nat × List Byte) :=
  (m.newest 7 0x0109).map (fun b => (field (flashPayload b) 0 6, slice (flashPayload b) 6 48))

/-- The meter after a reset: MSEQ and PREV go on from flash; a warm reset keeps the records saved there. -/
def State.keptMeter (s : State) (cold : Bool) : Meter :=
  let last := match s.mc.chain with | some x => x.1 | none => 0
  let keep := if cold then [] else s.meter.recs.filter (fun r => decide (r.mseq ≤ last))
  { recs := keep, mseq := last + 1, prev := match s.mc.chain with | some x => x.2 | none => [], bootid := s.meter.bootid,
    lost := s.meter.lost || s.meter.minuteWin != 0 || decide (keep.length < s.meter.recs.length) }

/-- Flash and fuses stand. A flash write cut by the reset leaves an invalid slot (R555, R597); the FATAL record of a lost REFCLK
is written now (R587). -/
def State.keptMc (s : State) : Mc :=
  { flash := s.mc.flash, fw := s.mc.fw, floor := s.mc.floor, revoked := s.mc.revoked,
    jobs := if s.rst.refclkLost then s.mc.jobs.filter (fun j => j.prio == 0) else [] }

/-- Wrapped keys whose records are valid in flash (R319). -/
def State.keptRetained (s : State) : Tab KeySlot :=
  let l := s.mc.live 4
  s.far.retained.filter (fun x => l.any (fun b => field (flashPayload b) 0 2 == x.1 && field (flashPayload b) 2 8 == x.2.keyid))

/-- The far tier after a reset: ports retrain, keys 1 to 64 are gone, and key 0 at a cold reset, device contents stand (a line's key with them). -/
def State.keptFar (s : State) (cold : Bool) : FarState :=
  let oper := fun (n : Nat) => if cold then 0 else (s.farAt n).oper
  { ports := [(0, { oper := oper 0 }), (1, { oper := oper 1 })].filter (fun x => x.2 != ({} : FarPortState)),
    inks := s.far.inks.filter (fun x => isFar (64 * x.1)), retained := s.keptRetained, keys := if cold then [] else s.far.keys.filter (fun x => x.1 == 0) }

/-- Does an address or word belong to far memory? -/
def State.farOnly (s : State) : State :=
  { s with mem := s.mem.filter (fun c => isFar c.1), poison := s.poison.filter (fun c => isFar (64 * c.1)),
           upsets := s.upsets.filter (fun c => isFar (64 * c.1)) }

/-- Ports a warm reset leaves refused, with their reason (Table 17.4). -/
def State.keepRefused (s old : State) : State :=
  forAll [0, 1] (fun n t => if old.farState n = 4 then t.setReg (Reg.FTC_PSTATE n) (old.reg (Reg.FTC_PSTATE n)) else t) s

/-- The state a reset leaves, the device held (Table 17.4). Stacked memory and its contents are read by no later owner before
they are filled (R591). DESIGN CHOICE: read shadows and held low halves are empty then, of which no rule speaks (log entry 119). -/
def State.afterReset (s : State) (cold : Bool) (trigger : Nat) : State :=
  let s := forAll [0, 1] (fun n s => s.undoWrites (s.farAt n).wr) s
  let t := s.farOnly
  let t : State :=
    { pending := s.pending, now := s.now, free := s.free, out := s.out, regs := s.regs, sealed := !cold && s.sealed, inReset := true,
      mem := t.mem, poison := t.poison, upsets := t.upsets, far := s.keptFar cold,
      lnk := if cold then [] else (s.lnk.map (fun x => (x.1, ({ flyOp := x.2.flyOp } : LnkPort)))).filter (fun x => x.2 != {}),
      pch := (s.pch.map (fun x => (x.1, ({ hardUsed := x.2.hardUsed } : PchState)))).filter (fun x => x.2 != {}),
      pwr := { vralert := s.pwr.vralert, pfailPin := s.pwr.pfailPin, shutStacks := if cold then [] else s.pwr.shutStacks }, meter := s.keptMeter cold, mc := s.keptMc,
      rst := { pwrgood := s.rst.pwrgood, sysrst := s.rst.sysrst, perst := s.rst.perst, straps := s.rst.straps,
               refclkLost := s.rst.refclkLost, cold := cold, trigger := trigger,
               t0 := if 3 ≤ trigger then s.now + msec 1 else s.now },
      pins := { levels := s.pins.levels, lsyncLow := s.pins.lsyncLow } }
  let t := if cold then { t with regs := [] } else keptRegs t
  let t := if cold then t else forAll (List.range 16) (fun n t => t.setFld (Reg.FAB_FLY n) F.FAB_FLY_NS (t.lnkAt n).flyOp) t
  let t := (t.showDlat 0).showDlat 1
  let t := if cold then t else t.keepRefused s
  -- a stack that was shut down returns only after a cold reset (R289)
  let t := t.pwr.shutStacks.foldl (fun (t : State) k =>
    t.setReg Reg.HMC_REFRATE (setBits (t.reg Reg.HMC_REFRATE) (2 * k + 1) (2 * k) 3)) t
  let t := t.setReg Reg.RST_WARMS (if cold then 0 else satAdd 32 (s.reg Reg.RST_WARMS) 1)
  let t := t.setReg Reg.MTR_NEXTSEQ t.meter.mseq
  (t.setReg Reg.RST_CAUSE (trigger * 16 + b2n !cold)).setReg Reg.PIN_STRAP t.rst.straps

/-- Have rungs 2 to 5 of reset entry ended, and a pin trigger's pin deasserted (R590)? The write-combining buffer's data stands
in memory already. -/
def State.entryOver (s : State) : Bool :=
  let done := fun (n : Nat) => (s.farAt n).gpf == 0 || (s.farAt n).gpf == 3
  let pin := if s.rst.trigger = trigSys then !s.rst.sysrst else if s.rst.trigger = trigPerst then !s.rst.perst else true
  (done 0 && done 1 || decide (s.rst.r0 + msec 10 ≤ s.now)) && pin

/-- RESET_ENTRY (R590): the reset takes hold. -/
def execResetEntry (s : State) : Host.Outcome State Fault Refusal :=
  .next (if s.rst.phase == .entry && s.entryOver then s.afterReset s.rst.cold s.rst.trigger else s)

/-! ### The start-up ladder (R593 to R596, R599) -/

def State.rung (s : State) : Nat := s.fld Reg.RST_STAGE F.RST_STAGE_RUNG
def State.setRung (s : State) (n : Nat) : State := s.setFld Reg.RST_STAGE F.RST_STAGE_RUNG n

/-- Reset is released (Table 17.3). -/
def State.released (s : State) : Bool := s.rst.phase == .held && s.rst.pwrgood && !s.rst.sysrst && !s.rst.perst && decide (s.rst.t0 ≤ s.now)

/-- A new key in slot 0 (R551, Table 17.4). -/
def State.newDeviceKey (s : State) : State :=
  ({ s with free := s.free + 64 } : State).setKey 0 { st := 1, key := s.freeKey }

/-- Rung 1: t0. CLK_TIME starts at 0 after a cold reset (R586), and slot 0 takes a new key. -/
def State.rung1 (s : State) : State :=
  let s := if s.rst.cold then ({ s with now := 0 } : State).newDeviceKey else s
  ({ s with rst := { s.rst with phase := .ladder, t0 := s.now } } : State).setRung 1

/-- Set LOCKED or FAIL of a synthesizer (Table 17.2): 0 management, 1 core, 2 memory, 3 link. -/
def State.synth (s : State) (k : Nat) (ok : Bool) : State :=
  let v := s.reg Reg.CLK_STAT
  s.setReg Reg.CLK_STAT (if ok then (if bit v k then v else v + 2 ^ k) else (if bit v (8 + k) then v else v + 2 ^ (8 + k)))

/-- Rung 3: the MC leaves reset, unless the management synthesizer does not lock or TEST was sampled high (R612). -/
def State.rung3 (s : State) (unlocked : Nat) : State :=
  if s.fld Reg.PIN_STRAP F.PIN_STRAP_TEST = 1 then s
  else if bit unlocked 0 then ({ s with rst := { s.rst with synthFail := true } } : State).synth 0 false
  else (({ s with mc := { s.mc with running := true, wdogAt := s.now + msec 10000 } } : State).synth 0 true).setRung 3

/-- Rung 4: the BOARD record, or its defaults (R562). -/
def State.rung4 (s : State) : State :=
  let s := match s.mc.newest 2 0x0102 with
    | some b => s.setFld Reg.MGT_BMC F.MGT_BMC_ADDR (field (flashPayload b) 4 1)
    | none => (s.setFld Reg.MGT_BMC F.MGT_BMC_ADDR 0x10).platRecord 0x0543 2 0x20000 0
  s.setRung 4

/-- Rung 7: the regulator map, the OP5 voltage, and the core, memory and link synthesizers (R599). -/
def State.rung7 (s : State) (unlocked : Nat) : State :=
  let s := (s.loadRegmap).commandVolts 5
  let s := { s with pwr := { s.pwr with pollAt := s.now } }
  let s := forAll [1, 2, 3] (fun k s => s.synth k (!bit unlocked k)) s
  let s := forAll [1, 2] (fun k s => if bit unlocked k then
    ({ s with rst := { s.rst with synthFail := true } } : State).platRecord 0x0563 3 k 0 else s) s
  let s := if bit unlocked 3 then ({ s with rst := { s.rst with degraded := true } } : State).platRecord 0x0563 2 3 0 else s
  if bit unlocked 1 || bit unlocked 2 then s else s.setRung 7

/-- Rung 9: ENABLE on the Lenlink ports, unless the link synthesizer failed; training of the far ports not left refused. -/
def State.rung9 (s : State) : State :=
  let s := if bit (s.reg Reg.CLK_STAT) 3 then forAll (List.range 16) (fun n s => s.lnkEnable n true) s else s
  let s := forAll [0, 1] (fun n s => if s.farState n = 4 then s else s.setFarState n 1) s
  s.setRung 9

/-- A hard-repair record (Table 16.5) as pseudo-channel, row, spare and state. -/
def repairOf (b : List Byte) : Nat × Nat × Nat × Nat :=
  let p := flashPayload b
  (field p 0 1, field p 1 4, field p 5 1, field p 6 1)

/-- A soft remap re-established from the list (R296). -/
def State.remapAgain (s : State) (p row : Nat) : State :=
  let c := s.pchAt p
  s.setPch p { c with remaps := Tab.insert c.remaps row c.spares, spares := c.spares + 1 }

/-- Hard repairs listed in flash, the rows re-established before, and the retired pages (R295 to R297, R561). -/
def State.loadRepairs (s : State) : State :=
  let l := (s.mc.live 5).map repairOf
  let s := { s with hardList := (l.filter (fun x => x.2.2.2 == 0)).map (fun x => (x.1, x.2.1, x.2.2.1 != 0xFF)) }
  let s := forAll (l.filter (fun x => x.2.2.2 == 2)) (fun x s => s.remapAgain x.1 x.2.1) s
  forAll (s.mc.live 6) (fun b s =>
    let p := flashPayload b
    let k := field p 0 1
    let c := s.pchAt k
    let s := s.setPch k { c with retired := c.retired ++ [{ page := field p 3 8 / 4096, repl := c.retired.length, moved := 4 }] }
    s.setFld (Reg.HMC_RETIRED k) F.HMC_RETIRED_COUNT (c.retired.length + 1)) s

def State.setStk (s : State) (k st : Nat) : State := { s with rst := { s.rst with stk := Tab.write s.rst.stk 0 k st } }
def State.stkAt (s : State) (k : Nat) : Nat := Tab.read s.rst.stk 0 k

/-- The next stack with repairs starts them, one stack at a time (R594). -/
def State.nextRepair (s : State) : State :=
  match (List.range 8).find? (fun k => s.rst.repairs.contains k && s.stkAt k == 0) with
  | some k => s.setStk k 1
  | none => s

/-- Rung 10: every section is checked (R565), and the stacks start. -/
def State.rung10 (s : State) : State :=
  let t := s.checkSections
  if t.rst.phase != .ladder then t
  else
    let s := t.loadRepairs
    let s := { s with rst := { s.rst with repairs := s.repairStacks } }
    let s := forAll ((List.range 8).filter (fun k => !s.rst.repairs.contains k)) (fun k s => s.setStk k 2) s
    (s.nextRepair).setRung 10

/-- Rung 12: every stack has trained or failed, and one has trained; the device tables are rebuilt. -/
def State.rung12 (s : State) : State :=
  if (List.range 8).all (fun k => s.stkAt k == 3 || s.stkAt k == 4) && (List.range 8).any (fun k => s.stkAt k == 3) then s.setRung 12 else s

/-- STARTUP_LADDER (R593): the next rung, whose synthesizers that do not lock in 3 tries of their bound are given. Rungs 5 and 13
are BOOT_IMAGE_SELECT and READY. -/
def State.ladder (s : State) (unlocked : Nat) : State :=
  if s.released then s.rung1
  else if s.rst.phase == .running && s.rung == 13 then s.setRung 14
  else if s.rst.phase != .ladder || s.rst.synthFail then s
  else match s.rung with
    | 1 => if s.rst.refclkLost then s else (s.showFuses).setRung 2
    | 2 => s.rung3 unlocked
    | 3 => s.rung4
    | 5 => ({ s with inReset := false } : State).setRung 6
    | 6 => s.rung7 unlocked
    | 7 => s.setRung 8
    | 8 => s.rung9
    | 9 => s.rung10
    | 10 => s.setRung 11
    | 11 => s.rung12
    | _ => s

def execStartupLadder (unlocked : BitVec 4) (s : State) : Host.Outcome State Fault Refusal := .next (s.ladder unlocked.toNat)

/-! ### Repairs and training of a stack (R296, R300, R301, R592, R594) -/

/-- Record how a listed row ended (Table 16.5). -/
def State.repairRecord (s : State) (p row spare st : Nat) : State :=
  s.config 5 0x0107 (leBytes 1 p ++ leBytes 4 row ++ leBytes 1 spare ++ leBytes 1 st)

/-- One listed row at its stack's repairs: replaced for good, or re-established as a soft remap. -/
def State.repairRow (s : State) (p row : Nat) (hasSpare refused : Bool) : State :=
  let s := { s with hardList := s.hardList.filter (fun x => !(x.1 == p && x.2.1 == row)) }
  if refused || s.hardLeft p = 0 then
    let s := if refused then s.record { cause := ⟨0x0565, 1, 4⟩, subject := p, arg0 := row } else s
    let n := (s.pchAt p).spares
    if hasSpare && n < 64 then (s.remapAgain p row).repairRecord p row n 2 else s.repairRecord p row 0xFF 2
  else
    let c := s.pchAt p
    let s := s.setPch p { c with hardUsed := c.hardUsed + 1 }
    let s := s.repairRecord p row 0xFF 1
    if hasSpare then s else forAll (rowWords p row) (fun w s => s.makePoison Cause.poisonMade w) s

/-- HARD_REPAIR_DONE (R296, R594): the repairs of a stack end, but for the rows the DRAM refuses; the stack starts training. -/
def execHardRepairDone (k : Stack) (refused : List (Nat × Nat)) (s : State) : Host.Outcome State Fault Refusal :=
  if s.rst.phase == .ladder && s.stkAt k == 1 then
    let l := s.hardList.filter (fun x => x.1 / 32 == k.val)
    let s := forAll l (fun x s => s.repairRow x.1 x.2.1 x.2.2 (refused.contains (x.1, x.2.1))) s
    .next ((s.setStk k 2).nextRepair)
  else .next s

/-- A pseudo-channel that is FAILED (R301). -/
def State.failPch (s : State) (p mask : Nat) : State :=
  let s := s.setFld (Reg.HMC_LANES p) F.HMC_LANES_STATE 2
  let s := forAll (List.range 768) (fun l s => s.setOwner (256 * l + p) .failed) s
  ({ s with rst := { s.rst with degraded := true } } : State).record { cause := Cause.pchFailed, subject := p, arg0 := mask }

/-- The lanes of a pseudo-channel after training (R300): up to two failed lanes are replaced, the lowest first. -/
def State.trainPch (s : State) (p : Nat) (lanes : List Nat) : State :=
  let l := sortBy (fun (a b : Nat) => decide (a ≤ b)) lanes
  let a := Reg.HMC_LANES p
  let s := ((s.setFld a F.HMC_LANES_LANEA (l.getD 0 0xFF)).setFld a F.HMC_LANES_LANEB (l.getD 1 0xFF)).setFld a F.HMC_LANES_USED (min l.length 2)
  if 2 < l.length then s.failPch p (maskOf l)
  else
    let s := s.setFld a F.HMC_LANES_STATE (b2n (!l.isEmpty))
    s.setPch p { s.pchAt p with trained := true, lastRefresh := s.now, scrubStart := s.now }

/-- STACK_TRAINED (R594, Table 17.5): a stack ends its training, with the failing lanes of its pseudo-channels, or fails. -/
def execStackTrained (k : Stack) (ok : Bool) (lanes : List (Nat × Nat)) (s : State) : Host.Outcome State Fault Refusal :=
  if s.rst.phase == .ladder && s.stkAt k == 2 then
    let ps := (List.range 32).map (· + 32 * k.val)
    let of := fun (p : Nat) => (lanes.filter (fun x => x.1 == p)).map (·.2)
    if ok then .next (forAll ps (fun p s => s.trainPch p (of p)) (s.setStk k 3))
    else
      let s := s.record { cause := ⟨0x0564, 2, 5⟩, subject := k, arg0 := lanes.length }
      .next (forAll ps (fun p s => s.failPch p (maskOf (of p))) (s.setStk k 4))
  else .next s

/-! ### Reset pins (R588, R597, R609, R611, R612) -/

/-- PERST_N (R588): the level taken; its assertion asks for a warm reset. -/
def execPerstN (asserted : Bool) (s : State) : Host.Outcome State Fault Refusal :=
  let s := { s with rst := { s.rst with perst := asserted } }
  .next (if asserted then s.startReset false trigPerst else s)

/-- What the board's external programmer has written into the flash while the SPI pins were high impedance (R562, R613): an empty
slot is an erased one. -/
def State.program (s : State) (board : List (Nat × List Byte)) : State :=
  { s with mc := { s.mc with flash := board.foldl (fun t c =>
      if c.2.all (· == 0xFF) then Tab.erase t c.1 else Tab.insert t c.1 c.2) s.mc.flash } }

/-- SYSRST_N (R588): a cold reset; at its release, the flash is as the board has left it (R613). -/
def execSysrstN (asserted : Bool × List (Nat × List Byte)) (s : State) : Host.Outcome State Fault Refusal :=
  let t := { s with rst := { s.rst with sysrst := asserted.1 } }
  .next (if asserted.1 then t.startReset true trigSys else if s.rst.sysrst then t.program asserted.2 else t)

/-- PWRGOOD_RISE (R588, R612): a cold reset, and the straps: SMB_ADDR in bits 2 to 0, TEST in bit 3. The flash is as the board has
left it (R613). -/
def execPwrgoodRise (straps : BitVec 4 × List (Nat × List Byte)) (s : State) : Host.Outcome State Fault Refusal :=
  .next (if s.rst.pwrgood then s
    else (({ s with rst := { s.rst with pwrgood := true, straps := straps.1.toNat } } : State).program straps.2).afterReset true trigPwr)

/-- PWRGOOD_FALL (R609): the device stops at once, without reset entry. -/
def execPwrgoodFall (s : State) : Host.Outcome State Fault Refusal :=
  let s := (s.afterReset true trigPwr)
  .next { s with rst := { s.rst with pwrgood := false, phase := .off } }

/-! ### Clock failures (R587, R599) -/

/-- Has reset been released? -/
def State.clocked (s : State) : Bool := s.rst.phase == .ladder || s.rst.phase == .running

/-- REFCLK_LOSS (R587): with the frequency measured, in kHz. -/
def execRefclkLoss (khz : Nat) (s : State) : Host.Outcome State Fault Refusal :=
  let t := { s with rst := { s.rst with refclkLost := true } }
  .next (if s.clocked && 2 ≤ s.rung && !s.rst.refclkLost then (t.platRecord 0x0560 3 khz 0).fatalNow else t)

/-- REFCLK_RETURN (R587, R599): a start-up held at rung 2 goes on, and the flash log is written. -/
def execRefclkReturn (s : State) : Host.Outcome State Fault Refusal := .next { s with rst := { s.rst with refclkLost := false } }

/-- SYNTH_LOSS (R587): of the management, core or memory synthesizer once it has locked. -/
def execSynthLoss (synth : Fin 3) (s : State) : Host.Outcome State Fault Refusal :=
  .next (if s.clocked && bit (s.reg Reg.CLK_STAT) synth.val then
    ((s.setReg Reg.CLK_STAT (s.reg Reg.CLK_STAT - 2 ^ synth.val)).platRecord 0x0561 3 synth 0).fatalNow
  else s)

/-- SYNTH_RELOCK (R362, R587): the link synthesizer has lost lock and locked again: every ACTIVE port loses lock. -/
def execSynthRelock (s : State) : Host.Outcome State Fault Refusal :=
  .next (if s.clocked && bit (s.reg Reg.CLK_STAT) 3 then
    let s := (s.count Reg.CLK_RELOCK 1).platRecord 0x0562 1 3 0
    forAll (List.range 16) (fun n s => if s.lnkState n = 6 then s.lockLost n 0 0 0 else s) s
  else s)

/-- HOST_LINK_UP (R504, R593): the host link reaches L0. -/
def execHostLinkUp (rate width : Nat) (flit l0p : Bool) (s : State) : Host.Outcome State Fault Refusal :=
  .next (if s.clocked && 3 ≤ s.rung then s.hostTrained rate width flit l0p else s)

end Sys2Proof.Machine
end

