-- ==== Sys2Proof/Machine/Pins.lean ====
section
/-! DEFINITION. Machine/Pins.lean: the MIO pins, LSYNC, JTAG and UART (R613 to R624). -/

namespace Sys2Proof.Machine

/-! ### MIO (R620 to R622) -/

def State.mio (s : State) (n : Nat) : Mio := Tab.read s.pins.mio {} n
def State.setMio (s : State) (n : Nat) (x : Mio) : State := { s with pins := { s.pins with mio := Tab.write s.pins.mio {} n x } }

/-- Does Table 18.6 allow a function on a pin? -/
def mioAllowed (n f : Nat) : Bool := f ≤ 3 || (f == 4 && n ≤ 3) || (f == 5 && n == 4) || (f == 6 && n == 15)

/-- The next KCLK edge: every 40 ns (R583). -/
def State.kclkEdge (s : State) : Nat := (s.now / nsec 40 + 1) * nsec 40

/-- A write of PIN_MUX[n] (R620, R621): the codes the table allows are kept for the next KCLK edge, the last write of several
deciding. CLKSEL is pin 15's; its reserved codes leave it unchanged. -/
def State.writeMux (s : State) (n func clksel : Nat) : State :=
  let cur := s.reg (Reg.PIN_MUX n)
  let f := if mioAllowed n func then func else bits cur 3 0
  let c := if n = 15 && clksel ≤ 4 then clksel else bits cur 7 4
  let s := s.setReg (Reg.PIN_MUX n) (c * 16 + f)
  s.setMio n { s.mio n with pendMux := some (f, s.kclkEdge) }

/-- Writes whose KCLK edge has come (R621, R622): a change of function starts, or restarts, the hold of 80 ns. -/
def State.muxEdge (s : State) (n : Nat) : State :=
  let x := s.mio n
  match x.pendMux with
  | none => s
  | some (f, t) =>
    if t ≤ s.now then
      -- during a hold the pad carries no function; the one the hold was for never drives
      s.setMio n (if f = x.func then { x with pendMux := none } else { x with func := f, pendMux := none, holdEnd := some (t + nsec 80) })
    else s

/-- MIO_MUX_WRITE (R620 to R622). -/
def execMioMuxWrite (n : Fin 16) (func clksel : BitVec 4) (s : State) : Host.Outcome State Fault Refusal :=
  .next (((s.dropHeld 0).muxEdge n).writeMux n func.toNat clksel.toNat)

/-- The level an output function drives (Table 18.6); none for SAFE, GPIN and the clock of CLKOBS, which no level describes. -/
def State.mioDrive (s : State) (n : Nat) : Option Bool :=
  match (s.mio n).func with
  | 2 => some (bit (s.fld Reg.PIN_GPIO F.PIN_GPIO_OUT) n)
  | 3 => some (!(s.fabPort n).carries)
  | 4 => some (!bit (s.fld Reg.PWR_STATE F.PWR_STATE_REASONS) n)
  | 5 => some (!(s.sosin.ready && !s.fatal))
  | _ => none

/-- MIO_HOLD_END (R621, R622): the pad leaves its hold, driving the value of that instant. -/
def execMioHoldEnd (n : Fin 16) (s : State) : Host.Outcome State Fault Refusal :=
  let s := s.muxEdge n
  let x := s.mio n
  match x.holdEnd with
  | some t =>
    .next (if t ≤ s.now then
      let s := s.setMio n { x with holdEnd := none }
      match s.mioDrive n with
      | some v => s.emit (.pin n v)
      | none => s
    else s)
  | none => .next s

/-- A write of PIN_PULL[n] (R622): 3 leaves it unchanged; it takes effect at the next KCLK edge. -/
def State.writePull (s : State) (n pull : Nat) : State :=
  if pull = 3 then s else s.setMio n { s.mio n with pendPull := some (pull, s.kclkEdge) }

/-- Pulls whose KCLK edge has come. -/
def State.pullEdge (s : State) (n : Nat) : State :=
  let x := s.mio n
  match x.pendPull with
  | some (v, t) => if t ≤ s.now then (s.setMio n { x with pendPull := none }).setReg (Reg.PIN_PULL n) v else s
  | none => s

/-- PIN_PULL_WRITE (R622). -/
def execPinPullWrite (n : Fin 16) (pull : BitVec 2) (s : State) : Host.Outcome State Fault Refusal :=
  .next (((s.dropHeld 0).pullEdge n).writePull n pull.toNat)

/-- The pull in effect on a pin. -/
def State.pullOf (s : State) (n : Nat) : Nat := (s.pullEdge n).fld (Reg.PIN_PULL n) F.PIN_PULL_PULL

/-- PIN_GPIO.IN bit n (R621, Table 18.9): the pad's level, or the safe level during a hold. -/
def State.mioIn (s : State) (n : Nat) : Bool :=
  let s := s.muxEdge n
  let x := s.mio n
  match x.holdEnd with
  | some t => if s.now < t then s.pullOf n != 1 else (s.mioDrive n).getD (bit s.pins.levels n)
  | none => (s.mioDrive n).getD (bit s.pins.levels n)

/-! ### LSYNC (R617) -/

/-- Is the net held low by the device's own pulse? -/
def State.pulsing (s : State) : Bool := match s.pins.pulseEnd with | some t => decide (s.now < t) | none => false

/-- LSYNC_EDGE (R615, R617): a falling edge is taken, 80 ns after it. -/
def execLsyncEdge (s : State) : Host.Outcome State Fault Refusal :=
  let s := s.setReg Reg.PIN_LSTAMP (s.clkTime - 80)
  .next (s.setFld Reg.PIN_LSYNC F.PIN_LSYNC_COUNT (satAdd 16 (s.fld Reg.PIN_LSYNC F.PIN_LSYNC_COUNT) 1))

/-- The device drives LSYNC low for 1 µs from the next REFCLK edge; a PULSE during its own pulse is ignored (R617). -/
def State.pulse (s : State) : State :=
  if s.pulsing then s
  else ({ s with pins := { s.pins with pulseEnd := some ((s.now / 630 + 1) * 630 + usec 1) } } : State).emit (.pin 16 false)

/-- LSYNC_PULSE (R617). -/
def execLsyncPulse (s : State) : Host.Outcome State Fault Refusal := .next (s.dropHeld 0).pulse

/-! ### JTAG and UART (R618, R619) -/

/-- JTAG_INSTRUCTION (R618): no instruction changes the state of the model: IDCODE and BYPASS read, one that drives pins acts on
the pads in reset only. A private instruction in debug mode has no stated effect. -/
def execJtagInstruction (i : JtagInstr) (s : State) : Host.Outcome State Fault Refusal :=
  match i with
  | .privateOne => if s.debug && s.fld Reg.MGT_FUSE F.MGT_FUSE_DBGOFF = 0 then .refused .privateJtag else .next (s.emit (.jtag 0))
  | .idcode => .next (s.emit (.jtag 0x27A809B7))
  | .drivesPins => .next (s.emit (.jtag (b2n s.rst.sysrst)))
  | .other => .next (s.emit (.jtag 0))

/-- UART_RX (R619): read in debug mode, discarded otherwise. -/
def execUartRx (b : Byte) (s : State) : Host.Outcome State Fault Refusal :=
  .next (if s.debug then { s with pins := { s.pins with uartRx := s.pins.uartRx ++ [b] } } else s)

end Sys2Proof.Machine
end

