-- ==== Sys2Proof/Machine/Complete.lean ====
section
/-! DEFINITION. Machine/Complete.lean: the completion of Sosin commands: what each waits for after its effect (R438, R442, R454,
R458, R462, R473, R479, R481, R563). -/

namespace Sys2Proof.Machine

/-- No record of an area waits for the flash (R563). -/
def State.flashed (s : State) (area : Nat) : Bool := !s.mc.jobs.any (fun j => j.area == area)

/-- The record a command keeps in flash before it is reported complete (R563): a wrapped key, or the boot choice. -/
def State.keptInFlash (s : State) (op : Nat) : Bool :=
  if op = 0x0601 || op = 0x0109 then s.flashed 4 else if op = 0x0C02 then s.flashed 1 else true

/-- Is the key slot that a TENANT_REMOVE zeroised empty (R186)? -/
def State.keyEmptied (s : State) (x : MbxSlot) : Bool := field x.copy 0 2 != 0x0109 || s.keyState (field x.copy 32 1) != 3

/-- Has the port's flush ended, or does it run none? -/
def State.gpfOver (s : State) (n : Nat) : Bool := let g := (s.farAt n).gpf; g == 0 || g == 3

/-- Has what a command waits for come (Table of each command's rule)? -/
def State.waitOver (s : State) (x : MbxSlot) : Bool :=
  let op := field x.copy 0 2
  match x.wait with
  | .none => s.keptInFlash op && s.keyEmptied x
  | .ring p => (match Tab.find s.rings p with | some r => r.admitted == 0 | none => true)
  | .fill h => (match Tab.find s.images h with | some i => i.filling.isNone | none => true)
  | .page p page => s.flashed 6 && (s.pchAt p).retired.any (fun r => r.page == page && r.moved == 4)
  | .revoke v _ => s.tenantQuiet v
  | .gpf => s.gpfOver 0 && s.gpfOver 1
  | .reset _ => s.keptInFlash op
  | .shards _ => (match x.exchange with | some e => s.exchangeOver op x e | none => true)

/-- The last part of a command's effect, made as it completes. DESIGN CHOICE: of a ring pair destroyed every register returns to its
reset value, not STATE alone (log entry 125). -/
def State.finish (s : State) (x : MbxSlot) : State × MbxSlot :=
  match x.wait with
  | .ring p =>
    (({ s with rings := Tab.erase s.rings p } : State).resetRegs (Reg.QFE_SQTAIL p) 64, { x with payload := leBytes 4 (s.reg (Reg.QFE_CQLOST p)) })
  | .revoke v remove => (if remove then s.removeTenant v else s, x)
  | .shards h => match x.exchange with
    | some e => s.shardsDone h (field x.copy 0 2) x e
    | none => (s, x)
  | _ => (s, x)

/-- A DEV_RESET or UPD_ACTIVATE resets the device after its response (R454, R481). -/
def State.resetAfter (s : State) (w : Wait) : State :=
  match w with
  | .reset t => s.commandReset t
  | _ => s

/-- TENANT_REMOVE keeps the zeroised key in flash, and its slot is empty, before it is complete (R186, R563): its second wait. -/
def MbxSlot.again (x : MbxSlot) : Bool := match x.wait with | .revoke _ remove => remove | _ => false

/-- An abort that comes before a command's turn (R442). -/
def State.abortPosted (s : State) (m k : Nat) (x : MbxSlot) : State :=
  let s := if field x.copy 0 2 = 0x0C01 then s.setFw s.inactiveSlot {} else s
  s.respond m k { x with status := sABORTED, detail := 0, payload := [], buf := [] }

/-- A command whose effect is made writes its response, if its wait is over. -/
def State.completeCmd (s : State) (m k : Nat) (x : MbxSlot) : State :=
  if x.status != 0 then s.respond m k x
  else if !s.waitOver x then s
  else
    let r := s.finish x
    if x.again && !(r.1.flashed 4 && r.1.keyEmptied x) then r.1.setSlot m k { r.2 with wait := .none }
    else (r.1.respond m k r.2).resetAfter x.wait

/-- COMMAND_COMPLETE (R438): a command whose effect is made, and whose wait is over, writes its response. -/
def execCommandComplete (m : Mbx) (k : MSlot) (s : State) : Host.Outcome State Fault Refusal :=
  let x := s.slotAt m k
  if x.st != 2 || !s.sosin.ready || s.inReset then .next s
  else if !x.ran then .next (if x.abort && x.abortable then s.abortPosted m k x else s)
  else .next (s.completeCmd m k x)

end Sys2Proof.Machine
end

