-- ==== Sys2Proof/Machine/Tick.lean ====
section
/-! DEFINITION. Machine/Tick.lean: the step tick (R125 to R133, R139, R157, R158, R171, R518 to R521, R628 to R631) and the write
of the interference allowance. STEP_TICK ends the open tick (rung 6) and opens the next one (rungs 1 to 5): what is commanded
between two of them happens within a tick, from the time `now` of its start. -/

namespace Sys2Proof.Machine

/-! ### Rungs 1 to 3: what becomes visible, what ends, and who is ready -/

/-- A ring pair created in the tick before becomes ACTIVE (R88), or STOPPED when its tenant is revoked. -/
def State.openRing (s : State) (x : Nat × Ring) : State :=
  if x.2.fresh then
    let gone := match Tab.find s.tenants (ringVf x.1) with | some t => t.revoked | none => true
    (s.setRing x.1 { x.2 with fresh := false }).setReg (Reg.QFE_RSTATE x.1) (if gone then 2 else 1)
  else s

/-- Semaphores released in the tick before can be granted (R170). -/
def State.warmSems (s : State) : State :=
  { s with indexes := s.indexes.map (fun (x : Nat × Index) => (x.1, { x.2 with cooling := [] })) }

/-- The doorbells of the tick before take effect (R89). -/
def State.seeDoorbells (s : State) : State :=
  { s with rings := s.rings.map (fun (x : Nat × Ring) =>
      (x.1, { x.2 with tail := s.reg (Reg.QFE_SQTAIL x.1) % 2 ^ 16, head := s.reg (Reg.QFE_CQHEAD x.1) % 2 ^ 16 })) }

/-- Rung 1 (R126): a new tick, in which the arrivals of the tick before are visible. -/
def State.rungSee (s : State) : State :=
  let s := (s.count64 Reg.STB_TICK 1).slewRatio
  let s := s.thmReport
  let s := (forAll s.rings (fun x s => s.openRing x) s).seeDoorbells
  ((s.warmSems).openStarve).flrStart

/-- Rung 2 (R126, R162): cancels, deadlines and timers, revocations, then slot boundaries and their kills. -/
def State.rungEnd (s : State) : State :=
  let s := s.rungEnds
  let s := forAll s.parts (fun x s => (s.installSlices x.1).slotBoundary x.1) s
  let s := forAll (List.range 16) (fun n s => (s.actRetrain n).codeTimeout n) s
  (s.grantRamps).leagueLost

/-- Does a sequence wait for what another holds: a semaphore, or the turn of its index, in its PLACE (R169, R172)? -/
def State.waitsFor (s : State) (i : Index) (holder : Nat × Sequence) (x : Nat × Sequence) : Bool :=
  x.1 != holder.1 && x.2.index == holder.2.index && x.2.ending.isNone &&
    (x.2.waitsOn.any holder.2.sems.contains
      || (holder.2.opcode == 4 && x.2.opcode == 4 && i.pubs.head? == some holder.1 && i.pubs.contains x.1
        && x.2.stage == stPLACE && s.waiter x.1 x.2))

/-- Effective level of a sequence (R171): the highest of its class and its waiters' classes. -/
def State.levelOf (s : State) (x : Nat × Sequence) : Nat :=
  if x.2.isQuery then x.2.cls
  else match Tab.find s.indexes x.2.index with
    | some i => (s.seqs.filter (fun y => s.waitsFor i x y)).foldl (fun n y => min n y.2.cls) x.2.cls
    | none => x.2.cls

/-- Every effective level, at rung 3 of a tick. -/
def State.lendLevels (s : State) : State :=
  { s with seqs := s.seqs.map (fun (x : Nat × Sequence) => (x.1, { x.2 with elevel := s.levelOf x })) }

/-- STB_OCC (Table 4.9). -/
def State.countLive (s : State) : State :=
  forAll (List.range 5) (fun n s => s.setReg (Reg.STB_OCC n) (s.seqs.filter (fun (x : Nat × Sequence) => x.2.elevel == n)).length) s

/-- Sequences in work-list order. -/
def workOrder (l : List (Nat × Sequence)) : List (Nat × Sequence) := sortBy (fun a b => lexLe (workKey a) (workKey b)) l

/-- A stage has ended and nothing else decides: ready, its partition aside. -/
def Sequence.idle (q : Sequence) : Bool := q.phase == .done && !q.killed && !q.committing

/-- Is its end decided by a cancel, a deadline, a revocation or a timer, whose FIN is outside capacity (R132, R393)? -/
def Sequence.ended (q : Sequence) : Bool :=
  q.ending == some .cancelled || q.ending == some .deadline || q.ending == some .revoked || q.ending == some .ok

/-- Rung 3 (R126, R127, R157, R158, R164): levels, an early handover, killed work armed again; and the ready sequences. -/
def State.rungReady (s : State) : State :=
  let s := (s.lendLevels).countLive
  let s := forAll s.parts (fun x s => s.earlyHandover x.1) s
  forAll (s.seqs.filter (fun (x : Nat × Sequence) => x.2.phase == .again && !x.2.killed)) (fun x s => s.rerun x.1) s

def State.readyList (s : State) : List Nat :=
  (workOrder (s.seqs.filter (fun (x : Nat × Sequence) => x.2.idle && s.holds x.2.vf x.2.elevel))).map (·.1)

/-- LC queries that wait because their tenant does not hold the partition (Table 4.7, WITHHELD), one whose stage was killed too. -/
def State.voidAway (s : State) : State :=
  forAll (s.seqs.filter (fun (x : Nat × Sequence) => (x.2.phase == .done || x.2.phase == .again) && !x.2.committing && !x.2.ended
      && !s.holds x.2.vf x.2.elevel))
    (fun x s => s.voidSeq x.1 voidWithheld) s

/-! ### Rung 5: starts -/

/-- Start slots a stage of capacity c loses in tick n at the ratio q/64 (R520). -/
def bubbles (c q n : Nat) : Nat := c * q * (n % 64 + 1) / 64 - c * q * (n % 64) / 64

/-- Ratio in force, in 1/64. -/
def State.ratio (s : State) : Nat := s.fld Reg.PWR_STATE F.PWR_STATE_RATIO

/-- Stages, by shared start capacity, and whether bubbles fall on them (Table 4.4, R520). -/
def startGroups : List (List Nat × Nat × Bool) :=
  [([stENC], 128, true), ([stCQ], 64, true), ([stPROBE], 64, true), ([stMERGE], 32, true), ([stRERANK], 8, true),
   ([stENTRY], 64, true), ([stHOP], 256, true), ([stPLACE], 64, true), ([stFOLD], 4, true),
   ([stFIN, stCOMMIT, stUPSEND], 32, false)]

/-- Starts reserved to a quiet partition of n roods (Table 5.8). -/
def quietStarts (c n : Nat) : Nat := max 1 (c * n / 16)

/-- The starts of one group in a tick: made, lost to the group's capacity, made outside the reserves, and by reserve. -/
structure Starting where
  s : State
  used : Nat := 0
  lost : Nat := 0
  shared : Nat := 0
  quiet : Tab Nat := []

/-- Is there room in the reserve of the sequence's partition, or in what the reserves leave (R181)? -/
def Starting.room (a : Starting) (c vf : Nat) : Bool :=
  match a.s.quietPart vf with
  | some (k, n) => decide (Tab.read a.quiet 0 k < quietStarts c n)
  | none => decide (a.shared + a.s.parts.foldl (fun m x => if x.2.quiet then m + quietStarts c x.2.roods.length else m) 0 < c)

/-- Does the group's capacity c, less b bubbles, allow a start? A reserve is fixed whatever other partitions start, and only a bubble
takes from it (R181, R183). -/
def Starting.able (a : Starting) (c b vf : Nat) : Bool := decide (a.used + b < c) || (b == 0 && (a.s.quietPart vf).isSome)

/-- A ready sequence that is not started (R130). -/
def State.withheld (s : State) (e level reason : Nat) : State := (s.count64 (Reg.STB_WITHHELD level) 1).voidSeq e reason

/-- Try one ready sequence of a group of capacity c that has lost b slots (R129, R130, R133). -/
def Starting.try_ (c b : Nat) (a : Starting) (e : Nat) : Starting :=
  match Tab.find a.s.seqs e with
  | none => a
  | some q =>
    let room := a.room c q.vf
    match a.s.startStage e with
    | .notReady t => { a with s := t }
    | .withheld t => { a with s := t.withheld e q.elevel voidWithheld }
    | .started t =>
      if room && a.able c b q.vf then
        { a with s := t, used := a.used + 1,
                 shared := if (a.s.quietPart q.vf).isSome then a.shared else a.shared + 1,
                 quiet := match a.s.quietPart q.vf with
                   | some (k, _) => Tab.insert a.quiet k (Tab.read a.quiet 0 k + 1)
                   | none => a.quiet }
      else
        -- a start that full capacity would have taken is lost to the bubble (R133)
        { a with s := a.s.withheld e q.elevel (if room && decide (a.used + a.lost < c) then voidBubble else voidWithheld),
                 lost := if room then a.lost + 1 else a.lost }

/-- The starts of a group, in work-list order. -/
def State.startGroup (ready : List Nat) (g : List Nat × Nat × Bool) (s : State) : State :=
  let mine := ready.filter (fun e => match Tab.find s.seqs e with
    | some q => q.idle && !q.ended && g.1.contains (s.nextStage q)
    | none => false)
  (mine.foldl (fun a e => a.try_ g.2.1 (if g.2.2 then bubbles g.2.1 s.ratio s.tick else 0) e) { s := s : Starting }).s

/-- Sharded queries whose ADM or ENC has ended send their request (R389). -/
def State.multicasts (s : State) : State :=
  forAll (s.seqs.filter (fun (x : Nat × Sequence) =>
      x.2.isQuery && x.2.home.isNone && s.isSharded x.2 && !x.2.remote.sent && x.2.idle && x.2.ending.isNone && x.2.poison.isNone
        && decide (x.2.admitTick < s.tick) && (s.nextStage x.2 == stCQ || s.nextStage x.2 == stENTRY)))
    (fun x s => s.multicast x.1) s

/-- The FINs of sequences that a cancel, a deadline or a revocation has ended, whoever holds the partition (R132, R165). -/
def State.startEnds (s : State) : State :=
  forAll (s.seqs.filter (fun (x : Nat × Sequence) => x.2.ended && x.2.phase == .done && !x.2.committing))
    (fun x s => (s.startStage x.1).state) s

/-- Rung 5 (R126, R129). -/
def State.rungStart (s : State) (ready : List Nat) : State :=
  let s := (s.multicasts).startEnds
  startGroups.foldl (fun s g => s.startGroup ready g) s

/-! ### Rung 6: commits -/

/-- A shard part commits: its writes take effect, and its report goes to the fabric (R141, R399, R400). -/
def State.commitPart (s : State) (e : Nat) : State :=
  match Tab.find s.seqs e with
  | none => s
  | some q =>
    let s := if !q.isQuery && q.ending.isNone && s.localWrite q then s.writeEffect e else s
    match Tab.find s.seqs e with
    | none => s
    | some q =>
      let s :=
        if q.isQuery then s.upsendQuery q
        else if q.opcode = 4 then
          match s.fab.pubs.find? (fun p => p.index == q.index && some (p.home, p.hent) == q.home) with
          | some p => (s.setPub { p with phase := 2 }).pubReport p 9
          | none => s
        else s.upsendWrite q
      s.release e

/-- The commits of a tick (R67, R105, R108): those of ring pairs by ring pair and then submission, and then shard parts. The FIN of
a descriptor that failed at admission takes no start slot (DESIGN CHOICE, log entry 121). -/
def State.commits (s : State) : State :=
  let due := s.seqs.filter (fun (x : Nat × Sequence) => x.2.committing)
  let own : List (List Nat × (Nat ⊕ Failing)) := (due.filter (fun (x : Nat × Sequence) => x.2.home.isNone)).map (fun x => ([x.2.rp.getD 1024, x.2.order], .inl x.1))
  let bad : List (List Nat × (Nat ⊕ Failing)) := (s.failing.filter (fun (f : Failing) => decide (f.tick < s.tick))).map (fun f => ([f.rp, f.order], .inr f))
  let s := { s with failing := s.failing.filter (fun (f : Failing) => !decide (f.tick < s.tick)) }
  let s := forAll (sortBy (fun a b => lexLe a.1 b.1) (own ++ bad)) (fun x s =>
    match x.2 with
    | .inl e => s.commitSeq e (s.tick + 1 - (match Tab.find s.seqs e with | some q => q.admitTick | none => 0))
    | .inr f => s.commitFailing f) s
  forAll (workOrder (due.filter (fun (x : Nat × Sequence) => x.2.home.isSome))) (fun x s => s.commitPart x.1) s

/-- Activity of the entries held in the tick, and the static energy of its time (Table 15.7 class 7, R538). -/
def State.tickEnergy (s : State) : State :=
  let s := forAll s.seqs (fun x s => s.act 7 x.2.vf 1) s
  forAll (List.range 4) (fun d s => s.addModel d 0 (1000 * stepUnits s.op * s.reg (Reg.MTR_STATIC (6 * d + s.op)))) s

/-- Ring pairs whose signal is due (R490). -/
def State.signals (s : State) : State :=
  forAll (s.rings.filter (fun (x : Nat × Ring) => s.signalDue x.2)) (fun x s => s.signal x.1) s

/-! ### The ledger (R627 to R631)

Checks 1 to 12 compare a count with its complement, of which this state holds one only: they balance whatever it is. Check 16
holds by R539. Checks 13 to 15 compare two parts of the state. -/

/-- A breach: check, sub-instance, instance, right and left side (R629). -/
def State.ledgerBreach (s : State) (check sub inst right left : Nat) : State :=
  let s := if s.fld Reg.LDG_STAT F.LDG_STAT_CHECK = 0 then s.setFld Reg.LDG_STAT F.LDG_STAT_CHECK check else s
  s.record { cause := Cause.ledgerBreach, arg0 := check + sub * 2 ^ 8 + inst % 2 ^ 32 * 2 ^ 16, arg1 := right, arg2 := left }

/-- Live sequences that have pinned a record of an index (check 14). -/
def State.pinsHeld (s : State) (h t : Nat) : Nat :=
  (s.seqs.filter (fun (x : Nat × Sequence) => x.2.index == h && (match x.2.pin with | some (r, _) => r == t | none => false))).length

/-- Semaphores of an index that live sequences record (check 15). -/
def State.semsHeld (s : State) (h : Nat) : Nat :=
  (s.seqs.filter (fun (x : Nat × Sequence) => x.2.index == h)).foldl (fun n x => n + x.2.sems.length) 0

/-- The checks at the end of a tick. Every instance is evaluated in every tick. -/
def State.ledger (s : State) : State :=
  let depth := s.fld Reg.HMC_BEDEPTH (15, 0)
  let s := forAll (s.tokens.filter (fun (x : Nat × Nat) => decide (depth < x.2))) (fun x s => s.ledgerBreach 13 0 x.1 depth x.2) s
  let s := forAll s.indexes (fun x s => forAll (List.range 5) (fun t s =>
    if (x.2.record t).pins = s.pinsHeld x.1 t then s else s.ledgerBreach 14 t x.1 (s.pinsHeld x.1 t) (x.2.record t).pins) s) s
  let s := forAll s.indexes (fun x s =>
    if x.2.sems.length = s.semsHeld x.1 then s else s.ledgerBreach 15 0 x.1 (s.semsHeld x.1) x.2.sems.length) s
  let s := s.setFld Reg.LDG_STAT F.LDG_STAT_RUNNING 1
  if s.sweepTick + 1 = 1024 then ({ s with sweepTick := 0 } : State).count64 Reg.LDG_SWEEP 1 else { s with sweepTick := s.sweepTick + 1 }

/-- Deleted filters of a sharded index that no query of this home pins any more: their shards may delete them now (R25, R26). -/
def State.dropShardFilters (s : State) : State :=
  forAll (s.filters.filter (fun (x : Nat × Filter) => x.2.deleted && x.2.pins == 0)) (fun x s =>
    match Tab.find s.indexes x.2.index with
    | some i => if i.sharded && i.homeDev == s.devId then s.tellShards i 0x0302 (leBytes 8 x.2.handle) else s
    | none => s) s

/-- Commands whose effect is made and whose wait is over write their responses in the tick of the effect (R445). One after whose
response the device resets is left to COMMAND_COMPLETE. -/
def State.respondDue (s : State) : State :=
  if !s.sosin.ready || s.inReset then s
  else forAll s.running (fun x s => let y := s.slotAt x.1 x.2.1
    match y.wait with
    | .reset _ => s
    | _ => if y.st = 2 && y.ran then s.completeCmd x.1 x.2.1 y else s) s

/-- Rung 6 (R126, R139, R243, R259, R426): marks, commits, fold steps, retirees, and what the end of a tick settles. -/
def State.rungCommit (s : State) : State :=
  let s := (s.markTick).tickEnergy
  let s := s.commits
  let s := forAll (workOrder (s.seqs.filter (fun (x : Nat × Sequence) => x.2.folding))) (fun x s => s.foldEnds x.1) s
  let s := (({ s.chooseRetirees with heldHeads := [] } : State).countHeld s.heldHeads).dropShardFilters
  let s := ((s.flrEnd).reapStores).countStarve
  let s := { s with seqs := s.seqs.map (fun (x : Nat × Sequence) => (x.1, { x.2 with killed := false, heldBack := false })) }
  ((s.powerTick).ledger).respondDue

/-- The end of a tick (R486, R487, R499, R504): signals, releases of records, level-2 bits, interrupts, and entry into the fatal state. -/
def State.closeTick (s : State) : State :=
  let s := s.signals
  let s := forAll (List.range 6) (fun d s => s.releaseRecords d) s
  let s := s.applyRaised.requestIrqs
  match s.fatalPend with
  | some p => (s.enterFatal p).setFld Reg.LDG_STAT F.LDG_STAT_RUNNING 0
  | none => s

/-! ### The tick -/

/-- Does the step builder's clock run: CCLK from rung 8 of the start-up ladder, its synthesizer locked (R125, R587, R593)? -/
def State.ticking (s : State) : Bool :=
  !s.inReset && !s.rst.refclkLost && bit (s.reg Reg.CLK_STAT) 1
    && (s.rst.phase == .running || (s.rst.phase == .ladder && decide (8 ≤ s.rung)))

/-- Rungs 1 to 5 of a tick of a device whose data plane is up. A PROBE of an earlier tick gives way to its SCAN, which may end from
this tick on (R134, Table 4.4). -/
def State.runTick (s : State) : State :=
  let h := s.headroom
  let s := ((s.rungSee).rungEnd).rungReady
  let ready := s.readyList
  let s := s.voidAway
  let s := forAll s.seqs (fun x s => s.probeEnds x.1) s
  let a := s.admitTick h (32 - bubbles 32 s.ratio s.tick)
  (({ a.s with heldHeads := a.held } : State).retryWaiting).rungStart ready

/-- The opening of a tick of a device in the fatal state (R505): sensors and power go on; nothing is fetched, admitted or started. In
the tick after t0 the ports go down. -/
def State.fatalTickRun (s : State) : State :=
  let s := ((s.count64 Reg.STB_TICK 1).slewRatio).thmReport
  let s := s.flrStart
  let s := if s.fatalTick = some (s.tick - 1) then ({ s with fatalTick := none } : State).fatalStop else s
  (s.grantRamps).fatalRequests

/-- The end of a tick (R126 rung 6); in the fatal state nothing commits (R505). A key slot zeroised in it is empty (R193). -/
def State.finishTick (s : State) : State :=
  let s := { s with far := { s.far with zeroising := [] } }
  (if s.fatal then ((s.tickEnergy).flrEnd).powerTick else s.rungCommit).closeTick

/-- STEP_TICK (R125, R126): the open tick ends, its time passes, and the next tick opens. Where the step builder's clock does not
run, time passes and nothing else happens. -/
def State.stepTick (s : State) : State :=
  if s.ticking then
    let s := s.finishTick
    let s := { s with now := s.now + stepUnits s.op }
    if s.fatal then s.fatalTickRun else s.runTick
  else
    let s := ({ s with far := { s.far with zeroising := [] } } : State).applyRaised.fatalNow
    { s with now := s.now + stepUnits s.op }

def execStepTick (s : State) : Host.Outcome State Fault Refusal := .next s.stepTick

/-- The allowance written to STB_LCALLOW (R144, Table 4.9): above 32 it stores 32; locked by the seal (R9). -/
def State.setAllow (s : State) (v : Nat) : State :=
  if s.sealed then s else s.setReg Reg.STB_LCALLOW (min (v % 64) 32)

/-- STB_LCALLOW (R8, R144). -/
def execStbLcallow (val : Word32) (s : State) : Host.Outcome State Fault Refusal := .next ((s.dropHeld 0).setAllow val.toNat)

end Sys2Proof.Machine
end

