-- ==== Sys2Proof/Machine/Access.lean ====
section
/-! DEFINITION. Machine/Access.lean: how the host reads and writes registers, mailbox pages and MSI-X tables through the BARs
(R5 to R15, R413, R414, R644 to R652). -/

namespace Sys2Proof.Machine

/-! ### What an offset names (Table 12.3, Table 20.4) -/

/-- What an offset of a BAR names. -/
inductive Place where
  /-- An offset of register space, or of a summary register above it (log entry 6). -/
  | reg (off : Nat)
  | mbx (m off : Nat)
  | msix (off : Nat)
  | pba (off : Nat)
  /-- No area occupies it (R413). -/
  | gap
deriving DecidableEq, Repr

/-- Size of a BAR (R412). -/
def viewSize : BarView → Nat
  | .pf0 => 2 ^ 24
  | .pf2 => 0x8_0000
  | .vf _ => 0x1_0000

/-- Areas of PF BAR2 and of VF BAR0: the ring area, then the summary register, mailbox page, MSI-X table and pending bit array
at their offsets. -/
def areaOf (n ringBase ringLen sum page tab pba off : Nat) : Place :=
  if off < ringLen then .reg (ringBase + off)
  else if sum ≤ off && off < sum + 8 then .reg (summary n + (off - sum))
  else if page ≤ off && off < page + 4096 then .mbx n (off - page)
  else if tab ≤ off && off < tab + 16 then .msix (off - tab)
  else if pba ≤ off && off < pba + 8 then .pba (off - pba)
  else .gap

/-- Decode an offset of a BAR. -/
def place (v : BarView) (off : Nat) : Place :=
  match v with
  | .pf0 => .reg off
  | .pf2 => areaOf 0 0 0x1_0000 0x1_1000 0x1_0000 0x1_2000 0x1_2800 off
  | .vf f => areaOf (f.val + 1) (f.val * 0x400) 0x400 0x1000 0x2000 0x3000 0x3800 off

/-- Is the size of an access allowed there, naturally aligned (R5, R414)? -/
def sizeOk (p : Place) (off size : Nat) : Bool :=
  match p with
  | .gap => true
  | .mbx _ _ => (size == 4 || size == 8 || size == 64) && off % size == 0
  | _ => (size == 4 || size == 8) && off % size == 0

/-- Ring pair whose window an offset of a PF view lies in. -/
def windowOf (v : BarView) (off : Nat) : Option Nat :=
  match v with
  | .vf _ => none
  | _ => if off < 0x1_0000 then some (off / 64) else none

/-! ### Fields -/

/-- May software change a field of this access code (R8)? No register of this device has an RWO field. -/
def Access.writable : Access → Bool
  | .RW | .W1C | .W1S | .WO | .LK | .RWO => true
  | .RO | .RC => false

/-- Bits of the fields of a register whose access code passes a test. -/
def RegRow.mask (r : RegRow) (p : Access → Bool) : Nat :=
  r.fields.foldl (fun a f => if p f.acc then a + ones (f.hi + 1 - f.lo) * 2 ^ f.lo else a) 0

/-- The bits of `v` outside a mask. -/
def without (v m : Nat) : Nat := v - (v &&& m)

/-- Value a register stores after a write of `x` to the bits `m` (Table 0.4): LK fields follow the seal. -/
def RegRow.written (r : RegRow) (locked : Bool) (old x m : Nat) : Nat :=
  let rw := r.mask (fun a => a == .RW || (a == .LK && !locked)) &&& m
  let c := r.mask (· == .W1C) &&& m
  let w := r.mask (· == .W1S) &&& m
  (without (without old rw) (x &&& c)) + (x &&& rw) ||| (x &&& w)

/-- Row and offset of the register that holds the bytes from a 4 B aligned offset: a register at the offset, or the 64-bit
register whose high half lies there. -/
def occupant (off : Nat) : Option (RegRow × Nat) :=
  match regRow? off with
  | some r => some (r, off)
  | none =>
    match regRow? (off - 4) with
    | some r => if r.wide && off == off / 4 * 4 && 4 ≤ off then some (r, off - 4) else none
    | none => none

/-- Number of a register in its row. -/
def RegRow.number (r : RegRow) (off : Nat) : Nat := if r.stride = 0 then 0 else (off - r.base) / r.stride

/-! ### Registers that show something else of the state -/

/-- The partition that a rood belongs to. -/
def State.partOfRood (s : State) (r : Nat) : Option Partition := (s.parts.find? (fun (x : Nat × Partition) => x.2.roods.contains r)).map (·.2)

/-- STB_RHOLD (Table 5.7's fields): holder, BOUND, QUIET and SWITCHING of a rood. -/
def State.rholdView (s : State) (r : Nat) : Nat :=
  match s.partOfRood r with
  | some p => p.holder + 128 + 256 * b2n p.quiet + 512 * b2n p.switching
  | none => 0

/-- WCB_OCC (R274): entries of the share of the rood's partition. -/
def State.occView (s : State) (r : Nat) : Nat := match s.partOfRood r with | some p => s.wcbShare p.roods | none => 0

/-- HMC_SPARE (R304): hard repairs left, remaps queued, soft spares left. -/
def State.spareView (s : State) (p : Nat) : Nat :=
  let c := s.pchAt p
  s.hardLeft p * 2 ^ 16 + c.remapQ.length * 2 ^ 8 + (64 - c.spares)

/-- HELD and UNACK of ERR_QSTAT (R509). -/
def State.qstatView (s : State) (d : Nat) : Nat :=
  let l := (s.errQueue d).recs
  l.length * 2 ^ 8 + min 31 (l.filter (fun r => !r.acked)).length

/-- SEQ of the oldest held record (R509). -/
def State.oldestView (s : State) (d : Nat) : Nat :=
  match (s.errQueue d).recs with
  | [] => 0
  | r :: l => l.foldl (fun m x => min m x.seq) r.seq

/-- PIN_INPUTS (R624): a level asserted reads 1. -/
def State.inputsView (s : State) : Nat :=
  b2n (s.pulsing || s.pins.lsyncLow) * 4 + b2n s.pwr.vralert * 2 + b2n s.pwr.pfailPin

/-- DBGDATA (R213, R232): the accumulator register that MXE_DBGSEL selects, of the four arrays of 128 × 128 cells with eight 32-bit
registers each. In debug mode only; what a computation leaves in a cell is a free value (log entry 113). -/
def State.dbgData (s : State) : Nat :=
  let v := s.reg Reg.MXE_DBGSEL
  match Tab.find s.accs (bits v 31 30 * 32 + bits v 22 16 / 32 * 8 + bits v 2 0) with
  | some c => if s.debug then (Config.freeValue (c + bits v 29 23 * 128 + bits v 22 16)).toNat % 2 ^ 32 else 0
  | none => 0

/-- A 64-bit free value that shows the next draw without taking it: what a debug read finds where no rule states the contents
(log entry 91). -/
def State.shownFree (s : State) (n : Nat) : Nat := (Config.freeValue (s.free + n)).toNat

/-- The 512 bytes of an entry of the sequence table (R121, Table 4.1). OPND and SCRATCH are free values (log entry 91). -/
def State.entryBytes (s : State) (e : Nat) (q : Sequence) : List Byte :=
  let d := q.desc
  let query := fun (x : Nat) => if q.isQuery then x else 0
  leBytes 1 q.stage ++ leBytes 1 q.cls ++ leBytes 1 q.elevel ++ leBytes 1 q.opcode ++ leBytes 4 q.tag
    ++ leBytes 2 (if q.home.isSome then 0xFFFF else q.rp.getD 0xFFFF) ++ leBytes 1 q.void ++ leBytes 1 q.allow
    ++ leBytes 2 q.flags ++ leBytes 2 q.walk.hops
    ++ leBytes 8 q.admitTick ++ leBytes 8 ((q.dline.getD 0) / 63) ++ leBytes 8 q.index
    ++ leBytes 8 ((q.pin.getD (0, 0)).2) ++ leBytes 4 (q.filter.getD 0)
    ++ leBytes 2 (query (QueryDesc.k d)) ++ leBytes 2 (query (QueryDesc.nprobe d)) ++ leBytes 2 (query (QueryDesc.rerank d))
    ++ leBytes 2 (query (QueryDesc.w d)) ++ leBytes 2 (query (QueryDesc.fathom d)) ++ leBytes 2 q.cands.length
    ++ leBytes 8 q.seed ++ leBytes 8 (extAddr e 0) ++ leBytes 8 (s.shownFree 0) ++ leBytes 4 q.pending
    ++ List.replicate 36 0 ++ slice q.code 0 128
    ++ (List.range 32).flatMap (fun k => leBytes 8 (s.shownFree (k + 1)))

/-- Is an offset of register space in the SEQ window (R648)? -/
def inSeq (off : Nat) : Bool := decide (0x80_0000 ≤ off) && decide (off < 0x100_0000)

/-- A 4 B read of the SEQ window (R648): an entry in debug mode, a free entry zero, and zero outside debug mode. -/
def State.seqRead4 (s : State) (off : Nat) : Nat :=
  let e := (off - 0x80_0000) / 512
  match Tab.find s.seqs e with
  | some q => if s.debug then field (s.entryBytes e q) (off % 512) 4 else 0
  | none => 0

/-- The value of a register, with the fields that show another part of the state. -/
def State.view (s : State) (r : RegRow) (off : Nat) : Nat :=
  let v := s.reg off
  let n := r.number off
  if r.base = Reg.STB_RHOLD 0 then s.rholdView n
  else if r.base = Reg.SEC_KEYSTATE 0 then s.keyState n
  else if r.base = Reg.MXE_DBGCTL then b2n s.debug
  else if r.base = Reg.MXE_DBGDATA then s.dbgData
  else if r.base = Reg.WCB_OCC 0 then s.occView n
  else if r.base = Reg.WCB_DEVOCC then (s.wcb.filter (fun (x : Nat × WcbEntry) => x.2.rood.isNone)).length
  else if r.base = Reg.HMC_SPARE 0 then s.spareView n
  else if r.base = Reg.FTC_OUTST then s.farOut
  else if r.base = Reg.FAB_REMOTE then s.remotesOut
  else if r.base = Reg.MBX_INFLIGHT then s.running.length
  else if r.base = Reg.MBX_POSTED then (s.slots.filter (fun x => x.2.2.st == 1)).length
  else if r.base = Reg.ERR_QSTAT 0 then bits v 63 32 * 2 ^ 32 + s.qstatView n
  else if r.base = Reg.ERR_OLDEST 0 then s.oldestView n
  else if r.base = Reg.IRQ_PIN then bits v 1 1 * 2 + b2n s.irqPin
  else if r.base = Reg.CLK_TIME then s.clkTime
  else if r.base = Reg.PIN_PULL 0 then s.pullOf n
  else if r.base = Reg.PIN_GPIO then maskOf ((List.range 16).filter s.mioIn) * 2 ^ 16 + bits v 15 0
  else if r.base = Reg.PIN_INPUTS then s.inputsView
  else if r.base = Reg.SUMMARY_PF then setBits v 47 43 (s.groups 0)
  else if r.base = Reg.SUMMARY_VF 0 then setBits v 47 43 (s.groups (n + 1))
  else v

/-- What a read of a register returns: reserved and WO fields read zero (R9, R13). -/
def State.readable (s : State) (r : RegRow) (off : Nat) : Nat := s.view r off &&& r.mask (fun a => a != .WO)

/-! ### Reads (R7, R8, R11, R652) -/

/-- A read at a clock edge clears every RC field of a register. -/
def State.clearRc (s : State) (r : RegRow) (off : Nat) : State :=
  let m := r.mask (· == .RC)
  if m = 0 then s else s.setReg off (without (s.reg off) m)

/-- A 4 B read of register space. -/
def State.read4 (s : State) (f off : Nat) : State × Nat :=
  match occupant off with
  | none => (s, if inSeq off then s.seqRead4 off else 0)
  | some (r, a) =>
    let s := s.touch f a
    let v := s.readable r a
    if !r.wide then (s.clearRc r a, v)
    else if a = off then
      ((s.setShadow f { s.shadow f with rd := some (a, v / 2 ^ 32) }).clearRc r a, v % 2 ^ 32)
    else match (s.shadow f).rd with
      | some (b, h) => if b = a then (s.setShadow f { s.shadow f with rd := none }, h) else (s, v / 2 ^ 32)
      | none => (s, v / 2 ^ 32)

/-- Does an aligned 8 B access name one 64-bit register? -/
def wideAt (off : Nat) : Option RegRow :=
  match regRow? off with
  | some r => if r.wide then some r else none
  | none => none

/-- Is the half at an offset occupied by a register? -/
def occupied (off : Nat) : Bool := (occupant off).isSome

/-- An 8 B read of register space: a 64-bit register whole, or two 4 B reads at one edge (R652). -/
def State.read8 (s : State) (f off : Nat) : State × Nat :=
  match wideAt off with
  | some r =>
    let s := s.touch f off
    (s.clearRc r off, s.readable r off)
  | none =>
    let s := if occupied off || occupied (off + 4) then s.dropHeld f else s
    let x := s.read4 f off
    let y := x.1.read4 f (off + 4)
    (y.1, x.2 + y.2 * 2 ^ 32)

/-! ### Writes (R8, R9, R13, R652) -/

/-- HMC_BEDEPTH (R246): below 32 stores 32. A bucket above the new depth is cut to it (log entry 52). -/
def State.setDepth (s : State) (v : Nat) : State :=
  let d := max 32 v
  let t := (List.range 512).filterMap (fun k => let n := min d (s.bucketTokens (k / 16) (k % 16)); if n = d then none else some (k, n))
  ({ s with tokens := t } : State).setReg Reg.HMC_BEDEPTH d

/-- LNK_PCTL, field by field (R337, R356, R357, R364, R366). -/
def State.pctlWrite (s : State) (n x : Nat) : State :=
  let s := (s.lnkMedia n (bit x 4)).lnkRatemax n (bits x 9 8)
  let s := s.setFld (Reg.LNK_PCTL n) F.LNK_PCTL_DOZE (bits x 1 1)
  let s := if s.fld (Reg.LNK_PCTL n) F.LNK_PCTL_ENABLE = bits x 0 0 then s else s.lnkEnable n (bit x 0)
  s.lnkRetrain n (bits x 15 14)

/-- PIN_GPIO.OUT (R620, R621): pins of function GPOUT outside a hold change at once. -/
def State.gpioWrite (s : State) (v : Nat) : State :=
  let old := s.fld Reg.PIN_GPIO F.PIN_GPIO_OUT
  forAll (List.range 16) (fun n s =>
    let s := s.muxEdge n
    if (s.mio n).func = 2 && bit old n != bit v n && (s.mio n).holdEnd.isNone then s.emit (.pin n (bit v n)) else s)
    (s.setFld Reg.PIN_GPIO F.PIN_GPIO_OUT v)

/-- A write of `x` to the bits `m` of a register reaches it. Registers whose writes do more than store have their own arm. -/
def State.regWrite (s : State) (r : RegRow) (off x m : Nat) : State :=
  let n := r.number off
  let new := r.written s.sealed (s.reg off) x m
  if r.base = Reg.QFE_SQTAIL 0 then s.sqDoorbell n (x % 2 ^ 16)
  else if r.base = Reg.QFE_CQHEAD 0 then s.cqDoorbell n (x % 2 ^ 16)
  else if r.base = Reg.QFE_CANCEL 0 then s.cancelWrite n x
  else if r.base = Reg.STB_LCALLOW then s.setAllow x
  else if r.base = Reg.HMC_BERATE then s.setReg off (max 1 new)
  else if r.base = Reg.HMC_BEDEPTH then s.setDepth new
  else if r.base = Reg.HMC_CETHRESH then s.setReg off (max 1 (bits new 23 16) * 2 ^ 16 + max 1 (bits new 7 0))
  else if r.base = Reg.TGC_CTL 0 then s.tgcWrite n x
  else if r.base = Reg.FTC_DLAT 0 then s.operDlat n x
  else if r.base = Reg.FTC_TIMEOUT then s.setReg off (max 10 new)
  else if r.base = Reg.LNK_PCTL 0 then s.pctlWrite n x
  else if r.base = Reg.LNK_RAMP then s.setReg off (max 1 (min 16 new))
  else if r.base = Reg.FAB_PCTL 0 then (if bit x 16 then (s.setReg off new).unisolate n else s.setReg off new)
  else if r.base = Reg.FAB_FLY 0 then s.operFly n x
  else if r.base = Reg.THM_LIMIT then s.setReg off (min 1040 (bits new 31 16) * 2 ^ 16 + min 1100 (bits new 15 0))
  else if r.base = Reg.IRQ_PIN then s.forceIrq (bit x 1)
  else if r.base = Reg.MGT_LOGSEL then s.logSel x
  else if r.base = Reg.PIN_MUX 0 then (s.muxEdge n).writeMux n (bits x 3 0) (bits x 7 4)
  else if r.base = Reg.PIN_PULL 0 then (s.pullEdge n).writePull n (bits x 1 0)
  else if r.base = Reg.PIN_GPIO then s.gpioWrite (bits x 15 0)
  else if r.base = Reg.PIN_LSYNC then (if bit x 31 then s.pulse else s)
  else if r.mask Access.writable = 0 then s
  else s.setReg off new

/-- A 4 B write of register space. -/
def State.write4 (s : State) (f off x : Nat) : State :=
  match occupant off with
  | none => s
  | some (r, a) =>
    let s := s.touch f a
    if !r.wide then s.regWrite r a x (ones 32)
    else if a = off then
      if r.mask Access.writable = 0 then s else s.setShadow f { s.shadow f with wr := some (a, x) }
    else match (s.shadow f).wr with
      | some (_, lo) => (s.setShadow f { s.shadow f with wr := none }).regWrite r a (x * 2 ^ 32 + lo) (ones 64)
      | none => s.regWrite r a (x * 2 ^ 32) (ones 64 - ones 32)

/-- An 8 B write of register space. -/
def State.write8 (s : State) (f off x : Nat) : State :=
  match wideAt off with
  | some r => (s.touch f off).regWrite r off x (ones 64)
  | none =>
    let s := if occupied off || occupied (off + 4) then s.dropHeld f else s
    (s.write4 f off (x % 2 ^ 32)).write4 f (off + 4) (x / 2 ^ 32 % 2 ^ 32)

/-! ### Mailbox pages (Table 13.1, Table 13.2) -/

/-- Slot and byte of a slot area that an offset of a mailbox page names. -/
def slotByte (off : Nat) : Option (Nat × Nat) :=
  if 0x100 ≤ off && off < 0x100 + 4 * 0x3C0 then some ((off - 0x100) / 0x3C0, (off - 0x100) % 0x3C0) else none

/-- MBX_INFO (Table 13.2). -/
def State.mbxInfo (s : State) (m : Nat) : Nat := 0x0100 * 2 ^ 48 + m * 2 ^ 32 + 0x01C0 * 2 ^ 16 + 0x40 + s.mbxState m

/-- MBX_SLOTSTATE. -/
def State.slotStates (s : State) (m : Nat) : Nat :=
  (List.range 4).foldl (fun a k => a + (s.slotAt m k).st * 4 ^ k) 0

/-- A 4 B read of a mailbox page. -/
def State.mbxRead4 (s : State) (m off : Nat) : Nat :=
  match slotByte off with
  | some (k, b) => let x := s.slotAt m k; if b < 480 then field x.req b 4 else field x.resp (b - 480) 4
  | none =>
    if off = 0 then s.mbxInfo m % 2 ^ 32
    else if off = 4 then s.mbxInfo m / 2 ^ 32
    else if off = 0xC then s.slotStates m
    else 0

/-- Store bytes in a buffer that holds 480 bytes. -/
def patch (bs : List Byte) (off : Nat) (new : List Byte) : List Byte := splice (slice bs 0 480) off new

/-- A 4 B write of a mailbox page. -/
def State.mbxWrite4 (s : State) (m off x : Nat) : State :=
  match slotByte off with
  | some (k, b) =>
    let c := s.slotAt m k
    s.setSlot m k (if b < 480 then { c with req := patch c.req b (leBytes 4 x) } else { c with resp := patch c.resp (b - 480) (leBytes 4 x) })
  | none =>
    if off = 8 then s.mbxDoorbell m (x % 16)
    else if off = 0x10 then s.mbxAck m (x % 16)
    else if off = 0x14 then s.mbxAbort m (x % 16)
    else s

/-- The registers of a mailbox page are registers: an access to them discards a held low half (R8). -/
def State.touchPage (s : State) (f off : Nat) : State := if off < 0x18 then s.dropHeld f else s

/-- The register that a read shadow names for MBX_INFO of a mailbox: above every offset of register space. -/
def mbxInfoTag (m : Nat) : Nat := 2 ^ 32 + m

/-- A read of a mailbox page. MBX_INFO is a 64-bit register (Table 13.1): a 4 B read of its low half latches the high half, and one of
its high half takes it from the shadow (R7). -/
def State.mbxRead (s : State) (f m off size : Nat) : State × Nat :=
  let s := s.touchPage f off
  let v := leNat ((List.range (size / 4)).flatMap (fun k => leBytes 4 (s.mbxRead4 m (off + 4 * k))))
  if size = 4 && off = 0 then (s.setShadow f { s.shadow f with rd := some (mbxInfoTag m, s.mbxInfo m / 2 ^ 32) }, v)
  else if size = 4 && off = 4 then
    match (s.shadow f).rd with
    | some (b, h) => if b = mbxInfoTag m then (s.setShadow f { s.shadow f with rd := none }, h) else (s, v)
    | none => (s, v)
  else (s, v)

/-! ### The MSI-X table (R421) -/

/-- A 4 B read of the table: address, data, mask. -/
def FnState.msixRead4 (x : FnState) (off : Nat) : Nat :=
  if off = 0 then x.msixAddr % 2 ^ 32 else if off = 4 then x.msixAddr / 2 ^ 32 else if off = 8 then x.msixData else b2n x.msixMask

/-- A 4 B write of the table; unmasking sends a pending message. -/
def State.msixWrite4 (s : State) (f off v : Nat) : State :=
  let x := s.fnAt f
  if off = 0 then s.setFn f { x with msixAddr := x.msixAddr / 2 ^ 32 * 2 ^ 32 + v / 4 * 4 }
  else if off = 4 then s.setFn f { x with msixAddr := v * 2 ^ 32 + x.msixAddr % 2 ^ 32 }
  else if off = 8 then s.setFn f { x with msixData := v }
  else (s.setFn f { x with msixMask := v % 2 == 1 }).sendPending f

/-! ### Accesses of any place -/

/-- The record of an access of the wrong size or alignment (R6, R414). -/
def State.badSize (s : State) (v : BarView) (off : Nat) : State :=
  let f := barFn v
  let bar := match v with | .pf0 => 1 | .pf2 => 3 | .vf _ => 1
  match place v off with
  | .reg a =>
    if a < 2 ^ 24 then s.record { cause := Cause.regSize, func := f, subject := f, addr := regBase + a }
    else s.record { cause := Cause.regSize, func := f, subject := f, addr := off, arg0 := bar }
  | _ => s.record { cause := Cause.regSize, func := f, subject := f, addr := off, arg0 := bar }

/-- Offsets of the 4 B parts of an access. -/
def parts4 (off size : Nat) : List Nat := (List.range (size / 4)).map (fun k => off + 4 * k)

/-- A well-formed read of a place. -/
def State.readPlace (s : State) (f : Nat) (p : Place) (size : Nat) : State × Nat :=
  match p with
  | .reg a => if size = 8 then s.read8 f a else s.read4 f a
  | .mbx m a => s.mbxRead f m a size
  | .msix a => (s, leNat ((parts4 a size).flatMap (fun o => leBytes 4 ((s.fnAt f).msixRead4 o))))
  | .pba a => (s, if a = 0 then b2n (s.fnAt f).msixPend else 0)
  | .gap => (s, 0)

/-- A well-formed write of a place; the lower address first. -/
def State.writePlace (s : State) (f : Nat) (p : Place) (size x : Nat) : State :=
  match p with
  | .reg a => if size = 8 then s.write8 f a (x % 2 ^ 64) else s.write4 f a (x % 2 ^ 32)
  | .mbx m a => forAll (parts4 a size) (fun o s => s.mbxWrite4 m o (x / 2 ^ (8 * (o - a)) % 2 ^ 32)) (s.touchPage f a)
  | .msix a => forAll (parts4 a size) (fun o s => s.msixWrite4 f o (x / 2 ^ (8 * (o - a)) % 2 ^ 32)) s
  | .pba _ => s
  | .gap => s

/-- Is memory space closed to an access of a BAR (R414)? -/
def State.accessShut (s : State) (v : BarView) : Bool := !s.memOpen (barFn v)

/-- The window of a locked TDI, for a PF view (R415, R647). -/
def State.windowShut (s : State) (v : BarView) (off : Nat) : Bool :=
  match windowOf v off with
  | some p => s.tdiBlocked v p
  | none => false

/-- A host read. -/
def State.hostRead (s : State) (v : BarView) (off size : Nat) : State :=
  let f := barFn v
  if viewSize v ≤ off then s
  else if s.accessShut v then s.shutAccess v off true
  else if s.windowShut v off then s.tdiBlock v off
  else if !sizeOk (place v off) off size then (s.badSize v off).emit (.readData f (some 0))
  else
    let x := s.readPlace f (place v off) size
    x.1.emit (.readData f (some x.2))

/-- A host write. -/
def State.hostWrite (s : State) (v : BarView) (off size x : Nat) : State :=
  if viewSize v ≤ off then s
  else if s.accessShut v then s.shutAccess v off false
  else if s.windowShut v off then s.tdiBlock v off
  else if !sizeOk (place v off) off size then s.badSize v off
  else s.writePlace (barFn v) (place v off) size x

/-! ### The rows -/

/-- REGISTER_WRITE (R9, R13, R15, R645): a host write of any size. -/
def execRegisterWrite (v : BarView) (off size val : Nat) (s : State) : Host.Outcome State Fault Refusal := .next (s.hostWrite v off size val)

/-- REG_SIZE (R6): an access of the wrong size or alignment; any other leaves the state unchanged. -/
def execRegSize (v : BarView) (off size : Nat) (write : Bool) (s : State) : Host.Outcome State Fault Refusal :=
  .next (if sizeOk (place v off) off size then s else if write then s.hostWrite v off size 0 else s.hostRead v off size)

/-- Which half of a 64-bit register an offset of a BAR names: its offset there. -/
def halfAt (v : BarView) (off : Nat) : Option (Nat × Bool) :=
  match place v off with
  | .reg a => match occupant a with | some (r, b) => if r.wide then some (b, b == a) else none | none => none
  | _ => none

/-- LOW_HALF_READ (R7, R8, R11). -/
def execLowHalfRead (v : BarView) (off : Nat) (s : State) : Host.Outcome State Fault Refusal :=
  .next (match halfAt v off with | some (_, true) => s.hostRead v off 4 | _ => s)

/-- HIGH_HALF_READ (R7, R8). -/
def execHighHalfRead (v : BarView) (off : Nat) (s : State) : Host.Outcome State Fault Refusal :=
  .next (match halfAt v off with | some (_, false) => s.hostRead v off 4 | _ => s)

/-- RC_READ (R8, R9, R11): an aligned read of a register, and of any other place: RC fields clear at its edge. -/
def execRcRead (v : BarView) (off size : Nat) (s : State) : Host.Outcome State Fault Refusal := .next (s.hostRead v off size)

/-- LOW_HALF_WRITE (R8). -/
def execLowHalfWrite (v : BarView) (off : Nat) (val : Word32) (s : State) : Host.Outcome State Fault Refusal :=
  .next (match halfAt v off with | some (_, true) => s.hostWrite v off 4 val.toNat | _ => s)

/-- HIGH_HALF_WRITE (R8). -/
def execHighHalfWrite (v : BarView) (off : Nat) (val : Word32) (s : State) : Host.Outcome State Fault Refusal :=
  .next (match halfAt v off with | some (_, false) => s.hostWrite v off 4 val.toNat | _ => s)

/-- SPLIT_8B_ACCESS (R652): an aligned 8 B access that names no 64-bit register. -/
def execSplit8bAccess (v : BarView) (off : Nat) (write : Option Word64) (s : State) : Host.Outcome State Fault Refusal :=
  .next (match place v off with
    | .reg a =>
      if (wideAt a).isSome then s
      else match write with
        | some x => s.hostWrite v off 8 x.toNat
        | none => s.hostRead v off 8
    | _ => s)

end Sys2Proof.Machine
end

