-- ==== Sys2Proof/Machine/Dispatch.lean ====
section
/-! DEFINITION. Machine/Dispatch.lean: one arm per command, each a direct call of its meaning. -/

namespace Sys2Proof.Machine

def exec (i : Instr) (s : State) : Host.Outcome State Fault Refusal :=
  match i with
  | .registerWrite v off size val => Sys2Proof.Machine.execRegisterWrite v off size val s
  | .regSize v off size write => Sys2Proof.Machine.execRegSize v off size write s
  | .lowHalfRead v off => Sys2Proof.Machine.execLowHalfRead v off s
  | .highHalfRead v off => Sys2Proof.Machine.execHighHalfRead v off s
  | .rcRead v off size => Sys2Proof.Machine.execRcRead v off size s
  | .lowHalfWrite v off val => Sys2Proof.Machine.execLowHalfWrite v off val s
  | .highHalfWrite v off val => Sys2Proof.Machine.execHighHalfWrite v off val s
  | .split8bAccess v off write => Sys2Proof.Machine.execSplit8bAccess v off write s
  | .stepTick => Sys2Proof.Machine.execStepTick s
  | .qfeSqtail v p val => Sys2Proof.Machine.execQfeSqtail v p val s
  | .qfeCqhead v p val => Sys2Proof.Machine.execQfeCqhead v p val s
  | .qfeCancel v p tag => Sys2Proof.Machine.execQfeCancel v p tag s
  | .cancelAct p => Sys2Proof.Machine.execCancelAct p s
  | .descriptorFetch p data => Sys2Proof.Machine.execDescriptorFetch p data s
  | .sqFetchFault p k => Sys2Proof.Machine.execSqFetchFault p k s
  | .operandStage p vec code => Sys2Proof.Machine.execOperandStage p vec code s
  | .cqWriteFault p k => Sys2Proof.Machine.execCqWriteFault p k s
  | .resultWriteFault e k => Sys2Proof.Machine.execResultWriteFault e k s
  | .query p desc vec code => Sys2Proof.Machine.execQuery p desc vec code s
  | .insert p desc vec code => Sys2Proof.Machine.execInsert p desc vec code s
  | .delete p desc => Sys2Proof.Machine.execDelete p desc s
  | .publish p desc => Sys2Proof.Machine.execPublish p desc s
  | .stageComplete e => Sys2Proof.Machine.execStageComplete e s
  | .listLineReturn e line => Sys2Proof.Machine.execListLineReturn e line s
  | .centroidPass g => Sys2Proof.Machine.execCentroidPass g s
  | .scanRequest e addr => Sys2Proof.Machine.execScanRequest e addr s
  | .hopRequest e addr => Sys2Proof.Machine.execHopRequest e addr s
  | .rawRequest e addr words => Sys2Proof.Machine.execRawRequest e addr words s
  | .lineReadReturn e line => Sys2Proof.Machine.execLineReadReturn e line s
  | .survivorCollect e => Sys2Proof.Machine.execSurvivorCollect e s
  | .contextMiss e line => Sys2Proof.Machine.execContextMiss e line s
  | .killRerun e => Sys2Proof.Machine.execKillRerun e s
  | .deadlineExpire e => Sys2Proof.Machine.execDeadlineExpire e s
  | .slotBoundary part => Sys2Proof.Machine.execSlotBoundary part s
  | .switchEnd part => Sys2Proof.Machine.execSwitchEnd part s
  | .fillDone image => Sys2Proof.Machine.execFillDone image s
  | .streamEnc e => Sys2Proof.Machine.execStreamEnc e s
  | .foldStep e => Sys2Proof.Machine.execFoldStep e s
  | .revokeSequences v => Sys2Proof.Machine.execRevokeSequences v s
  | .burstStart p => Sys2Proof.Machine.execBurstStart p s
  | .burstComplete p errs => Sys2Proof.Machine.execBurstComplete p errs s
  | .displace p addr => Sys2Proof.Machine.execDisplace p addr s
  | .tokenRefill => Sys2Proof.Machine.execTokenRefill s
  | .drainEligible word => Sys2Proof.Machine.execDrainEligible word s
  | .drainMerge word errs => Sys2Proof.Machine.execDrainMerge word errs s
  | .drainComplete word => Sys2Proof.Machine.execDrainComplete word s
  | .wholeWordStream addr data => Sys2Proof.Machine.execWholeWordStream addr data s
  | .poolAtomic op off wide operand comparand masks => Sys2Proof.Machine.execPoolAtomic op off wide operand comparand masks s
  | .refreshDue p => Sys2Proof.Machine.execRefreshDue p s
  | .ceDecay => Sys2Proof.Machine.execCeDecay s
  | .copyRead p errs => Sys2Proof.Machine.execCopyRead p errs s
  | .copyWrite p => Sys2Proof.Machine.execCopyWrite p s
  | .scrubRead p errs => Sys2Proof.Machine.execScrubRead p errs s
  | .scrubLate p => Sys2Proof.Machine.execScrubLate p s
  | .tgcCtl p val => Sys2Proof.Machine.execTgcCtl p val s
  | .tgcRunDone p errs => Sys2Proof.Machine.execTgcRunDone p errs s
  | .farPortTrained n c => Sys2Proof.Machine.execFarPortTrained n c s
  | .farAbsentRetry n c => Sys2Proof.Machine.execFarAbsentRetry n c s
  | .ftcDlat n val => Sys2Proof.Machine.execFtcDlat n val s
  | .farReadIssue n => Sys2Proof.Machine.execFarReadIssue n s
  | .farReadReturn n tag poisoned => Sys2Proof.Machine.execFarReadReturn n tag poisoned s
  | .readTimeout n tag => Sys2Proof.Machine.execReadTimeout n tag s
  | .farWriteComplete n => Sys2Proof.Machine.execFarWriteComplete n s
  | .farLinkDown n => Sys2Proof.Machine.execFarLinkDown n s
  | .farLinkRetrain n c => Sys2Proof.Machine.execFarLinkRetrain n c s
  | .gpfPhase2Response n done => Sys2Proof.Machine.execGpfPhase2Response n done s
  | .devEventPoll events => Sys2Proof.Machine.execDevEventPoll events s
  | .syncWord n rate lane word skew => Sys2Proof.Machine.execSyncWord n rate lane word skew s
  | .searchSlot n => Sys2Proof.Machine.execSearchSlot n s
  | .fullSet n => Sys2Proof.Machine.execFullSet n s
  | .searchEnd n => Sys2Proof.Machine.execSearchEnd n s
  | .beacon n => Sys2Proof.Machine.execBeacon n s
  | .lockTimeout n => Sys2Proof.Machine.execLockTimeout n s
  | .adaptDone n => Sys2Proof.Machine.execAdaptDone n s
  | .adaptTimeout n => Sys2Proof.Machine.execAdaptTimeout n s
  | .firreq n lane req => Sys2Proof.Machine.execFirreq n lane req s
  | .dpdreq n lane req => Sys2Proof.Machine.execDpdreq n lane req s
  | .offsetUpdate n off => Sys2Proof.Machine.execOffsetUpdate n off s
  | .codeWindowEnd n meas => Sys2Proof.Machine.execCodeWindowEnd n meas s
  | .sync n rtt => Sys2Proof.Machine.execSync n rtt s
  | .lockLost n kind dev port => Sys2Proof.Machine.execLockLost n kind dev port s
  | .quickRetrain n => Sys2Proof.Machine.execQuickRetrain n s
  | .faultExpire n => Sys2Proof.Machine.execFaultExpire n s
  | .lnkEnable n on => Sys2Proof.Machine.execLnkEnable n on s
  | .lnkRetrain n val => Sys2Proof.Machine.execLnkRetrain n val s
  | .lnkRatemax n val => Sys2Proof.Machine.execLnkRatemax n val s
  | .lnkMedia n on => Sys2Proof.Machine.execLnkMedia n on s
  | .rampEnd n => Sys2Proof.Machine.execRampEnd n s
  | .dozeRequest n => Sys2Proof.Machine.execDozeRequest n s
  | .wake n relocked => Sys2Proof.Machine.execWake n relocked s
  | .flitReceive n flit corrections => Sys2Proof.Machine.execFlitReceive n flit corrections s
  | .nak n => Sys2Proof.Machine.execNak n s
  | .replayLimit n => Sys2Proof.Machine.execReplayLimit n s
  | .flitsLost n => Sys2Proof.Machine.execFlitsLost n s
  | .frameSend n => Sys2Proof.Machine.execFrameSend n s
  | .miswired n => Sys2Proof.Machine.execMiswired n s
  | .unisolate n => Sys2Proof.Machine.execUnisolate n s
  | .fabFly n val => Sys2Proof.Machine.execFabFly n val s
  | .qreq n => Sys2Proof.Machine.execQreq n s
  | .qlist n => Sys2Proof.Machine.execQlist n s
  | .laneEmit home hent gen => Sys2Proof.Machine.execLaneEmit home hent gen s
  | .remoteTimerExpire e => Sys2Proof.Machine.execRemoteTimerExpire e s
  | .subtreeTimerExpire home hent gen => Sys2Proof.Machine.execSubtreeTimerExpire home hent gen s
  | .cancelMsg n => Sys2Proof.Machine.execCancelMsg n s
  | .cancelKeepExpire => Sys2Proof.Machine.execCancelKeepExpire s
  | .wreq n => Sys2Proof.Machine.execWreq n s
  | .wrep n => Sys2Proof.Machine.execWrep n s
  | .writeRetry index shard => Sys2Proof.Machine.execWriteRetry index shard s
  | .pprep n => Sys2Proof.Machine.execPprep n s
  | .pprdy n => Sys2Proof.Machine.execPprdy n s
  | .pcommit n => Sys2Proof.Machine.execPcommit n s
  | .pdone n => Sys2Proof.Machine.execPdone n s
  | .publishRetry e => Sys2Proof.Machine.execPublishRetry e s
  | .lstate n => Sys2Proof.Machine.execLstate n s
  | .ldownPeriod => Sys2Proof.Machine.execLdownPeriod s
  | .ldown n => Sys2Proof.Machine.execLdown n s
  | .lup n => Sys2Proof.Machine.execLup n s
  | .leagueLost => Sys2Proof.Machine.execLeagueLost s
  | .memberLost d => Sys2Proof.Machine.execMemberLost d s
  | .mgt n => Sys2Proof.Machine.execMgt n s
  | .perstN asserted => Sys2Proof.Machine.execPerstN asserted s
  | .configRequest f op => Sys2Proof.Machine.execConfigRequest f op s
  | .hostUr v off secure => Sys2Proof.Machine.execHostUr v off secure s
  | .vfEnable on => Sys2Proof.Machine.execVfEnable on s
  | .numvfsWrite n => Sys2Proof.Machine.execNumvfsWrite n s
  | .systemPageSizeWrite val => Sys2Proof.Machine.execSystemPageSizeWrite val s
  | .tdiBlock p off => Sys2Proof.Machine.execTdiBlock p off s
  | .atsInvalidate f pasid addr len => Sys2Proof.Machine.execAtsInvalidate f pasid addr len s
  | .atsDenied u => Sys2Proof.Machine.execAtsDenied u s
  | .dmaTimeout u => Sys2Proof.Machine.execDmaTimeout u s
  | .dmaAbort u ca => Sys2Proof.Machine.execDmaAbort u ca s
  | .hostPoisonRx f u => Sys2Proof.Machine.execHostPoisonRx f u s
  | .hostProto kind => Sys2Proof.Machine.execHostProto kind s
  | .hostLinkCe kind => Sys2Proof.Machine.execHostLinkCe kind s
  | .hostDegraded rate width flit => Sys2Proof.Machine.execHostDegraded rate width flit s
  | .hostLinkDown hot => Sys2Proof.Machine.execHostLinkDown hot s
  | .busMasterEnable f on => Sys2Proof.Machine.execBusMasterEnable f on s
  | .msixUnmask f => Sys2Proof.Machine.execMsixUnmask f s
  | .ideFail st => Sys2Proof.Machine.execIdeFail st s
  | .ideKm st link cover key => Sys2Proof.Machine.execIdeKm st link cover key s
  | .lockInterfaceRequest v => Sys2Proof.Machine.execLockInterfaceRequest v s
  | .startInterfaceRequest v => Sys2Proof.Machine.execStartInterfaceRequest v s
  | .stopInterfaceRequest v => Sys2Proof.Machine.execStopInterfaceRequest v s
  | .tdiError v => Sys2Proof.Machine.execTdiError v s
  | .install v payload => Sys2Proof.Machine.execInstall v payload s
  | .spdmRequest peer r => Sys2Proof.Machine.execSpdmRequest peer r s
  | .getMeasurements peer index => Sys2Proof.Machine.execGetMeasurements peer index s
  | .vfFlr v => Sys2Proof.Machine.execVfFlr v s
  | .pfFlr => Sys2Proof.Machine.execPfFlr s
  | .flrComplete f => Sys2Proof.Machine.execFlrComplete f s
  | .mbxDoorbell m mask => Sys2Proof.Machine.execMbxDoorbell m mask s
  | .mbxAck m mask => Sys2Proof.Machine.execMbxAck m mask s
  | .mbxAbort m mask => Sys2Proof.Machine.execMbxAbort m mask s
  | .commandAccept => Sys2Proof.Machine.execCommandAccept s
  | .commandComplete m k => Sys2Proof.Machine.execCommandComplete m k s
  | .sosinStall m k => Sys2Proof.Machine.execSosinStall m k s
  | .mctpMessage tag msg => Sys2Proof.Machine.execMctpMessage tag msg s
  | .mctpBadPacket => Sys2Proof.Machine.execMctpBadPacket s
  | .hello m k => Sys2Proof.Machine.execHello m k s
  | .devinfo m k => Sys2Proof.Machine.execDevinfo m k s
  | .devReset m k => Sys2Proof.Machine.execDevReset m k s
  | .partCreate m k => Sys2Proof.Machine.execPartCreate m k s
  | .partModify m k => Sys2Proof.Machine.execPartModify m k s
  | .partDestroy m k => Sys2Proof.Machine.execPartDestroy m k s
  | .partSlices m k => Sys2Proof.Machine.execPartSlices m k s
  | .tenantBind m k => Sys2Proof.Machine.execTenantBind m k s
  | .tenantModify m k => Sys2Proof.Machine.execTenantModify m k s
  | .tenantRevoke m k => Sys2Proof.Machine.execTenantRevoke m k s
  | .tenantRestore m k => Sys2Proof.Machine.execTenantRestore m k s
  | .tenantRemove m k => Sys2Proof.Machine.execTenantRemove m k s
  | .keyGenerate m k => Sys2Proof.Machine.execKeyGenerate m k s
  | .seal m k => Sys2Proof.Machine.execSeal m k s
  | .tenantInfo m k => Sys2Proof.Machine.execTenantInfo m k s
  | .indexCreate m k data => Sys2Proof.Machine.execIndexCreate m k data s
  | .indexDestroy m k => Sys2Proof.Machine.execIndexDestroy m k s
  | .indexLoad m k data => Sys2Proof.Machine.execIndexLoad m k data s
  | .indexInfo m k => Sys2Proof.Machine.execIndexInfo m k s
  | .indexEncoder m k => Sys2Proof.Machine.execIndexEncoder m k s
  | .checkpoint m k => Sys2Proof.Machine.execCheckpoint m k s
  | .restore m k => Sys2Proof.Machine.execRestore m k s
  | .vecsum m k => Sys2Proof.Machine.execVecsum m k s
  | .filterCreate m k data => Sys2Proof.Machine.execFilterCreate m k data s
  | .filterDelete m k => Sys2Proof.Machine.execFilterDelete m k s
  | .imageRegister m k data => Sys2Proof.Machine.execImageRegister m k data s
  | .imageDelete m k => Sys2Proof.Machine.execImageDelete m k s
  | .imageFill m k => Sys2Proof.Machine.execImageFill m k s
  | .imagePin m k => Sys2Proof.Machine.execImagePin m k s
  | .imageUnpin m k => Sys2Proof.Machine.execImageUnpin m k s
  | .swset m k => Sys2Proof.Machine.execSwset m k s
  | .perchInfo m k => Sys2Proof.Machine.execPerchInfo m k s
  | .ringCreate m k => Sys2Proof.Machine.execRingCreate m k s
  | .ringDestroy m k => Sys2Proof.Machine.execRingDestroy m k s
  | .pasidSet m k => Sys2Proof.Machine.execPasidSet m k s
  | .tunCreate m k => Sys2Proof.Machine.execTunCreate m k s
  | .tunDelete m k => Sys2Proof.Machine.execTunDelete m k s
  | .tunInfo m k => Sys2Proof.Machine.execTunInfo m k s
  | .tunCopy m k data => Sys2Proof.Machine.execTunCopy m k data s
  | .fmapInstall m k => Sys2Proof.Machine.execFmapInstall m k s
  | .fmapInfo m k => Sys2Proof.Machine.execFmapInfo m k s
  | .pageRetire m k => Sys2Proof.Machine.execPageRetire m k s
  | .retireList m k => Sys2Proof.Machine.execRetireList m k s
  | .granuleTest m k => Sys2Proof.Machine.execGranuleTest m k s
  | .powerPolicy m k => Sys2Proof.Machine.execPowerPolicy m k s
  | .phaseSet m k => Sys2Proof.Machine.execPhaseSet m k s
  | .powerStatus m k => Sys2Proof.Machine.execPowerStatus m k s
  | .pfailNotice m k => Sys2Proof.Machine.execPfailNotice m k s
  | .meterRead m k => Sys2Proof.Machine.execMeterRead m k s
  | .meterCert m k => Sys2Proof.Machine.execMeterCert m k s
  | .errRead m k => Sys2Proof.Machine.execErrRead m k s
  | .errAck m k => Sys2Proof.Machine.execErrAck m k s
  | .errInject m k => Sys2Proof.Machine.execErrInject m k s
  | .updStage m k data => Sys2Proof.Machine.execUpdStage m k data s
  | .updActivate m k => Sys2Proof.Machine.execUpdActivate m k s
  | .updStatus m k => Sys2Proof.Machine.execUpdStatus m k s
  | .dbgEnter m k => Sys2Proof.Machine.execDbgEnter m k s
  | .dbgExit m k => Sys2Proof.Machine.execDbgExit m k s
  | .arm f => Sys2Proof.Machine.execArm f s
  | .summaryW1c f mask => Sys2Proof.Machine.execSummaryW1c f mask s
  | .summaryEnable f enable => Sys2Proof.Machine.execSummaryEnable f enable s
  | .coalesceTimer p => Sys2Proof.Machine.execCoalesceTimer p s
  | .recordRelease d => Sys2Proof.Machine.execRecordRelease d s
  | .logFault d kind => Sys2Proof.Machine.execLogFault d kind s
  | .irqPinForce on => Sys2Proof.Machine.execIrqPinForce on s
  | .pmbusPoll eins iouts => Sys2Proof.Machine.execPmbusPoll eins iouts s
  | .regLost k => Sys2Proof.Machine.execRegLost k s
  | .windowEnd => Sys2Proof.Machine.execWindowEnd s
  | .thmSample stk cores => Sys2Proof.Machine.execThmSample stk cores s
  | .opTransition relock => Sys2Proof.Machine.execOpTransition relock s
  | .voltageSettle mvs => Sys2Proof.Machine.execVoltageSettle mvs s
  | .vralertN asserted => Sys2Proof.Machine.execVralertN asserted s
  | .pfailN asserted => Sys2Proof.Machine.execPfailN asserted s
  | .minuteEnd => Sys2Proof.Machine.execMinuteEnd s
  | .meterSign => Sys2Proof.Machine.execMeterSign s
  | .mcWatchdog => Sys2Proof.Machine.execMcWatchdog s
  | .entropyFail => Sys2Proof.Machine.execEntropyFail s
  | .flashRecordWrite ok => Sys2Proof.Machine.execFlashRecordWrite ok s
  | .mgtLogsel lseq => Sys2Proof.Machine.execMgtLogsel lseq s
  | .logSearchDone => Sys2Proof.Machine.execLogSearchDone s
  | .bootImageSelect => Sys2Proof.Machine.execBootImageSelect s
  | .ready => Sys2Proof.Machine.execReady s
  | .bmcProbe outcome => Sys2Proof.Machine.execBmcProbe outcome s
  | .bmcPresent => Sys2Proof.Machine.execBmcPresent s
  | .pldmUpdateCommand c => Sys2Proof.Machine.execPldmUpdateCommand c s
  | .pldmUpdateTimeout => Sys2Proof.Machine.execPldmUpdateTimeout s
  | .getSensorReading id => Sys2Proof.Machine.execGetSensorReading id s
  | .pldmPdrRequest q => Sys2Proof.Machine.execPldmPdrRequest q s
  | .mctpControl c => Sys2Proof.Machine.execMctpControl c s
  | .refclkLoss khz => Sys2Proof.Machine.execRefclkLoss khz s
  | .synthLoss synth => Sys2Proof.Machine.execSynthLoss synth s
  | .synthRelock => Sys2Proof.Machine.execSynthRelock s
  | .pwrgoodRise straps => Sys2Proof.Machine.execPwrgoodRise straps s
  | .pwrgoodFall => Sys2Proof.Machine.execPwrgoodFall s
  | .sysrstN asserted => Sys2Proof.Machine.execSysrstN asserted s
  | .resetEntry => Sys2Proof.Machine.execResetEntry s
  | .startupLadder unlocked => Sys2Proof.Machine.execStartupLadder unlocked s
  | .hardRepairDone k refused => Sys2Proof.Machine.execHardRepairDone k refused s
  | .stackTrained k ok lanes => Sys2Proof.Machine.execStackTrained k ok lanes s
  | .mioMuxWrite n func clksel => Sys2Proof.Machine.execMioMuxWrite n func clksel s
  | .mioHoldEnd n => Sys2Proof.Machine.execMioHoldEnd n s
  | .pinPullWrite n pull => Sys2Proof.Machine.execPinPullWrite n pull s
  | .lsyncEdge => Sys2Proof.Machine.execLsyncEdge s
  | .lsyncPulse => Sys2Proof.Machine.execLsyncPulse s
  | .jtagInstruction j => Sys2Proof.Machine.execJtagInstruction j s
  | .uartRx b => Sys2Proof.Machine.execUartRx b s
  | .stbLcallow val => Sys2Proof.Machine.execStbLcallow val s
  | .hostProtoRecoveryTimeout => Sys2Proof.Machine.execHostProtoRecoveryTimeout s
  | .hostLinkUp rate width flit l0p => Sys2Proof.Machine.execHostLinkUp rate width flit l0p s
  | .refclkReturn => Sys2Proof.Machine.execRefclkReturn s
  | .mcSramError ue addr => Sys2Proof.Machine.execMcSramError ue addr s
  | .entropyHealthPass => Sys2Proof.Machine.execEntropyHealthPass s

end Sys2Proof.Machine
end

