-- ==== Sys2Proof/Safety.lean ====
section
/-! DEFINITION. Safety.lean: the words that claims about the device are stated in: sound memory, what stays, what an error
queue tells, when an access is taken, and when a Sosin command is at its turn. -/

namespace Sys2Proof.Machine

/-- Memory in canonical form: addresses strictly rising, and no entry equal to what an unlisted byte reads as. -/
def Memory.wf (m : List Host.Cell) : Bool := Tab.wf m (0 : Byte)

/-- Every byte of device memory reads as before (Table 20.1). A byte that decrypts to a free value is the same where the same
value is taken, whatever the model's own counter shows (log entry 1). -/
def SameMemory (s t : State) : Prop := ∀ a, ({ t with free := s.free } : State).byte a = s.byte a

/-- Every register but those of a list reads as before (Table 20.3). -/
def SameRegs (s t : State) (l : List Nat) : Prop := ∀ a, a ∉ l → t.reg a = s.reg a

/-- The error queue of an occurrence's domain tells of it: it holds a record with its identity, or it notes that one was lost
(R495 to R498). -/
def State.tells (s : State) (o : Occ) : Bool :=
  let q := s.errQueue o.cause.domain
  q.recs.any (fun r => r.is o) || q.lostSince

/-- Registers that the report of an occurrence may write: the next sequence number, the domain's loss count, a VF's loss count,
and the count of later fatal occurrences (R494, R498, R506). -/
def reportRegs (o : Occ) : List Nat := [Reg.ERR_NEXTSEQ, Reg.ERR_QSTAT o.cause.domain, Reg.ERR_VFOVF (o.func - 1), Reg.ERR_FATAL]

/-- The registers whose writes do more than store their bits under the access codes of Table 0.4. -/
def actsOnWrite : List Nat :=
  [Reg.QFE_SQTAIL 0, Reg.QFE_CQHEAD 0, Reg.QFE_CANCEL 0, Reg.STB_LCALLOW, Reg.HMC_BERATE, Reg.HMC_BEDEPTH, Reg.HMC_CETHRESH,
   Reg.TGC_CTL 0, Reg.FTC_DLAT 0, Reg.FTC_TIMEOUT, Reg.LNK_PCTL 0, Reg.LNK_RAMP, Reg.FAB_PCTL 0, Reg.FAB_FLY 0, Reg.THM_LIMIT,
   Reg.IRQ_PIN, Reg.MGT_LOGSEL, Reg.PIN_MUX 0, Reg.PIN_PULL 0, Reg.PIN_GPIO, Reg.PIN_LSYNC]

/-- An access of a BAR reaches what it names: inside the BAR, memory space open, no locked window, a size the place takes (R5,
R412 to R415). -/
def State.takes (s : State) (v : BarView) (off size : Nat) : Bool :=
  decide (off < viewSize v) && !s.accessShut v && !s.windowShut v off && sizeOk (place v off) off size

/-- A Sosin command of an opcode stands at its turn in a place, not aborted, its payload well formed (R442, R444, R448). -/
def State.admits (s : State) (m k op : Nat) : Bool :=
  s.turnOf m k op && !(s.slotAt m k).abort &&
    (match cmdRow? op with
     | some r => (payloadFault r (field (s.slotAt m k).copy 8 4) (slice (s.slotAt m k).copy 32 448)).isNone
     | none => false)

/-- The command of a place, with the bytes that its buffer reads bring. -/
def State.cmdAt (s : State) (m k : Nat) (data : List Byte) : Cmd := (s.slotAt m k).cmd m k data

/-- A field of the request payload of a place. -/
def State.arg (s : State) (m k off n : Nat) : Nat := (s.cmdAt m k []).fld off n

/-- The command of a place has run, and its answer will carry a status (R448, Table 13.6). -/
def State.answered (s : State) (m k st : Nat) : Bool := (s.slotAt m k).ran && (s.slotAt m k).status == st

end Sys2Proof.Machine
end

