-- ==== Sys2Proof/Certificates/Slice0/Obligations.lean ====
section
/-! DEFINITION. Certificates/Slice0/Obligations.lean: what the device does, stated for the provers. -/

open Sys2Proof
open Sys2Proof.Machine

/-- The model's queue (log entries 50 and 108): for every command c and state s, the step of s with c in front of its queue is exec of c on s with the rest of the queue, and with nothing waiting the step answers the same state. Every command completes from every state: exec answers a next state, but for a private JTAG instruction in debug mode where the DBGOFF fuse is clear, which no rule gives an effect. (R89, R618, spec/00_scope.md) -/
def Obligations.StepRunsFrontCommand : Prop :=
  (∀ (c : Instr) (cs : List Instr) (s : State), step { s with pending := c :: cs } = exec c { s with pending := cs }) ∧
  (∀ s : State, s.pending = [] → step s = .next s) ∧
  (∀ (c : Instr) (s : State), (c = .jtagInstruction .privateOne → s.debug = false ∨ s.fld Reg.MGT_FUSE F.MGT_FUSE_DBGOFF ≠ 0) →
    ∃ t, exec c s = .next t)

/-- At State.reset (the model's reading of the moment before rung 1, log entry 99) every register reads its reset value but MTR_NEXTSEQ, which is 1 (log entry 100); every byte of memory reads zero (log entry 5); the device is in reset, not sealed, not in debug; no ring pair, partition, tenant, index or sequence exists, no record is held and no command waits. (R588, Table 17.4, log entry 99, log entry 100) -/
def Obligations.ResetLeavesResetValues : Prop :=
  (∀ a, State.reset.reg a = if a = Reg.MTR_NEXTSEQ then 1 else regReset a) ∧
  (∀ a, State.reset.byte a = 0) ∧
  State.reset.inReset = true ∧ State.reset.sealed = false ∧ State.reset.debug = false ∧
  (∀ k, Tab.find State.reset.rings k = none ∧ Tab.find State.reset.parts k = none ∧ Tab.find State.reset.tenants k = none ∧
    Tab.find State.reset.indexes k = none ∧ Tab.find State.reset.seqs k = none ∧ (State.reset.errQueue k).recs = []) ∧
  State.reset.pending = []

/-- Memory right after reset has the canonical form that EveryStepKeepsMemoryCanonical keeps, and putting commands in the queue does not change that. (Table 20.1, log entry 5) -/
def Obligations.ResetMemoryIsCanonical : Prop :=
  ∀ (cs : List Instr), Memory.wf ({ State.reset with pending := cs } : State).mem = true

/-- For every state whose memory has the canonical form (addresses strictly rising, no entry equal to what an unlisted byte reads as) and every command in front of its queue, the next state's memory has it too: whatever inserts, deletes, folds, drains, streams, atomics, far writes, copies, checkpoints, loads and resets store or lose. (Table 20.1, R78, R80, R263, R280, R315, R591) -/
def Obligations.EveryStepKeepsMemoryCanonical : Prop :=
  ∀ (s t : State), Memory.wf s.mem = true → step s = .next t → Memory.wf t.mem = true

/-- Through any BAR view that shows a 64-bit register, a low-half read followed by a high-half read returns the low and the high half of the value the register showed at the first read; the function's shadow is latched by the first and emptied by the second; RC fields are cleared at the first read; no other register and no memory changes. (R7, R8, R11) -/
def Obligations.RegisterHalvesReadAtOneEdge : Prop :=
  ∀ (s : State) (v : BarView) (off a : Nat) (r : RegRow), place v off = .reg a → place v (off + 4) = .reg (a + 4) →
    regRow? a = some r → r.wide = true → occupant (a + 4) = some (r, a) → s.takes v off 4 = true → s.takes v (off + 4) 4 = true →
    ∃ t u, exec (.lowHalfRead v off) s = .next t ∧ exec (.highHalfRead v (off + 4)) t = .next u ∧
      u.out = s.out ++ [.readData (barFn v) (some (s.readable r a % 2 ^ 32)), .readData (barFn v) (some (s.readable r a / 2 ^ 32))] ∧
      (t.shadow (barFn v)).rd = some (a, s.readable r a / 2 ^ 32) ∧ (u.shadow (barFn v)).rd = none ∧
      u.reg a % 2 ^ 64 = without (s.reg a) (r.mask (· == .RC)) % 2 ^ 64 ∧ SameRegs s u [a] ∧ SameMemory s u

/-- For a 64-bit register with a writable field and no effect of its own, seen through any BAR view, a low-half write changes no register and is held in the function's write shadow; the high-half write that follows applies both halves under the register's access codes in one step and empties the shadow. (R8, R9) -/
def Obligations.RegisterHalvesWrittenTogether : Prop :=
  ∀ (s : State) (v : BarView) (off a : Nat) (r : RegRow) (lo hi : Word32), place v off = .reg a → place v (off + 4) = .reg (a + 4) →
    regRow? a = some r → r.wide = true → occupant (a + 4) = some (r, a) →
    r.base ∉ actsOnWrite → r.mask Access.writable ≠ 0 → s.takes v off 4 = true → s.takes v (off + 4) 4 = true →
    ∃ t u, exec (.lowHalfWrite v off lo) s = .next t ∧ exec (.highHalfWrite v (off + 4) hi) t = .next u ∧
      SameRegs s t [] ∧ (t.shadow (barFn v)).wr = some (a, lo.toNat) ∧ (u.shadow (barFn v)).wr = none ∧
      u.reg a = r.written s.sealed (s.reg a) (hi.toNat * 2 ^ 32 + lo.toNat) (ones 64) % 2 ^ 64 ∧ SameRegs s u [a] ∧ SameMemory s u

/-- For a register all of whose fields are LK and that has no effect of its own, REGISTER_WRITE of its whole width by the PF leaves it as it was when the device is sealed, and stores the bits of its fields when it is not; no other register changes. STB_LCALLOW in the same way keeps its value when sealed, and otherwise stores the low six bits, above 32 as 32. (R9, R477, Table 0.4, R144) -/
def Obligations.LockedRegistersFollowTheSeal : Prop :=
  (∀ (s : State) (r : RegRow) (a x : Nat), regRow? a = some r → occupant a = some (r, a) → r.fields.all (fun f => f.acc == .LK) = true →
    r.base ∉ actsOnWrite → s.takes .pf0 a (if r.wide then 8 else 4) = true → r.mask (· == .LK) < 2 ^ (if r.wide then 64 else 32) →
    ∃ t, exec (.registerWrite .pf0 a (if r.wide then 8 else 4) x) s = .next t ∧
      t.reg a = (if s.sealed then s.reg a else without (s.reg a) (r.mask (· == .LK)) + (x % 2 ^ 64 &&& r.mask (· == .LK))) % 2 ^ 64 ∧
      SameRegs s t [a] ∧ SameMemory s t) ∧
  (∀ (s : State) (x : Word32), ∃ t, exec (.stbLcallow x) s = .next t ∧
    t.reg Reg.STB_LCALLOW = (if s.sealed then s.reg Reg.STB_LCALLOW else min (x.toNat % 64) 32) ∧
    SameRegs s t [Reg.STB_LCALLOW] ∧ SameMemory s t)

/-- Through any BAR view, RC_READ of a register with the register's own width returns the value it shows, clears every RC field and nothing else of it, and changes no other register and no memory; an event of the same edge that reaches a 32-bit or 64-bit RC counter is counted after it, and the counter holds 1 afterwards. A 4 B or 8 B write of an offset of register space that no register occupies changes nothing, and a read there, outside the SEQ window in debug mode, returns zero; neither is recorded. A 4 B read of the SEQ window by the PF in debug mode returns those bytes of the entry, zero for a free one (log entry 91). (R11, R15, R645) -/
def Obligations.AlignedReadClearsItsRcFields : Prop :=
  (∀ (s : State) (v : BarView) (off a : Nat) (r : RegRow), place v off = .reg a → regRow? a = some r →
    s.takes v off (if r.wide then 8 else 4) = true →
    ∃ t, exec (.rcRead v off (if r.wide then 8 else 4)) s = .next t ∧ t.out = s.out ++ [.readData (barFn v) (some (s.readable r a))] ∧
      t.reg a % 2 ^ 64 = without (s.reg a) (r.mask (· == .RC)) % 2 ^ 64 ∧ SameRegs s t [a] ∧ SameMemory s t ∧
      (r.mask (· == .RC) = ones 32 → s.reg a < 2 ^ 32 → (t.count a 1).reg a = 1) ∧ (r.mask (· == .RC) = ones 64 → (t.count64 a 1).reg a = 1)) ∧
  (∀ (s : State) (v : BarView) (off a size x : Nat), place v off = .reg a → s.takes v off size = true → occupant a = none →
    (size = 8 → occupant (a + 4) = none) → exec (.registerWrite v off size x) s = .next s ∧
    (s.debug = false ∨ (inSeq a = false ∧ inSeq (a + 4) = false) →
      exec (.rcRead v off size) s = .next { s with out := s.out ++ [.readData (barFn v) (some 0)] })) ∧
  (∀ (s : State) (a : Nat), inSeq a = true → occupant a = none → s.takes .pf0 a 4 = true → s.debug = true →
    exec (.rcRead .pf0 a 4) s = .next (s.emit (.readData 0 (some (match Tab.find s.seqs ((a - 0x80_0000) / 512) with
      | some q => field (s.entryBytes ((a - 0x80_0000) / 512) q) (a % 512) 4
      | none => 0)))))

/-- An access of a BAR, inside it and open, whose size or alignment the place it names does not take completes, changes no register but those of the error record, no memory, no shadow and no ring pair; a read returns zero and a write nothing; the host-domain error queue then tells of a REG_SIZE record of the function (limited by its identity while it is held). (R5, R6, R8, R414) -/
def Obligations.WrongSizeAccessHasNoEffect : Prop :=
  ∀ (s : State) (v : BarView) (off size : Nat) (write : Bool), off < viewSize v → s.accessShut v = false → s.windowShut v off = false →
    sizeOk (place v off) off size = false →
    ∃ t, exec (.regSize v off size write) s = .next t ∧
      t.out = s.out ++ (if write then [] else [.readData (barFn v) (some 0)]) ∧
      t.tells { cause := Cause.regSize, func := barFn v, subject := barFn v } = true ∧
      SameRegs s t (reportRegs { cause := Cause.regSize, func := barFn v }) ∧ SameMemory s t ∧ t.shadows = s.shadows ∧ t.rings = s.rings

/-- An aligned 8 B write whose halves are two 32-bit registers, neither with an effect of its own, stores in each what its access codes say of its half, discards a held low half, and changes no other register and no memory; such a read of two registers without RC fields returns both values, the one at the lower offset low, and changes no register and no memory. (R652, R8) -/
def Obligations.PairOfRegistersWrittenInOneAccess : Prop :=
  ∀ (s : State) (v : BarView) (off a : Nat) (r1 r2 : RegRow), place v off = .reg a → regRow? a = some r1 → r1.wide = false →
    regRow? (a + 4) = some r2 → r2.wide = false → s.takes v off 8 = true →
    (∀ x : Word64, r1.base ∉ actsOnWrite → r2.base ∉ actsOnWrite → ∃ t, exec (.split8bAccess v off (some x)) s = .next t ∧
      t.reg a % 2 ^ 64 = r1.written s.sealed (s.reg a) (x.toNat % 2 ^ 32) (ones 32) % 2 ^ 64 ∧
      t.reg (a + 4) % 2 ^ 64 = r2.written s.sealed (s.reg (a + 4)) (x.toNat / 2 ^ 32) (ones 32) % 2 ^ 64 ∧
      (t.shadow (barFn v)).wr = none ∧ SameRegs s t [a, a + 4] ∧ SameMemory s t) ∧
    (r1.mask (· == .RC) = 0 → r2.mask (· == .RC) = 0 → ∃ t, exec (.split8bAccess v off none) s = .next t ∧
      t.out = s.out ++ [.readData (barFn v) (some (s.readable r1 a + s.readable r2 (a + 4) * 2 ^ 32))] ∧ SameRegs s t [] ∧ SameMemory s t)

/-- STEP_TICK completes from every state, and the time that passes is the length of one step at the operating point in force as the open tick ends (time in the model's unit of log entry 61); where the step builder's clock does not run, no step is counted and no ring pair, sequence or byte of memory changes. (R125, R522, log entry 61) -/
def Obligations.StepTickTakesItsStep : Prop :=
  ∀ s : State, ∃ t, exec .stepTick s = .next t ∧ t.now = s.now + stepUnits (if s.ticking then s.finishTick.op else s.op) ∧
    (s.ticking = false → t.tick = s.tick ∧ t.rings = s.rings ∧ t.seqs = s.seqs ∧ SameMemory s t)

/-- On a created ring pair of a device that is up, seen through an open view: while it is ACTIVE, a write of QFE_SQTAIL that keeps to the ring stores TAIL and changes no other register and no ring pair (the front end sees it from the next tick on); one that does not changes no ring pair and is recorded as DB_RANGE; QFE_CQHEAD in the same way; while it is not ACTIVE both change no ring pair and are recorded as DB_STATE; a cancel is stored when fewer than 16 wait, and otherwise counts a miss and is recorded as DB_RANGE. Beyond those, only the registers of the record change, and no memory does. (R89, R90, R116) -/
def Obligations.RingDoorbellsAndCancels : Prop :=
  ∀ (s : State) (v : BarView) (p : RingPair) (r : Ring) (x : Word32), barShows v p = true → s.memOpen (barFn v) = true →
    s.tdiBlocked v p = false → s.up = true → Tab.find s.rings p = some r →
    (s.ringState p = 1 → ∃ t, exec (.qfeSqtail v p x) s = .next t ∧ SameMemory s t ∧ t.rings = s.rings ∧
      (tailOk r.sqsize (s.reg (Reg.QFE_SQHEAD p) % 2 ^ 16) (s.reg (Reg.QFE_SQTAIL p) % 2 ^ 16) (x.toNat % 2 ^ 16) = true →
        t.reg (Reg.QFE_SQTAIL p) = x.toNat % 2 ^ 16 ∧ SameRegs s t [Reg.QFE_SQTAIL p]) ∧
      (tailOk r.sqsize (s.reg (Reg.QFE_SQHEAD p) % 2 ^ 16) (s.reg (Reg.QFE_SQTAIL p) % 2 ^ 16) (x.toNat % 2 ^ 16) = false →
        t.tells { cause := Cause.dbRange, func := ringVf p, subject := p } = true ∧
        SameRegs s t (reportRegs { cause := Cause.dbRange, func := ringVf p }))) ∧
    (s.ringState p = 1 → ∃ t, exec (.qfeCqhead v p x) s = .next t ∧ SameMemory s t ∧ t.rings = s.rings ∧
      (cqHeadOk r.cqsize r.cqtail (s.reg (Reg.QFE_CQHEAD p) % 2 ^ 16) (x.toNat % 2 ^ 16) = true →
        t.reg (Reg.QFE_CQHEAD p) = x.toNat % 2 ^ 16 ∧ SameRegs s t [Reg.QFE_CQHEAD p]) ∧
      (cqHeadOk r.cqsize r.cqtail (s.reg (Reg.QFE_CQHEAD p) % 2 ^ 16) (x.toNat % 2 ^ 16) = false →
        t.tells { cause := Cause.dbRange, func := ringVf p, subject := p } = true ∧
        SameRegs s t (reportRegs { cause := Cause.dbRange, func := ringVf p }))) ∧
    (s.ringState p ≠ 1 → ∃ t u, exec (.qfeSqtail v p x) s = .next t ∧ exec (.qfeCqhead v p x) s = .next u ∧
      t.rings = s.rings ∧ t.tells { cause := Cause.dbState, func := ringVf p, subject := p } = true ∧
      SameRegs s t (reportRegs { cause := Cause.dbState, func := ringVf p }) ∧ SameMemory s t ∧
      u.rings = s.rings ∧ u.tells { cause := Cause.dbState, func := ringVf p, subject := p } = true ∧
      SameRegs s u (reportRegs { cause := Cause.dbState, func := ringVf p }) ∧ SameMemory s u) ∧
    (r.cancels.length < 16 → ∃ t, exec (.qfeCancel v p x) s = .next t ∧ SameMemory s t ∧ SameRegs s t [] ∧
      Tab.find t.rings p = some { r with cancels := r.cancels ++ [x.toNat], cancelTick := s.tick }) ∧
    (16 ≤ r.cancels.length → ∃ t, exec (.qfeCancel v p x) s = .next t ∧ SameMemory s t ∧ t.rings = s.rings ∧
      t.reg (Reg.QFE_CNCMISS p) = satAdd 32 (s.reg (Reg.QFE_CNCMISS p)) 1 % 2 ^ 64 ∧
      t.tells { cause := Cause.dbRange, func := ringVf p, subject := p } = true ∧
      SameRegs s t (Reg.QFE_CNCMISS p :: reportRegs { cause := Cause.dbRange, func := ringVf p }))

/-- For a ring pair that may fetch: DESCRIPTOR_FETCH appends to staging the descriptors that came, at most what R87 lets one fetch bring, and moves the fetch index on by as many around the ring; OPERAND_STAGE with good operands of the first waiting descriptor, when it fits the share, makes that descriptor ready and no other; SQ_FETCH_FAULT with descriptors left puts the pair in FAULT with cause 1. No memory changes. (R87, R89, R92, R124, R419) -/
def Obligations.FetchFillsStagingInRingOrder : Prop :=
  ∀ (s : State) (p : RingPair) (r : Ring) (data : List Byte), Tab.find s.rings p = some r → s.mayFetch p r = true →
    (∃ t, exec (.descriptorFetch p data) s = .next t ∧ SameRegs s t [] ∧ SameMemory s t ∧ ∃ x, Tab.find t.rings p = some x ∧
      x.staged.length = r.staged.length + min (s.fetchLen r) (data.length / 128) ∧ r.staged <+: x.staged ∧
      x.fetched = (r.fetched + min (s.fetchLen r) (data.length / 128)) % r.sqsize ∧
      ∀ k, k < min (s.fetchLen r) (data.length / 128) → (x.staged[r.staged.length + k]?).map (·.desc) = some (slice data (128 * k) 128)) ∧
    (∀ (vec code : List Byte) (k : Nat) (d : Staged), r.staged.findIdx? (fun x => !x.ready) = some k → r.staged[k]? = some d →
      s.shareUsed (ringVf p) + operandBytes d.desc (s.codeLen (ringVf p) d.desc) ≤ 262144 →
      ∃ t, exec (.operandStage p (.data vec) (.data code)) s = .next t ∧ SameRegs s t [] ∧ SameMemory s t ∧
        ∃ x y, Tab.find t.rings p = some x ∧ x.staged = r.staged.set k y ∧ y.ready = true ∧ y.desc = d.desc ∧ y.bad = d.bad ∧
          y.share = operandBytes d.desc (s.codeLen (ringVf p) d.desc)) ∧
    (∀ k : DmaFault, r.unfetched ≠ 0 → ∃ t, exec (.sqFetchFault p k) s = .next t ∧ SameMemory s t ∧
      t.reg (Reg.QFE_RSTATE p) % 2 ^ 8 = 0x13)

/-- A denied translation of a completion write marks the ring pair and changes nothing else (that the mark falls on the next completion is the model's choice, log entry 116); the next completion of a marked ACTIVE ring pair puts it in FAULT with cause 2, counts it lost, leaves the CQ tail, asks for a signal and is recorded as ATS_DENIED. A denied result write of a query of this device marks the query, which will complete with BAD_DESCRIPTOR. No memory changes. (R93, R104, R419, R491, log entry 116) -/
def Obligations.CompletionAndResultWriteFaults : Prop :=
  (∀ (s : State) (p : RingPair) (r : Ring), Tab.find s.rings p = some r →
    ∃ t, exec (.cqWriteFault p .denied) s = .next t ∧ SameMemory s t ∧ SameRegs s t [] ∧
      Tab.find t.rings p = some { r with cqFault := some .denied }) ∧
  (∀ (s : State) (p : RingPair) (r : Ring) (c : Completion), Tab.find s.rings p = some r → r.cqFault = some .denied →
    s.cqGone p = false → s.ringState p = 1 →
    SameMemory s (s.complete p c) ∧ (s.complete p c).reg (Reg.QFE_RSTATE p) = 0x23 ∧
      (s.complete p c).reg (Reg.QFE_CQLOST p) = satAdd 32 (s.reg (Reg.QFE_CQLOST p)) 1 % 2 ^ 64 ∧
      (s.complete p c).tells { cause := Cause.atsDenied, func := ringVf p, subject := ringVf p } = true ∧
      ∃ x, Tab.find (s.complete p c).rings p = some x ∧ x.signalNow = true ∧ x.cqtail = r.cqtail ∧ x.cqFault = none) ∧
  (∀ (s : State) (e : SeqNo) (q : Sequence), Tab.find s.seqs e = some q → q.isQuery = true → q.home = none → q.silent = false →
    ∃ t, exec (.resultWriteFault e .denied) s = .next t ∧ SameMemory s t ∧ SameRegs s t [] ∧
      Tab.find t.seqs e = some { q with resFault := some .denied })

/-- When a ring pair is ready for a whole run, the descriptor has the row's opcode, its operands fit the share and nothing that admission needs is missing, QUERY, INSERT, DELETE and PUBLISH complete and take exactly one descriptor: the fetch index of the ring pair moves on by one around the ring, and the pair stays one of its size and base. (R87, R94, R108, R124, R134, log entry 15) -/
def Obligations.DescriptorRunsWhole : Prop :=
  ∀ (s : State) (p : RingPair) (r : Ring) (desc vec code : List Byte), Tab.find s.rings p = some r → s.wholeReady p r = true →
    let d := slice desc 0 128
    let st := s.admitStatus (ringVf p) r.stream (s.stage (ringVf p) d).bad d
    s.missing s.headroom p r d st.isSome = 0 → s.shareUsed (ringVf p) + (s.stageWhole (ringVf p) d vec code).share ≤ 262144 →
    let taken := fun (t : State) => (Tab.find t.rings p).map (fun x => (x.fetched, x.sqsize, x.sqbase)) = some ((r.fetched + 1) % r.sqsize, r.sqsize, r.sqbase)
    (descOp d = 1 → ∃ t, exec (.query p desc vec code) s = .next t ∧ taken t) ∧
    (descOp d = 2 → ∃ t, exec (.insert p desc vec code) s = .next t ∧ taken t) ∧
    (descOp d = 3 → vec = [] → code = [] → ∃ t, exec (.delete p desc) s = .next t ∧ taken t) ∧
    (descOp d = 4 → vec = [] → code = [] → ∃ t, exec (.publish p desc) s = .next t ∧ taken t)

/-- With the device up: CANCEL_ACT, in a tick after the one the cancels were written in, empties the cancels of a ring pair and ends every admitted query of a cancelled tag that has not started to commit with CANCELLED, unless a revocation or an earlier row of Table 1.4 has ended it, and a lone cancel that finds none counts a miss; DEADLINE_EXPIRE ends a query of this device whose deadline has come with DEADLINE; REVOKE_SEQUENCES, once due, ends every endable sequence of the tenant with REVOKED, in place of a cancel, a deadline or a timer, and clears what was due. (R116, R117, R118, R132, R189, R52) -/
def Obligations.CancelsDeadlinesAndRevocationsEndWork : Prop :=
  (∀ (s : State) (p : RingPair) (r : Ring), s.up = true → Tab.find s.rings p = some r → r.cancelTick < s.tick →
    ∃ t, exec (.cancelAct p) s = .next t ∧ (Tab.find t.rings p).map (·.cancels) = some [] ∧
      (∀ e q, Tab.find s.seqs e = some q → q.rp = some p.val → q.isQuery = true → q.tag ∈ r.cancels → q.committing = false →
        (q.ending = none ∨ q.ending = some .deadline ∨ q.ending = some .ok) →
        ∃ q', Tab.find t.seqs e = some q' ∧ q'.ending = some .cancelled) ∧
      (∀ tag, r.cancels = [tag] → (∀ x ∈ s.seqs, ¬ (x.2.rp = some p.val ∧ x.2.isQuery = true ∧ x.2.tag = tag ∧ x.2.committing = false)) →
        (∀ f ∈ s.failing, ¬ (f.rp = p.val ∧ descOp f.desc = 1 ∧ descTag f.desc = tag)) →
        t.reg (Reg.QFE_CNCMISS p) = satAdd 32 (s.reg (Reg.QFE_CNCMISS p)) 1 % 2 ^ 64)) ∧
  (∀ (s : State) (e : SeqNo) (q : Sequence) (d : Nat), s.up = true → Tab.find s.seqs e = some q → q.dline = some d → d ≤ s.now →
    q.isQuery = true → q.home = none → q.committing = false → q.ending = none →
    ∃ t q', exec (.deadlineExpire e) s = .next t ∧ Tab.find t.seqs e = some q' ∧ q'.ending = some .deadline ∧ q'.phase = .done) ∧
  (∀ (s : State) (v : Vf) (x : Tenant) (d : Nat), s.up = true → Tab.find s.tenants (v.val + 1) = some x → x.revokeDue = some d → d ≤ s.tick →
    ∃ t, exec (.revokeSequences v) s = .next t ∧ (Tab.find t.tenants (v.val + 1)).map (·.revokeDue) = some none ∧
      ∀ e q, Tab.find s.seqs e = some q → q.vf = v.val + 1 → q.home = none → q.endable = true →
        (q.ending = none ∨ q.ending = some .cancelled ∨ q.ending = some .deadline ∨ q.ending = some .ok) →
        ∃ q', Tab.find t.seqs e = some q' ∧ q'.ending = some .revoked ∧ (q.ending = none → q'.phase = .done))

/-- KILL_RERUN arms a killed sequence whose tenant holds the partition to run its stage again with the stage's seed, and changes nothing else; SLOT_BOUNDARY at the end of a slot that no switch holds up makes the next slot of the cycle run up to its own boundary, with its tenant as holder; SWITCH_END gives the incoming tenant the partition for at least 10 µs; FILL_DONE makes a filling image resident, its perches holding the bytes of its home. (R156, R159, R164, R176) -/
def Obligations.RerunAndSlicesMoveOn : Prop :=
  (∀ (s : State) (e : SeqNo) (q : Sequence), s.up = true → Tab.find s.seqs e = some q → q.phase = .again → s.holds q.vf q.elevel = true →
    ∃ t, exec (.killRerun e) s = .next t ∧ Tab.find t.seqs e = some { q with phase := .done, redo := true, seed := q.seedAtStage } ∧
      (∀ k, k ≠ e.val → Tab.find t.seqs k = Tab.find s.seqs k) ∧ SameRegs s t [] ∧ SameMemory s t) ∧
  (∀ (s : State) (k : Rood) (p : Partition), s.up = true → Tab.find s.parts k = some p → p.slices ≠ [] → p.switching = false → p.slotEnd ≤ s.now →
    let j := (p.slot + 1) % p.slices.length
    ∃ t x, exec (.slotBoundary k) s = .next t ∧ Tab.find t.parts k = some x ∧ x.slot = j ∧ x.holder = (p.slotOf j).1 ∧
      x.slotEnd = p.slotEnd + usec (p.slotOf j).2 ∧ x.switching = decide (p.holder ≠ (p.slotOf j).1) ∧ x.slices = p.slices) ∧
  (∀ (s : State) (k : Rood) (p : Partition), s.up = true → Tab.find s.parts k = some p → p.switching = true → s.switchFilling p.holder = false →
    ∃ t, exec (.switchEnd k) s = .next t ∧
      Tab.find t.parts k = some { p with switching := false, slotEnd := max p.slotEnd (s.now + usec 10) } ∧ SameRegs s t [] ∧ SameMemory s t) ∧
  (∀ (s : State) (h : Nat) (m : Image) (d : Nat), Tab.find s.images h = some m → m.filling = some d →
    ∃ t, exec (.fillDone h) s = .next t ∧
      Tab.find t.images h = some { m with resident := true, filling := none, loaded := s.homeBytes m.tun m.base m.size } ∧
      (∀ k, k ≠ h → Tab.find t.images k = Tab.find s.images k) ∧ SameRegs s t [] ∧ SameMemory s t)

/-- A read that has come back for a sequence that waits for more is taken: a raw burst of a PLACE stage from outside the sequence's extension, and a line of a stage that holds no bushel, join the lines held; a good list line leaves the list of those waited for; a returned list joins its bucket's survivors; each time one read fewer is outstanding, beyond those the line's bushels add. A scanned or hopped bushel that still lacks lines waits for them in its engine; a scanned one that lacks none leaves it, its list returned. Memory does not change but where survivors are written. (R250, R251, R253, R254, R255, R653) -/
def Obligations.EngineTakesLandedBursts : Prop :=
  (∀ (s : State) (e : SeqNo) (q : Sequence) (a n : Nat) (l : Landed), Tab.find s.seqs e = some q → q.back 2 a = some l → q.stage = stPLACE →
    extLineOf e a = none → 2 ≤ q.pending →
    ∃ t, exec (.rawRequest e a n) s = .next t ∧ SameRegs s t [] ∧ SameMemory s t ∧
      Tab.find t.seqs e = some { q with landed := q.landed.erase l, gotLines := q.gotLines ++ [l], pending := q.pending - 1 }) ∧
  (∀ (s : State) (e : SeqNo) (q : Sequence) (w : Nat) (l : Landed), Tab.find s.seqs e = some q → q.back 3 (64 * w) = some l → q.stage ≠ stENTRY →
    q.frames = [] → 2 ≤ q.pending →
    ∃ t, exec (.lineReadReturn e w) s = .next t ∧ SameRegs s t [] ∧ SameMemory s t ∧
      Tab.find t.seqs e = some { q with landed := q.landed.erase l, gotLines := q.gotLines ++ [l], pending := q.pending - 1 }) ∧
  (∀ (s : State) (e : SeqNo) (q : Sequence) (i : Index) (w : Nat) (l : Landed), Tab.find s.seqs e = some q → q.back 4 (64 * w) = some l →
    s.indexOf q = some i → s.heldBad [l] w = none → 2 ≤ q.pending →
    ∃ t x, exec (.listLineReturn e w) s = .next t ∧ SameMemory s t ∧ Tab.find t.seqs e = some x ∧
      x.landed = q.landed.erase l ∧ x.listWait = q.listWait.filter (fun y => y.2 != w) ∧ q.pending - 1 ≤ x.pending ∧ x.poison = q.poison) ∧
  (∀ (s : State) (e : SeqNo) (q : Sequence) (c : Nat) (l : List Cand) (rest : List (Nat × List Cand)), Tab.find s.seqs e = some q →
    q.returned = (c, l) :: rest → 2 ≤ q.pending →
    ∃ t x, exec (.survivorCollect e) s = .next t ∧ Tab.find t.seqs e = some x ∧ x.returned = rest ∧ x.pending = q.pending - 1 ∧
      x.survivors = Tab.insert q.survivors c (collect (Tab.read q.survivors [] c) l)) ∧
  (∀ (s : State) (e : SeqNo) (q : Sequence) (a : Nat) (l : Landed), Tab.find s.seqs e = some q →
    (q.back 0 a = some l → q.holdsLines (s.frameLines q l) = false → ∃ t x, exec (.scanRequest e a) s = .next t ∧ SameMemory s t ∧
      Tab.find t.seqs e = some x ∧ x.frames = q.frames ++ [l] ∧ x.landed = q.landed.erase l ∧ x.returned = q.returned) ∧
    (q.back 0 a = some l → q.holdsLines (s.frameLines q l) = true → ∃ t x, exec (.scanRequest e a) s = .next t ∧ SameMemory s t ∧
      Tab.find t.seqs e = some x ∧ x.frames.length = q.frames.length ∧ x.landed = q.landed.erase l ∧ x.returned.length = q.returned.length + 1) ∧
    (q.back 1 a = some l → q.holdsLines (s.frameLines q l) = false → ∃ t x, exec (.hopRequest e a) s = .next t ∧ SameMemory s t ∧
      Tab.find t.seqs e = some x ∧ x.frames = q.frames ++ [l] ∧ x.landed = q.landed.erase l))

/-- STAGE_COMPLETE of a running CQ makes the sequence ready, its tile free; a context miss of a line that an LC query needs and the cache has evicted issues its read from the context extension and sets and counts the WCET_VOID reason; STREAM_ENC of a waiting LC query with its image in stacked memory sets the streaming reason; CENTROID_PASS at its end removes the pass; FOLD_STEP first asks for the stacked words of its step, then runs in this tick where its share has room and is counted as withheld where it has none. (R74, R123, R130, R138, R180, R261, R267) -/
def Obligations.StagesEndAndWaitsAreCharged : Prop :=
  (∀ (s : State) (e : SeqNo) (q : Sequence), Tab.find s.seqs e = some q → q.phase = .running → q.committing = false → q.stage = stCQ →
    ∃ t, exec (.stageComplete e) s = .next t ∧
      Tab.find t.seqs e = some { q with phase := .done, tile := none, keptLines := q.cached ++ q.spilled } ∧ SameRegs s t [] ∧ SameMemory s t) ∧
  (∀ (s : State) (e : SeqNo) (q : Sequence) (n : Nat), Tab.find s.seqs e = some q → q.missing.contains n = true → q.committing = false →
    q.ending = none → q.lines.contains (extAddr e n / 64) = false → q.lc = true → q.isQuery = true → bit q.void voidCtx = false →
    ∃ t x, exec (.contextMiss e n) s = .next t ∧ Tab.find t.seqs e = some x ∧ bit x.void voidCtx = true ∧ x.pending = q.pending + 1 ∧
      t.reg (Reg.STB_VOIDCNT voidCtx) = satAdd 32 (s.reg (Reg.STB_VOIDCNT voidCtx)) 1 % 2 ^ 64 ∧
      SameRegs s t [Reg.STB_VOIDCNT voidCtx, Reg.HMC_DISPLACE (pchOf (extAddr e n))] ∧ SameMemory s t) ∧
  (∀ (s : State) (e : SeqNo) (q : Sequence) (m : Image), Tab.find s.seqs e = some q → s.imageOf q = some m → m.tun = none → q.stage = stENC →
    q.phase = .waiting → q.pending = 0 → q.lc = true → q.isQuery = true →
    ∃ t x, exec (.streamEnc e) s = .next t ∧ Tab.find t.seqs e = some x ∧ bit x.void voidStream = true) ∧
  (∀ (s : State) (g : Rood) (x : CqPass), Tab.find s.passes g = some x → x.endTick ≤ s.tick →
    ∃ t, exec (.centroidPass g) s = .next t ∧ Tab.find t.passes g = none ∧ SameMemory s t) ∧
  (∀ (s : State) (e : SeqNo) (q : Sequence), Tab.find s.seqs e = some q → q.opcode = 4 → q.stage = stFOLD →
    q.phase = .running → q.folding = false → q.pending = 0 →
    (q.lines = [] → (s.foldWords q).filter isStacked ≠ [] → ∃ t x, exec (.foldStep e) s = .next t ∧ SameMemory s t ∧ Tab.find t.seqs e = some x ∧
      x.folding = false ∧ ∀ w ∈ (s.foldWords q).filter isStacked, w ∈ x.lines) ∧
    ((q.lines ≠ [] ∨ (s.foldWords q).filter isStacked = []) → s.foldRoom q ≤ s.wcbFree q →
      ∃ t, exec (.foldStep e) s = .next t ∧ SameMemory s t ∧ SameRegs s t [] ∧ Tab.find t.seqs e = some { q with folding := true }) ∧
    ((q.lines ≠ [] ∨ (s.foldWords q).filter isStacked = []) → s.wcbFree q < s.foldRoom q → q.heldBack = false →
      ∃ t, exec (.foldStep e) s = .next t ∧ SameMemory s t ∧ Tab.find t.seqs e = some { q with heldBack := true } ∧
        t.reg (Reg.STB_WITHHELD q.elevel) = satAdd 64 (s.reg (Reg.STB_WITHHELD q.elevel)) 1 % 2 ^ 64 ∧
        SameRegs s t [Reg.STB_WITHHELD q.elevel]))

/-- A trained pseudo-channel with nothing in service, no refresh or copy owed and its stack alive starts the candidate of Table 7.4 (not one of the traffic generator's, and no write while a copy is under way) when it is free, and holds it for its occupancy, with the bytes a read has from then on; BURST_COMPLETE of a read whose occupancy ends in the tick frees the pseudo-channel and hands the data to the stage that issued it; a refresh due in the tick occupies the pseudo-channel for 26 ns; a backlogged LC read that finds no slot takes the place of the youngest BE read of its size, which is counted. Memory does not change. (R238, R242, R244, R247, R260, R287, Table 7.4) -/
def Obligations.PseudoChannelServesByRow : Prop :=
  (∀ (s : State) (p : Pch) (r : Req) (c' : PchState) (tok : Bool), (s.pchAt p).service = none → (s.pchAt p).trained = true →
    let st := s.startAt (s.pchAt p)
    st < s.tickEnd → s.stackShut (rowAddr p 0) = false → s.refreshOwed p st = false → (s.pchAt p).copyOwed st = false →
    (s.refillTo st).candidate p st (s.pchAt p) = some (r, c', tok) → r.client ≠ .tgc → s.reqOwned r = true → (r.write = false ∨ c'.copy = none) →
    ∃ t data whole, exec (.burstStart p) s = .next t ∧ SameMemory s t ∧ (t.pchAt p).service = some (.burst r data whole) ∧
      (t.pchAt p).serviceEnd = st + r.time ∧ (r.write = false → r.client ≠ .merge → data = s.bytes r.addr (64 * r.words))) ∧
  (∀ (s : State) (p : Pch) (errs : List WordErr) (r : Req) (data : List Byte) (whole : List Nat), (s.pchAt p).service = some (.burst r data whole) →
    (s.pchAt p).serviceEnd ≤ s.tickEnd → r.write = false → r.client ≠ .tgc →
    ∃ t, exec (.burstComplete p errs) s = .next t ∧ SameMemory s t ∧ (t.pchAt p).service = none ∧
      ∀ e q, r.client.seq = some e → Tab.find s.seqs e = some q → q.issue = r.issue →
        ∃ x l, Tab.find t.seqs e = some x ∧ x.landed = q.landed ++ [l] ∧ l.addr = r.addr ∧ l.data = data ∧ l.kind = r.client.kind) ∧
  (∀ (s : State) (p : Pch) (d : Nat), s.refreshEvery (p.val / 32) = some d → (s.pchAt p).trained = true → (s.pchAt p).service = none →
    let st := max (s.freeFrom (s.pchAt p)) ((s.pchAt p).lastRefresh + d)
    st < s.tickEnd →
    ∃ t, exec (.refreshDue p) s = .next t ∧ SameMemory s t ∧ SameRegs s t [] ∧ (t.pchAt p).service = some .refresh ∧
      (t.pchAt p).serviceEnd = st + nsec 26 ∧ (t.pchAt p).lastRefresh = st ∧ (t.pchAt p).refreshDue = st + d ∧
      (t.pchAt p).lcr = (s.pchAt p).lcr ∧ (t.pchAt p).ber = (s.pchAt p).ber ∧ (t.pchAt p).wr = (s.pchAt p).wr ∧
      ∀ k, k ≠ p.val → t.pchAt k = s.pchAt k) ∧
  (∀ (s : State) (p : Pch) (a : Nat) (r v : Req), (s.pchAt p).backlog.find? (fun r => r.lc && r.addr == a) = some r → (s.pchAt p).roomFor r = false →
    (s.pchAt p).victim r.big = some v →
    ∃ t, exec (.displace p a) s = .next t ∧ SameMemory s t ∧ SameRegs s t [Reg.HMC_DISPLACE p] ∧
      t.reg (Reg.HMC_DISPLACE p) = satAdd 32 (s.reg (Reg.HMC_DISPLACE p)) 1 % 2 ^ 64 ∧ (t.pchAt p).lcr = lcrInsert r (s.pchAt p).lcr ∧
      (t.pchAt p).ber = dropLast1 v (s.pchAt p).ber)

/-- TOKEN_REFILL, when due, makes up the refills of every 40 ns passed: each bucket gains RATE tokens in each, up to the depth, and the next one is set 40 ns after the last. An eligible run of full entries of the buffer is queued as one drain burst; an eligible partial entry asks for its merge read. A merge whose read has come back sound makes the entry whole, and one whose read has not come back waits. A drained entry that nothing wrote since leaves the buffer, its word then reading as the cells hold it, and one written since stays. But for that word no byte of memory reads otherwise. (R246, R258, R260, R262, R263) -/
def Obligations.TokensAndDrains : Prop :=
  (∀ s : State, s.tokenDue ≤ s.now →
    let k := (s.now - s.tokenDue) / nsec 40 + 1
    let d := s.fld Reg.HMC_BEDEPTH (15, 0)
    ∃ t, exec .tokenRefill s = .next t ∧ t.tokenDue = s.tokenDue + k * nsec 40 ∧ SameRegs s t [] ∧ SameMemory s t ∧
      (∀ x ∈ t.tokens, x.2 < d) ∧
      (∀ x ∈ s.tokens, d ≤ x.2 + k * s.fld Reg.HMC_BERATE (7, 0) ∨ (x.1, x.2 + k * s.fld Reg.HMC_BERATE (7, 0)) ∈ t.tokens) ∧
      ∀ c r, Tab.find s.tokens (16 * c + r) = none → t.bucketTokens c r = s.bucketTokens c r) ∧
  (∀ (s : State) (w : Nat) (e : WcbEntry), Tab.find s.wcb w = some e → s.eligibleEntry e = true →
    ((∀ x ∈ s.wordRun s.eligibleEntry w, ∀ y, Tab.find s.wcb x = some y → y.full = true) →
      ∃ t r, exec (.drainEligible w) s = .next t ∧ SameMemory s t ∧ (Tab.find t.wcb w).map (·.drain) = some 2 ∧
        (t.pchAt (pchOf (64 * w))).wr = (s.pchAt (pchOf (64 * w))).wr ++ [r] ∧ r.client = .drain ∧ r.write = true ∧
        r.words = (s.wordRun s.eligibleEntry w).length ∧ SameRegs s t [Reg.WCB_DRAINS]) ∧
    (e.full = false → ∃ t r, exec (.drainEligible w) s = .next t ∧ SameMemory s t ∧ SameRegs s t [] ∧
      Tab.find t.wcb w = some { e with drain := 1, rewritten := false } ∧
      r ∈ (t.pchAt (pchOf (64 * w))).wr ∧ r.client = .merge ∧ r.write = false ∧ r.addr = 64 * w ∧ r.words = 1)) ∧
  (∀ (s : State) (w : Nat) (e : WcbEntry), Tab.find s.wcb w = some e →
    (e.drain = 4 → s.rawOutcome w = .clean →
      ∃ t x, exec (.drainMerge w []) s = .next t ∧ SameMemory s t ∧ Tab.find t.wcb w = some x ∧ (x.drain = 5 ∨ x.drain = 2) ∧
        x.merged = e.merged ∧ x.mask = e.mask ∧ x.data = e.data ∧
        t.reg Reg.WCB_MERGES = satAdd 64 (s.reg Reg.WCB_MERGES) 1 % 2 ^ 64 ∧ SameRegs s t [Reg.WCB_MERGES, Reg.WCB_DRAINS]) ∧
    (e.drain = 1 → ∀ errs, exec (.drainMerge w errs) s = .next s)) ∧
  (∀ (s : State) (w : Nat) (e : WcbEntry), Tab.find s.wcb w = some e → e.drain = 3 →
    ∃ t, exec (.drainComplete w) s = .next t ∧ SameRegs s t [] ∧
      Tab.find t.wcb w = (if e.rewritten then some { e with drain := 0, rewritten := false, merged := [] } else none) ∧
      ∀ a, t.byte a = if e.rewritten = false ∧ a / 64 = w then s.dram a else s.byte a)

/-- WHOLE_WORD_STREAM of whole words within stacked memory queues one write burst for each half-frame they lie in, with their bytes and the key slot of the granule; a word that the write-combining buffer holds reads as the stream's data at once, and no other byte of memory changes. The end of such a burst, on words that no entry holds and that its key slot decrypts, stores exactly its bytes and clears the poison marks and errors of its words. POOL_ATOMIC ADD on an aligned word of the pool that no entry covers stores the sum modulo the width, returns the old value and changes no other byte; SETALL stores nothing when a bit is already set in any of its words. (R256, R264, R268, R269, R278, Table 7.7, Table 7.8) -/
def Obligations.FirmwareStreamsAndPoolAtomics : Prop :=
  (∀ (s : State) (a : Nat) (data : List Byte), a % 64 = 0 → data.length % 64 = 0 → data ≠ [] → a + data.length ≤ stackedEnd →
    ∃ t, exec (.wholeWordStream a data) s = .next t ∧ SameRegs s t [] ∧ t.mem = s.mem ∧
      (∀ b ∈ halfFrames a data.length, ∃ r ∈ (t.pchAt (pchOf b.1)).wr, r.client = .stream ∧ r.write = true ∧ r.addr = b.1 ∧ r.words = b.2 ∧
        r.data = slice (data.drop (b.1 - a)) 0 (64 * b.2) ∧ r.keySlot = s.keySlotAt b.1) ∧
      (∀ k, k < data.length → if (Tab.find s.wcb ((a + k) / 64)).isSome then some (t.byte (a + k)) = data[k]? else t.byte (a + k) = s.byte (a + k)) ∧
      (∀ b, b < a ∨ a + data.length ≤ b → t.byte b = s.byte b)) ∧
  (∀ (s : State) (p : Pch) (errs : List WordErr) (r : Req) (data : List Byte) (whole : List Nat),
    (s.pchAt p).service = some (.burst r data whole) → (s.pchAt p).serviceEnd ≤ s.tickEnd → r.client = .stream → r.write = true →
    r.addr % 64 = 0 → r.data.length = 64 * r.words → r.addr + 64 * r.words ≤ stackedEnd →
    (∀ k, k < 64 * r.words → Tab.find s.wcb ((r.addr + k) / 64) = none ∧ s.keySlotAt (r.addr + k) = r.keySlot) →
    ∃ t, exec (.burstComplete p errs) s = .next t ∧ SameRegs s t [] ∧ (t.pchAt p).service = none ∧
      (∀ k, k < r.data.length → some (t.byte (r.addr + k)) = r.data[k]?) ∧
      (∀ b, b < r.addr ∨ r.addr + 64 * r.words ≤ b → t.byte b = s.byte b) ∧
      (∀ w, r.addr / 64 ≤ w → w < r.addr / 64 + r.words → Tab.find t.poison w = none ∧ Tab.find t.upsets w = none)) ∧
  (∀ (s : State) (off : Nat) (wide : Bool) (x y : Word64), off % (if wide then 8 else 4) = 0 → off + (if wide then 8 else 4) ≤ 2 ^ 28 →
    Tab.find s.wcb ((poolBase + off) / 64) = none →
    ∃ t, exec (.poolAtomic .add off wide x y []) s = .next t ∧ SameRegs s t [] ∧
      t.out = s.out ++ [.atomic [s.num (poolBase + off) (if wide then 8 else 4)]] ∧
      t.num (poolBase + off) (if wide then 8 else 4) =
        (s.num (poolBase + off) (if wide then 8 else 4) + x.toNat) % 2 ^ (8 * (if wide then 8 else 4)) ∧
      (∀ b, b < poolBase + off ∨ poolBase + off + (if wide then 8 else 4) ≤ b → t.byte b = s.byte b)) ∧
  (∀ (s : State) (off : Nat) (wide : Bool) (x y : Word64) (ms : List Word64) (j : Nat) (m : Word64), ms[j]? = some m →
    s.num (poolBase + off + (if wide then 8 else 4) * j) (if wide then 8 else 4) &&& m.toNat ≠ 0 →
    ∃ t, exec (.poolAtomic .setall off wide x y ms) s = .next t ∧ SameMemory s t)

/-- SCRUB_READ, where row 7 of Table 7.4 lets it start, moves the scrub on by one frame, around all 786432 of them, and a frame that is not passed over occupies the pseudo-channel for 41 ns; SCRUB_LATE marks a pass that has overrun its period and records it; CE_DECAY, when due, takes one from every tracked count and drops those at zero; COPY_READ, where a copy step may start, occupies the pseudo-channel with the words of the next row for 23 ns, and COPY_WRITE with those held for 27 ns, at the end of which a copy that no write has joined is over. Memory does not change. (R242, R290, R293, R302) -/
def Obligations.ScrubDecayAndCopies : Prop :=
  (∀ (s : State) (p : Pch) (errs : List WordErr), s.scrubMay p = true →
    ∃ t, exec (.scrubRead p errs) s = .next t ∧ SameMemory s t ∧
      (t.pchAt p).scrubPos = (if 786432 ≤ (s.pchAt p).scrubPos + 1 then 0 else (s.pchAt p).scrubPos + 1) ∧
      (s.scrubbed p (s.pchAt p).scrubPos = true → (t.pchAt p).service ≠ none ∧ (t.pchAt p).serviceEnd = s.freeFrom (s.pchAt p) + nsec 41)) ∧
  (∀ (s : State) (p : Pch), s.fld Reg.HMC_SCRUB (7, 0) ≠ 0 → (s.pchAt p).trained = true → (s.pchAt p).scrubLate = false →
    (s.pchAt p).scrubStart + s.fld Reg.HMC_SCRUB (7, 0) * msec 3600000 ≤ s.now →
    ∃ t, exec (.scrubLate p) s = .next t ∧ SameMemory s t ∧ (t.pchAt p).scrubLate = true ∧
      t.tells { cause := Cause.scrubLate, subject := p.val } = true ∧ SameRegs s t (reportRegs { cause := Cause.scrubLate })) ∧
  (∀ s : State, s.decayDue ≤ s.now → ∃ t, exec .ceDecay s = .next t ∧ SameMemory s t ∧ SameRegs s t [] ∧
    t.decayDue = s.now + s.fld Reg.HMC_CETHRESH (23, 16) * msec 60000 ∧
    ∀ p, p < 256 → (t.pchAt p).tracker = ((s.pchAt p).tracker.map (fun x => { x with count := x.count - 1 })).filter (fun x => x.count != 0)) ∧
  (∀ (s : State) (p : Pch) (errs : List WordErr) (k : Copy), s.copyMay p = true →
    (s.pchAt p).copy = none → (s.pchAt p).nextCopy = some k → (k.retire = true ∨ (s.pchAt p).spares < 64) →
    ∃ t, exec (.copyRead p errs) s = .next t ∧ SameMemory s t ∧ (t.pchAt p).service = some .copyRead ∧
      (t.pchAt p).serviceEnd = s.freeFrom (s.pchAt p) + nsec 23 ∧ (t.pchAt p).copy.isSome = true) ∧
  (∀ (s : State) (p : Pch) (k : Copy), (s.pchAt p).copy = some k → k.held.isSome = true → s.copyMay p = true →
    ∃ t, exec (.copyWrite p) s = .next t ∧ SameMemory s t ∧ (t.pchAt p).copy = some k ∧ (t.pchAt p).service = some .copyWrite ∧
      (t.pchAt p).serviceEnd = s.freeFrom (s.pchAt p) + nsec 27) ∧
  (∀ (s : State) (p : Pch) (errs : List WordErr) (k : Copy), (s.pchAt p).service = some .copyWrite → (s.pchAt p).copy = some k → k.merged = [] →
    (s.pchAt p).serviceEnd ≤ s.tickEnd →
    ∃ t, exec (.burstComplete p errs) s = .next t ∧ SameMemory s t ∧ (t.pchAt p).copy = none ∧ (t.pchAt p).service = none)

/-- Setting GO of a stopped traffic generator with a reason of R271 against it leaves it in REFUSED with that reason and no run; with none against it, a mode of Table 7.9 and a range it is RUNNING in that mode. TGC_RUN_DONE of a WRITE or CHECK run that has gone over its range leaves it DONE with no run, and changes nothing while the run still has words to go. (R271, R272, R273) -/
def Obligations.TrafficGeneratorRuns : Prop :=
  (∀ (s : State) (p : Pch) (x : Word32), s.fld (Reg.TGC_CTL p) (31, 31) = 0 → bit x.toNat 31 = true →
    ∃ t, exec (.tgcCtl p x) s = .next t ∧ SameMemory s t ∧ t.fld (Reg.TGC_CTL p) (31, 31) = 1 ∧
      t.fld (Reg.TGC_CTL p) (2, 0) = bits x.toNat 2 0 ∧
      ∀ u, u = s.setReg (Reg.TGC_CTL p) (t.reg (Reg.TGC_CTL p)) →
        (u.tgcReason p ≠ 0 → t.reg (Reg.TGC_STATUS p) = u.tgcReason p * 16 + 3 ∧ t.pch = s.pch) ∧
        (u.tgcReason p = 0 → bits x.toNat 2 0 ≠ 0 → bits x.toNat 2 0 ≤ 4 → u.tgcWords p ≠ 0 →
          t.reg (Reg.TGC_STATUS p) = 1 ∧ (t.pchAt p).tgc = some { mode := bits x.toNat 2 0 })) ∧
  (∀ (s : State) (p : Pch) (errs : List WordErr) (x : TgcRun), (s.pchAt p).tgc = some x →
    (∀ r data whole, (s.pchAt p).service = some (.burst r data whole) → r.client ≠ .tgc) →
    (s.tgcOver p x = true → ∃ t, exec (.tgcRunDone p errs) s = .next t ∧ (t.pchAt p).tgc = none ∧ t.reg (Reg.TGC_STATUS p) = 2 ∧
      SameRegs s t [Reg.TGC_STATUS p] ∧ SameMemory s t) ∧
    (s.tgcOver p x = false → exec (.tgcRunDone p errs) s = .next s))

/-- Training of a far port that is not up leaves it ONLINE with the device's serial number and capacity when no reason of R308 is against the device, and REFUSED and recorded when one is; an ABSENT port with nothing found is tried again one second later; a fall of an ONLINE port leaves it DOWN with no tag, queued read or write held, counts the lost writes and records them, and sets the next try a second later; a fallen port that finds the same device again is ONLINE and recorded; FTC_DLAT shows the larger of its floor and the operator's value unless the device is sealed. (R306, R307, R308, R325, R326) -/
def Obligations.FarPortsTrainAndFall : Prop :=
  (∀ (s : State) (n : FarPort) (c : FarCard), s.farState n < 2 → s.inReset = false →
    (farRefusal c = 0 → ∃ t, exec (.farPortTrained n c) s = .next t ∧ t.farState n = 2 ∧ (t.farAt n).serial = some c.serial ∧
      t.reg (Reg.FTC_CAP n) = farCapu c ∧ SameRegs s t [Reg.FTC_PSTATE n, Reg.FTC_CAP n, Reg.FTC_BW n, Reg.FTC_DLAT n]) ∧
    (farRefusal c ≠ 0 → ∃ t, exec (.farPortTrained n c) s = .next t ∧ t.farState n = 4 ∧ SameMemory s t ∧
      t.tells { cause := Cause.portRefused, subject := n, arg0 := farRefusal c } = true ∧
      SameRegs s t (Reg.FTC_PSTATE n :: Reg.FTC_DLAT n :: reportRegs { cause := Cause.portRefused }))) ∧
  (∀ (s : State) (n : FarPort), s.farState n = 0 → (s.farAt n).retryAt ≤ s.now → s.inReset = false →
    (∃ t, exec (.farAbsentRetry n none) s = .next t ∧ (t.farAt n).retryAt = s.now + msec 1000 ∧ SameRegs s t [] ∧ SameMemory s t) ∧
    (∀ c : FarCard, farRefusal c = 0 → ∃ t, exec (.farAbsentRetry n (some c)) s = .next t ∧ t.farState n = 2 ∧ (t.farAt n).serial = some c.serial)) ∧
  (∀ (s : State) (n : FarPort), s.farUp n = true →
    ∃ t, exec (.farLinkDown n) s = .next t ∧ t.farState n = 3 ∧ (t.farAt n).tags = [] ∧ (t.farAt n).wr = [] ∧
      (t.farAt n).lc = [] ∧ (t.farAt n).fw = [] ∧ (t.farAt n).be = [] ∧ (t.farAt n).retryAt = s.now + msec 1000 ∧
      t.reg (Reg.FTC_WLOST n) = satAdd 32 (s.reg (Reg.FTC_WLOST n)) (s.farAt n).wr.length % 2 ^ 64 ∧
      ((s.farAt n).wr ≠ [] → t.tells { cause := Cause.writeLost, subject := n } = true)) ∧
  (∀ (s : State) (n : FarPort) (c : FarCard), s.farState n = 3 → (s.farAt n).retryAt ≤ s.now → s.inReset = false → farRefusal c = 0 →
    (s.farAt n).serial = some c.serial →
    ∃ t, exec (.farLinkRetrain n c) s = .next t ∧ t.farState n = 2 ∧ (t.farAt n).serial = some c.serial ∧ SameMemory s t ∧
      t.tells { cause := Cause.linkUp, subject := n } = true) ∧
  (∀ (s : State) (n : FarPort) (x : Word32), ∃ t, exec (.ftcDlat n x) s = .next t ∧ SameMemory s t ∧ SameRegs s t [Reg.FTC_DLAT n] ∧
    t.reg (Reg.FTC_DLAT n) % 2 ^ 64 =
      (if s.sealed then s.reg (Reg.FTC_DLAT n) else max (s.farAt n).floor (x.toNat % 2 ^ 16)) % 2 ^ 64)

/-- On an ONLINE port that runs no flush, FAR_READ_ISSUE sends the first LC read with the lowest free tag, the time of sending and the bytes of its line; FAR_READ_RETURN frees its tag and keeps the longest latency in FTC_RDLAT; READ_TIMEOUT after FTC_TIMEOUT frees the tag and counts the poison; FAR_WRITE_COMPLETE takes the oldest sent write from the buffer; the answer of phase 2 ends the flush and is recorded; the device logs are polled every 100 ms. (R314, R315, R316, R317, R320, R329) -/
def Obligations.FarReadsAndWrites : Prop :=
  (∀ (s : State) (n : FarPort) (k : Nat) (r : FarReq) (l : List FarReq), s.farUp n = true → (s.farAt n).gpf = 0 →
    (s.farAt n).freeTag = some k → (s.farAt n).lc = r :: l → s.farOwned r = true →
    ∃ t, exec (.farReadIssue n) s = .next t ∧ SameRegs s t [] ∧ SameMemory s t ∧
      t.farAt n = { s.farAt n with lc := l, tags := Tab.insert (s.farAt n).tags k { r with sent := s.now, data := s.bytes (64 * r.line) 64 } }) ∧
  (∀ (s : State) (n : FarPort) (k : Nat) (r : FarReq), Tab.find (s.farAt n).tags k = some r →
    (∃ t, exec (.farReadReturn n k false) s = .next t ∧ Tab.find (t.farAt n).tags k = none ∧
      t.reg (Reg.FTC_RDLAT n) % 2 ^ 64 = max (s.reg (Reg.FTC_RDLAT n)) (min (ones 32) ((s.now - r.sent) / 63)) % 2 ^ 64) ∧
    (r.sent + usec (s.fld Reg.FTC_TIMEOUT (15, 0)) ≤ s.now → farPortOf (64 * r.line) = n.val →
      ∃ t, exec (.readTimeout n k) s = .next t ∧ Tab.find (t.farAt n).tags k = none ∧
        t.reg (Reg.FTC_POISON n) % 2 ^ 64 = satAdd 32 (s.reg (Reg.FTC_POISON n)) 1 % 2 ^ 64)) ∧
  (∀ (s : State) (n : FarPort) (w : FarWrite) (l : List FarWrite), s.farUp n = true → (s.farAt n).gpf = 0 → (s.farAt n).wr = w :: l →
    w.sent = true →
    ∃ t, exec (.farWriteComplete n) s = .next t ∧ SameMemory s t ∧ SameRegs s t [] ∧ t.farAt n = { s.farAt n with wr := l }) ∧
  (∀ (s : State) (n : FarPort) (done : Bool), (s.farAt n).gpf = 2 → (s.farAt n).gpfNotice = false →
    ∃ t, exec (.gpfPhase2Response n done) s = .next t ∧ SameMemory s t ∧ (t.farAt n).gpf = 3 ∧
      t.tells { cause := if done then Cause.gpfDone else Cause.gpfFail, subject := n } = true) ∧
  (∀ (s : State) (events : List (FarPort × Nat × List Byte)), s.far.pollAt ≤ s.now →
    ∃ t, exec (.devEventPoll events) s = .next t ∧ SameMemory s t ∧ t.far.pollAt = s.now + msec 100)

/-- In SEARCH a due slot moves the slot number on by one and writes only LNK_PSTAT; a full set shows FULL; after 64 slots the port is LONE when nothing was heard and in FAULT with reason 2 when something was, both recorded; a due beacon asks for its words and sets the next 100 ms on; a LOCK that takes 2 ms goes back to SEARCH, or in a quick retrain to the next attempt, a fourth being a SEARCH. (R338, R339, R341, R343, R346, R363, Table 10.3) -/
def Obligations.LenlinkSearchMoves : Prop :=
  (∀ (s : State) (n : Port), s.lnkState n = 1 → (s.lnkAt n).slots < 64 → (s.lnkAt n).searchAt + usec 2048 * ((s.lnkAt n).slots + 1) ≤ s.now →
    ∃ t, exec (.searchSlot n) s = .next t ∧ (t.lnkAt n).slots = (s.lnkAt n).slots + 1 ∧ t.lnkState n = 1 ∧
      SameRegs s t [Reg.LNK_PSTAT n] ∧ SameMemory s t) ∧
  (∀ (s : State) (n : Port) (h : Nat), s.lnkState n = 1 → (s.lnkAt n).firstHeard = some h → s.fld (Reg.LNK_PSTAT n) F.LNK_PSTAT_FULL = 0 →
    h + usec 8192 ≤ s.now → (s.lnkAt n).partner.full = false →
    ∃ t, exec (.fullSet n) s = .next t ∧ t.fld (Reg.LNK_PSTAT n) F.LNK_PSTAT_FULL = 1 ∧ t.lnkState n = 1 ∧
      SameRegs s t [Reg.LNK_PSTAT n] ∧ SameMemory s t) ∧
  (∀ (s : State) (n : Port), s.lnkState n = 1 → 64 ≤ (s.lnkAt n).slots →
    (s.fld (Reg.LNK_PSTAT n) F.LNK_PSTAT_HEARD = 0 → ∃ t, exec (.searchEnd n) s = .next t ∧ t.lnkState n = 2 ∧
      t.tells { cause := Cause.portLone, subject := n } = true ∧ (t.lnkAt n).beaconAt = s.now + msec 100) ∧
    (s.fld (Reg.LNK_PSTAT n) F.LNK_PSTAT_HEARD ≠ 0 → ∃ t, exec (.searchEnd n) s = .next t ∧ t.lnkState n = 9 ∧
      t.fld (Reg.LNK_PSTAT n) F.LNK_PSTAT_REASON = 2 ∧ t.tells { cause := Cause.portFault, subject := n, arg0 := 2 } = true)) ∧
  (∀ (s : State) (n : Port), s.lnkState n = 2 → (s.lnkAt n).beaconAt ≤ s.now →
    ∃ t, exec (.beacon n) s = .next t ∧ (t.lnkAt n).beacon = 1 ∧ (t.lnkAt n).beaconAt = (s.lnkAt n).beaconAt + msec 100 ∧
      t.lnkState n = 2 ∧ SameRegs s t [] ∧ SameMemory s t) ∧
  (∀ (s : State) (n : Port), s.lnkState n = 3 → (s.lnkAt n).enterAt + msec 2 ≤ s.now →
    ((s.lnkAt n).quick = 0 ∨ 3 ≤ (s.lnkAt n).quick → ∃ t, exec (.lockTimeout n) s = .next t ∧ t.lnkState n = 1) ∧
    (1 ≤ (s.lnkAt n).quick → (s.lnkAt n).quick < 3 → ∃ t, exec (.lockTimeout n) s = .next t ∧ t.lnkState n = 3 ∧
      (t.lnkAt n).quick = (s.lnkAt n).quick + 1))

/-- ADAPT_DONE within its limit enters CODE; ADAPT past it is FAULT with reason 4 outside a quick retrain; a CODE window in which every lane is good settles the receive spare at 15 and stays in CODE; SYNC with both spares settled within 5 ms makes the port ACTIVE, shows its partner as valid and counts the training. (R348, R358, R360, R361, Table 10.3) -/
def Obligations.LenlinkTrainsToActive : Prop :=
  (∀ (s : State) (n : Port), s.lnkState n = 4 →
    (s.now < (s.lnkAt n).enterAt + (s.lnkAt n).adaptLimit → ∃ t, exec (.adaptDone n) s = .next t ∧ t.lnkState n = 5 ∧ (t.lnkAt n).enterAt = s.now ∧
      SameRegs s t [Reg.LNK_PSTAT n] ∧ SameMemory s t ∧
      ∀ l, l < 9 → (t.lnkLane n l).failed = ((s.lnkLane n l).map.isNone || decide (800 < (s.lnkLane n l).skew))) ∧
    ((s.lnkAt n).enterAt + (s.lnkAt n).adaptLimit ≤ s.now → (s.lnkAt n).quick = 0 → ∃ t, exec (.adaptTimeout n) s = .next t ∧ t.lnkState n = 9 ∧
      t.fld (Reg.LNK_PSTAT n) F.LNK_PSTAT_REASON = 4 ∧ t.tells { cause := Cause.portFault, subject := n, arg0 := 4 } = true)) ∧
  (∀ (s : State) (n : Port) (ms : List LaneMeas), s.lnkState n = 5 → (s.lnkAt n).judged = false → ms.length = 9 →
    (s.lnkAt n).enterAt + (if (s.lnkAt n).quick = 0 then msec 1 else usec 250) ≤ s.now → (∀ l, l < 9 → (s.lnkLane n l).failed = false) →
    (∀ m ∈ ms, s.fld Reg.LNK_QMIN F.LNK_QMIN_SNR ≤ m.snr ∧ m.corr ≤ s.fld Reg.LNK_QMIN F.LNK_QMIN_CORR) →
    ∃ t, exec (.codeWindowEnd n ms) s = .next t ∧ (t.lnkAt n).judged = true ∧ t.fld (Reg.LNK_PSTAT n) F.LNK_PSTAT_RXSPARE = 15 ∧
      t.lnkState n = 5 ∧ SameRegs s t [Reg.LNK_PSTAT n] ∧ SameMemory s t) ∧
  (∀ (s : State) (n : Port) (rtt : Nat), s.lnkState n = 5 → s.now ≤ (s.lnkAt n).enterAt + msec 5 → (s.lnkAt n).judged = true →
    (s.lnkAt n).reported = true →
    ∃ t, exec (.sync n rtt) s = .next t ∧ t.lnkState n = 6 ∧
      t.reg (Reg.LNK_PARTNER n) = 2 ^ 31 + (s.lnkAt n).partner.port % 16 * 2 ^ 13 + (s.lnkAt n).partner.dev % 2 ^ 13 ∧
      t.reg (Reg.LNK_TRAINS n) = satAdd 32 (s.reg (Reg.LNK_TRAINS n)) 1)

/-- In training, a FIRREQ leaves a lane's five taps within their limits with MAIN absorbing every move, and a DPDREQ on an optical port leaves the four codes rising and below 256, where they were so before; on another port it moves no code; OFFSET_UPDATE stores the offset in every state from LOCK on but DOZE; a sync word whose check fails changes nothing but LNK_CRCERR, and a good one in ADAPT at the port's rate tells the partner's state. (R335, R349, R354, R355) -/
def Obligations.LenlinkPartnersTuneEachOther : Prop :=
  let taps := fun (f : List Int) => f.length = 5 ∧ (∀ k, k < 5 → k ≠ 2 → (f.getD k 0).natAbs ≤ 15) ∧ 32 ≤ f.getD 2 0 ∧ f.getD 2 0 ≤ 64 ∧
    f.getD 2 0 = 64 - (((f.getD 0 0).natAbs + (f.getD 1 0).natAbs + (f.getD 3 0).natAbs + (f.getD 4 0).natAbs : Nat) : Int)
  let codes := fun (d : List Nat) => d.length = 4 ∧ d.Pairwise (· < ·) ∧ ∀ x ∈ d, x ≤ 255
  (∀ (s : State) (n : Port) (l : Fin 9) (req : BitVec 12), s.training n = true →
    ∃ t, exec (.firreq n l req) s = .next t ∧ SameRegs s t [] ∧ SameMemory s t ∧ (taps (s.lnkLane n l).fir → taps (t.lnkLane n l).fir) ∧
      (t.lnkLane n l).dpd = (s.lnkLane n l).dpd ∧ ∀ j, j ≠ l.val → t.lnkLane n j = s.lnkLane n j) ∧
  (∀ (s : State) (n : Port) (l : Fin 9) (req : Byte), s.training n = true →
    ∃ t, exec (.dpdreq n l req) s = .next t ∧ SameRegs s t [] ∧ SameMemory s t ∧ (codes (s.lnkLane n l).dpd → codes (t.lnkLane n l).dpd) ∧
      (t.lnkLane n l).fir = (s.lnkLane n l).fir ∧ ((s.lnkAt n).media = false → (t.lnkLane n l).dpd = (s.lnkLane n l).dpd ∧ (t.lnkLane n l).dpdStat = 0)) ∧
  (∀ (s : State) (n : Port) (x : BitVec 16), 3 ≤ s.lnkState n → s.lnkState n ≤ 8 → s.lnkState n ≠ 7 →
    ∃ t, exec (.offsetUpdate n x) s = .next t ∧ t.fld (Reg.LNK_OFFSET n) F.LNK_OFFSET_OFFSET = x.toNat ∧
      SameRegs s t [Reg.LNK_OFFSET n] ∧ SameMemory s t) ∧
  (∀ (s : State) (n : Port) (r : Fin 4) (l : Fin 9) (w : List Byte) (k : Nat),
    (s.lnkState n ≠ 0 → s.lnkState n ≠ 9 → syncOk (upright w).2 = false →
      ∃ t, exec (.syncWord n r l w k) s = .next t ∧ t.reg (Reg.LNK_CRCERR n) = satAdd 32 (s.reg (Reg.LNK_CRCERR n)) 1 ∧
        SameRegs s t [Reg.LNK_CRCERR n] ∧ SameMemory s t ∧ t.lnk = s.lnk) ∧
    (s.lnkState n = 4 → s.lnkRate n = r.val → syncOk (upright w).2 = true →
      ∃ t, exec (.syncWord n r l w k) s = .next t ∧ (t.lnkAt n).partner.state = field (upright w).2 8 1 ∧ SameRegs s t [] ∧ SameMemory s t))

/-- An ACTIVE port that loses lock counts it and starts a quick retrain in LOCK, or a SEARCH when another partner is heard; an attempt past 5 ms is the next one, after three a SEARCH; FAULT ends in a SEARCH after one second; ENABLE takes a DISABLED port to SEARCH, and its clearing takes a port whose drivers are not ramping up to DISABLED; RETRAIN 1 or 2 is kept for the next tick and 0 or 3 does nothing. (R337, R362, R363, R364, Table 10.3) -/
def Obligations.LenlinkLosesLockAndRetrains : Prop :=
  (∀ (s : State) (n : Port) (k : Fin 3) (dev port : Nat), s.lnkState n = 6 →
    ∃ t, exec (.lockLost n k dev port) s = .next t ∧ t.lnkState n = (if k = 2 then 1 else 3) ∧
      t.reg (Reg.LNK_LOCKLOSS n) = satAdd 32 (s.reg (Reg.LNK_LOCKLOSS n)) 1) ∧
  (∀ (s : State) (n : Port), (s.lnkAt n).quick ≠ 0 → s.lnkState n = 3 ∨ s.lnkState n = 4 ∨ s.lnkState n = 5 → (s.lnkAt n).quickAt + msec 5 ≤ s.now →
    ∃ t, exec (.quickRetrain n) s = .next t ∧ (if 3 ≤ (s.lnkAt n).quick then t.lnkState n = 1 else
      t.lnkState n = 3 ∧ (t.lnkAt n).quick = (s.lnkAt n).quick + 1 ∧ (t.lnkAt n).quickAt = s.now)) ∧
  (∀ (s : State) (n : Port), s.lnkState n = 9 → (s.lnkAt n).enterAt + msec 1000 ≤ s.now → ∃ t, exec (.faultExpire n) s = .next t ∧ t.lnkState n = 1) ∧
  (∀ (s : State) (n : Port), s.lnkState n = 0 → ∃ t, exec (.lnkEnable n true) s = .next t ∧ t.lnkState n = 1 ∧
    t.fld (Reg.LNK_PCTL n) F.LNK_PCTL_ENABLE = 1) ∧
  (∀ (s : State) (n : Port), s.lnkState n ≠ 0 → (∀ k, (s.lnkAt n).ramp ≠ .up k) → ∃ t, exec (.lnkEnable n false) s = .next t ∧ t.lnkState n = 0 ∧
    t.fld (Reg.LNK_PCTL n) F.LNK_PCTL_ENABLE = 0) ∧
  (∀ (s : State) (n : Port) (v : BitVec 2), ∃ t, exec (.lnkRetrain n v) s = .next t ∧ SameRegs s t [] ∧ SameMemory s t ∧
    t.lnkAt n = (if v = 1 ∨ v = 2 then { s.lnkAt n with retrain := some (v.toNat, s.tick) } else s.lnkAt n))

/-- RATEMAX stores its value, sets the ceiling of a DISABLED or FAULT port and lowers that of a searching or LONE one; MEDIA is stored on the optical ports only and not once sealed; a ramp that ends leaves the drivers on or off as they are driven; a doze that both ports agree to enters DOZE, and the first agreement is acknowledged; clearing DOZE starts the wake, and a relocked port is ACTIVE. (R356, R357, R365, R366, R367, R407) -/
def Obligations.LenlinkRatesRampsAndDoze : Prop :=
  (∀ (s : State) (n : Port) (v : BitVec 2), ∃ t, exec (.lnkRatemax n v) s = .next t ∧ t.fld (Reg.LNK_PCTL n) F.LNK_PCTL_RATEMAX = v.toNat ∧
    t.lnkState n = s.lnkState n ∧ SameRegs s t [Reg.LNK_PCTL n, Reg.LNK_PSTAT n] ∧ SameMemory s t ∧
    (s.lnkState n = 0 ∨ s.lnkState n = 9 → t.lnkCeil n = v.toNat) ∧ (s.lnkState n = 1 ∨ s.lnkState n = 2 → t.lnkCeil n = min v.toNat (s.lnkCeil n))) ∧
  (∀ (s : State) (n : Port) (on : Bool), ∃ t, exec (.lnkMedia n on) s = .next t ∧ SameMemory s t ∧ SameRegs s t [Reg.LNK_PCTL n] ∧
    t.fld (Reg.LNK_PCTL n) F.LNK_PCTL_MEDIA = (if s.sealed then s.fld (Reg.LNK_PCTL n) F.LNK_PCTL_MEDIA else b2n (on && decide (12 ≤ n.val)))) ∧
  (∀ (s : State) (n : Port) (e : Nat), e ≤ s.now →
    ((s.lnkAt n).ramp = .up e → (s.lnkAt n).disableLater = false → (s.lnkAt n).beacon ≠ 1 → (s.lnkAt n).driven = true →
      ∃ t, exec (.rampEnd n) s = .next t ∧ (t.lnkAt n).on = true ∧ (t.lnkAt n).ramp = .idle ∧ SameRegs s t [] ∧ SameMemory s t) ∧
    ((s.lnkAt n).ramp = .down e → (s.lnkAt n).driven = false →
      ∃ t, exec (.rampEnd n) s = .next t ∧ (t.lnkAt n).on = false ∧ (t.lnkAt n).ramp = .idle ∧ SameRegs s t [] ∧ SameMemory s t)) ∧
  (∀ (s : State) (n : Port), s.lnkState n = 6 → s.fld (Reg.LNK_PCTL n) F.LNK_PCTL_DOZE = 1 → (s.lnkAt n).partner.state ≠ 8 → s.dozeAgreed n = true →
    ∃ t, exec (.dozeRequest n) s = .next t ∧ SameMemory s t ∧
      (if (s.lnkAt n).ackSent = true ∧ (s.lnkAt n).partner.dozeAck = true then t.lnkState n = 7 else t.lnkState n = 6 ∧ (t.lnkAt n).ackSent = true)) ∧
  (∀ (s : State) (n : Port), (s.lnkState n = 7 → s.fld (Reg.LNK_PCTL n) F.LNK_PCTL_DOZE = 0 → ∃ t, exec (.wake n false) s = .next t ∧ t.lnkState n = 8) ∧
    (s.lnkState n = 8 → ∃ t, exec (.wake n true) s = .next t ∧ t.lnkState n = 6))

/-- On an ACTIVE port that carries traffic, a flit whose check fails, or that is not the one expected, leaves ACKSEQ as it was and starts dropping; a clean IDLE flit that is expected moves ACKSEQ to its number; a NAK sends every unacknowledged flit again and is counted; eight failed rounds start a quick retrain; a port that has left the link loses its buffers and counts what was in them; a frame in slot 0 is a marker, and a frame in another slot of a port with room sends one flit under the next number and keeps it. (R377, R380, R381, R352, Table 11.2) -/
def Obligations.LinkLayerKeepsOrder : Prop :=
  (∀ (s : State) (n : Port) (flit : List Byte), s.lnkState n = 6 → (s.fabPort n).up = true → (s.fabPort n).isolated = false →
    (flitOk flit = false ∨ bits (field flit 0 2) 11 0 ≠ ((s.fabPort n).ack + 1) % 4096 →
      ∃ t, exec (.flitReceive n flit []) s = .next t ∧ (t.fabPort n).ack = (s.fabPort n).ack ∧ (t.fabPort n).dropping = true ∧
        t.fab.inbox = s.fab.inbox ∧ SameRegs s t [] ∧ SameMemory s t) ∧
    (flitOk flit = true → flitClean flit = true → bits (field flit 0 2) 11 0 = ((s.fabPort n).ack + 1) % 4096 → (s.fabPort n).dropping = false →
      (flitOf flit).kind = 0 → (flitOf flit).crd = none →
      ∃ t, exec (.flitReceive n flit []) s = .next t ∧ (t.fabPort n).ack = ((s.fabPort n).ack + 1) % 4096 ∧ (t.fabPort n).ackV = true ∧
        (t.fabPort n).dropping = false ∧ t.fab.inbox = s.fab.inbox ∧ SameRegs s t [] ∧ SameMemory s t)) ∧
  (∀ (s : State) (n : Port), (s.fabPort n).nakGot = true →
    ∃ t, exec (.nak n) s = .next t ∧ (t.fabPort n).nakGot = false ∧ (t.fabPort n).again = (s.fabPort n).replay.map (·.1) ∧
      t.reg (Reg.FAB_REPLAY n) = satAdd 32 (s.reg (Reg.FAB_REPLAY n)) 1 ∧ t.tells { cause := Cause.replay, subject := n } = true ∧ SameMemory s t) ∧
  (∀ (s : State) (n : Port), 8 ≤ (s.fabPort n).fails → s.lnkState n = 6 → ∃ t, exec (.replayLimit n) s = .next t ∧ t.lnkState n = 3) ∧
  (∀ (s : State) (n : Port), s.lnkState n = 0 ∨ s.lnkState n = 1 ∨ s.lnkState n = 2 ∨ s.lnkState n = 9 →
    ∃ t, exec (.flitsLost n) s = .next t ∧ (t.fabPort n).up = false ∧ (t.fabPort n).replay = [] ∧ (t.fabPort n).rx = [] ∧ SameMemory s t ∧
      t.reg (Reg.FAB_FLITLOST n) = (if (s.fabPort n).replay.length + (s.fabPort n).inputFlits = 0 then s.reg (Reg.FAB_FLITLOST n)
        else satAdd 32 (s.reg (Reg.FAB_FLITLOST n)) ((s.fabPort n).replay.length + (s.fabPort n).inputFlits))) ∧
  (∀ (s : State) (n : Port), s.lnkState n = 6 →
    ((s.lnkAt n).slot = 0 → ∃ t, exec (.frameSend n) s = .next t ∧ (t.lnkAt n).slot = 1 ∧ (t.lnkAt n).seq = ((s.lnkAt n).seq + 1) % 2 ^ 16 ∧
      t.fab = s.fab ∧ SameRegs s t [] ∧ SameMemory s t) ∧
    ((s.lnkAt n).slot ≠ 0 → (s.fabPort n).up = true → (s.fabPort n).nakGot = false → (s.fabPort n).again = [] → (s.fabPort n).replay.length < 256 →
      ∃ t f, exec (.frameSend n) s = .next t ∧ (t.lnkAt n).slot = ((s.lnkAt n).slot + 1) % 4096 ∧
        (t.fabPort n).nextSeq = ((s.fabPort n).nextSeq + 1) % 4096 ∧
        (t.fabPort n).replay = (s.fabPort n).replay ++ [((s.fabPort n).nextSeq, f)] ∧ SameRegs s t [] ∧ SameMemory s t))

/-- An ACTIVE port whose partner is the one the map names carries traffic; with another it carries none, is miswired and recorded; UNISOLATE ends isolation, forgets the breaches and shows the port's state; FAB_FLY shows the larger of the measured and the operator's flight time unless the device is sealed; an LSTATE that arrives is kept for its sender, and the reachable set is worked out anew. (R373, R385, R403, R655) -/
def Obligations.FabricPortsFollowTheMap : Prop :=
  (∀ (s : State) (n : Port) (d q : Nat), s.lnkState n = 6 → s.fab.map.partner s.devId n = some (d, q) →
    (d = s.fld (Reg.LNK_PARTNER n) F.LNK_PARTNER_DEVID → q = s.fld (Reg.LNK_PARTNER n) F.LNK_PARTNER_PORT →
      ∃ t, exec (.miswired n) s = .next t ∧ (t.fabPort n).up = true ∧ (t.fabPort n).miswired = false ∧ SameMemory s t) ∧
    (d ≠ s.fld (Reg.LNK_PARTNER n) F.LNK_PARTNER_DEVID ∨ q ≠ s.fld (Reg.LNK_PARTNER n) F.LNK_PARTNER_PORT →
      ∃ t, exec (.miswired n) s = .next t ∧ (t.fabPort n).up = false ∧ (t.fabPort n).miswired = true ∧ SameMemory s t ∧
        t.tells { cause := Cause.miswired, subject := n } = true)) ∧
  (∀ (s : State) (n : Port), ∃ t, exec (.unisolate n) s = .next t ∧ (t.fabPort n).isolated = false ∧ (t.fabPort n).breaches = [] ∧ SameMemory s t ∧
    t.fld (Reg.FAB_PSTATE n) F.FAB_PSTATE_STATE = (if (s.fabPort n).miswired then 3 else if (s.fabPort n).up then 1 else 0)) ∧
  (∀ (s : State) (n : Port) (v : BitVec 16), (s.lnkAt n).flyMeas < 2 ^ 16 →
    ∃ t, exec (.fabFly n v) s = .next t ∧ SameMemory s t ∧ SameRegs s t [Reg.FAB_FLY n, Reg.FAB_HOPNS n] ∧
      t.fld (Reg.FAB_FLY n) F.FAB_FLY_NS = (if s.sealed then s.fld (Reg.FAB_FLY n) F.FAB_FLY_NS else max (s.lnkAt n).flyMeas v.toNat)) ∧
  (∀ (s u : State) (n : Port) (a : Arrived), s.take n 0x0A = some (a, u) →
    ∃ t, exec (.lstate n) s = .next t ∧ Tab.find t.fab.states a.msg.home = some a.msg.body ∧ t.fab.inbox = s.fab.inbox.erase a ∧
      t.fab.reach = t.reachNow ∧ SameMemory s t)

/-- A QREQ that no CANCEL preceded opens the lane of its query, and one whose CANCEL came first opens none; a QLIST that a lane awaits joins its inputs, and another is counted as late; a lane with every input emits and is gone; at the home's timer the query's lane is gone and FAB_TIMEOUT counts; at a subtree's timer the lane emits what it holds and FAB_SUBTMO counts; a CANCEL removes the lane and is kept, and kept ones are forgotten after 100 us. (R389, R390, R391, R392, R393, R394, R395) -/
def Obligations.ShardedSearchLanes : Prop :=
  (∀ (s u : State) (n : Port) (a : Arrived), s.take n 1 = some (a, u) → s.lane a.msg.home a.msg.hent a.msg.gen = none →
    (s.fab.cancelled.any (fun c => c.1 == (a.msg.home, a.msg.hent, a.msg.gen)) = false →
      ∃ t, exec (.qreq n) s = .next t ∧ (t.lane a.msg.home a.msg.hent a.msg.gen).isSome = true ∧ t.fab.inbox = s.fab.inbox.erase a ∧ SameMemory s t) ∧
    (s.fab.cancelled.any (fun c => c.1 == (a.msg.home, a.msg.hent, a.msg.gen)) = true →
      ∃ t, exec (.qreq n) s = .next t ∧ t.fab.lanes = s.fab.lanes ∧ t.seqs = s.seqs ∧ t.fab.inbox = s.fab.inbox.erase a ∧ SameRegs s t [] ∧ SameMemory s t)) ∧
  (∀ (s u : State) (n : Port) (a : Arrived) (l : Lane), s.take n 2 = some (a, u) → s.lane a.msg.home a.msg.hent a.msg.gen = some l →
    (l.awaits.contains (s.from_ n) = true → ∃ t, exec (.qlist n) s = .next t ∧ SameRegs s t [] ∧ SameMemory s t ∧
      t.lane a.msg.home a.msg.hent a.msg.gen = some { l with awaits := l.awaits.erase (s.from_ n), inputs := l.inputs ++ [{ ListIn.ofBytes a.msg.body with void := (ListIn.ofBytes a.msg.body).void ||| a.msg.void }] }) ∧
    (l.awaits.contains (s.from_ n) = false → ∃ t, exec (.qlist n) s = .next t ∧ t.fab.lanes = s.fab.lanes ∧ SameRegs s t [Reg.FAB_LATE] ∧
      t.reg Reg.FAB_LATE = satAdd 64 (s.reg Reg.FAB_LATE) 1 ∧ SameMemory s t)) ∧
  (∀ (s : State) (h e g : Nat) (l : Lane), s.lane h e g = some l →
    (s.laneReady l = true → ∃ t, exec (.laneEmit h e g) s = .next t ∧ t.lane h e g = none ∧ SameMemory s t) ∧
    (∀ k, l.timer = some k → k ≤ s.now → ∃ t, exec (.subtreeTimerExpire h e g) s = .next t ∧ t.lane h e g = none ∧
      t.reg Reg.FAB_SUBTMO = satAdd 32 (s.reg Reg.FAB_SUBTMO) 1 ∧ SameMemory s t)) ∧
  (∀ (s : State) (e : SeqNo) (q : Sequence) (k : Nat), Tab.find s.seqs e = some q → q.remote.timer = some k → k ≤ s.now → q.isQuery = true →
    q.remote.sent = true → q.remote.list = none → q.ending = none → q.committing = false →
    ∃ t, exec (.remoteTimerExpire e) s = .next t ∧ t.lane s.devId e q.gen = none ∧ t.reg Reg.FAB_TIMEOUT = satAdd 32 (s.reg Reg.FAB_TIMEOUT) 1) ∧
  (∀ (s u : State) (n : Port) (a : Arrived), s.take n 3 = some (a, u) →
    ∃ t, exec (.cancelMsg n) s = .next t ∧ t.lane a.msg.home a.msg.hent a.msg.gen = none ∧
      ((a.msg.home, a.msg.hent, a.msg.gen), s.now) ∈ t.fab.cancelled) ∧
  (∀ s : State, ∃ t, exec .cancelKeepExpire s = .next t ∧ SameRegs s t [] ∧ SameMemory s t ∧
    ∀ c, c ∈ t.fab.cancelled ↔ c ∈ s.fab.cancelled ∧ s.now < c.2 + usec 100)

/-- A WREQ for this device with no shard of its index is malformed and recorded; one whose serial has been executed starts nothing; the next serial starts its part when an entry is free; a WREP that answers the write of its entry ends the COMMIT with its report, and one that answers none is late; when a write has waited past its time, every write to its shard is sent again with a new time. (R398, R399, R404) -/
def Obligations.RemoteWritesRunOnce : Prop :=
  (∀ (s u : State) (n : Port) (a : Arrived), s.take n 4 = some (a, u) → a.msg.dest = s.devId →
    (s.shardOf a.msg.home (field a.msg.body 0 8) = none → ∃ t, exec (.wreq n) s = .next t ∧ t.seqs = s.seqs ∧ SameMemory s t ∧
      t.reg (Reg.FAB_MALFORMED n) = satAdd 32 (s.reg (Reg.FAB_MALFORMED n)) 1 ∧ t.tells { cause := Cause.malformed, subject := n, arg0 := a.msg.hdr8 } = true) ∧
    (∀ k i l, s.shardOf a.msg.home (field a.msg.body 0 8) = some (k, i) → field a.msg.body 8 2 = i.myShard →
      s.fab.logs.find? (fun (x : SerialLog) => x.index == k) = some l →
      (a.msg.xarg ≤ l.last → ∃ t, exec (.wreq n) s = .next t ∧ t.seqs = s.seqs ∧ t.fab.logs = s.fab.logs ∧ SameMemory s t) ∧
      (∀ e, a.msg.xarg = l.last + 1 → s.writeRuns k a.msg.xarg = false → u.entryFor i.vf (a.msg.cls % 8) = some e →
        ∃ t x, exec (.wreq n) s = .next t ∧ Tab.find t.seqs e = some x ∧ x.home = some (a.msg.home, a.msg.hent) ∧
          x.remote.serial = a.msg.xarg ∧ SameMemory s t))) ∧
  (∀ (s u : State) (n : Port) (a : Arrived), s.take n 5 = some (a, u) → a.msg.dest = s.devId →
    (∀ q, Tab.find s.seqs a.msg.hent = some q → q.gen = a.msg.gen → q.home = none → q.isQuery = false → q.remote.sent = true → q.remote.report = none →
      q.remote.serial = a.msg.xarg →
      ∃ t x, exec (.wrep n) s = .next t ∧ Tab.find t.seqs a.msg.hent = some x ∧ x.phase = .done ∧ x.remote.report = some (Report.ofBytes a.msg.body) ∧ SameMemory s t) ∧
    (Tab.find s.seqs a.msg.hent = none → ∃ t, exec (.wrep n) s = .next t ∧ t.seqs = s.seqs ∧ t.reg Reg.FAB_LATE = satAdd 64 (s.reg Reg.FAB_LATE) 1 ∧
      SameRegs s t [Reg.FAB_LATE] ∧ SameMemory s t)) ∧
  (∀ (s : State) (h sh e f : Nat) (q p : Sequence) (i : Index) (k : Nat), e ∈ s.remoteWrites h sh → f ∈ s.remoteWrites h sh →
    Tab.find s.seqs e = some q → q.remote.timer = some k → k ≤ s.now → Tab.find s.seqs f = some p → s.indexOf p = some i →
    ∃ t, exec (.writeRetry h sh) s = .next t ∧ SameMemory s t ∧
      Tab.find t.seqs f = some { p with remote := { p.remote with sent := true, timer := some (s.now + rrtUnits i.rrt) } })

/-- A PPREP for a shard starts its part and notes the publish when an entry is free, and one for an epoch already prepared starts nothing; PPRDY and PDONE at the home note the device they come from; a PCOMMIT makes the prepared part commit, and a repeat after the commit starts nothing; a publish whose time has passed without every report is sent again with a new time. (R400) -/
def Obligations.ShardedPublishes : Prop :=
  (∀ (s u : State) (n : Port) (a : Arrived) (k : Nat) (i : Index), s.take n 6 = some (a, u) → s.shardOf a.msg.home (field a.msg.body 0 8) = some (k, i) →
    (∀ p, s.pubOf k a.msg.xarg = some p → ∃ t, exec (.pprep n) s = .next t ∧ t.seqs = s.seqs ∧ t.fab.pubs = s.fab.pubs ∧ SameMemory s t) ∧
    (∀ e, s.pubOf k a.msg.xarg = none → s.entryFor i.vf (a.msg.cls % 8) = some e →
      ∃ t x, exec (.pprep n) s = .next t ∧ Tab.find t.seqs e = some x ∧ x.opcode = 4 ∧ x.home = some (a.msg.home, a.msg.hent) ∧ SameMemory s t ∧
        ∃ p ∈ t.fab.pubs, p.index = k ∧ p.epoch = a.msg.xarg ∧ p.phase = 0)) ∧
  (∀ (s u : State) (n : Port) (a : Arrived) (q : Sequence), a.msg.home = s.devId → Tab.find s.seqs a.msg.hent = some q → q.gen = a.msg.gen → q.opcode = 4 →
    q.home = none →
    (s.take n 7 = some (a, u) → ∃ t x, exec (.pprdy n) s = .next t ∧ Tab.find t.seqs a.msg.hent = some x ∧ a.msg.dest ∈ x.remote.ready ∧
      x.remote.finished = q.remote.finished ∧ SameRegs s t [] ∧ SameMemory s t) ∧
    (s.take n 9 = some (a, u) → ∃ t x, exec (.pdone n) s = .next t ∧ Tab.find t.seqs a.msg.hent = some x ∧ a.msg.dest ∈ x.remote.finished ∧
      x.remote.ready = q.remote.ready ∧ SameRegs s t [] ∧ SameMemory s t)) ∧
  (∀ (s u : State) (n : Port) (a : Arrived) (p : ShardPub), s.take n 8 = some (a, u) →
    s.fab.pubs.find? (fun p => p.home == a.msg.home && p.hent == a.msg.hent && p.gen == a.msg.gen) = some p →
    (p.phase = 2 → ∃ t, exec (.pcommit n) s = .next t ∧ t.seqs = s.seqs ∧ SameMemory s t) ∧
    (p.phase ≠ 2 → ∀ e q, Tab.find s.seqs e = some q → q.index = p.index → q.opcode = 4 → q.home = some (a.msg.home, a.msg.hent) → q.stage = stUPSEND →
      ∃ t, exec (.pcommit n) s = .next t ∧ Tab.find t.seqs e = some { q with committing := true } ∧ SameMemory s t)) ∧
  (∀ (s : State) (e : SeqNo) (q : Sequence) (i : Index) (k : Nat), Tab.find s.seqs e = some q → q.opcode = 4 → q.home = none → q.remote.sent = true →
    q.remote.timer = some k → k ≤ s.now → s.indexOf q = some i →
    (s.otherShards q).all (fun d => (if q.remote.commitSent then q.remote.finished else q.remote.ready).contains d) = false →
    ∃ t x, exec (.publishRetry e) s = .next t ∧ Tab.find t.seqs e = some x ∧ x.remote.timer = some (s.now + rrtUnits i.rrt) ∧
      x.remote.commitSent = q.remote.commitSent ∧ SameMemory s t)

/-- The leader's period moves on by one every 250 us and puts the combination in force; an LDOWN that arrives is in force at this device, and its period is answered; a LUP is kept by the leader and combined upward by another device; a member with no LDOWN for 1 ms leaves the league and says so; a member unheard too long is dropped and recorded; Sosin traffic for another device only leaves the inbox. (R401, R402, Table 11.5) -/
def Obligations.LeagueRunsByPeriods : Prop :=
  (∀ s : State, s.leads = true → s.fab.league.ldownDue ≤ s.now →
    ∃ t, exec .ldownPeriod s = .next t ∧ t.fab.league.period = (s.fab.league.period + 1) % 2 ^ 32 ∧ t.agreed = true ∧ SameMemory s t ∧
      t.fab.league.ldownDue = (if s.fab.league.ldownDue = 0 then s.now else s.fab.league.ldownDue) + usec 250 ∧
      t.fab.league.op = s.leagueOp s.leagueWants.1 ∧ t.fab.league.ratio = s.leagueWants.2 ∧ t.fab.league.heardAt = some s.now) ∧
  (∀ (s u : State) (n : Port) (a : Arrived), s.take n 12 = some (a, u) →
    ∃ t, exec (.ldown n) s = .next t ∧ t.agreed = true ∧ t.fab.league.op = bits (field a.msg.body 0 4) 2 0 ∧ t.fab.league.ratio = bits (field a.msg.body 0 4) 14 8 ∧
      t.fld Reg.FAB_LEAGUE F.FAB_LEAGUE_OP = bits (field a.msg.body 0 4) 2 0 ∧ t.fld Reg.FAB_LEAGUE F.FAB_LEAGUE_RATIO = bits (field a.msg.body 0 4) 14 8 ∧
      t.fab.league.period = a.msg.xarg ∧ t.fab.league.heardAt = some s.now ∧ SameMemory s t) ∧
  (∀ (s u : State) (n : Port) (a : Arrived), s.take n 11 = some (a, u) →
    ∃ t, exec (.lup n) s = .next t ∧ SameMemory s t ∧
      (if s.devId = 0 then Tab.find t.fab.league.lups a.msg.hent = some (bits (field a.msg.body 0 4) 2 0, bits (field a.msg.body 0 4) 14 8, 0)
       else t.fab.league.combOp = max s.fab.league.combOp (bits (field a.msg.body 0 4) 2 0) ∧
         t.fab.league.combRatio = max s.fab.league.combRatio (bits (field a.msg.body 0 4) 14 8))) ∧
  (∀ (s : State) (k : Nat), s.fab.league.heardAt = some k → k + msec 1 ≤ s.now → s.agreed = true →
    ∃ t, exec .leagueLost s = .next t ∧ t.agreed = false ∧ t.fab.league.lost = true ∧ t.tells { cause := Cause.leagueLost } = true ∧ SameMemory s t) ∧
  (∀ (s : State) (d : Nat) (x : Nat × Nat × Nat), Tab.find s.fab.league.lups d = some x → 4 < x.2.2 →
    ∃ t, exec (.memberLost d) s = .next t ∧ Tab.find t.fab.league.lups d = none ∧ t.tells { cause := Cause.memberLost, subject := d } = true ∧ SameMemory s t) ∧
  (∀ (s u : State) (n : Port) (a : Arrived), s.take n 0x0D = some (a, u) → a.msg.dest ≠ s.devId ∨ s.sosin.ready = false →
    ∃ t, exec (.mgt n) s = .next t ∧ t.fab.inbox = s.fab.inbox.erase a ∧ t.sosin = s.sosin ∧ SameMemory s t)

/-- Before configuration ready and in an FLR a configuration request is answered with retry status and changes nothing else; Memory Space Enable and a BAR of the PF are stored, the BAR at its size; VF Enable appears with its time, and its clearing puts every VF in its FLR; NumVFs and System Page Size are stored while VF Enable is clear and stay otherwise; a read of closed memory is an Unsupported Request that sets AER and is recorded, and so is a PF access to a locked TDI's ring window. (R411, R412, R414, R415, R424, R426, R431) -/
def Obligations.ConfigurationAndClosedMemory : Prop :=
  (∀ (s : State) (f : Fn) (op : CfgOp), s.configReady = false ∨ (s.fnAt f).flr = true →
    ∃ t, exec (.configRequest f op) s = .next t ∧ t = { s with out := s.out ++ [.config f none] }) ∧
  (∀ (s : State) (on : Bool) (k a : Nat), s.configReady = true → (s.fnAt 0).flr = false →
    (∃ t, exec (.configRequest 0 (.memSpace on)) s = .next t ∧ t.host.mse = on ∧ SameRegs s t [] ∧ SameMemory s t) ∧
    (k < 2 → s.host.bars.length = 3 → ∃ t, exec (.configRequest 0 (.writeBar k a)) s = .next t ∧ SameRegs s t [] ∧ SameMemory s t ∧
      t.host.bars.getD k 0 % barSize k = 0 ∧ t.host.bars.getD k 0 ≤ a % 2 ^ 64 ∧ a % 2 ^ 64 < t.host.bars.getD k 0 + barSize k)) ∧
  (∀ s : State, s.configReady = true → (s.fnAt 0).flr = false →
    (s.host.vfEnable = false → ∃ t, exec (.vfEnable true) s = .next t ∧ t.host.vfEnable = true ∧ t.host.vfEnableAt = s.now ∧ SameRegs s t [] ∧ SameMemory s t) ∧
    (s.host.vfEnable = true → ∃ t, exec (.vfEnable false) s = .next t ∧ t.host.vfEnable = false ∧ ∀ f ∈ s.vfs, (t.fnAt f).flr = true) ∧
    (∀ n, n ≤ 64 → ∃ t, exec (.numvfsWrite n) s = .next t ∧ SameRegs s t [] ∧ SameMemory s t ∧
      t.host.numVfs = if s.host.vfEnable then s.host.numVfs else n) ∧
    (∀ k, k < 5 → ∃ t, exec (.systemPageSizeWrite (2 ^ k)) s = .next t ∧ SameRegs s t [] ∧ SameMemory s t ∧
      t.host.pageSize = if s.host.vfEnable then s.host.pageSize else 2 ^ k)) ∧
  (∀ (s : State) (v : BarView) (off : Nat) (secure : Bool), s.memOpen (barFn v) = false → s.fnExists (barFn v) = true →
    (barFn v = 0 ∨ s.host.vfEnable = false ∨ s.host.vfEnableAt + msec 1 ≤ s.now) →
    ∃ t, exec (.hostUr v off secure) s = .next t ∧ t.out = s.out ++ [.readData (barFn v) none] ∧ .unsupportedRequest ∈ t.host.aer ∧ SameMemory s t ∧
      t.tells { cause := Cause.hostUr, func := barFn v, subject := barFn v, addr := s.hostAddr v off } = true) ∧
  (∀ (s : State) (p : RingPair) (off : Nat), s.memOpen 0 = true → s.tdiBlocked .pf2 p = true →
    ∃ t, exec (.tdiBlock p off) s = .next t ∧ t.out = s.out ++ [.readData 0 none] ∧ .unsupportedRequest ∈ t.host.aer ∧ SameMemory s t ∧
      t.rings = s.rings ∧ t.tells { cause := Cause.tdiBlock } = true)

/-- ATS_INVALIDATE removes every cached translation of the range, counts it and answers; a command that runs with a buffer and whose DMA is denied, times out, is aborted or is poisoned has the failure and its offset noted in its slot and no register changes; a poisoned TLP of no request sets AER and is recorded. (R418, R419, R429, R430) -/
def Obligations.DmaRequestsThatFail : Prop :=
  (∀ (s : State) (f : Fn) (pasid : Option Nat) (addr len : Nat),
    ∃ t, exec (.atsInvalidate f pasid addr len) s = .next t ∧ t.out = s.out ++ [.invalidated f] ∧ SameRegs s t [Reg.HIF_ATCINV] ∧ SameMemory s t ∧
      t.reg Reg.HIF_ATCINV = satAdd 32 (s.reg Reg.HIF_ATCINV) 1 ∧
      ∀ a, a ∈ t.host.atc ↔ a ∈ s.host.atc ∧ ¬ (a.fn = f.val ∧ a.pasid = pasid ∧ addr < 4096 * (a.page + 1) ∧ 4096 * a.page < addr + len)) ∧
  (∀ (s : State) (m : Mbx) (k : MSlot) (off : Nat) (c : MbxSlot), Tab.find (s.mbxAt m).slots k = some c → c.st = 2 → c.ran = false →
    bit (field c.copy 2 2) 0 = true →
    let noted := fun (t : State) (d : DmaFault) => Tab.find (t.mbxAt m).slots k = some { c with dma := some (d, off) } ∧ SameRegs s t [] ∧ SameMemory s t
    (∃ t, exec (.dmaTimeout (.command m k off)) s = .next t ∧ noted t .timeout) ∧
    (∀ ca : Bool, ∃ t, exec (.dmaAbort (.command m k off) ca) s = .next t ∧ noted t (if ca then .ca else .ur)) ∧
    (∀ f : Fn, ∃ t, exec (.hostPoisonRx f (some (.command m k off))) s = .next t ∧ noted t .poison) ∧
    ((s.fnAt (mbxFn m)).atsEnable = true → ∃ t, exec (.atsDenied (.command m k off)) s = .next t ∧ noted t .denied)) ∧
  (∀ (s : State) (f : Fn), ∃ t, exec (.hostPoisonRx f none) s = .next t ∧ .poisonedTlp ∈ t.host.aer ∧ SameMemory s t ∧
    t.tells { cause := Cause.hostPoisonRx, func := f, subject := f } = true)

/-- A protocol error is recorded and, unless it is an unexpected completion, gives the link one second to come back; when it does not, a fatal occurrence is pending; a corrected error sets its AER bit and is recorded; a training is shown in HIF_LSTAT, and a narrow one is recorded; the link going down acts as an FLR of the PF with VF Enable clear and every stream gone, recorded unless it is a hot reset. (R409, R427, R429, R432, R504) -/
def Obligations.HostLinkEvents : Prop :=
  (∀ s : State, (∃ t, exec (.hostProto 0) s = .next t ∧ t.host.protoDue = s.host.protoDue ∧ .unexpectedCompletion ∈ t.host.aer ∧ SameMemory s t) ∧
    (∀ k : Fin 3, k ≠ 0 → s.host.protoDue = none → ∃ t n, exec (.hostProto k) s = .next t ∧ t.host.protoDue = some (s.now + msec 1000, n) ∧ SameMemory s t ∧
      t.tells { cause := Cause.hostProto } = true)) ∧
  (∀ (s : State) (d n : Nat), s.host.protoDue = some (d, n) → d ≤ s.now → s.fatal = false → s.fatalPend = none →
    ∃ t, exec .hostProtoRecoveryTimeout s = .next t ∧ t.host.protoDue = none ∧ t.fatalPend = some { domain := 4, cause := 0x040A, seq := n } ∧
      SameRegs s t [] ∧ SameMemory s t) ∧
  (∀ (s : State) (k : Fin 5), ∃ t, exec (.hostLinkCe k) s = .next t ∧ SameMemory s t ∧ t.tells { cause := Cause.hostLinkCe } = true ∧
    (match k.val with | 0 => .receiverError | 1 => .badTlp | 2 => .badDllp | 3 => .replay | _ => .fec) ∈ t.host.aer) ∧
  (∀ (s : State) (rate width : Nat) (flit l0p : Bool), rate < 16 → width < 16 →
    (width < 2 ∨ rate ≤ 2 → ∃ t, exec (.hostDegraded rate width flit) s = .next t ∧ t.reg Reg.HIF_LSTAT = b2n flit * 256 + width * 16 + rate ∧
      t.host.l0 = true ∧ t.host.protoDue = none ∧ t.tells { cause := Cause.hostDegraded, arg0 := rate, arg1 := width } = true ∧ SameMemory s t) ∧
    (s.clocked = true → 3 ≤ s.rung → ∃ t, exec (.hostLinkUp rate width flit l0p) s = .next t ∧ t.host.l0 = true ∧ t.host.protoDue = none ∧
      t.reg Reg.HIF_LSTAT = b2n l0p * 512 + b2n flit * 256 + width * 16 + rate ∧ SameRegs s t [Reg.HIF_LSTAT] ∧ SameMemory s t)) ∧
  (∀ (s : State) (hot : Bool), ∃ t, exec (.hostLinkDown hot) s = .next t ∧ t.host.l0 = false ∧ t.host.vfEnable = false ∧ (t.fnAt 0).flr = true ∧
    (∀ k, k < 4 → t.reg (Reg.HIF_IDESTATE k) = 0) ∧
    (hot = false → .surpriseDown ∈ t.host.aer ∧ t.tells { cause := Cause.hostLinkDown } = true))

/-- BUS_MASTER_ENABLE stores its value in a ready function; unmasking a vector that is pending and may go sends its message and clears the pending bit; a key exchange over an open session puts a selective stream in Secure under its key; a failed stream that is Secure goes to Insecure and is recorded, and the locked TDIs that a selective stream covers go to ERROR. (R421, R422, R424, R656) -/
def Obligations.MessagesAndStreams : Prop :=
  (∀ (s : State) (f : Fn) (on : Bool), s.configReady = true → (s.fnAt f).flr = false → s.fnExists f = true →
    ∃ t, exec (.busMasterEnable f on) s = .next t ∧ (t.fnAt f).bme = on) ∧
  (∀ (s : State) (f : Fn), (∃ t, exec (.msixUnmask f) s = .next t ∧ (t.fnAt f).msixMask = false ∧ SameRegs s t [] ∧ SameMemory s t) ∧
    ((s.fnAt f).msixPend = true → (s.fnAt f).msixEnable = true → (s.fnAt f).msixFMask = false → s.maySend f = true →
      ∃ t, exec (.msixUnmask f) s = .next t ∧ (t.fnAt f).msixPend = false ∧ t.out = s.out ++ [.msi f (s.fnAt f).msixAddr (s.fnAt f).msixData])) ∧
  (∀ (s : State) (k : Fin 4) (cover : List Fn) (key : List Byte), s.secured 0 = true → key ≠ [] →
    ∃ t, exec (.ideKm k false cover key) s = .next t ∧ t.reg (Reg.HIF_IDESTATE k) = 2 ∧ Tab.find t.host.ideKeys k = some key ∧
      SameRegs s t [Reg.HIF_IDESTATE k] ∧ SameMemory s t) ∧
  (∀ (s : State) (k : Fin 4), s.fld (Reg.HIF_IDESTATE k) F.HIF_IDESTATE_STATE = 2 →
    (s.fld (Reg.HIF_IDESTATE k) F.HIF_IDESTATE_LINK = 1 → ∃ t, exec (.ideFail k) s = .next t ∧ SameMemory s t ∧
      t.fld (Reg.HIF_IDESTATE k) F.HIF_IDESTATE_STATE = 1 ∧ t.tells { cause := Cause.ideFail } = true) ∧
    (s.fld (Reg.HIF_IDESTATE k) F.HIF_IDESTATE_LINK = 0 → (∀ f ∈ Tab.read s.host.ideCover [] k, f ≤ 64) → ∃ t, exec (.ideFail k) s = .next t ∧
      t.fld (Reg.HIF_IDESTATE k) F.HIF_IDESTATE_STATE = 1 ∧
      ∀ f, f ∈ Tab.read s.host.ideCover [] k → f ≠ 0 → s.tdiLocked f = true → t.tdi f = 3))

/-- Over an open session a confidential tenant under a Secure selective stream is locked, a locked TDI starts, and any stops; a locked TDI that errs is in ERROR with its key gone; an INSTALL that the list of R425 allows puts the key in the slot, and another is answered with its status and changes no key; a VF's FLR and the PF's begin, the latter revoking every tenant that no FLR of its own has under way; and an FLR whose work has ended, with a confidential tenant's key gone, leaves the function answering with its mailbox slots free. (R185, R191, R192, R423, R424, R425, R426, R427) -/
def Obligations.InterfacesAndFunctionResets : Prop :=
  (∀ (s : State) (v : Vf), s.secured 0 = true →
    (∀ tn pasid, Tab.find s.tenants (v.val + 1) = some tn → (s.fnAt (v.val + 1)).pasid = some pasid → tn.conf = true → s.tdi (v.val + 1) = 0 →
      s.covered (v.val + 1) = true → (s.fnAt (v.val + 1)).flr = false →
      ∃ t, exec (.lockInterfaceRequest v) s = .next t ∧ t.tdi (v.val + 1) = 1 ∧ t.reg (Reg.HIF_TDISTATE v) = 1 ∧ SameRegs s t [Reg.HIF_TDISTATE v] ∧ SameMemory s t) ∧
    (s.tdi (v.val + 1) = 1 → ∃ t, exec (.startInterfaceRequest v) s = .next t ∧ t.tdi (v.val + 1) = 2 ∧ t.reg (Reg.HIF_TDISTATE v) = 2 ∧
      SameRegs s t [Reg.HIF_TDISTATE v] ∧ SameMemory s t) ∧
    (∃ t, exec (.stopInterfaceRequest v) s = .next t ∧ t.tdi (v.val + 1) = 0 ∧ t.reg (Reg.HIF_TDISTATE v) = 0 ∧
      SameRegs s t [Reg.HIF_TDISTATE v] ∧ SameMemory s t)) ∧
  (∀ (s : State) (v : Vf), (s.tdiLocked (v.val + 1) = true → ∃ t, exec (.tdiError v) s = .next t ∧ t.tdi (v.val + 1) = 3 ∧ (t.keyOf (v.val + 1)).st = 0 ∧
      t.reg (Reg.HIF_TDISTATE v) = 3) ∧
    (s.tdiLocked (v.val + 1) = false → exec (.tdiError v) s = .next s)) ∧
  (∀ (s : State) (v : Vf) (p : List Byte), s.secured (v.val + 1) = true →
    (s.installStatus (v.val + 1) p = 0 → ∃ t, exec (.install v p) s = .next t ∧ t.out = s.out ++ [.doe (v.val + 1) (leBytes 1 0)] ∧
      t.keyOf (v.val + 1) = { st := 2, keyid := field p 8 8, key := slice p 16 64 } ∧ t.mem = s.mem ∧ SameRegs s t []) ∧
    (s.installStatus (v.val + 1) p ≠ 0 → ∃ t, exec (.install v p) s = .next t ∧ t.far = s.far ∧ SameMemory s t ∧ SameRegs s t [] ∧
      t.out = s.out ++ [.doe (v.val + 1) (leBytes 1 (s.installStatus (v.val + 1) p))])) ∧
  (∀ (s : State) (v : Vf), s.configReady = true → s.fnExists (v.val + 1) = true → (s.fnAt (v.val + 1)).flr = false →
    ∃ t, exec (.vfFlr v) s = .next t ∧ (t.fnAt (v.val + 1)).flr = true ∧ (t.fnAt (v.val + 1)).flrAt = s.now ∧ (t.mbxAt (v.val + 1)).resetting = true ∧ SameMemory s t) ∧
  (∀ s : State, s.configReady = true → ∃ t, exec .pfFlr s = .next t ∧ (t.fnAt 0).flr = true ∧ t.host.vfEnable = false ∧ (∀ f ∈ s.vfs, (t.fnAt f).flr = true) ∧
    (s.host.numVfs ≤ 64 → (∀ x ∈ s.tenants, x.1 ≤ 64) → ∀ f x, Tab.find s.tenants f = some x → (f ∈ s.vfs → (s.fnAt f).flr = false) →
      ∃ y, Tab.find t.tenants f = some y ∧ y.revokeDue = some (s.tick + 1) ∧ y.silent = true)) ∧
  (∀ (s : State) (f : Fn), (s.fnAt f).flr = true → (s.fnAt f).flrTick < s.tick → s.seqs.any (fun (q : Nat × Sequence) => q.2.vf == f.val && f.val != 0) = false →
    s.farReadsOf f = false → s.tdi f = 0 → s.flrKeyGone f = true → (s.mbxAt f).canReset = true →
    ∃ t, exec (.flrComplete f) s = .next t ∧ (t.fnAt f).flr = false ∧ (∀ k, k < 4 → Tab.find (t.mbxAt f).slots k = none) ∧ SameRegs s t [] ∧ SameMemory s t)

/-- The assertion of PERST_N or SYSRST_N in a running device starts reset entry, warm or cold, with no sequence left; a rise of PWRGOOD leaves a device in cold reset with its straps shown, and a fall leaves it off; at the rise of PWRGOOD and at the release of SYSRST_N the flash holds a record that the board has written meanwhile; when reset entry is over the device is held in reset with no sequence, ring pair, tenant, partition or error record, the seal gone after a cold reset and kept after a warm one, and RST_CAUSE tells the trigger. (R588, R589, R590, R597, R609, R611, R612, R613, Table 17.3, Table 17.4) -/
def Obligations.ResetsTakeHold : Prop :=
  (∀ (s : State), s.rst.phase = .running →
    (∃ t, exec (.perstN true) s = .next t ∧ t.rst.phase = .entry ∧ t.rst.cold = false ∧ t.rst.perst = true ∧ t.inReset = true ∧ t.seqs = [] ∧ SameRegs s t [] ∧ SameMemory s t) ∧
    (∀ b, ∃ t, exec (.sysrstN (true, b)) s = .next t ∧ t.rst.phase = .entry ∧ t.rst.cold = true ∧ t.rst.sysrst = true ∧ t.inReset = true ∧ t.seqs = [] ∧ SameRegs s t [] ∧ SameMemory s t)) ∧
  (∀ (s : State), (∃ t, exec (.perstN false) s = .next t ∧ t = { s with rst := { s.rst with perst := false } }) ∧
    (∃ t, exec (.sysrstN (false, [])) s = .next t ∧ t = { s with rst := { s.rst with sysrst := false } }) ∧
    (∀ (n : Nat) (rec : List Byte), s.rst.sysrst = true → rec.all (· == 0xFF) = false →
      ∃ t, exec (.sysrstN (false, [(n, rec)])) s = .next t ∧ t.rst.sysrst = false ∧ Tab.find t.mc.flash n = some rec ∧
        (∀ j, j ≠ n → Tab.find t.mc.flash j = Tab.find s.mc.flash j) ∧ SameRegs s t [] ∧ SameMemory s t)) ∧
  (∀ (s : State) (x : BitVec 4), s.rst.pwrgood = false →
    (∀ b, ∃ t, exec (.pwrgoodRise (x, b)) s = .next t ∧ t.rst.pwrgood = true ∧ t.inReset = true ∧
      t.reg Reg.PIN_STRAP = x.toNat ∧ t.reg Reg.RST_CAUSE = 0 ∧ t.sealed = false ∧ t.rings = [] ∧ t.tenants = []) ∧
    (∀ (n : Nat) (rec : List Byte), rec.all (· == 0xFF) = false → ∃ t, exec (.pwrgoodRise (x, [(n, rec)])) s = .next t ∧
      Tab.find t.mc.flash n = some rec)) ∧
  (∀ (s : State), ∃ t, exec .pwrgoodFall s = .next t ∧ t.rst.phase = .off ∧ t.rst.pwrgood = false ∧ t.inReset = true ∧ t.seqs = [] ∧ t.sealed = false) ∧
  (∀ (s : State), s.rst.phase = .entry → s.entryOver = true → ∃ t, exec .resetEntry s = .next t ∧ t.rst.phase = .held ∧ t.inReset = true ∧ t.seqs = [] ∧
    t.rings = [] ∧ t.tenants = [] ∧ t.parts = [] ∧ t.errq = [] ∧ t.pending = s.pending ∧ t.sealed = (!s.rst.cold && s.sealed) ∧
    t.reg Reg.RST_CAUSE = (s.rst.trigger * 16 + b2n !s.rst.cold) % 2 ^ 64 ∧
    t.reg Reg.RST_WARMS = (if s.rst.cold then 0 else satAdd 32 (s.reg Reg.RST_WARMS) 1) ∧ (∀ a, isFar a = false → Tab.read t.mem 0 a = 0))

/-- A released device climbs to rung 1; rung 3 starts the management controller when its synthesizer locks and TEST is low, and not when it does not lock; rung 6 is configuration ready; a plain rung follows the one before; repairs of a stack end in its training, a trained stack's pseudo-channels serve, and a failed stack's are FAILED; READY opens the mailboxes at rung 13 in the running phase; with no valid image the device stays without one and shows NOIMAGE. (R301, R592, R593, R594, R595, R596, R612, Table 17.5) -/
def Obligations.StartUpClimbs : Prop :=
  (∀ (s : State) (x : BitVec 4), (s.released = true → ∃ t, exec (.startupLadder x) s = .next t ∧ t.rst.phase = .ladder ∧ t.rung = 1 ∧ t.mem = s.mem) ∧
    (s.released = false → s.rst.phase = .ladder → s.rst.synthFail = false →
      (s.rung = 2 → s.fld Reg.PIN_STRAP F.PIN_STRAP_TEST = 0 → bit x.toNat 0 = false → ∃ t, exec (.startupLadder x) s = .next t ∧ t.rung = 3 ∧ t.mc.running = true ∧ SameMemory s t) ∧
      (s.rung = 2 → s.fld Reg.PIN_STRAP F.PIN_STRAP_TEST = 0 → bit x.toNat 0 = true → ∃ t, exec (.startupLadder x) s = .next t ∧ t.rst.synthFail = true ∧ t.rung = 2 ∧ t.mc = s.mc ∧ SameMemory s t) ∧
      (s.rung = 2 → s.fld Reg.PIN_STRAP F.PIN_STRAP_TEST = 1 → exec (.startupLadder x) s = .next s) ∧
      (s.rung = 5 → ∃ t, exec (.startupLadder x) s = .next t ∧ t.rung = 6 ∧ t.inReset = false ∧ t.configReady = true ∧ SameMemory s t) ∧
      (s.rung = 7 ∨ s.rung = 10 → ∃ t, exec (.startupLadder x) s = .next t ∧ t.rung = s.rung + 1 ∧ SameRegs s t [Reg.RST_STAGE] ∧ SameMemory s t) ∧
      (s.rung = 11 → (∀ k, k < 8 → s.stkAt k = 3 ∨ s.stkAt k = 4) → (∃ k, k < 8 ∧ s.stkAt k = 3) → ∃ t, exec (.startupLadder x) s = .next t ∧ t.rung = 12 ∧ SameMemory s t))) ∧
  (∀ (s : State) (k : Stack) (refused : List (Nat × Nat)), s.rst.phase = .ladder → s.stkAt k = 1 →
    ∃ t, exec (.hardRepairDone k refused) s = .next t ∧ t.stkAt k = 2 ∧ ∀ x ∈ t.hardList, x.1 / 32 ≠ k.val) ∧
  (∀ (s : State) (k : Stack), s.rst.phase = .ladder → s.stkAt k = 2 →
    (∃ t, exec (.stackTrained k true []) s = .next t ∧ t.stkAt k = 3 ∧ SameMemory s t ∧ ∀ p, p / 32 = k.val → (t.pchAt p).trained = true) ∧
    (∃ t, exec (.stackTrained k false []) s = .next t ∧ t.stkAt k = 4 ∧ t.rst.degraded = true ∧ t.mem = s.mem ∧
      ∀ p, p / 32 = k.val → t.fld (Reg.HMC_LANES p) F.HMC_LANES_STATE = 2)) ∧
  (∀ s : State, s.readyNow = true → ∃ t, exec .ready s = .next t ∧ t.sosin.ready = true ∧ t.rst.phase = .running ∧ t.rung = 13 ∧ SameMemory s t) ∧
  (∀ s : State, s.rst.phase = .ladder → s.fld Reg.RST_STAGE F.RST_STAGE_RUNG = 4 → s.mc.noImage = false → s.mc.running = true →
    (s.fwSlot 0).committed = false → (s.fwSlot 1).committed = false → s.bootCtl.active < 2 → s.bootCtl.next < 2 →
    ∃ t, exec .bootImageSelect s = .next t ∧ t.mc.noImage = true ∧ t.fld Reg.MGT_BOOT F.MGT_BOOT_STATE = 3 ∧ SameMemory s t)

/-- A loss of REFCLK is noted, recorded once past rung 2, and its return is noted; a synthesizer that loses lock is no longer shown as locked and is recorded; the link synthesizer's relock is counted and takes every ACTIVE port out of ACTIVE; the watchdog after READY is recorded as fatal and before it starts a warm reset; the entropy source's health is kept; a corrected error of the controller's memory is counted, and an uncorrectable one recorded. (R362, R548, R549, R551, R587, R599, Table 17.2, Table 17.8) -/
def Obligations.ClocksAndControllerFail : Prop :=
  (∀ (s : State) (k : Nat), ∃ t, exec (.refclkLoss k) s = .next t ∧ t.rst.refclkLost = true ∧ SameMemory s t) ∧
  (∀ s : State, ∃ t, exec .refclkReturn s = .next t ∧ t = { s with rst := { s.rst with refclkLost := false } }) ∧
  (∀ (s : State) (k : Fin 3), s.clocked = true → bit (s.reg Reg.CLK_STAT) k.val = true → ∃ t, exec (.synthLoss k) s = .next t ∧
    bit (t.reg Reg.CLK_STAT) k.val = false ∧ t.tells { cause := plat 0x0561 3, arg0 := k.val } = true ∧ SameMemory s t) ∧
  (∀ s : State, s.clocked = true → bit (s.reg Reg.CLK_STAT) 3 = true → ∃ t, exec .synthRelock s = .next t ∧ SameMemory s t ∧
    t.reg Reg.CLK_RELOCK = satAdd 32 (s.reg Reg.CLK_RELOCK) 1 ∧ ∀ n, n < 16 → t.lnkState n ≠ 6) ∧
  (∀ s : State, s.mc.running = true → s.mc.fatalService = false → s.mc.noImage = false → s.mc.wdogAt ≤ s.now →
    (s.sosin.ready = true → ∃ t, exec .mcWatchdog s = .next t ∧ t.mc.fatalService = true ∧ t.tells { cause := plat 0x054A 3 } = true ∧ SameMemory s t) ∧
    (s.sosin.ready = false → s.rst.phase = .ladder → ∃ t, exec .mcWatchdog s = .next t ∧ t.rst.phase = .entry ∧ t.rst.cold = false ∧
      t.rst.trigger = trigWatchdog ∧ t.inReset = true ∧ SameMemory s t)) ∧
  (∀ s : State, (∃ t, exec .entropyFail s = .next t ∧ t = { s with mc := { s.mc with entropyOk := false } }) ∧
    (∃ t, exec .entropyHealthPass s = .next t ∧ t = { s with mc := { s.mc with entropyOk := true } })) ∧
  (∀ (s : State) (a : Nat), (∃ t, exec (.mcSramError false a) s = .next t ∧ t.reg Reg.MGT_MCECC = satAdd 32 (s.reg Reg.MGT_MCECC) 1 ∧ SameMemory s t ∧
      t.tells { cause := plat 0x0548 1, arg0 := a } = true) ∧
    (∃ t, exec (.mcSramError true a) s = .next t ∧ t.reg Reg.MGT_MCECC = s.reg Reg.MGT_MCECC ∧ SameMemory s t ∧ t.tells { cause := plat 0x0549 3, arg0 := a } = true))

/-- HELLO, DEVINFO, TENANT_INFO, PERCH_INFO, FMAP_INFO, POWER_STATUS, METER_READ of records whose words are sound, METER_CERT, UPD_STATUS, RETIRE_LIST, ERR_READ, INDEX_INFO, TUN_INFO and VECSUM, at their turn with a well-formed payload and good arguments, complete with OK and change no register, memory, tenant, partition, ring pair, index, image or tun; the response carries the version and the caller's role, the stepping, the VF told of, the operating point, and as many records or pages as are held and asked for. (R452, R469, R480, R501, R545, Table 13.9, Table 13.10) -/
def Obligations.SosinReadsChangeNothing : Prop :=
  ∀ (s : State) (m : Mbx) (k : MSlot),
  let c := s.cmdAt m k []
  let said := fun (t : State) => (t.slotAt m k).payload
  let reads := fun (t : State) => t.answered m k sOK = true ∧ SameRegs s t [] ∧ SameMemory s t ∧ t.tenants = s.tenants ∧ t.parts = s.parts ∧
    t.rings = s.rings ∧ t.indexes = s.indexes ∧ t.images = s.images ∧ t.far = s.far ∧ t.errq = s.errq
  (s.admits m k 0x0001 = true → ∃ t, exec (.hello m k) s = .next t ∧ reads t ∧ field (said t) 0 2 = 0x0100 ∧ field (said t) 2 1 = m.val ∧
    field (said t) 3 1 = if m.val = 65 then 3 else if m.val = 0 then 0 else if (Tab.find s.tenants m.val).isSome then 1 else 2) ∧
  (s.admits m k 0x0002 = true → ∃ t, exec (.devinfo m k) s = .next t ∧ reads t ∧ field (said t) 0 1 = 0xA2) ∧
  (s.admits m k 0x010C = true → (if c.operator then c.fld 0 1 ≠ 0 ∧ c.fld 0 1 ≤ 64 else c.fld 0 1 = 0 ∨ c.fld 0 1 = c.fn) →
    ∃ t, exec (.tenantInfo m k) s = .next t ∧ reads t ∧ field (said t) 0 1 = if c.operator then c.fld 0 1 else m.val) ∧
  (s.admits m k 0x0407 = true → ∃ t, exec (.perchInfo m k) s = .next t ∧ reads t) ∧
  (s.admits m k 0x0702 = true → c.hasBuf = false → ∃ t, exec (.fmapInfo m k) s = .next t ∧ reads t) ∧
  (s.admits m k 0x0903 = true → ∃ t, exec (.powerStatus m k) s = .next t ∧ reads t ∧ field (said t) 0 1 = s.op) ∧
  (s.admits m k 0x0A01 = true → (c.operator = true → c.fld 10 1 ≤ 64) → c.hasBuf = false →
    (∀ r ∈ s.meter.recs, ∀ w ∈ meterWords r, s.rawOutcome w = .clean) →
    ∃ t, exec (.meterRead m k) s = .next t ∧ reads t ∧
      field (said t) 8 2 = (s.meterRead (if c.operator then c.fld 10 1 else c.fn) (c.fld 0 8) (min (c.fld 8 2) 1)).length) ∧
  (s.admits m k 0x0A02 = true → c.hasBuf = false → ∃ t, exec (.meterCert m k) s = .next t ∧ reads t) ∧
  (s.admits m k 0x0C03 = true → ∃ t, exec (.updStatus m k) s = .next t ∧ reads t ∧ field (said t) 0 1 = s.bootCtl.active % 256) ∧
  (s.admits m k 0x0802 = true → c.fld 0 2 ≤ 255 → c.hasBuf = false → ∃ t, exec (.retireList m k) s = .next t ∧ reads t ∧
    field (said t) 0 2 = ((s.pchAt (c.fld 0 2)).retired.filter (fun r => r.moved == 4)).length % 65536) ∧
  (s.admits m k 0x0B01 = true → c.fld 0 1 ≤ 5 → c.fld 1 1 ≠ 0 → c.fld 1 1 ≤ 32 → c.hasBuf = false → ∃ t, exec (.errRead m k) s = .next t ∧ reads t ∧
    field (said t) 8 1 = min (min (c.fld 1 1) 6)
      ((s.errQueue (c.fld 0 1)).recs.filter (fun r => decide (c.fld 8 8 ≤ r.seq) && (c.operator || r.func == c.fn))).length) ∧
  (∀ i, s.admits m k 0x0204 = true → s.indexNamed c (c.fld 0 8) = some i → i.sharded = false → c.fld 8 2 = 0 →
    ∃ t, exec (.indexInfo m k) s = .next t ∧ reads t) ∧
  (∀ v h x, s.admits m k 0x0603 = true → tunOwner c = .ok v → s.tunNamed v (c.raw 0 16) = some (h, x) →
    ∃ t, exec (.tunInfo m k) s = .next t ∧ reads t ∧ said t = slice x.entry 0 (roundUp x.entry.length 4)) ∧
  (∀ i e, s.admits m k 0x0208 = true → s.indexNamed c (c.fld 0 8) = some i → i.sharded = false → i.rerank = true → i.st ≠ .loading →
    i.st ≠ .destroying → i.liveEpoch (c.fld 8 8) = some e → 4 * i.dim + 8 ≤ c.len → ∃ t, exec (.vecsum m k) s = .next t ∧ reads t ∧
      (t.slotAt m k).buf = (sumBytes (s.vecSums i e.1 e.2)).drop 8 ++ slice (sumBytes (s.vecSums i e.1 e.2)) 0 8)

/-- PART_CREATE of free roods makes the partition of its lowest rood with the roods, perches, isolation and reserves asked for; PART_MODIFY of a partition without tenants gives it what its mask names and keeps the rest; PART_SLICES holds the table of a partition's tenants for the next step tick; PART_DESTROY of a partition without tenants takes it away and no other. No register and no memory changes. (R152, R182, R455, R457) -/
def Obligations.PartitionCommands : Prop :=
  ∀ (s : State) (m : Mbx) (k : MSlot),
  let c := s.cmdAt m k []
  let done := fun (t : State) => t.answered m k sOK = true ∧ SameRegs s t [] ∧ SameMemory s t ∧ t.tenants = s.tenants ∧ t.rings = s.rings
  let asked := bitList (c.fld 0 2) 16
  (s.admits m k 0x0101 = true → asked ≠ [] → c.fld 2 1 ≤ 16 → c.fld 3 1 ≤ 1 → lcresFault c = none → asked.all (fun r => !s.roodTaken none r) = true →
    asked.all s.roodFailed = false → (c.fld 3 1 = 1 → s.strangers none asked = false) → s.perchesElsewhere none + c.fld 2 1 ≤ 16 →
    ∃ t p, exec (.partCreate m k) s = .next t ∧ done t ∧ Tab.find t.parts (asked.headD 0) = some p ∧ p.roods = asked ∧ p.perches = c.fld 2 1 ∧
      p.quiet = (c.fld 3 1 == 1) ∧ (∀ r, r ∈ asked → Tab.read p.lcres 0 r = c.fld (8 + 2 * r) 2) ∧ field (t.slotAt m k).payload 0 1 = asked.headD 0 ∧
      ∀ j, j ≠ asked.headD 0 → Tab.find t.parts j = Tab.find s.parts j) ∧
  (∀ p, s.admits m k 0x0102 = true → Tab.find s.parts (c.fld 0 1) = some p → s.tenantsOf (c.fld 0 1) = [] → c.fld 1 1 ≤ 15 →
    let mask := c.fld 1 1
    let roods := if bit mask 0 then bitList (c.fld 2 2) 16 else p.roods
    let perches := if bit mask 1 then c.fld 4 1 else p.perches
    let quiet := if bit mask 2 then c.fld 5 1 == 1 else p.quiet
    (bit mask 0 = true → roods ≠ [] ∧ roods.all (fun r => !s.roodTaken (some (c.fld 0 1)) r) = true ∧ roods.all s.roodFailed = false) →
    (bit mask 1 = true → perches ≤ 16) → (bit mask 2 = true → c.fld 5 1 ≤ 1) → (bit mask 3 = true → lcresFault c = none) →
    (quiet = true → s.strangers (some (c.fld 0 1)) roods = false) → s.perchesElsewhere (some (c.fld 0 1)) + perches ≤ 16 →
    ∃ t q, exec (.partModify m k) s = .next t ∧ done t ∧ Tab.find t.parts (roods.headD 0) = some q ∧ q.roods = roods ∧ q.perches = perches ∧
      q.quiet = quiet ∧ q.install = p.install ∧ (roods.headD 0 ≠ c.fld 0 1 → Tab.find t.parts (c.fld 0 1) = none)) ∧
  (∀ p, s.admits m k 0x0104 = true → Tab.find s.parts (c.fld 0 1) = some p → c.fld 1 1 ≠ 0 → c.fld 1 1 ≤ 16 →
    (∀ x ∈ sliceTable c, 1 ≤ x.1 ∧ x.1 ≤ 64 ∧ 10 ≤ x.2 ∧ x.2 ≤ 10000 ∧ x.1 ∈ s.tenantsOf (c.fld 0 1)) →
    (∀ v ∈ s.tenantsOf (c.fld 0 1), ∃ x ∈ sliceTable c, x.1 = v) →
    ∃ t, exec (.partSlices m k) s = .next t ∧ done t ∧ Tab.find t.parts (c.fld 0 1) = some { p with install := some (sliceTable c) }) ∧
  (∀ p, s.admits m k 0x0103 = true → Tab.find s.parts (c.fld 0 1) = some p → s.tenantsOf (c.fld 0 1) = [] →
    ∃ t, exec (.partDestroy m k) s = .next t ∧ done t ∧ Tab.find t.parts (c.fld 0 1) = none ∧
      ∀ j, j ≠ c.fld 0 1 → Tab.find t.parts j = Tab.find s.parts j)

/-- TENANT_BIND within the partition's amounts makes the tenant in phase 1 and adds its slot to the table of the next step tick; TENANT_MODIFY within use and amounts stores what its mask names and keeps the rest; TENANT_REVOKE marks the tenant revoked and stops each of its ring pairs that is ACTIVE or in FAULT, the cause kept; TENANT_RESTORE takes the mark away and leaves the ring pairs; TENANT_REMOVE revokes and waits for the tenant's work to end. No memory changes, but that a binding may bring back a kept key, and no register but the states of the tenant's ring pairs. (R88, R153, R155, R189, R319, R455, R456, R458) -/
def Obligations.TenantCommands : Prop :=
  ∀ (s : State) (m : Mbx) (k : MSlot),
  let c := s.cmdAt m k []
  let vf := c.fld 0 1
  let same := fun (t : State) => t.answered m k sOK = true ∧ t.mem = s.mem ∧ (Tab.find s.far.retained vf = none ∨ (Tab.find s.tenants vf).isSome → SameMemory s t) ∧
    ∀ j, j ≠ vf → Tab.find t.tenants j = Tab.find s.tenants j
  let stopped := fun (t : State) => (∀ p r, Tab.find s.rings p = some r → ringVf p = vf → s.ringState p = 1 ∨ s.ringState p = 3 →
      t.ringState p = 2 ∧ t.reg (Reg.QFE_RSTATE p) / 4 = s.reg (Reg.QFE_RSTATE p) / 4) ∧
    ∀ a, (∀ p, ringVf p = vf → a ≠ Reg.QFE_RSTATE p) → t.reg a = s.reg a
  1 ≤ vf → vf ≤ 64 →
  (∀ p, s.admits m k 0x0105 = true → Tab.find s.parts (c.fld 1 1) = some p →
    let new : Tenant := { part := c.fld 1 1, lcmax := c.fld 2 1, seqmax := c.fld 4 2, stkq := c.fld 8 4, poolq := c.fld 12 4, farq := c.fld 16 4, perchq := c.fld 6 1, pinmax := c.fld 7 1, conf := c.fld 3 1 == 1, phase := 1 }
    new.lcmax ≤ 4 → c.fld 3 1 ≤ 1 → 10 ≤ c.fld 20 4 → c.fld 20 4 ≤ 10000 → s.fnExists vf = true →
    (tenantRanges new p).all (fun x => !x.1) = true → s.debug = false → (s.tenantsOf (c.fld 1 1)).length < 16 → p.table.length < 16 →
    Tab.find s.tenants vf = none → s.overAmount (c.fld 1 1) vf p new = none →
    ∃ t, exec (.tenantBind m k) s = .next t ∧ same t ∧ SameRegs s t [] ∧ Tab.find t.tenants vf = some new ∧
      Tab.find t.parts (c.fld 1 1) = some { p with install := some (p.table ++ [(vf, c.fld 20 4)]) }) ∧
  (∀ old p, s.admits m k 0x0106 = true → Tab.find s.tenants vf = some old → Tab.find s.parts old.part = some p → bit (c.fld 1 1) 6 = false →
    s.tdiLocked vf = false →
    let mask := c.fld 1 1
    let new : Tenant := { old with lcmax := if bit mask 0 then c.fld 2 1 else old.lcmax, seqmax := if bit mask 1 then c.fld 4 2 else old.seqmax, stkq := if bit mask 2 then c.fld 8 4 else old.stkq, poolq := if bit mask 3 then c.fld 12 4 else old.poolq, farq := if bit mask 4 then c.fld 16 4 else old.farq, perchq := if bit mask 5 then c.fld 6 1 else old.perchq, pinmax := if bit mask 5 then c.fld 7 1 else old.pinmax }
    (bit mask 0 = true → c.fld 2 1 ≤ 4) → (tenantRanges new p).all (fun x => !x.1) = true → s.overAmount old.part vf p new = none →
    old.stkUsed ≤ new.stkq * 2 ^ 21 → old.poolUsed ≤ new.poolq * 2 ^ 16 → old.farUsed ≤ new.farq * 2 ^ 21 → s.seqsOf vf ≤ new.seqmax →
    s.perchesOf [vf] ≤ new.perchq → s.pinnedPerches vf ≤ new.pinmax →
    ∃ t, exec (.tenantModify m k) s = .next t ∧ same t ∧ SameRegs s t [] ∧ Tab.find t.tenants vf = some new) ∧
  (∀ old, s.admits m k 0x0107 = true → Tab.find s.tenants vf = some old →
    ∃ t, exec (.tenantRevoke m k) s = .next t ∧ same t ∧ stopped t ∧ Tab.find t.tenants vf = some { old with revoked := true, revokeDue := some (s.tick + 1) }) ∧
  (∀ old, s.admits m k 0x0108 = true → Tab.find s.tenants vf = some old →
    ∃ t, exec (.tenantRestore m k) s = .next t ∧ same t ∧ SameRegs s t [] ∧ t.rings = s.rings ∧ Tab.find t.tenants vf = some { old with revoked := false }) ∧
  (∀ old, s.admits m k 0x0109 = true → Tab.find s.tenants vf = some old → s.tdiLocked vf = false →
    ∃ t, exec (.tenantRemove m k) s = .next t ∧ same t ∧ stopped t ∧ Tab.find t.tenants vf = some { old with revoked := true, revokeDue := some (s.tick + 1) } ∧
      (t.slotAt m k).wait = .revoke vf true)

/-- KEY_GENERATE for a tenant that is not confidential and holds nothing under a key installs a generated key of 64 bytes with its KEYID; SEAL with its code seals the device; RING_CREATE makes the ring pair with the sizes, bases, class and coalescing asked for, its registers at their reset values; RING_DESTROY closes it and waits; PASID_SET stores the PASID or takes it away; DEV_RESET with its code waits to reset after the response. No memory changes, but that bytes written under the key before are undefined once it is replaced, and no other register. (R9, R185, R416, R454, R459, R472, R473, R654) -/
def Obligations.KeysRingsAndPasids : Prop :=
  ∀ (s : State) (m : Mbx) (k : MSlot),
  let c := s.cmdAt m k []
  let done := fun (t : State) => t.answered m k sOK = true ∧ SameMemory s t ∧ t.tenants = s.tenants ∧ t.parts = s.parts
  (∀ x, s.admits m k 0x010A = true → 1 ≤ c.fld 0 1 → c.fld 0 1 ≤ 64 → Tab.find s.tenants (c.fld 0 1) = some x → x.conf = false →
    ((s.keyOf (c.fld 0 1)).st = 0 ∨ s.holdsStores (c.fld 0 1) = false) → s.mc.entropyOk = true →
    ∃ t, exec (.keyGenerate m k) s = .next t ∧ t.answered m k sOK = true ∧ t.mem = s.mem ∧ t.tenants = s.tenants ∧ t.parts = s.parts ∧ SameRegs s t [] ∧ t.free = s.free + 64 ∧
      (t.keyOf (c.fld 0 1)).st = 1 ∧ (t.keyOf (c.fld 0 1)).keyid = c.fld 8 8 ∧ (t.keyOf (c.fld 0 1)).key.length = 64 ∧
      ∀ j, j ≠ c.fld 0 1 → t.keyOf j = s.keyOf j) ∧
  (s.admits m k 0x010B = true → c.fld 0 4 = 0x4C414553 → ∃ t, exec (.seal m k) s = .next t ∧ done t ∧ SameRegs s t [] ∧ t.sealed = true) ∧
  (s.admits m k 0x0003 = true → c.fld 0 1 = 1 → c.fld 4 4 = 0x54455352 →
    ∃ t, exec (.devReset m k) s = .next t ∧ done t ∧ SameRegs s t [] ∧ (t.slotAt m k).wait = .reset 3) ∧
  (s.admits m k 0x0501 = true → m.val ≠ 0 → m.val ≠ 65 →
    let p := 16 * (m.val - 1) + c.fld 0 1
    c.fld 0 1 ≤ 15 → c.fld 1 1 ≤ 4 → c.fld 2 1 ≤ 1 → 6 ≤ c.fld 4 1 → c.fld 4 1 ≤ 16 → 6 ≤ c.fld 5 1 → c.fld 5 1 ≤ 16 →
    c.fld 8 8 % 4096 = 0 → c.fld 16 8 % 4096 = 0 → 1 ≤ c.fld 24 4 → c.fld 24 4 ≤ 65535 → c.fld 28 4 ≤ 65535 →
    (∀ x, Tab.find s.tenants m.val = some x → x.lcmax ≤ c.fld 1 1) → (∃ x, Tab.find s.tenants m.val = some x) →
    ((s.fnAt m.val).pasidEnable = true → (s.fnAt m.val).pasid ≠ none) → Tab.find s.rings p = none →
    ∃ t, exec (.ringCreate m k) s = .next t ∧ done t ∧ field (t.slotAt m k).payload 0 2 = p ∧
      Tab.find t.rings p = some { sqbase := c.fld 8 8, cqbase := c.fld 16 8, sqsize := 2 ^ c.fld 4 1, cqsize := 2 ^ c.fld 5 1, cls := c.fld 1 1, coalcnt := c.fld 24 4, coalus := c.fld 28 4, stream := c.fld 2 1 == 1 } ∧
      (∀ a, Reg.QFE_SQTAIL p ≤ a → a < Reg.QFE_SQTAIL p + 64 → t.reg a = regReset a) ∧
      (∀ a, a < Reg.QFE_SQTAIL p ∨ Reg.QFE_SQTAIL p + 64 ≤ a → t.reg a = s.reg a)) ∧
  (∀ r, s.admits m k 0x0502 = true → c.fld 0 1 ≤ 15 → Tab.find s.rings (16 * (c.fn - 1) + c.fld 0 1) = some r →
    ∃ t, exec (.ringDestroy m k) s = .next t ∧ done t ∧ SameRegs s t [] ∧ (t.slotAt m k).wait = .ring (16 * (c.fn - 1) + c.fld 0 1) ∧
      Tab.find t.rings (16 * (c.fn - 1) + c.fld 0 1) = some { r with closing := true }) ∧
  (s.admits m k 0x0503 = true → c.fld 0 4 < 2 ^ 20 → c.fld 4 1 ≤ 1 → s.bufferInUse c = false → s.tdiLocked c.fn = false →
    (∀ x ∈ s.rings, c.fn = 0 ∨ ringVf x.1 ≠ c.fn) →
    ∃ t, exec (.pasidSet m k) s = .next t ∧ done t ∧ SameRegs s t [] ∧ t.rings = s.rings ∧
      (t.fnAt c.fn).pasid = (if c.fld 4 1 = 1 then some (c.fld 0 4) else none) ∧ ∀ j, j ≠ c.fn → t.fnAt j = s.fnAt j)

/-- For an index that is not sharded: INDEX_CREATE whose ranges, objects, quotas and places are good makes the index under a new handle, READY when made EMPTY and LOADING otherwise, and charges its tenant; INDEX_LOAD of a good image makes it READY with epoch 0 LIVE at the image's count and epoch 1 OPEN there; INDEX_ENCODER binds a fitting image; CHECKPOINT answers the next generation and leaves every byte outside the slot it writes, never the newest valid one; RESTORE that answers OK makes a READY index of its tenant; INDEX_DESTROY marks it DESTROYING. (R77, R82, R321, R322, R323, R460, R464, R465, R466, R467, R468) -/
def Obligations.IndexCommands : Prop :=
  ∀ (s : State) (m : Mbx) (k : MSlot) (data : List Byte),
  let c := s.cmdAt m k data
  let ok := fun (t : State) => t.answered m k sOK = true
  let said := fun (t : State) => (t.slotAt m k).payload
  (∀ x, s.admits m k 0x0201 = true →
    let p := slice c.payload 0 128
    let i := indexOfRequest c.fn s.newIxHandle.2 p
    bit (field p 4 1) 3 = false → (s.indexRanges i p).all (fun y => !y.1) = true → i.centBytes ≤ c.len → s.newIxHandle.1.prepareIndex i p = .ok x →
    ((i.centBytes = 0 ∧ c.hasBuf = false) ∨ ((s.fnAt c.fn).bme = true ∧ c.dma = none)) →
    ∃ t y u v, exec (.indexCreate m k data) s = .next t ∧ ok t ∧ Tab.find t.indexes i.handle = some y ∧ y.vf = c.fn ∧ y.handle = i.handle ∧
      y.len = field p 2 2 ∧ y.nmax = field p 8 8 ∧ y.st = (if bit (field p 4 1) 4 then .ready else .loading) ∧ field (said t) 0 8 = i.handle % 2 ^ 64 ∧
      Tab.find s.tenants c.fn = some u ∧ Tab.find t.tenants c.fn = some v ∧ v.stkUsed = u.stkUsed + y.stkBytes ∧ v.poolUsed = u.poolUsed + y.poolBytes) ∧
  (∀ i, s.indexNamed c (c.fld 0 8) = some i → i.handle = c.fld 0 8 → i.sharded = false → i.st ≠ .destroying →
    (s.admits m k 0x0203 = true → c.fld 10 1 = 0 → c.fld 8 2 = 0 → i.st = .loading → s.homeUp i.vecTun = true → (s.fnAt c.fn).bme = true → c.dma = none →
      i.epochs.length = 5 →
      let b := slice c.data 0 c.len
      i.loadDefect (if i.chn then [] else s.bytes i.cents (i.buckets * i.s)) b = none →
      (i.chn = true ∨ ((s.translate c.fn c.addr).loadImage i b).isSome = true) →
      ∃ t x, exec (.indexLoad m k data) s = .next t ∧ ok t ∧ Tab.find t.indexes i.handle = some x ∧ x.st = .ready ∧ x.nentry = field b 56 2 ∧
        (x.record 0).st = .live ∧ (x.record 0).epoch = 0 ∧ (x.record 0).limit = field b 8 8 ∧ (x.record 1).st = .opened ∧
        (x.record 1).epoch = 1 ∧ (x.record 1).limit = field b 8 8 ∧ field (said t) 0 8 = field b 8 8) ∧
    (s.admits m k 0x0202 = true → s.indexBusy [0x0203, 0x0206] i.handle = false →
      ∃ t, exec (.indexDestroy m k) s = .next t ∧ ok t ∧ SameRegs s t [] ∧ SameMemory s t ∧ t.tenants = s.tenants ∧
        Tab.find t.indexes i.handle = some { i with st := .destroying } ∧ ∀ j, j ≠ i.handle → Tab.find t.indexes j = Tab.find s.indexes j) ∧
    (∀ im, s.admits m k 0x0205 = true → s.imageFor c.fn (c.fld 8 8) = some im → (i.st = .loading ∨ i.nextLocal = 0) → i.takes im = true →
      ∃ t, exec (.indexEncoder m k) s = .next t ∧ ok t ∧ SameRegs s t [] ∧ SameMemory s t ∧ field (said t) 0 4 = im.encsteps % 2 ^ 32 ∧
        Tab.find t.indexes i.handle = some { i with encoder := some im.handle } ∧
        (i.encoder = none → im.handle = c.fld 8 8 → Tab.find t.images im.handle = some { im with bound := im.bound + 1 })) ∧
    (∀ h x, s.admits m k 0x0206 = true → c.fld 8 2 = 0 → s.tunNamed i.vf (c.raw 16 16) = some (h, x) → s.tun h = some x → x.both = false → x.base0 % 4096 = 0 →
      i.st ≠ .loading → x.persist = true → x.st = .online → s.logDamaged i = false → x.size % 8192 = 0 → (s.ckptBody i).length ≤ x.size / 2 - 4096 →
      let slots := s.ckptSlots h x
      let half := match slots.1, slots.2 with | some a, some b => (if a.1 < b.1 then 0 else 1) | some _, none => 1 | _, _ => 0
      ∃ t, exec (.checkpoint m k) s = .next t ∧ ok t ∧ SameRegs s t [] ∧ t.indexes = s.indexes ∧
        field (said t) 0 8 = (max ((slots.1.map (·.1)).getD 0) ((slots.2.map (·.1)).getD 0) + 1) % 2 ^ 64 ∧
        ∀ a, (a < x.base0 + half * (x.size / 2) ∨ x.base0 + half * (x.size / 2) + x.size / 2 ≤ a) → t.byte a = s.byte a)) ∧
  (s.admits m k 0x0207 = true → (restoreCmd (s.cmdAt m k []) s).2.status = sOK →
    ∃ t h x, exec (.restore m k) s = .next t ∧ ok t ∧ field (said t) 0 8 = h % 2 ^ 64 ∧ Tab.find t.indexes h = some x ∧ x.vf = c.fn ∧ x.st = .ready)

/-- For an index that is not sharded, FILTER_CREATE that finds its place stores the mask's bytes there under a new handle and FILTER_DELETE marks a filter deleted; IMAGE_REGISTER that answers OK makes an image that is not resident; IMAGE_DELETE frees an image with nothing running on it; IMAGE_FILL and IMAGE_PIN that find perches wait for the fill, the pin is kept, IMAGE_UNPIN takes it away; SWSET stores the tenant's switch set when its perches suffice. (R25, R178, R179, R470, R471, Table 13.14) -/
def Obligations.FilterAndImageCommands : Prop :=
  ∀ (s : State) (m : Mbx) (k : MSlot) (data : List Byte),
  let c := s.cmdAt m k data
  let ok := fun (t : State) => t.answered m k sOK = true
  let said := fun (t : State) => (t.slotAt m k).payload
  (∀ i, s.indexNamed c (c.fld 0 8) = some i → i.sharded = false → i.st ≠ .destroying →
    (∀ u a q, s.admits m k 0x0301 = true → c.fld 8 1 ≤ 1 → 16 ≤ c.len → (s.fnAt c.fn).bme = true → c.dma = none →
      let b := slice c.data 0 c.len
      let g := field b 0 4
      let off := field b 8 8
      let n := roundUp (8 * g) 64
      let pool := c.fld 8 1 == 1
      g ≠ 0 → off % 64 = 0 → off + 8 * g ≤ c.len → g ≤ cdiv i.nmax 64 → Tab.find s.tenants i.vf = some q →
      (if pool then q.exceeds 0 n 0 else q.exceeds n 0 0) = none →
      (if pool then (s.translate c.fn c.addr).drew.placePool i.vf n else (s.translate c.fn c.addr).drew.placeStacked i.vf n) = some (u, a) →
      i.myShard = 0 →
      ∃ t h f, exec (.filterCreate m k data) s = .next t ∧ ok t ∧ field (said t) 0 4 = h % 2 ^ 32 ∧ Tab.find t.filters (filterKey i.handle h) = some f ∧
        f.handle = h ∧ f.vf = i.vf ∧ f.index = i.handle ∧ f.grains = g ∧ f.pool = pool ∧ f.deleted = false ∧
        ∀ j, j < 8 * g → (slice b off (8 * g))[j]? = some (t.byte (f.base + j))) ∧
    (∀ f, s.admits m k 0x0302 = true → s.filterFor c.fn i (c.fld 8 4) = some f →
      ∃ t, exec (.filterDelete m k) s = .next t ∧ ok t ∧ SameRegs s t [] ∧ SameMemory s t ∧
        Tab.find t.filters (filterKey i.handle (c.fld 8 4)) = some { f with deleted := true })) ∧
  (s.admits m k 0x0401 = true → (imageRegister c s).2.status = sOK →
    ∃ t h x, exec (.imageRegister m k data) s = .next t ∧ ok t ∧ field (said t) 0 8 = h % 2 ^ 64 ∧ field (said t) 8 4 = x.size % 2 ^ 32 ∧
      Tab.find t.images h = some x ∧ x.handle = h ∧ x.vf = c.fn ∧ x.resident = false ∧ x.deleted = false ∧ x.pinned = false) ∧
  (∀ im, s.imageFor c.fn (c.fld 0 8) = some im → im.handle = c.fld 0 8 →
    (s.admits m k 0x0402 = true → im.bound = 0 → (∀ q, Tab.find s.tenants c.fn = some q → im.handle ∉ q.swset) → im.running = 0 →
      ∃ t, exec (.imageDelete m k) s = .next t ∧ ok t ∧ Tab.find t.images im.handle = none) ∧
    (s.admits m k 0x0403 = true → s.noClass c.fn = false → (s.startFill im.handle).2 = true →
      ∃ t x, exec (.imageFill m k) s = .next t ∧ ok t ∧ (t.slotAt m k).wait = .fill im.handle ∧ Tab.find t.images im.handle = some x ∧
        (im.occupies = false → x.filling = some s.now ∧ x.perches.length = im.need)) ∧
    (s.admits m k 0x0404 = true → s.noClass c.fn = false → (s.startFill im.handle).2 = true →
      (im.pinned = true ∨ ∃ q, Tab.find s.tenants c.fn = some q ∧ s.pinnedPerches c.fn + im.need ≤ q.pinmax) →
      ∃ t x, exec (.imagePin m k) s = .next t ∧ ok t ∧ (t.slotAt m k).wait = .fill im.handle ∧ Tab.find t.images im.handle = some x ∧ x.pinned = true) ∧
    (s.admits m k 0x0405 = true → ∃ t, exec (.imageUnpin m k) s = .next t ∧ ok t ∧ SameRegs s t [] ∧ SameMemory s t ∧
      Tab.find t.images im.handle = some { im with pinned := false })) ∧
  (∀ q, s.admits m k 0x0406 = true → Tab.find s.tenants c.fn = some q → c.fld 0 1 ≤ 4 →
    let hs := (List.range (c.fld 0 1)).map (fun i => c.fld (8 + 8 * i) 8)
    (∀ h ∈ hs, (s.imageFor c.fn h).isSome = true) →
    (dedup hs).foldl (fun a h => match s.imageFor c.fn h with | some x => a + x.need | none => a) 0 ≤ q.perchq →
    ∃ t, exec (.swset m k) s = .next t ∧ ok t ∧ SameRegs s t [] ∧ SameMemory s t ∧ Tab.find t.tenants c.fn = some { q with swset := hs })

/-- TUN_CREATE with a free name, ports that are up, room and quota makes an ONLINE tun of the size asked for; TUN_COPY into an ONLINE tun stores the buffer's bytes at the tun's offsets and nowhere else, and out of it answers the tun's bytes; TUN_DELETE of a tun that nothing uses takes it away and no other; FMAP_INSTALL of a good map stores the map and the device ID and leaves the league. (R311, R312, R313, R371, R474, R475) -/
def Obligations.TunAndMapCommands : Prop :=
  ∀ (s : State) (m : Mbx) (k : MSlot) (data : List Byte),
  let c := s.cmdAt m k data
  let ok := fun (t : State) => t.answered m k sOK = true
  (∀ q, s.admits m k 0x0601 = true → Tab.find s.tenants c.fn = some q →
    let span := c.fld 16 1
    let ports := if span = 2 then [0, 1] else [c.fld 17 1]
    let persist := bit (c.fld 18 1) 0
    (c.raw 0 16).any (· != 0) = true → (span = 1 ∧ c.fld 17 1 ≤ 1 ∨ span = 2) → c.fld 18 1 ≤ 3 → (bit (c.fld 18 1) 1 = true → persist = true) →
    c.fld 24 8 ≠ 0 → c.fld 24 8 % (span * 2 ^ 21) = 0 → s.noKey c.fn = false → s.tunNamed c.fn (c.raw 0 16) = none → q.exceeds 0 0 (c.fld 24 8) = none →
    (∀ n ∈ ports, s.farUp n = true ∧ s.tunRoom n = true ∧ (s.lowestFar n (c.fld 24 8 / span)).isSome = true ∧
      (persist = true → s.fld (Reg.FTC_PSTATE n) F.FTC_PSTATE_PERSIST ≠ 0)) →
    ∃ t x, exec (.tunCreate m k) s = .next t ∧ ok t ∧ SameRegs s t [] ∧ t.tunNamed c.fn (c.raw 0 16) = some (s.far.nextTun, x) ∧ x.size = c.fld 24 8 ∧
      x.st = .online ∧ x.persist = persist ∧ x.both = (span == 2) ∧ field (t.slotAt m k).payload 0 8 = x.base0 % 2 ^ 64) ∧
  (∀ h x, s.tunNamed c.fn (c.raw 8 16) = some (h, x) → s.tun h = some x → x.st = .online → s.admits m k 0x0604 = true → c.fld 24 8 % 64 = 0 →
    c.len ≠ 0 → c.len % 64 = 0 → c.fld 24 8 + c.len ≤ x.size → x.base0 % 4096 = 0 → x.base1 % 4096 = 0 →
    (x.both = true → x.base0 + x.size ≤ x.base1 ∨ x.base1 + x.size ≤ x.base0) →
    (c.fld 0 1 = 0 → (s.fnAt c.fn).bme = true → c.dma = none →
      ∃ t, exec (.tunCopy m k data) s = .next t ∧ ok t ∧ SameRegs s t [] ∧
        (∀ j, j < c.len → (slice c.data 0 c.len)[j]? = some (t.byte (x.addr (c.fld 24 8 + j)))) ∧
        ∀ a, (∀ j, j < c.len → a ≠ x.addr (c.fld 24 8 + j)) → t.byte a = s.byte a) ∧
    (c.fld 0 1 = 1 → ∃ t, exec (.tunCopy m k data) s = .next t ∧ ok t ∧ SameRegs s t [] ∧ SameMemory s t ∧
      (t.slotAt m k).buf = s.homeBytes (some h) (c.fld 24 8) c.len)) ∧
  (∀ v h x, s.admits m k 0x0602 = true → tunOwner c = .ok v → s.tunNamed v (c.raw 0 16) = some (h, x) → s.tun h = some x → s.tunUsed h = false →
    (c.operator = true → Tab.find s.tenants v = none) →
    ∃ t, exec (.tunDelete m k) s = .next t ∧ ok t ∧ t.tun h = none ∧ ∀ j, j ≠ h → t.tun j = s.tun j) ∧
  (∀ fm, s.admits m k 0x0701 = true → mapOfRequest c.payload = some fm → (fm = .alone ∨ c.fld 6 2 < fm.size) → (∀ x ∈ s.indexes, x.2.sharded = false) →
    ∃ t, exec (.fmapInstall m k) s = .next t ∧ ok t ∧ t.fab.map = fm ∧ t.reg Reg.FAB_DEVID = (if fm = .alone then 0 else c.fld 6 2) ∧
      t.reg Reg.FAB_LEAGUE = 0)

/-- PAGE_RETIRE of a good page takes the next replacement page and waits for its copies; GRANULE_TEST moves FREE granules to TEST and back; POWER_POLICY is held for the next window, PHASE_SET stores the tenant's phase, PFAIL_NOTICE sets or ends the notice; ERR_ACK acknowledges the domain's records up to a number, ERR_INJECT in debug mode reports the cause; UPD_STAGE of a good image fills the inactive slot and UPD_ACTIVATE of a valid slot makes it next; DBG_ENTER without tenants and DBG_EXIT change the mode and empty the core: sequence table, accumulator registers and perches. (R231, R271, R297, R479, R480, R482, R478, R499, R523, R565, R566, R616) -/
def Obligations.MemoryPowerAndDebugCommands : Prop :=
  ∀ (s : State) (m : Mbx) (k : MSlot) (data : List Byte),
  let c := s.cmdAt m k data
  let ok := fun (t : State) => t.answered m k sOK = true
  let still := fun (t : State) => ok t ∧ SameRegs s t [] ∧ SameMemory s t
  let said := fun (t : State) => (t.slotAt m k).payload
  (s.admits m k 0x0801 = true → c.fld 0 8 < stackedEnd → c.fld 0 8 % 4096 = 0 → inReplacement (c.fld 0 8) = false →
    let p := pchOf (c.fld 0 8)
    let n := (s.pchAt p).retired.length
    (∀ r ∈ (s.pchAt p).retired, r.page ≠ c.fld 0 8 / 4096) → n < 256 →
    ∃ t, exec (.pageRetire m k) s = .next t ∧ still t ∧ (t.slotAt m k).wait = .page p (c.fld 0 8 / 4096) ∧ field (said t) 0 2 = p ∧
      field (said t) 2 2 = 255 - n ∧
      (t.pchAt p).retired = (s.pchAt p).retired ++ [{ page := c.fld 0 8 / 4096, repl := n }] ∧ ∀ j, j ≠ p → t.pchAt j = s.pchAt j) ∧
  (s.admits m k 0x0803 = true → c.fld 0 8 < stackedEnd → c.fld 0 8 % 2 ^ 21 = 0 → granuleOf (c.fld 0 8) + 256 * (c.fld 8 4 - 1) < 768 * 256 →
    let g := fun (j : Nat) => granuleOf (c.fld 0 8) + 256 * j
    (c.fld 12 1 = 1 → (∀ j, j < c.fld 8 4 → s.owner (g j) = .free) →
      ∃ t, exec (.granuleTest m k) s = .next t ∧ still t ∧ (∀ j, j < c.fld 8 4 → t.owner (g j) = .test) ∧
        ∀ a, (∀ j, j < c.fld 8 4 → a ≠ g j) → t.owner a = s.owner a) ∧
    (c.fld 12 1 = 0 → (∀ j, j < c.fld 8 4 → s.owner (g j) = .test ∧ g j / 256 < 736) →
      ∃ t, exec (.granuleTest m k) s = .next t ∧ still t ∧ (∀ j, j < c.fld 8 4 → t.owner (g j) = .free) ∧
        ∀ a, (∀ j, j < c.fld 8 4 → a ≠ g j) → t.owner a = s.owner a)) ∧
  (s.admits m k 0x0901 = true → 1 ≤ c.fld 0 2 → c.fld 0 2 ≤ c.fld 2 2 → c.fld 2 2 ≤ 1100 → 1 ≤ c.fld 4 1 → c.fld 4 1 ≤ 16 → c.fld 5 1 ≤ 5 →
    (∀ i, i < 4 → c.fld (6 + i) 1 ≤ 5) →
    ∃ t, exec (.powerPolicy m k) s = .next t ∧ still t ∧ t.pwr.nextPolicy = some { pla := c.fld 0 2, plb := c.fld 2 2, gain := c.fld 4 1, opmax := c.fld 5 1, phaseop := (List.range 4).map (fun i => c.fld (6 + i) 1) }) ∧
  (∀ q, s.admits m k 0x0902 = true → c.fld 0 1 ≤ 3 → Tab.find s.tenants c.fn = some q →
    ∃ t, exec (.phaseSet m k) s = .next t ∧ still t ∧ Tab.find t.tenants c.fn = some { q with phase := c.fld 0 1 }) ∧
  (s.admits m k 0x0904 = true → c.fld 0 1 ≤ 1 → ∃ t, exec (.pfailNotice m k) s = .next t ∧ ok t ∧ t.pwr.pfailCmd = (c.fld 0 1 == 1) ∧
    t.pwr.pfailPin = s.pwr.pfailPin ∧ (c.fld 0 1 = 1 → (t.slotAt m k).wait = .gpf)) ∧
  (s.admits m k 0x0B02 = true → c.fld 0 1 ≤ 5 → ∃ t, exec (.errAck m k) s = .next t ∧ still t ∧
    (t.errQueue (c.fld 0 1)).recs = (s.errQueue (c.fld 0 1)).recs.map (fun r => if r.seq ≤ c.fld 8 8 then { r with acked := true } else r) ∧
    ∀ d, d ≠ c.fld 0 1 → t.errQueue d = s.errQueue d) ∧
  (∀ x, s.admits m k 0x0B03 = true → injectable.find? (fun x => x.code == c.fld 2 2) = some x → c.fld 2 2 / 256 = c.fld 0 1 → s.debug = true →
    ∃ t, exec (.errInject m k) s = .next t ∧ ok t ∧ SameMemory s t ∧ SameRegs s t (reportRegs { cause := x }) ∧ t.tells { cause := x } = true) ∧
  (s.admits m k 0x0C01 = true → s.sosin.pldm = none → (s.fnAt c.fn).bme = true → c.dma = none →
    let b := slice c.data 0 c.len
    4096 ≤ b.length → fwSize b ≤ b.length → s.headerCheck b = none → badSections b 0 = [] →
    ∃ t, exec (.updStage m k data) s = .next t ∧ ok t ∧ SameMemory s t ∧ field (said t) 0 1 = s.inactiveSlot ∧
      t.fwSlot s.inactiveSlot = { bytes := slice b 0 (fwSize b), committed := true } ∧ t.fwSlot (1 - s.inactiveSlot) = s.fwSlot (1 - s.inactiveSlot) ∧
      t.tells { cause := plat 0x0546 0 } = true) ∧
  (s.admits m k 0x0C02 = true → c.fld 0 1 ≤ 1 → c.fld 1 1 ≤ 1 → s.sosin.pldm = none → s.slotValid (c.fld 0 1) = true →
    ∃ t, exec (.updActivate m k) s = .next t ∧ ok t ∧ SameMemory s t ∧ SameRegs s t [Reg.MGT_BOOT] ∧
      (c.fld 0 1 ≠ s.bootCtl.active → t.bootCtl.next = c.fld 0 1 ∧ t.bootCtl.active = s.bootCtl.active) ∧
      (c.fld 1 1 = 1 → (t.slotAt m k).wait = .reset trigUpdate)) ∧
  (s.admits m k 0x0D01 = true → s.tenants = [] → s.fld Reg.MGT_FUSE (6, 6) ≠ 1 →
    ∃ t, exec (.dbgEnter m k) s = .next t ∧ still t ∧ t.debug = true ∧ t.seqs = [] ∧ t.accs = [] ∧ ∀ x ∈ t.images, x.2.resident = false) ∧
  (s.admits m k 0x0D02 = true → ∃ t, exec (.dbgExit m k) s = .next t ∧ still t ∧ t.debug = false ∧ t.seqs = [] ∧ t.accs = [] ∧ ∀ x ∈ t.images, x.2.resident = false)

/-- For a B1 code length L, the distance of two codes of L bits is the number of bits in which they differ, at most L; for a T2 code length L, the distance of two codes of two L-bit planes is the sum over the positions of the absolute difference of their values, where a position is 0 with P clear and +1 or −1 by S with P set, and it is at most 2L; the bucket survivors of a query are the first 32 of all eligible items of the bucket's bushels in ascending order of (distance, local index), or all of them. (R16, R18, R30) -/
def Obligations.CodeDistancesAndSurvivors : Prop :=
  let bitAt := fun (z : List Byte) (j : Nat) => (z.getD (j / 8) 0).getLsbD (j % 8)
  (∀ (L : Nat) (q c : List Byte), L ∈ [64, 128, 256, 512, 1024] → q.length = L / 8 → c.length = L / 8 →
    codeDist false q c = ((List.range L).filter (fun j => bitAt q j != bitAt c j)).length ∧ codeDist false q c ≤ L) ∧
  (∀ (L : Nat) (q c : List Byte), L ∈ [64, 128, 256, 512] → q.length = 2 * (L / 8) → c.length = 2 * (L / 8) →
    let value := fun (z : List Byte) (j : Nat) => (if bitAt z j then (if bitAt z (L + j) then -1 else 1) else 0 : Int)
    codeDist true q c = ((List.range L).map (fun j => (value q j - value c j).natAbs)).sum ∧ codeDist true q c ≤ 2 * L ∧
    (∀ z : List Byte, z.length = q.length → (∀ j, j < L → bitAt z j = bitAt q j ∧ (bitAt q j = true → bitAt z (L + j) = bitAt q (L + j))) →
      codeDist true z c = codeDist true q c)) ∧
  (∀ (s : State) (i : Index) (v : View) (code : List Byte) (b : Nat),
    let items := (s.bucketBushels i b).flatMap (fun a => ((List.range (s.num (a + 2) 2)).map (s.slot i a)).filter (fun x => s.eligible i v x.1))
    s.survivors i v code b =
      (sortBy Cand.leLidx (items.map (fun x => { dist := codeDist i.t2 code x.2, lidx := x.1, ext := s.extOf i x.1 }))).take 32)

/-- MBX_DOORBELL posts each FREE slot it names, MBX_ACK frees each DONE slot it names, and a bit that names another slot is counted and recorded; MBX_ABORT marks the running abortable commands it names; COMMAND_ACCEPT copies the request of the next posted slot and makes the early checks; COMMAND_COMPLETE of a command that has run and waits for nothing writes its status and makes the slot DONE, removes the tenant of a removal and the ring pair of a destruction; SOSIN_STALL completes a late FAST or MEDIUM command with INTERNAL; an MCTP_MESSAGE posts the slot of its tag, and MCTP_BAD_PACKET changes nothing. (R436, R437, R438, R440, R442, R443, R448, R450, R451, R458, R473) -/
def Obligations.MailboxSlots : Prop :=
  (∀ (s : State) (m : Mbx) (mask : BitVec 4), s.mbxOpen m = true → (s.mbxAt m).resetting = false →
    let good := fun (st : Nat) => ∀ k, k < 4 → bit mask.toNat k = true → (s.slotAt m k).st = st
    let misuse := fun (t : State) (st : Nat) => (good st → SameRegs s t []) ∧ (¬ good st → t.reg (Reg.MBX_MALF m) = satAdd 32 (s.reg (Reg.MBX_MALF m)) 1 ∧
      t.tells { cause := Cause.mbxSlot, func := mbxFn m, subject := m } = true)
    (∃ t, exec (.mbxDoorbell m mask) s = .next t ∧ SameMemory s t ∧ misuse t 0 ∧
      ∀ k, k < 4 → (t.slotAt m k).st = (if bit mask.toNat k && (s.slotAt m k).st == 0 then 1 else (s.slotAt m k).st) ∧ (t.slotAt m k).req = (s.slotAt m k).req) ∧
    (∃ t, exec (.mbxAck m mask) s = .next t ∧ SameMemory s t ∧ misuse t 3 ∧
      ∀ k, k < 4 → (t.slotAt m k).st = (if bit mask.toNat k && (s.slotAt m k).st == 3 then 0 else (s.slotAt m k).st) ∧ (t.slotAt m k).resp = (s.slotAt m k).resp) ∧
    (∃ t, exec (.mbxAbort m mask) s = .next t ∧ SameMemory s t ∧ SameRegs s t [] ∧
      ∀ k, k < 4 → (t.slotAt m k).st = (s.slotAt m k).st ∧
        (t.slotAt m k).abort = ((s.slotAt m k).abort || (bit mask.toNat k && (s.slotAt m k).st == 2 && (s.slotAt m k).abortable)))) ∧
  (∀ (s : State) (m k : Nat) (x : MbxSlot), s.sosin.ready = true → s.inReset = false → s.nextPosted = some (m, k, x) →
    ∃ t, exec .commandAccept s = .next t ∧ SameMemory s t ∧ SameRegs s t [] ∧ (t.slotAt m k).st = 2 ∧ (t.slotAt m k).copy = slice x.req 0 480 ∧
      (t.slotAt m k).since = s.now ∧ (t.slotAt m k).ran = (s.earlyCheck m (slice x.req 0 480) (if m = 65 then some x.req.length else none)).isSome) ∧
  (∀ (s : State) (m : Mbx) (k : MSlot),
    let x := s.slotAt m k
    let written := fun (t : State) (st : Nat) => (t.slotAt m k).st = 3 ∧ field (t.slotAt m k).resp 0 2 = field x.copy 0 2 ∧ field (t.slotAt m k).resp 2 1 = st
    x.st = 2 → s.sosin.ready = true → s.inReset = false → m.val ≠ 65 → x.discard = false →
    (x.ran = true → x.buf = [] → (x.status ≠ 0 ∨ (x.wait = .none ∧ s.keptInFlash (field x.copy 0 2) = true ∧ s.keyEmptied x = true)) →
      ∃ t, exec (.commandComplete m k) s = .next t ∧ SameMemory s t ∧ written t (x.status % 256) ∧ slice (t.slotAt m k).resp 32 x.payload.length = x.payload ∧
        (isMalformed x.status = false → SameRegs s t []) ∧ (isMalformed x.status = true → t.reg (Reg.MBX_MALF m) = satAdd 32 (s.reg (Reg.MBX_MALF m)) 1)) ∧
    (∀ v q, x.ran = true → x.buf = [] → x.status = 0 → x.wait = .revoke v true → s.tenantQuiet v = true → Tab.find s.tenants v = some q →
      ∃ t, exec (.commandComplete m k) s = .next t ∧ Tab.find t.tenants v = none) ∧
    (∀ p r, x.ran = true → x.buf = [] → x.status = 0 → x.wait = .ring p → p < 1024 → Tab.find s.rings p = some r → r.admitted = 0 →
      ∃ t, exec (.commandComplete m k) s = .next t ∧ SameMemory s t ∧ written t 0 ∧ Tab.find t.rings p = none ∧
        ∀ a, Reg.QFE_SQTAIL p ≤ a → a < Reg.QFE_SQTAIL p + 64 → t.reg a = regReset a) ∧
    (∀ r, cmdRow? (field x.copy 0 2) = some r → r.cls < 2 → x.since + msec 1000 ≤ s.now →
      ∃ t, exec (.sosinStall m k) s = .next t ∧ SameMemory s t ∧ written t 0x30 ∧ t.tells { cause := Cause.sosinStall, subject := m } = true)) ∧
  (∀ (s : State) (tag : Fin 4) (msg : List Byte), s.inReset = false → slice msg 0 2 = [0x1F, 0x3C] → (s.slotAt 65 tag).st = 0 →
    ∃ t, exec (.mctpMessage tag msg) s = .next t ∧ SameMemory s t ∧ (t.slotAt 65 tag).st = 1 ∧ (t.slotAt 65 tag).req = msg.drop 2) ∧
  (∀ s : State, exec .mctpBadPacket s = .next s)

/-- ARM sets its bit and leaves the rest of the summary register; SUMMARY_W1C clears exactly the level-2 bits it names that may be cleared; SUMMARY_ENABLE stores the groups the function has; a COALESCE_TIMER that is due signals the ring pair's bit and leaves nothing unsignalled; RECORD_RELEASE drops the acknowledged records of the domain that are 1 ms old and keeps the others in order; LOG_FAULT counts a corrected error, and otherwise makes the queue faulty and a fatal occurrence pending; IRQ_PIN.FORCE is stored in debug mode and is 0 outside it. (R12, R486, R487, R488, R490, R492, R499, R507, Table 14.2) -/
def Obligations.InterruptTreeAndRecords : Prop :=
  (∀ (s : State) (f : Fn),
    (∃ t, exec (.arm f) s = .next t ∧ SameRegs s t [summary f] ∧ SameMemory s t ∧
      ∀ j, j < 64 → bit (t.reg (summary f)) j = (j == 63 || bit (s.reg (summary f)) j)) ∧
    (∀ mask : Word64, ∃ t, exec (.summaryW1c f mask) s = .next t ∧ SameRegs s t [summary f] ∧ SameMemory s t ∧
      ∀ j, j < 64 → bit (t.reg (summary f)) j = (bit (s.reg (summary f)) j && !(mask.getLsbD j && bit (summaryW1c f) j))) ∧
    (∀ e : BitVec 4, ∃ t, exec (.summaryEnable f e) s = .next t ∧ SameRegs s t [summary f] ∧ SameMemory s t ∧
      bits (t.reg (summary f)) 55 52 = (e.toNat &&& summaryEnable f) ∧
      ∀ j, j < 64 → (j < 52 ∨ 55 < j) → bit (t.reg (summary f)) j = bit (s.reg (summary f)) j)) ∧
  (∀ (s : State) (p : RingPair) (r : Ring), Tab.find s.rings p = some r → r.unsig ≠ 0 → r.oldest + usec r.coalus ≤ s.now →
    ∃ t, exec (.coalesceTimer p) s = .next t ∧ SameRegs s t [] ∧ SameMemory s t ∧ Tab.find t.rings p = some { r with unsig := 0, signalNow := false } ∧
      bit (Tab.read t.raised 0 (ringVf p)) (ringLocal p) = true) ∧
  (∀ (s : State) (d : Domain), ∃ t, exec (.recordRelease d) s = .next t ∧ SameRegs s t [] ∧ SameMemory s t ∧
    (t.errQueue d).recs = (s.errQueue d).recs.filter (fun r => !r.acked || decide (s.clkTime < r.time + 1000000)) ∧
    ∀ j, j ≠ d.val → t.errQueue j = s.errQueue j) ∧
  (∀ (s : State) (d : Domain) (kind : Nat),
    (kind = 0 → ∃ t, exec (.logFault d kind) s = .next t ∧ SameRegs s t [Reg.ERR_LOGCE] ∧ SameMemory s t ∧
      t.reg Reg.ERR_LOGCE = satAdd 32 (s.reg Reg.ERR_LOGCE) 1) ∧
    (kind ≠ 0 → ∃ t, exec (.logFault d kind) s = .next t ∧ SameRegs s t [Reg.ERR_FATAL] ∧ SameMemory s t ∧ (t.errQueue d).faulty = true ∧
      (t.errQueue d).recs = (s.errQueue d).recs ∧ t.logFaulted = true ∧
      (s.fatal = false → s.fatalPend = none → t.fatalPend = some { domain := 5, cause := 0x0503, seq := 0 }))) ∧
  (∀ (s : State) (on : Bool), ∃ t, exec (.irqPinForce on) s = .next t ∧ SameRegs s t [Reg.IRQ_PIN] ∧ SameMemory s t ∧
    t.fld Reg.IRQ_PIN F.IRQ_PIN_FORCE = b2n (on && s.debug))

/-- A due PMBUS_POLL of good readings takes each regulator's count and time; a regulator without a good reading for 100 ms is lost and recorded; a due WINDOW_END books the window, counts it and puts a waiting policy in force; THM_SAMPLE is held for the next tick; OP_TRANSITION goes to the wanted point after the relock; VOLTAGE_SETTLE in tolerance settles the target, and after 1 ms out of it records and holds the point; VRALERT_N and PFAIL_N are taken; MINUTE_END writes the accounts' records and starts the next minute; METER_SIGN signs the oldest record without a signature. (R478, R512, R513, R516, R525, R527, R528, R532, R534, R543, R544, R545) -/
def Obligations.PowerAndMetering : Prop :=
  (∀ (s : State) (eins : List (Bool × Nat)), s.pwr.pollAt ≤ s.now → s.pwr.mapOk = true → (∀ e ∈ eins, e.1 = true) →
    ∃ t, exec (.pmbusPoll eins []) s = .next t ∧ SameRegs s t [] ∧ SameMemory s t ∧ s.now < t.pwr.pollAt ∧ t.pwr.pollAt ≤ s.now + usec 500 ∧
      ∀ (k : Nat) (r : Regulator) (e : Bool × Nat), s.pwr.regs[k]? = some r → eins[k]? = some e →
        ∃ x, t.pwr.regs[k]? = some x ∧ x.count = some e.2 ∧ x.goodAt = s.now ∧ x.lost = false ∧
          x.rem = (r.rem + (match r.count with | some c => (e.2 - c) * r.lsb | none => 0)) % 1000000) ∧
  (∀ (s : State) (k : Fin 12) (r : Regulator), s.pwr.regs[k.val]? = some r → r.lost = false → r.goodAt + msec 100 ≤ s.now → s.sosin.ready = true →
    ∃ t, exec (.regLost k) s = .next t ∧ SameMemory s t ∧ t.pwr.regs[k.val]? = some { r with lost := true } ∧ t.tells { cause := plat 0x0522 2 } = true ∧
      SameRegs s t (reportRegs { cause := plat 0x0522 2 })) ∧
  (∀ s : State, s.pwr.windowEnd ≤ s.now → s.inReset = false → s.sosin.ready = true →
    ∃ t, exec .windowEnd s = .next t ∧ SameMemory s t ∧ t.pwr.windowEnd = s.pwr.windowEnd + msec 1 ∧ t.pwr.booked = [0, 0, 0, 0] ∧
      t.reg Reg.MTR_WINDOW = satAdd 64 (s.reg Reg.MTR_WINDOW) 1 ∧ t.pwr.hist.length = min (s.pwr.hist.length + 1) 10000 ∧
      t.pwr.policy = s.pwr.nextPolicy.getD s.pwr.policy ∧ t.pwr.nextPolicy = none ∧
      (∀ p, s.pwr.nextPolicy = some p → p.pla < 2 ^ 16 → p.plb < 2 ^ 16 → t.reg Reg.PWR_POLICY = p.pla * 2 ^ 16 + p.plb)) ∧
  (∀ (s : State) (stk cores : List Int), s.inReset = false →
    ∃ t x, exec (.thmSample stk cores) s = .next t ∧ SameRegs s t [] ∧ SameMemory s t ∧ t.pwr.sample = some x ∧ x.at_ = s.now ∧
      x.stk.length = 8 ∧ x.cores.length = 16 ∧ (stk.length = 8 → x.stk = stk) ∧ (cores.length = 16 → x.cores = cores)) ∧
  (∀ (s : State) (relock : Nat), s.wantedOp ≠ s.op → s.wantedOp < 8 → s.voltsFor s.wantedOp = true → s.sosin.ready = true → s.inReset = false →
    (∀ t0, s.pwr.lastTrans = some t0 → s.agreed = true ∨ t0 + msec 1 ≤ s.now) →
    ∃ t, exec (.opTransition relock) s = .next t ∧ SameMemory s t ∧ t.op = s.wantedOp ∧ t.now = s.now + nsec (min relock 2000) ∧
      t.pwr.lastTrans = some s.now ∧ t.reg Reg.PWR_TRANS = satAdd 32 (s.reg Reg.PWR_TRANS) 1) ∧
  (∀ (s : State) (tr : Trans) (mvs : List Nat), s.pwr.trans = some tr →
    let near := mvs.length = (s.pwr.regs.filter (·.corev)).length ∧ ∀ x ∈ mvs, x ≤ s.vid tr.target + 10 ∧ s.vid tr.target ≤ x + 10
    (near → ∃ t, exec (.voltageSettle mvs) s = .next t ∧ SameMemory s t ∧ SameRegs s t [Reg.PWR_STATE] ∧ t.pwr.settledFor = some tr.target ∧ t.pwr.held = none) ∧
    (∀ a, ¬ near → tr.asked = some a → a + msec 1 ≤ s.now → ∃ t, exec (.voltageSettle mvs) s = .next t ∧ SameMemory s t ∧
      t.tells { cause := plat 0x0523 2 } = true ∧ t.pwr.held = some s.op)) ∧
  (∀ (s : State) (on : Bool), exec (.vralertN on) s = .next { s with pwr := { s.pwr with vralert := on } } ∧
    ∃ t, exec (.pfailN on) s = .next t ∧ t.pwr.pfailPin = on ∧ t.pwr.pfailCmd = s.pwr.pfailCmd) ∧
  (∀ s : State, s.meter.minuteWin = 60000 →
    ∃ t, exec .minuteEnd s = .next t ∧ SameMemory s t ∧ SameRegs s t [Reg.MTR_NEXTSEQ] ∧ t.meter.minute = s.meter.minute + 1 ∧ t.meter.minuteWin = 0 ∧
      t.meter.minuteAt = s.now ∧ t.meter.measured = [0, 0, 0, 0] ∧ (∀ x ∈ t.meter.accounts, x.nwin = 0 ∧ x.live = true) ∧
      t.meter.mseq = s.meter.mseq + (if s.meter.on then (s.meter.accounts.filter (fun a => a.nwin != 0)).length else 0)) ∧
  (∀ (s : State) (r : MeterRec), s.meter.recs.find? (fun x => x.sig.isNone) = some r →
    ∃ t, exec .meterSign s = .next t ∧ SameRegs s t [] ∧ SameMemory s t ∧ t.meter.recs.map (·.bytes) = s.meter.recs.map (·.bytes) ∧
      { r with sig := some (slice (Config.sign 1 (sha384 r.bytes)) 0 96) } ∈ t.meter.recs ∧
      ∀ x ∈ t.meter.recs, x.mseq = r.mseq → x.sig.isSome = true)

/-- A write of PIN_MUX keeps an allowed function for the next KCLK edge and shows it, a write of another code leaves the function; the hold of a pin ends by driving the value of that instant; a pull is kept for the next KCLK edge, code 3 changes nothing; an LSYNC edge is stamped and counted; a pulse drives the net low for 1 µs from the next REFCLK edge unless one runs; UART bytes are read in debug mode and discarded otherwise; JTAG reads IDCODE, drives pins in reset, and an instruction private to Plinov, which the specification gives no effect in debug mode, is refused there by name. (R617, R618, R619, R620, R621, R622) -/
def Obligations.PinsAndTestPorts : Prop :=
  (∀ (s : State) (n : Fin 16) (func clksel : BitVec 4),
    let f := if mioAllowed n func.toNat then func.toNat else bits (s.reg (Reg.PIN_MUX n)) 3 0
    ∃ t e, exec (.mioMuxWrite n func clksel) s = .next t ∧ SameRegs s t [Reg.PIN_MUX n] ∧ SameMemory s t ∧ bits (t.reg (Reg.PIN_MUX n)) 3 0 = f ∧
      bits (t.reg (Reg.PIN_MUX n)) 7 4 = (if n.val = 15 ∧ clksel.toNat ≤ 4 then clksel.toNat else bits (s.reg (Reg.PIN_MUX n)) 7 4) ∧
      (t.mio n).pendMux = some (f, e) ∧ s.now < e ∧ e ≤ s.now + nsec 40 ∧ ∀ j, j ≠ n.val → t.mio j = s.mio j) ∧
  (∀ (s : State) (n : Fin 16) (e : Nat), (s.mio n).pendMux = none → (s.mio n).holdEnd = some e → e ≤ s.now →
    ∃ t, exec (.mioHoldEnd n) s = .next t ∧ SameRegs s t [] ∧ SameMemory s t ∧ t.mio n = { s.mio n with holdEnd := none } ∧
      t.out = s.out ++ (match s.mioDrive n with | some v => [.pin n v] | none => [])) ∧
  (∀ (s : State) (n : Fin 16) (pull : BitVec 2), (s.mio n).pendPull = none →
    (pull.toNat = 3 → ∃ t, exec (.pinPullWrite n pull) s = .next t ∧ t.pins = s.pins ∧ SameRegs s t [] ∧ SameMemory s t) ∧
    (pull.toNat ≠ 3 → ∃ t e, exec (.pinPullWrite n pull) s = .next t ∧ SameRegs s t [] ∧ SameMemory s t ∧ (t.mio n).pendPull = some (pull.toNat, e) ∧
      s.now < e ∧ e ≤ s.now + nsec 40)) ∧
  (∀ s : State, ∃ t, exec .lsyncEdge s = .next t ∧ SameRegs s t [Reg.PIN_LSTAMP, Reg.PIN_LSYNC] ∧ SameMemory s t ∧
    t.reg Reg.PIN_LSTAMP = (s.clkTime - 80) % 2 ^ 64 ∧ t.fld Reg.PIN_LSYNC F.PIN_LSYNC_COUNT = satAdd 16 (s.fld Reg.PIN_LSYNC F.PIN_LSYNC_COUNT) 1) ∧
  (∀ s : State, (s.pulsing = true → ∃ t, exec .lsyncPulse s = .next t ∧ t.pins = s.pins ∧ t.out = s.out ∧ SameRegs s t [] ∧ SameMemory s t) ∧
    (s.pulsing = false → ∃ t e, exec .lsyncPulse s = .next t ∧ t.out = s.out ++ [.pin 16 false] ∧ t.pins.pulseEnd = some e ∧ e % 630 = 0 ∧
      s.now + usec 1 < e ∧ e ≤ s.now + 630 + usec 1 ∧ SameRegs s t [] ∧ SameMemory s t)) ∧
  (∀ (s : State) (b : Byte), ∃ t, exec (.uartRx b) s = .next t ∧ SameRegs s t [] ∧ SameMemory s t ∧
    t.pins.uartRx = s.pins.uartRx ++ (if s.debug then [b] else [])) ∧
  (∀ s : State, exec (.jtagInstruction .idcode) s = .next { s with out := s.out ++ [.jtag 0x27A809B7] } ∧
    exec (.jtagInstruction .other) s = .next { s with out := s.out ++ [.jtag 0] } ∧
    exec (.jtagInstruction .drivesPins) s = .next { s with out := s.out ++ [.jtag (if s.rst.sysrst then 1 else 0)] } ∧
    ((s.debug = false ∨ s.fld Reg.MGT_FUSE F.MGT_FUSE_DBGOFF ≠ 0) → exec (.jtagInstruction .privateOne) s = .next { s with out := s.out ++ [.jtag 0] }) ∧
    (s.debug = true → s.fld Reg.MGT_FUSE F.MGT_FUSE_DBGOFF = 0 → exec (.jtagInstruction .privateOne) s = .refused .privateJtag))

/-- A FLASH_RECORD_WRITE that succeeds writes the body of the job served next and then its commit byte, which ends the job and, for the log, moves MGT_LOGHEAD; one that fails is recorded; none is made while the SPI pins are high impedance; MGT_LOGSEL starts a search and LOG_SEARCH_DONE ends it and shows whether the record was found; a probe answered at its time, or a valid packet, makes the BMC present and says so, a fourth failed probe makes it absent; MCTP control stores the EID and answers; sensor readings and PDRs are answered and change nothing else. (R555, R556, R560, R577, R578, R579, R580, R613) -/
def Obligations.FlashAndBmcLink : Prop :=
  (∀ (s : State) (j : FlashJob), s.rst.refclkLost = false → s.spiOff = false → s.mc.nextJob = some j →
    (j.slot = none → ∃ t k q, exec (.flashRecordWrite true) s = .next t ∧ SameRegs s t [] ∧ SameMemory s t ∧
      Tab.find t.mc.flash k = some (flashBody q j.kind j.payload ++ leBytes 1 0xFF) ∧ t.mc.jobs = swapJob j [{ j with slot := some k }] s.mc.jobs) ∧
    (∀ k bs, j.slot = some k → Tab.find s.mc.flash k = some bs → ∃ t, exec (.flashRecordWrite true) s = .next t ∧
      SameRegs s t (if j.area = 0 then [Reg.MGT_LOGHEAD] else []) ∧ SameMemory s t ∧ Tab.find t.mc.flash k = some (slice bs 0 63 ++ leBytes 1 0x3C) ∧
      t.mc.jobs = swapJob j [] s.mc.jobs ∧ (j.area = 0 → t.reg Reg.MGT_LOGHEAD = flashSeq bs)) ∧
    (∃ t, exec (.flashRecordWrite false) s = .next t ∧ SameMemory s t ∧ t.tells { cause := plat 0x0542 2 } = true ∧
      SameRegs s t (reportRegs { cause := plat 0x0542 2 }))) ∧
  (∀ (s : State) (ok : Bool), s.rst.sysrst = true ∨ s.rst.pwrgood = false → exec (.flashRecordWrite ok) s = .next s) ∧
  (∀ (s : State) (n : Word32), ∃ t, exec (.mgtLogsel n) s = .next t ∧ SameRegs s t [Reg.MGT_LOGSEL, Reg.MGT_LOGCTL] ∧ SameMemory s t ∧
    t.reg Reg.MGT_LOGSEL = n.toNat ∧ t.fld Reg.MGT_LOGCTL F.MGT_LOGCTL_BUSY = 1 ∧ t.mc.search = some n.toNat) ∧
  (∀ (s : State) (q : Nat), s.mc.search = some q →
    let found := (s.mc.records 0).find? (fun c => flashSeq c.2 == q)
    ∃ t, exec .logSearchDone s = .next t ∧ SameMemory s t ∧ t.mc.search = none ∧ t.fld Reg.MGT_LOGCTL F.MGT_LOGCTL_BUSY = 0 ∧
      t.fld Reg.MGT_LOGCTL F.MGT_LOGCTL_FOUND = (if found.isSome then 1 else 0) ∧
      ∀ c, found = some c → ∀ i, i < 8 → t.reg (Reg.MGT_LOGDATA i) = field c.2 (8 * i) 8) ∧
  (∀ s : State,
    let present := fun (t : State) => t.sosin.bmcAbsent = false ∧ t.fld Reg.MGT_BMC F.MGT_BMC_STATE = 0 ∧ t.tells { cause := plat 0x0541 0 } = true ∧ SameMemory s t
    (s.sosin.bmcAbsent = true → s.mc.running = true →
      (∃ t, exec .bmcPresent s = .next t ∧ present t) ∧
      (s.sosin.ready = true → s.inReset = false → s.mc.probeAt ≤ s.now → ∃ t, exec (.bmcProbe 1) s = .next t ∧ present t)) ∧
    (s.sosin.bmcAbsent = false → exec .bmcPresent s = .next s) ∧
    (s.sosin.ready = true → s.inReset = false → s.mc.probeAt ≤ s.now →
      (s.mc.probeFails < 3 → ∃ t, exec (.bmcProbe 0) s = .next t ∧ t.mc.probeFails = s.mc.probeFails + 1 ∧ t.mc.probeAt = s.now + msec 100 ∧
        t.sosin.bmcAbsent = s.sosin.bmcAbsent ∧ SameRegs s t [] ∧ SameMemory s t) ∧
      (3 ≤ s.mc.probeFails → ∃ t, exec (.bmcProbe 0) s = .next t ∧ t.sosin.bmcAbsent = true ∧ t.sosin.pldm = none ∧ t.mc.sessions = 0 ∧
        t.mc.probeAt = s.now + msec 10000 ∧ (s.sosin.bmcAbsent = false → t.fld Reg.MGT_BMC F.MGT_BMC_STATE = 1 ∧ t.tells { cause := plat 0x0540 0 } = true)))) ∧
  (∀ (s : State) (e : Byte), s.mc.running = true → s.inReset = false → s.sosin.bmcAbsent = false →
    (∃ t, exec (.mctpControl (.setEid e)) s = .next t ∧ t.fld Reg.MGT_BMC F.MGT_BMC_EID = e.toNat ∧ SameRegs s t [Reg.MGT_BMC] ∧ SameMemory s t ∧
      t.out = s.out ++ [.mctp 0 [0, 0, e, 0]]) ∧
    (∀ c, (∀ x, c ≠ .setEid x) → ∃ t m, exec (.mctpControl c) s = .next t ∧ t = { s with out := s.out ++ [.mctp 0 m] })) ∧
  (∀ s : State, s.sosin.ready = true → s.inReset = false → s.fatal = false → s.sosin.bmcAbsent = false →
    (∀ id, ∃ t, exec (.getSensorReading id) s = .next t ∧ t = { s with out := s.out ++ [.mctp 1 (match s.sensor id with | none => leBytes 1 0x80 | some none => leBytes 1 0 ++ leBytes 1 2 | some (some v) => leBytes 1 0 ++ (leBytes 1 0 ++ int32 v))] }) ∧
    (∀ q, ∃ t m, exec (.pldmPdrRequest q) s = .next t ∧ t = { s with out := s.out ++ [.mctp 1 m] }))

/-- A peer that is served opens at most two sessions and ends them; its other requests and GET_MEASUREMENTS are answered and change nothing else; a PLDM update goes from requested through its table, component, transfer and verification to applied, which fills the inactive slot, and to activation, which makes that slot next; a command out of its phase is refused and keeps the phase; a cancel, or 90 s without a command, ends the update with the slot left invalid. (R431, R570, R571, R572, R573, R574, R575, R576) -/
def Obligations.AttestationAndUpdates : Prop :=
  (∀ (s : State) (peer : Option Fn), s.spdmOpen peer = true → s.sosin.bmcAbsent = false →
    let answers := fun (t : State) => t.out.length = s.out.length + 1 ∧ SameRegs s t [] ∧ SameMemory s t
    (s.mc.entropyOk = true → ∃ t, exec (.spdmRequest peer .keyExchange) s = .next t ∧ answers t ∧
      t.sessions peer = if s.sessions peer < 2 then s.sessions peer + 1 else s.sessions peer) ∧
    (∃ t, exec (.spdmRequest peer .endSession) s = .next t ∧ answers t ∧ t.sessions peer = s.sessions peer - 1) ∧
    (∀ r, r ≠ .keyExchange → r ≠ .endSession → ∃ t, exec (.spdmRequest peer r) s = .next t ∧ answers t ∧ t.sessions peer = s.sessions peer ∧ t.fns = s.fns) ∧
    (∀ k, ∃ t m, exec (.getMeasurements peer k) s = .next t ∧
      t = { s with out := s.out ++ [match peer with | none => .mctp 5 m | some f => .doe f m] } ∧ m.headD 0 = (if k ≤ 7 ∨ k = 255 then 0x60 else 0x7F))) ∧
  (∀ s : State, s.sosin.ready = true → s.inReset = false → s.fatal = false → s.sosin.bmcAbsent = false →
    let told := fun (t : State) (c : Byte) => t.out = s.out ++ [.mctp 1 [c]]
    (∀ n, s.sosin.pldm = none → s.staging_ = false → ∃ t, exec (.pldmUpdateCommand (.requestUpdate n)) s = .next t ∧ told t 0 ∧
      t.sosin.pldm = some { lastAt := s.now, xfer := min 1024 n } ∧ t.fwSlot s.inactiveSlot = {} ∧ SameRegs s t [] ∧ SameMemory s t) ∧
    (∀ p, s.sosin.pldm = some p →
      let moved := fun (t : State) (n : Nat) => told t 0 ∧ t.sosin.pldm = some { p with lastAt := s.now, phase := n } ∧ SameMemory s t
      let wrong := fun (t : State) => told t 0x84 ∧ t.sosin.pldm = some { p with lastAt := s.now } ∧ SameRegs s t [] ∧ SameMemory s t
      (∃ t, exec (.pldmUpdateCommand .passComponentTable) s = .next t ∧ if p.phase = 0 then moved t 1 else wrong t) ∧
      (∃ t, exec (.pldmUpdateCommand (.updateComponent 1)) s = .next t ∧
        if p.phase = 1 then told t 0 ∧ t.sosin.pldm = some { p with lastAt := s.now, phase := 2, data := [] } else wrong t) ∧
      (∀ bs, p.phase = 2 → bs.length ≤ p.xfer → ∃ t, exec (.pldmUpdateCommand (.firmwareData bs)) s = .next t ∧ t.out = s.out ∧
        t.sosin.pldm = some { p with lastAt := s.now, data := p.data ++ bs } ∧ SameRegs s t [] ∧ SameMemory s t) ∧
      (∃ t, exec (.pldmUpdateCommand .transferComplete) s = .next t ∧ if p.phase = 2 then moved t 3 else wrong t) ∧
      (s.headerCheck p.data = none → badSections p.data 0 = [] → fwSize p.data ≤ p.data.length →
        (∃ t, exec (.pldmUpdateCommand .verifyComplete) s = .next t ∧ if p.phase = 3 then moved t 4 else wrong t) ∧
        (∃ t, exec (.pldmUpdateCommand .applyComplete) s = .next t ∧
          if p.phase = 4 then moved t 5 ∧ t.fwSlot s.inactiveSlot = { bytes := slice p.data 0 (fwSize p.data), committed := true } else wrong t)) ∧
      (∃ t, exec (.pldmUpdateCommand (.activateFirmware false)) s = .next t ∧
        if p.phase = 5 then told t 0 ∧ t.sosin.pldm = none ∧ (s.bootCtl.active < 2 → t.bootCtl.next = s.inactiveSlot) else wrong t) ∧
      (∃ t, exec (.pldmUpdateCommand .cancelUpdate) s = .next t ∧ told t 0 ∧ t.sosin.pldm = none ∧ t.fwSlot s.inactiveSlot = {}))) ∧
  (∀ (s : State) (p : Pldm), s.sosin.pldm = some p →
    (p.lastAt + msec 90000 ≤ s.now → ∃ t, exec .pldmUpdateTimeout s = .next t ∧ t.sosin.pldm = none ∧ t.fwSlot s.inactiveSlot = {} ∧ SameRegs s t [] ∧ SameMemory s t) ∧
    (s.now < p.lastAt + msec 90000 → exec .pldmUpdateTimeout s = .next s))
end

