-- ==== Sys2Proof/Laws/Tab.lean ====
section
/-! SUPPORT. Laws/Tab.lean: the laws of the sparse tables: what is read after a write, and that every operation keeps the
canonical form. -/

namespace Sys2Proof.Machine

variable {α : Type}

/-! ### Reads after writes -/

@[simp] theorem Tab.find_nil (k : Nat) : Tab.find ([] : Tab α) k = none := rfl

@[simp] theorem Tab.find_erase_self (t : Tab α) (k : Nat) : Tab.find (Tab.erase t k) k = none := by
  induction t with
  | nil => rfl
  | cons e t ih =>
    obtain ⟨j, v⟩ := e
    by_cases h : j = k <;> simp [Tab.erase, Tab.find, h, ih]

theorem Tab.find_erase_ne (t : Tab α) {j k : Nat} (h : j ≠ k) : Tab.find (Tab.erase t j) k = Tab.find t k := by
  induction t with
  | nil => rfl
  | cons e t ih =>
    obtain ⟨i, v⟩ := e
    by_cases hi : i = j
    · subst hi; simp [Tab.erase, Tab.find, h, ih]
    · rw [Tab.erase, if_neg hi, Tab.find, Tab.find, ih]

@[simp] theorem Tab.find_insert_self (t : Tab α) (k : Nat) (x : α) : Tab.find (Tab.insert t k x) k = some x := by
  induction t with
  | nil => simp [Tab.insert, Tab.find]
  | cons e t ih =>
    obtain ⟨j, v⟩ := e
    by_cases h : k < j
    · simp [Tab.insert, Tab.find, h]
    · by_cases hj : j = k <;> simp [Tab.insert, Tab.find, h, hj, ih]

theorem Tab.find_insert_ne (t : Tab α) {j k : Nat} (x : α) (h : j ≠ k) : Tab.find (Tab.insert t j x) k = Tab.find t k := by
  induction t with
  | nil => simp [Tab.insert, Tab.find, h]
  | cons e t ih =>
    obtain ⟨i, v⟩ := e
    by_cases hi : j < i
    · simp [Tab.insert, Tab.find, hi, h]
    · by_cases hj : i = j
      · subst hj; simp [Tab.insert, Tab.find, h]
      · rw [Tab.insert, if_neg hi, if_neg hj, Tab.find, Tab.find, ih]

theorem Tab.find_insert (t : Tab α) (j k : Nat) (x : α) :
    Tab.find (Tab.insert t j x) k = if j = k then some x else Tab.find t k := by
  by_cases h : j = k
  · subst h; simp
  · simp [Tab.find_insert_ne t x h, h]

theorem Tab.find_erase (t : Tab α) (j k : Nat) : Tab.find (Tab.erase t j) k = if j = k then none else Tab.find t k := by
  by_cases h : j = k
  · subst h; simp
  · simp [Tab.find_erase_ne t h, h]

@[simp] theorem Tab.read_insert_self (t : Tab α) (d : α) (k : Nat) (x : α) : Tab.read (Tab.insert t k x) d k = x := by
  simp [Tab.read]

@[simp] theorem Tab.read_write_self [DecidableEq α] (t : Tab α) (d : α) (k : Nat) (x : α) :
    Tab.read (Tab.write t d k x) d k = x := by
  by_cases h : x = d <;> simp [Tab.read, Tab.write, h]

theorem Tab.read_write_ne [DecidableEq α] (t : Tab α) (d : α) {j k : Nat} (x : α) (h : j ≠ k) :
    Tab.read (Tab.write t d j x) d k = Tab.read t d k := by
  by_cases hx : x = d <;> simp [Tab.read, Tab.write, hx, Tab.find_erase_ne t h, Tab.find_insert_ne t x h]

theorem Tab.read_write [DecidableEq α] (t : Tab α) (d : α) (j k : Nat) (x : α) :
    Tab.read (Tab.write t d j x) d k = if j = k then x else Tab.read t d k := by
  by_cases h : j = k
  · subst h; simp
  · simp [Tab.read_write_ne t d x h, h]

theorem Tab.find_clear (t : Tab α) (lo n k : Nat) :
    Tab.find (Tab.clear t lo n) k = if lo ≤ k ∧ k < lo + n then none else Tab.find t k := by
  induction t with
  | nil => simp [Tab.clear]
  | cons e t ih =>
    obtain ⟨j, v⟩ := e
    have ih' : Tab.find (List.filter (fun e => decide (e.1 < lo) || decide (lo + n ≤ e.1)) t) k
        = if lo ≤ k ∧ k < lo + n then none else Tab.find t k := ih
    by_cases hj : j < lo ∨ lo + n ≤ j
    · have : (decide (j < lo) || decide (lo + n ≤ j)) = true := by simpa using hj
      rw [Tab.clear, List.filter_cons_of_pos (by simpa using hj)]
      by_cases hk : j = k
      · subst hk
        have : ¬ (lo ≤ j ∧ j < lo + n) := by omega
        simp [Tab.find, this]
      · simp [Tab.find, hk, ih']
    · rw [Tab.clear, List.filter_cons_of_neg (by simpa using hj)]
      by_cases hk : j = k
      · subst hk
        have : lo ≤ j ∧ j < lo + n := by omega
        simp [ih', this]
      · simp [Tab.find, hk, ih']

theorem Tab.read_writeList_out [DecidableEq α] (xs : List α) : ∀ (t : Tab α) (d : α) (k a : Nat),
    (a < k ∨ k + xs.length ≤ a) → Tab.read (Tab.writeList t d k xs) d a = Tab.read t d a := by
  induction xs with
  | nil => intro t d k a _; rfl
  | cons x xs ih =>
    intro t d k a h
    simp only [List.length_cons] at h
    rw [Tab.writeList, ih _ _ _ _ (by omega), Tab.read_write_ne _ _ _ (by omega)]

theorem Tab.read_writeList_in [DecidableEq α] (xs : List α) : ∀ (t : Tab α) (d : α) (k i : Nat) (h : i < xs.length),
    Tab.read (Tab.writeList t d k xs) d (k + i) = xs[i] := by
  induction xs with
  | nil => intro t d k i h; simp at h
  | cons x xs ih =>
    intro t d k i h
    rw [Tab.writeList]
    cases i with
    | zero => rw [Tab.read_writeList_out _ _ _ _ _ (by omega)]; simp
    | succ i =>
      have := ih (Tab.write t d k x) d (k + 1) i (by simpa using h)
      rw [show k + (i + 1) = k + 1 + i by omega, this]; simp

/-! ### The canonical form -/

theorem Tab.rising_mono : ∀ (t : Tab α) {b c : Nat}, c ≤ b → Tab.rising b t = true → Tab.rising c t = true
  | [], _, _, _, _ => rfl
  | (k, v) :: t, b, c, h, hr => by
    simp only [Tab.rising, Bool.and_eq_true, decide_eq_true_eq] at hr ⊢
    exact ⟨by omega, hr.2⟩

theorem Tab.rising_filter (p : Nat × α → Bool) : ∀ (t : Tab α) (b : Nat), Tab.rising b t = true → Tab.rising b (t.filter p) = true
  | [], _, _ => rfl
  | (k, v) :: t, b, hr => by
    simp only [Tab.rising, Bool.and_eq_true, decide_eq_true_eq] at hr
    have ih := Tab.rising_filter p t (k + 1) hr.2
    by_cases hp : p (k, v) = true
    · rw [List.filter_cons_of_pos hp]; simp [Tab.rising, hr.1, ih]
    · rw [List.filter_cons_of_neg (by simpa using hp)]; exact Tab.rising_mono _ (by omega) ih

theorem Tab.erase_eq_filter : ∀ (t : Tab α) (k : Nat), Tab.erase t k = t.filter (fun e => decide (e.1 ≠ k))
  | [], _ => rfl
  | (j, v) :: t, k => by
    by_cases h : j = k <;> simp [Tab.erase, h, Tab.erase_eq_filter t k]

theorem Tab.rising_insert : ∀ (t : Tab α) (b k : Nat) (x : α), b ≤ k → Tab.rising b t = true → Tab.rising b (Tab.insert t k x) = true
  | [], b, k, x, hb, _ => by simp [Tab.insert, Tab.rising, hb]
  | (j, v) :: t, b, k, x, hb, hr => by
    simp only [Tab.rising, Bool.and_eq_true, decide_eq_true_eq] at hr
    by_cases h : k < j
    · simp [Tab.insert, Tab.rising, h, hb, hr.2]
    · by_cases hj : j = k
      · subst hj; simp [Tab.insert, Tab.rising, hr]
      · have := Tab.rising_insert t (j + 1) k x (by omega) hr.2
        simp [Tab.insert, Tab.rising, h, hj, hr.1, this]

theorem Tab.mem_insert {t : Tab α} {k : Nat} {x : α} {e : Nat × α} (h : e ∈ Tab.insert t k x) : e = (k, x) ∨ e ∈ t := by
  induction t with
  | nil => simpa [Tab.insert] using h
  | cons f t ih =>
    obtain ⟨j, v⟩ := f
    simp only [Tab.insert] at h
    split at h
    · simpa using h
    · split at h
      · simp only [List.mem_cons] at h ⊢; tauto
      · simp only [List.mem_cons] at h ⊢
        rcases h with h | h
        · exact .inr (.inl h)
        · rcases ih h with h | h <;> simp [h]

variable [DecidableEq α]

theorem Tab.wf_iff (t : Tab α) (d : α) : Tab.wf t d = true ↔ Tab.rising 0 t = true ∧ ∀ e ∈ t, e.2 ≠ d := by
  simp [Tab.wf]

@[simp] theorem Tab.wf_nil (d : α) : Tab.wf ([] : Tab α) d = true := rfl

theorem Tab.wf_filter {t : Tab α} {d : α} (p : Nat × α → Bool) (h : Tab.wf t d = true) : Tab.wf (t.filter p) d = true := by
  rw [Tab.wf_iff] at h ⊢
  exact ⟨Tab.rising_filter p t 0 h.1, fun e he => h.2 e (List.mem_filter.mp he).1⟩

theorem Tab.wf_erase {t : Tab α} {d : α} (k : Nat) (h : Tab.wf t d = true) : Tab.wf (Tab.erase t k) d = true := by
  rw [Tab.erase_eq_filter]; exact Tab.wf_filter _ h

theorem Tab.wf_clear {t : Tab α} {d : α} (lo n : Nat) (h : Tab.wf t d = true) : Tab.wf (Tab.clear t lo n) d = true :=
  Tab.wf_filter _ h

theorem Tab.wf_write {t : Tab α} {d : α} (k : Nat) (x : α) (h : Tab.wf t d = true) : Tab.wf (Tab.write t d k x) d = true := by
  by_cases hx : x = d
  · simpa [Tab.write, hx] using Tab.wf_erase k h
  · rw [Tab.wf_iff] at h
    rw [Tab.write, if_neg hx, Tab.wf_iff]
    refine ⟨Tab.rising_insert t 0 k x (by omega) h.1, fun e he => ?_⟩
    rcases Tab.mem_insert he with rfl | he
    · exact hx
    · exact h.2 e he

theorem Tab.wf_writeList {d : α} : ∀ (xs : List α) (t : Tab α) (k : Nat), Tab.wf t d = true → Tab.wf (Tab.writeList t d k xs) d = true
  | [], _, _, h => h
  | x :: xs, _, k, h => Tab.wf_writeList xs _ (k + 1) (Tab.wf_write k x h)

end Sys2Proof.Machine
end

