-- ==== Sys2Proof/Laws/State.lean ====
section
/-! SUPPORT. Laws/State.lean: what each named update of the state leaves alone, field by field; all true by definition. What
memory reads as also follows from owners, keys, the write-combining buffer and the free counter, so those updates have no
lemma on it. -/

namespace Sys2Proof.Machine

@[simp] theorem State.setReg_pending (s : State) (off v : Nat) : (s.setReg off v).pending = s.pending := rfl
@[simp] theorem State.setReg_now (s : State) (off v : Nat) : (s.setReg off v).now = s.now := rfl
@[simp] theorem State.setReg_free (s : State) (off v : Nat) : (s.setReg off v).free = s.free := rfl
@[simp] theorem State.setReg_out (s : State) (off v : Nat) : (s.setReg off v).out = s.out := rfl
@[simp] theorem State.setReg_shadows (s : State) (off v : Nat) : (s.setReg off v).shadows = s.shadows := rfl
@[simp] theorem State.setReg_sealed (s : State) (off v : Nat) : (s.setReg off v).sealed = s.sealed := rfl
@[simp] theorem State.setReg_debug (s : State) (off v : Nat) : (s.setReg off v).debug = s.debug := rfl
@[simp] theorem State.setReg_inReset (s : State) (off v : Nat) : (s.setReg off v).inReset = s.inReset := rfl
@[simp] theorem State.setReg_upsets (s : State) (off v : Nat) : (s.setReg off v).upsets = s.upsets := rfl
@[simp] theorem State.setReg_poison (s : State) (off v : Nat) : (s.setReg off v).poison = s.poison := rfl
@[simp] theorem State.setReg_owners (s : State) (off v : Nat) : (s.setReg off v).owners = s.owners := rfl
@[simp] theorem State.setReg_errq (s : State) (off v : Nat) : (s.setReg off v).errq = s.errq := rfl
@[simp] theorem State.setReg_fatalPend (s : State) (off v : Nat) : (s.setReg off v).fatalPend = s.fatalPend := rfl
@[simp] theorem State.setReg_fatalLater (s : State) (off v : Nat) : (s.setReg off v).fatalLater = s.fatalLater := rfl
@[simp] theorem State.setReg_fatalTick (s : State) (off v : Nat) : (s.setReg off v).fatalTick = s.fatalTick := rfl
@[simp] theorem State.setReg_fatalWait (s : State) (off v : Nat) : (s.setReg off v).fatalWait = s.fatalWait := rfl
@[simp] theorem State.setReg_raised (s : State) (off v : Nat) : (s.setReg off v).raised = s.raised := rfl
@[simp] theorem State.setReg_heldHeads (s : State) (off v : Nat) : (s.setReg off v).heldHeads = s.heldHeads := rfl
@[simp] theorem State.setReg_strays (s : State) (off v : Nat) : (s.setReg off v).strays = s.strays := rfl
@[simp] theorem State.setReg_strayTick (s : State) (off v : Nat) : (s.setReg off v).strayTick = s.strayTick := rfl
@[simp] theorem State.setReg_accs (s : State) (off v : Nat) : (s.setReg off v).accs = s.accs := rfl
@[simp] theorem State.setReg_blockInks (s : State) (off v : Nat) : (s.setReg off v).blockInks = s.blockInks := rfl
@[simp] theorem State.setReg_logFaulted (s : State) (off v : Nat) : (s.setReg off v).logFaulted = s.logFaulted := rfl
@[simp] theorem State.setReg_fns (s : State) (off v : Nat) : (s.setReg off v).fns = s.fns := rfl
@[simp] theorem State.setReg_host (s : State) (off v : Nat) : (s.setReg off v).host = s.host := rfl
@[simp] theorem State.setReg_parts (s : State) (off v : Nat) : (s.setReg off v).parts = s.parts := rfl
@[simp] theorem State.setReg_tenants (s : State) (off v : Nat) : (s.setReg off v).tenants = s.tenants := rfl
@[simp] theorem State.setReg_rings (s : State) (off v : Nat) : (s.setReg off v).rings = s.rings := rfl
@[simp] theorem State.setReg_served (s : State) (off v : Nat) : (s.setReg off v).served = s.served := rfl
@[simp] theorem State.setReg_seqs (s : State) (off v : Nat) : (s.setReg off v).seqs = s.seqs := rfl
@[simp] theorem State.setReg_failing (s : State) (off v : Nat) : (s.setReg off v).failing = s.failing := rfl
@[simp] theorem State.setReg_fab (s : State) (off v : Nat) : (s.setReg off v).fab = s.fab := rfl
@[simp] theorem State.setReg_far (s : State) (off v : Nat) : (s.setReg off v).far = s.far := rfl
@[simp] theorem State.setReg_lnk (s : State) (off v : Nat) : (s.setReg off v).lnk = s.lnk := rfl
@[simp] theorem State.setReg_gens (s : State) (off v : Nat) : (s.setReg off v).gens = s.gens := rfl
@[simp] theorem State.setReg_issues (s : State) (off v : Nat) : (s.setReg off v).issues = s.issues := rfl
@[simp] theorem State.setReg_indexes (s : State) (off v : Nat) : (s.setReg off v).indexes = s.indexes := rfl
@[simp] theorem State.setReg_filters (s : State) (off v : Nat) : (s.setReg off v).filters = s.filters := rfl
@[simp] theorem State.setReg_images (s : State) (off v : Nat) : (s.setReg off v).images = s.images := rfl
@[simp] theorem State.setReg_pch (s : State) (off v : Nat) : (s.setReg off v).pch = s.pch := rfl
@[simp] theorem State.setReg_tokens (s : State) (off v : Nat) : (s.setReg off v).tokens = s.tokens := rfl
@[simp] theorem State.setReg_tokenDue (s : State) (off v : Nat) : (s.setReg off v).tokenDue = s.tokenDue := rfl
@[simp] theorem State.setReg_wcb (s : State) (off v : Nat) : (s.setReg off v).wcb = s.wcb := rfl
@[simp] theorem State.setReg_passes (s : State) (off v : Nat) : (s.setReg off v).passes = s.passes := rfl
@[simp] theorem State.setReg_hardList (s : State) (off v : Nat) : (s.setReg off v).hardList = s.hardList := rfl
@[simp] theorem State.setReg_decayDue (s : State) (off v : Nat) : (s.setReg off v).decayDue = s.decayDue := rfl
@[simp] theorem State.setReg_sosin (s : State) (off v : Nat) : (s.setReg off v).sosin = s.sosin := rfl
@[simp] theorem State.setReg_pwr (s : State) (off v : Nat) : (s.setReg off v).pwr = s.pwr := rfl
@[simp] theorem State.setReg_meter (s : State) (off v : Nat) : (s.setReg off v).meter = s.meter := rfl
@[simp] theorem State.setReg_mc (s : State) (off v : Nat) : (s.setReg off v).mc = s.mc := rfl
@[simp] theorem State.setReg_rst (s : State) (off v : Nat) : (s.setReg off v).rst = s.rst := rfl
@[simp] theorem State.setReg_pins (s : State) (off v : Nat) : (s.setReg off v).pins = s.pins := rfl
@[simp] theorem State.setReg_sweepTick (s : State) (off v : Nat) : (s.setReg off v).sweepTick = s.sweepTick := rfl
@[simp] theorem State.setReg_byte (s : State) (off v : Nat) (x : Nat) : (s.setReg off v).byte x = s.byte x := rfl

@[simp] theorem State.emit_pending (s : State) (o : Output) : (s.emit o).pending = s.pending := rfl
@[simp] theorem State.emit_now (s : State) (o : Output) : (s.emit o).now = s.now := rfl
@[simp] theorem State.emit_free (s : State) (o : Output) : (s.emit o).free = s.free := rfl
@[simp] theorem State.emit_regs (s : State) (o : Output) : (s.emit o).regs = s.regs := rfl
@[simp] theorem State.emit_shadows (s : State) (o : Output) : (s.emit o).shadows = s.shadows := rfl
@[simp] theorem State.emit_sealed (s : State) (o : Output) : (s.emit o).sealed = s.sealed := rfl
@[simp] theorem State.emit_debug (s : State) (o : Output) : (s.emit o).debug = s.debug := rfl
@[simp] theorem State.emit_inReset (s : State) (o : Output) : (s.emit o).inReset = s.inReset := rfl
@[simp] theorem State.emit_upsets (s : State) (o : Output) : (s.emit o).upsets = s.upsets := rfl
@[simp] theorem State.emit_poison (s : State) (o : Output) : (s.emit o).poison = s.poison := rfl
@[simp] theorem State.emit_owners (s : State) (o : Output) : (s.emit o).owners = s.owners := rfl
@[simp] theorem State.emit_errq (s : State) (o : Output) : (s.emit o).errq = s.errq := rfl
@[simp] theorem State.emit_fatalPend (s : State) (o : Output) : (s.emit o).fatalPend = s.fatalPend := rfl
@[simp] theorem State.emit_fatalLater (s : State) (o : Output) : (s.emit o).fatalLater = s.fatalLater := rfl
@[simp] theorem State.emit_fatalTick (s : State) (o : Output) : (s.emit o).fatalTick = s.fatalTick := rfl
@[simp] theorem State.emit_fatalWait (s : State) (o : Output) : (s.emit o).fatalWait = s.fatalWait := rfl
@[simp] theorem State.emit_raised (s : State) (o : Output) : (s.emit o).raised = s.raised := rfl
@[simp] theorem State.emit_heldHeads (s : State) (o : Output) : (s.emit o).heldHeads = s.heldHeads := rfl
@[simp] theorem State.emit_strays (s : State) (o : Output) : (s.emit o).strays = s.strays := rfl
@[simp] theorem State.emit_strayTick (s : State) (o : Output) : (s.emit o).strayTick = s.strayTick := rfl
@[simp] theorem State.emit_accs (s : State) (o : Output) : (s.emit o).accs = s.accs := rfl
@[simp] theorem State.emit_blockInks (s : State) (o : Output) : (s.emit o).blockInks = s.blockInks := rfl
@[simp] theorem State.emit_logFaulted (s : State) (o : Output) : (s.emit o).logFaulted = s.logFaulted := rfl
@[simp] theorem State.emit_fns (s : State) (o : Output) : (s.emit o).fns = s.fns := rfl
@[simp] theorem State.emit_host (s : State) (o : Output) : (s.emit o).host = s.host := rfl
@[simp] theorem State.emit_parts (s : State) (o : Output) : (s.emit o).parts = s.parts := rfl
@[simp] theorem State.emit_tenants (s : State) (o : Output) : (s.emit o).tenants = s.tenants := rfl
@[simp] theorem State.emit_rings (s : State) (o : Output) : (s.emit o).rings = s.rings := rfl
@[simp] theorem State.emit_served (s : State) (o : Output) : (s.emit o).served = s.served := rfl
@[simp] theorem State.emit_seqs (s : State) (o : Output) : (s.emit o).seqs = s.seqs := rfl
@[simp] theorem State.emit_failing (s : State) (o : Output) : (s.emit o).failing = s.failing := rfl
@[simp] theorem State.emit_fab (s : State) (o : Output) : (s.emit o).fab = s.fab := rfl
@[simp] theorem State.emit_far (s : State) (o : Output) : (s.emit o).far = s.far := rfl
@[simp] theorem State.emit_lnk (s : State) (o : Output) : (s.emit o).lnk = s.lnk := rfl
@[simp] theorem State.emit_gens (s : State) (o : Output) : (s.emit o).gens = s.gens := rfl
@[simp] theorem State.emit_issues (s : State) (o : Output) : (s.emit o).issues = s.issues := rfl
@[simp] theorem State.emit_indexes (s : State) (o : Output) : (s.emit o).indexes = s.indexes := rfl
@[simp] theorem State.emit_filters (s : State) (o : Output) : (s.emit o).filters = s.filters := rfl
@[simp] theorem State.emit_images (s : State) (o : Output) : (s.emit o).images = s.images := rfl
@[simp] theorem State.emit_pch (s : State) (o : Output) : (s.emit o).pch = s.pch := rfl
@[simp] theorem State.emit_tokens (s : State) (o : Output) : (s.emit o).tokens = s.tokens := rfl
@[simp] theorem State.emit_tokenDue (s : State) (o : Output) : (s.emit o).tokenDue = s.tokenDue := rfl
@[simp] theorem State.emit_wcb (s : State) (o : Output) : (s.emit o).wcb = s.wcb := rfl
@[simp] theorem State.emit_passes (s : State) (o : Output) : (s.emit o).passes = s.passes := rfl
@[simp] theorem State.emit_hardList (s : State) (o : Output) : (s.emit o).hardList = s.hardList := rfl
@[simp] theorem State.emit_decayDue (s : State) (o : Output) : (s.emit o).decayDue = s.decayDue := rfl
@[simp] theorem State.emit_sosin (s : State) (o : Output) : (s.emit o).sosin = s.sosin := rfl
@[simp] theorem State.emit_pwr (s : State) (o : Output) : (s.emit o).pwr = s.pwr := rfl
@[simp] theorem State.emit_meter (s : State) (o : Output) : (s.emit o).meter = s.meter := rfl
@[simp] theorem State.emit_mc (s : State) (o : Output) : (s.emit o).mc = s.mc := rfl
@[simp] theorem State.emit_rst (s : State) (o : Output) : (s.emit o).rst = s.rst := rfl
@[simp] theorem State.emit_pins (s : State) (o : Output) : (s.emit o).pins = s.pins := rfl
@[simp] theorem State.emit_sweepTick (s : State) (o : Output) : (s.emit o).sweepTick = s.sweepTick := rfl
@[simp] theorem State.emit_reg (s : State) (o : Output) (x : Nat) : (s.emit o).reg x = s.reg x := rfl
@[simp] theorem State.emit_byte (s : State) (o : Output) (x : Nat) : (s.emit o).byte x = s.byte x := rfl

@[simp] theorem State.drew_pending (s : State)  : (s.drew ).pending = s.pending := rfl
@[simp] theorem State.drew_now (s : State)  : (s.drew ).now = s.now := rfl
@[simp] theorem State.drew_out (s : State)  : (s.drew ).out = s.out := rfl
@[simp] theorem State.drew_regs (s : State)  : (s.drew ).regs = s.regs := rfl
@[simp] theorem State.drew_shadows (s : State)  : (s.drew ).shadows = s.shadows := rfl
@[simp] theorem State.drew_sealed (s : State)  : (s.drew ).sealed = s.sealed := rfl
@[simp] theorem State.drew_debug (s : State)  : (s.drew ).debug = s.debug := rfl
@[simp] theorem State.drew_inReset (s : State)  : (s.drew ).inReset = s.inReset := rfl
@[simp] theorem State.drew_upsets (s : State)  : (s.drew ).upsets = s.upsets := rfl
@[simp] theorem State.drew_poison (s : State)  : (s.drew ).poison = s.poison := rfl
@[simp] theorem State.drew_owners (s : State)  : (s.drew ).owners = s.owners := rfl
@[simp] theorem State.drew_errq (s : State)  : (s.drew ).errq = s.errq := rfl
@[simp] theorem State.drew_fatalPend (s : State)  : (s.drew ).fatalPend = s.fatalPend := rfl
@[simp] theorem State.drew_fatalLater (s : State)  : (s.drew ).fatalLater = s.fatalLater := rfl
@[simp] theorem State.drew_fatalTick (s : State)  : (s.drew ).fatalTick = s.fatalTick := rfl
@[simp] theorem State.drew_fatalWait (s : State)  : (s.drew ).fatalWait = s.fatalWait := rfl
@[simp] theorem State.drew_raised (s : State)  : (s.drew ).raised = s.raised := rfl
@[simp] theorem State.drew_heldHeads (s : State)  : (s.drew ).heldHeads = s.heldHeads := rfl
@[simp] theorem State.drew_strays (s : State)  : (s.drew ).strays = s.strays := rfl
@[simp] theorem State.drew_strayTick (s : State)  : (s.drew ).strayTick = s.strayTick := rfl
@[simp] theorem State.drew_accs (s : State)  : (s.drew ).accs = s.accs := rfl
@[simp] theorem State.drew_blockInks (s : State)  : (s.drew ).blockInks = s.blockInks := rfl
@[simp] theorem State.drew_logFaulted (s : State)  : (s.drew ).logFaulted = s.logFaulted := rfl
@[simp] theorem State.drew_fns (s : State)  : (s.drew ).fns = s.fns := rfl
@[simp] theorem State.drew_host (s : State)  : (s.drew ).host = s.host := rfl
@[simp] theorem State.drew_parts (s : State)  : (s.drew ).parts = s.parts := rfl
@[simp] theorem State.drew_tenants (s : State)  : (s.drew ).tenants = s.tenants := rfl
@[simp] theorem State.drew_rings (s : State)  : (s.drew ).rings = s.rings := rfl
@[simp] theorem State.drew_served (s : State)  : (s.drew ).served = s.served := rfl
@[simp] theorem State.drew_seqs (s : State)  : (s.drew ).seqs = s.seqs := rfl
@[simp] theorem State.drew_failing (s : State)  : (s.drew ).failing = s.failing := rfl
@[simp] theorem State.drew_fab (s : State)  : (s.drew ).fab = s.fab := rfl
@[simp] theorem State.drew_far (s : State)  : (s.drew ).far = s.far := rfl
@[simp] theorem State.drew_lnk (s : State)  : (s.drew ).lnk = s.lnk := rfl
@[simp] theorem State.drew_gens (s : State)  : (s.drew ).gens = s.gens := rfl
@[simp] theorem State.drew_issues (s : State)  : (s.drew ).issues = s.issues := rfl
@[simp] theorem State.drew_indexes (s : State)  : (s.drew ).indexes = s.indexes := rfl
@[simp] theorem State.drew_filters (s : State)  : (s.drew ).filters = s.filters := rfl
@[simp] theorem State.drew_images (s : State)  : (s.drew ).images = s.images := rfl
@[simp] theorem State.drew_pch (s : State)  : (s.drew ).pch = s.pch := rfl
@[simp] theorem State.drew_tokens (s : State)  : (s.drew ).tokens = s.tokens := rfl
@[simp] theorem State.drew_tokenDue (s : State)  : (s.drew ).tokenDue = s.tokenDue := rfl
@[simp] theorem State.drew_wcb (s : State)  : (s.drew ).wcb = s.wcb := rfl
@[simp] theorem State.drew_passes (s : State)  : (s.drew ).passes = s.passes := rfl
@[simp] theorem State.drew_hardList (s : State)  : (s.drew ).hardList = s.hardList := rfl
@[simp] theorem State.drew_decayDue (s : State)  : (s.drew ).decayDue = s.decayDue := rfl
@[simp] theorem State.drew_sosin (s : State)  : (s.drew ).sosin = s.sosin := rfl
@[simp] theorem State.drew_pwr (s : State)  : (s.drew ).pwr = s.pwr := rfl
@[simp] theorem State.drew_meter (s : State)  : (s.drew ).meter = s.meter := rfl
@[simp] theorem State.drew_mc (s : State)  : (s.drew ).mc = s.mc := rfl
@[simp] theorem State.drew_rst (s : State)  : (s.drew ).rst = s.rst := rfl
@[simp] theorem State.drew_pins (s : State)  : (s.drew ).pins = s.pins := rfl
@[simp] theorem State.drew_sweepTick (s : State)  : (s.drew ).sweepTick = s.sweepTick := rfl
@[simp] theorem State.drew_reg (s : State)  (x : Nat) : (s.drew ).reg x = s.reg x := rfl

@[simp] theorem State.setBytes_pending (s : State) (a : Nat) (bs : List Byte) : (s.setBytes a bs).pending = s.pending := rfl
@[simp] theorem State.setBytes_now (s : State) (a : Nat) (bs : List Byte) : (s.setBytes a bs).now = s.now := rfl
@[simp] theorem State.setBytes_free (s : State) (a : Nat) (bs : List Byte) : (s.setBytes a bs).free = s.free := rfl
@[simp] theorem State.setBytes_out (s : State) (a : Nat) (bs : List Byte) : (s.setBytes a bs).out = s.out := rfl
@[simp] theorem State.setBytes_regs (s : State) (a : Nat) (bs : List Byte) : (s.setBytes a bs).regs = s.regs := rfl
@[simp] theorem State.setBytes_shadows (s : State) (a : Nat) (bs : List Byte) : (s.setBytes a bs).shadows = s.shadows := rfl
@[simp] theorem State.setBytes_sealed (s : State) (a : Nat) (bs : List Byte) : (s.setBytes a bs).sealed = s.sealed := rfl
@[simp] theorem State.setBytes_debug (s : State) (a : Nat) (bs : List Byte) : (s.setBytes a bs).debug = s.debug := rfl
@[simp] theorem State.setBytes_inReset (s : State) (a : Nat) (bs : List Byte) : (s.setBytes a bs).inReset = s.inReset := rfl
@[simp] theorem State.setBytes_upsets (s : State) (a : Nat) (bs : List Byte) : (s.setBytes a bs).upsets = s.upsets := rfl
@[simp] theorem State.setBytes_poison (s : State) (a : Nat) (bs : List Byte) : (s.setBytes a bs).poison = s.poison := rfl
@[simp] theorem State.setBytes_owners (s : State) (a : Nat) (bs : List Byte) : (s.setBytes a bs).owners = s.owners := rfl
@[simp] theorem State.setBytes_errq (s : State) (a : Nat) (bs : List Byte) : (s.setBytes a bs).errq = s.errq := rfl
@[simp] theorem State.setBytes_fatalPend (s : State) (a : Nat) (bs : List Byte) : (s.setBytes a bs).fatalPend = s.fatalPend := rfl
@[simp] theorem State.setBytes_fatalLater (s : State) (a : Nat) (bs : List Byte) : (s.setBytes a bs).fatalLater = s.fatalLater := rfl
@[simp] theorem State.setBytes_fatalTick (s : State) (a : Nat) (bs : List Byte) : (s.setBytes a bs).fatalTick = s.fatalTick := rfl
@[simp] theorem State.setBytes_fatalWait (s : State) (a : Nat) (bs : List Byte) : (s.setBytes a bs).fatalWait = s.fatalWait := rfl
@[simp] theorem State.setBytes_raised (s : State) (a : Nat) (bs : List Byte) : (s.setBytes a bs).raised = s.raised := rfl
@[simp] theorem State.setBytes_heldHeads (s : State) (a : Nat) (bs : List Byte) : (s.setBytes a bs).heldHeads = s.heldHeads := rfl
@[simp] theorem State.setBytes_strays (s : State) (a : Nat) (bs : List Byte) : (s.setBytes a bs).strays = s.strays := rfl
@[simp] theorem State.setBytes_strayTick (s : State) (a : Nat) (bs : List Byte) : (s.setBytes a bs).strayTick = s.strayTick := rfl
@[simp] theorem State.setBytes_accs (s : State) (a : Nat) (bs : List Byte) : (s.setBytes a bs).accs = s.accs := rfl
@[simp] theorem State.setBytes_blockInks (s : State) (a : Nat) (bs : List Byte) : (s.setBytes a bs).blockInks = s.blockInks := rfl
@[simp] theorem State.setBytes_logFaulted (s : State) (a : Nat) (bs : List Byte) : (s.setBytes a bs).logFaulted = s.logFaulted := rfl
@[simp] theorem State.setBytes_fns (s : State) (a : Nat) (bs : List Byte) : (s.setBytes a bs).fns = s.fns := rfl
@[simp] theorem State.setBytes_host (s : State) (a : Nat) (bs : List Byte) : (s.setBytes a bs).host = s.host := rfl
@[simp] theorem State.setBytes_parts (s : State) (a : Nat) (bs : List Byte) : (s.setBytes a bs).parts = s.parts := rfl
@[simp] theorem State.setBytes_tenants (s : State) (a : Nat) (bs : List Byte) : (s.setBytes a bs).tenants = s.tenants := rfl
@[simp] theorem State.setBytes_rings (s : State) (a : Nat) (bs : List Byte) : (s.setBytes a bs).rings = s.rings := rfl
@[simp] theorem State.setBytes_served (s : State) (a : Nat) (bs : List Byte) : (s.setBytes a bs).served = s.served := rfl
@[simp] theorem State.setBytes_seqs (s : State) (a : Nat) (bs : List Byte) : (s.setBytes a bs).seqs = s.seqs := rfl
@[simp] theorem State.setBytes_failing (s : State) (a : Nat) (bs : List Byte) : (s.setBytes a bs).failing = s.failing := rfl
@[simp] theorem State.setBytes_fab (s : State) (a : Nat) (bs : List Byte) : (s.setBytes a bs).fab = s.fab := rfl
@[simp] theorem State.setBytes_far (s : State) (a : Nat) (bs : List Byte) : (s.setBytes a bs).far = s.far := rfl
@[simp] theorem State.setBytes_lnk (s : State) (a : Nat) (bs : List Byte) : (s.setBytes a bs).lnk = s.lnk := rfl
@[simp] theorem State.setBytes_gens (s : State) (a : Nat) (bs : List Byte) : (s.setBytes a bs).gens = s.gens := rfl
@[simp] theorem State.setBytes_issues (s : State) (a : Nat) (bs : List Byte) : (s.setBytes a bs).issues = s.issues := rfl
@[simp] theorem State.setBytes_indexes (s : State) (a : Nat) (bs : List Byte) : (s.setBytes a bs).indexes = s.indexes := rfl
@[simp] theorem State.setBytes_filters (s : State) (a : Nat) (bs : List Byte) : (s.setBytes a bs).filters = s.filters := rfl
@[simp] theorem State.setBytes_images (s : State) (a : Nat) (bs : List Byte) : (s.setBytes a bs).images = s.images := rfl
@[simp] theorem State.setBytes_pch (s : State) (a : Nat) (bs : List Byte) : (s.setBytes a bs).pch = s.pch := rfl
@[simp] theorem State.setBytes_tokens (s : State) (a : Nat) (bs : List Byte) : (s.setBytes a bs).tokens = s.tokens := rfl
@[simp] theorem State.setBytes_tokenDue (s : State) (a : Nat) (bs : List Byte) : (s.setBytes a bs).tokenDue = s.tokenDue := rfl
@[simp] theorem State.setBytes_wcb (s : State) (a : Nat) (bs : List Byte) : (s.setBytes a bs).wcb = s.wcb := rfl
@[simp] theorem State.setBytes_passes (s : State) (a : Nat) (bs : List Byte) : (s.setBytes a bs).passes = s.passes := rfl
@[simp] theorem State.setBytes_hardList (s : State) (a : Nat) (bs : List Byte) : (s.setBytes a bs).hardList = s.hardList := rfl
@[simp] theorem State.setBytes_decayDue (s : State) (a : Nat) (bs : List Byte) : (s.setBytes a bs).decayDue = s.decayDue := rfl
@[simp] theorem State.setBytes_sosin (s : State) (a : Nat) (bs : List Byte) : (s.setBytes a bs).sosin = s.sosin := rfl
@[simp] theorem State.setBytes_pwr (s : State) (a : Nat) (bs : List Byte) : (s.setBytes a bs).pwr = s.pwr := rfl
@[simp] theorem State.setBytes_meter (s : State) (a : Nat) (bs : List Byte) : (s.setBytes a bs).meter = s.meter := rfl
@[simp] theorem State.setBytes_mc (s : State) (a : Nat) (bs : List Byte) : (s.setBytes a bs).mc = s.mc := rfl
@[simp] theorem State.setBytes_rst (s : State) (a : Nat) (bs : List Byte) : (s.setBytes a bs).rst = s.rst := rfl
@[simp] theorem State.setBytes_pins (s : State) (a : Nat) (bs : List Byte) : (s.setBytes a bs).pins = s.pins := rfl
@[simp] theorem State.setBytes_sweepTick (s : State) (a : Nat) (bs : List Byte) : (s.setBytes a bs).sweepTick = s.sweepTick := rfl
@[simp] theorem State.setBytes_reg (s : State) (a : Nat) (bs : List Byte) (x : Nat) : (s.setBytes a bs).reg x = s.reg x := rfl

@[simp] theorem State.setOwner_pending (s : State) (g : Nat) (o : Owner) : (s.setOwner g o).pending = s.pending := rfl
@[simp] theorem State.setOwner_now (s : State) (g : Nat) (o : Owner) : (s.setOwner g o).now = s.now := rfl
@[simp] theorem State.setOwner_free (s : State) (g : Nat) (o : Owner) : (s.setOwner g o).free = s.free := rfl
@[simp] theorem State.setOwner_out (s : State) (g : Nat) (o : Owner) : (s.setOwner g o).out = s.out := rfl
@[simp] theorem State.setOwner_regs (s : State) (g : Nat) (o : Owner) : (s.setOwner g o).regs = s.regs := rfl
@[simp] theorem State.setOwner_shadows (s : State) (g : Nat) (o : Owner) : (s.setOwner g o).shadows = s.shadows := rfl
@[simp] theorem State.setOwner_sealed (s : State) (g : Nat) (o : Owner) : (s.setOwner g o).sealed = s.sealed := rfl
@[simp] theorem State.setOwner_debug (s : State) (g : Nat) (o : Owner) : (s.setOwner g o).debug = s.debug := rfl
@[simp] theorem State.setOwner_inReset (s : State) (g : Nat) (o : Owner) : (s.setOwner g o).inReset = s.inReset := rfl
@[simp] theorem State.setOwner_upsets (s : State) (g : Nat) (o : Owner) : (s.setOwner g o).upsets = s.upsets := rfl
@[simp] theorem State.setOwner_poison (s : State) (g : Nat) (o : Owner) : (s.setOwner g o).poison = s.poison := rfl
@[simp] theorem State.setOwner_errq (s : State) (g : Nat) (o : Owner) : (s.setOwner g o).errq = s.errq := rfl
@[simp] theorem State.setOwner_fatalPend (s : State) (g : Nat) (o : Owner) : (s.setOwner g o).fatalPend = s.fatalPend := rfl
@[simp] theorem State.setOwner_fatalLater (s : State) (g : Nat) (o : Owner) : (s.setOwner g o).fatalLater = s.fatalLater := rfl
@[simp] theorem State.setOwner_fatalTick (s : State) (g : Nat) (o : Owner) : (s.setOwner g o).fatalTick = s.fatalTick := rfl
@[simp] theorem State.setOwner_fatalWait (s : State) (g : Nat) (o : Owner) : (s.setOwner g o).fatalWait = s.fatalWait := rfl
@[simp] theorem State.setOwner_raised (s : State) (g : Nat) (o : Owner) : (s.setOwner g o).raised = s.raised := rfl
@[simp] theorem State.setOwner_heldHeads (s : State) (g : Nat) (o : Owner) : (s.setOwner g o).heldHeads = s.heldHeads := rfl
@[simp] theorem State.setOwner_strays (s : State) (g : Nat) (o : Owner) : (s.setOwner g o).strays = s.strays := rfl
@[simp] theorem State.setOwner_strayTick (s : State) (g : Nat) (o : Owner) : (s.setOwner g o).strayTick = s.strayTick := rfl
@[simp] theorem State.setOwner_accs (s : State) (g : Nat) (o : Owner) : (s.setOwner g o).accs = s.accs := rfl
@[simp] theorem State.setOwner_blockInks (s : State) (g : Nat) (o : Owner) : (s.setOwner g o).blockInks = s.blockInks := rfl
@[simp] theorem State.setOwner_logFaulted (s : State) (g : Nat) (o : Owner) : (s.setOwner g o).logFaulted = s.logFaulted := rfl
@[simp] theorem State.setOwner_fns (s : State) (g : Nat) (o : Owner) : (s.setOwner g o).fns = s.fns := rfl
@[simp] theorem State.setOwner_host (s : State) (g : Nat) (o : Owner) : (s.setOwner g o).host = s.host := rfl
@[simp] theorem State.setOwner_parts (s : State) (g : Nat) (o : Owner) : (s.setOwner g o).parts = s.parts := rfl
@[simp] theorem State.setOwner_tenants (s : State) (g : Nat) (o : Owner) : (s.setOwner g o).tenants = s.tenants := rfl
@[simp] theorem State.setOwner_rings (s : State) (g : Nat) (o : Owner) : (s.setOwner g o).rings = s.rings := rfl
@[simp] theorem State.setOwner_served (s : State) (g : Nat) (o : Owner) : (s.setOwner g o).served = s.served := rfl
@[simp] theorem State.setOwner_seqs (s : State) (g : Nat) (o : Owner) : (s.setOwner g o).seqs = s.seqs := rfl
@[simp] theorem State.setOwner_failing (s : State) (g : Nat) (o : Owner) : (s.setOwner g o).failing = s.failing := rfl
@[simp] theorem State.setOwner_fab (s : State) (g : Nat) (o : Owner) : (s.setOwner g o).fab = s.fab := rfl
@[simp] theorem State.setOwner_far (s : State) (g : Nat) (o : Owner) : (s.setOwner g o).far = s.far := rfl
@[simp] theorem State.setOwner_lnk (s : State) (g : Nat) (o : Owner) : (s.setOwner g o).lnk = s.lnk := rfl
@[simp] theorem State.setOwner_gens (s : State) (g : Nat) (o : Owner) : (s.setOwner g o).gens = s.gens := rfl
@[simp] theorem State.setOwner_issues (s : State) (g : Nat) (o : Owner) : (s.setOwner g o).issues = s.issues := rfl
@[simp] theorem State.setOwner_indexes (s : State) (g : Nat) (o : Owner) : (s.setOwner g o).indexes = s.indexes := rfl
@[simp] theorem State.setOwner_filters (s : State) (g : Nat) (o : Owner) : (s.setOwner g o).filters = s.filters := rfl
@[simp] theorem State.setOwner_images (s : State) (g : Nat) (o : Owner) : (s.setOwner g o).images = s.images := rfl
@[simp] theorem State.setOwner_pch (s : State) (g : Nat) (o : Owner) : (s.setOwner g o).pch = s.pch := rfl
@[simp] theorem State.setOwner_tokens (s : State) (g : Nat) (o : Owner) : (s.setOwner g o).tokens = s.tokens := rfl
@[simp] theorem State.setOwner_tokenDue (s : State) (g : Nat) (o : Owner) : (s.setOwner g o).tokenDue = s.tokenDue := rfl
@[simp] theorem State.setOwner_wcb (s : State) (g : Nat) (o : Owner) : (s.setOwner g o).wcb = s.wcb := rfl
@[simp] theorem State.setOwner_passes (s : State) (g : Nat) (o : Owner) : (s.setOwner g o).passes = s.passes := rfl
@[simp] theorem State.setOwner_hardList (s : State) (g : Nat) (o : Owner) : (s.setOwner g o).hardList = s.hardList := rfl
@[simp] theorem State.setOwner_decayDue (s : State) (g : Nat) (o : Owner) : (s.setOwner g o).decayDue = s.decayDue := rfl
@[simp] theorem State.setOwner_sosin (s : State) (g : Nat) (o : Owner) : (s.setOwner g o).sosin = s.sosin := rfl
@[simp] theorem State.setOwner_pwr (s : State) (g : Nat) (o : Owner) : (s.setOwner g o).pwr = s.pwr := rfl
@[simp] theorem State.setOwner_meter (s : State) (g : Nat) (o : Owner) : (s.setOwner g o).meter = s.meter := rfl
@[simp] theorem State.setOwner_mc (s : State) (g : Nat) (o : Owner) : (s.setOwner g o).mc = s.mc := rfl
@[simp] theorem State.setOwner_rst (s : State) (g : Nat) (o : Owner) : (s.setOwner g o).rst = s.rst := rfl
@[simp] theorem State.setOwner_pins (s : State) (g : Nat) (o : Owner) : (s.setOwner g o).pins = s.pins := rfl
@[simp] theorem State.setOwner_sweepTick (s : State) (g : Nat) (o : Owner) : (s.setOwner g o).sweepTick = s.sweepTick := rfl
@[simp] theorem State.setOwner_reg (s : State) (g : Nat) (o : Owner) (x : Nat) : (s.setOwner g o).reg x = s.reg x := rfl

@[simp] theorem State.setFar_pending (s : State) (n : Nat) (x : FarPortState) : (s.setFar n x).pending = s.pending := rfl
@[simp] theorem State.setFar_now (s : State) (n : Nat) (x : FarPortState) : (s.setFar n x).now = s.now := rfl
@[simp] theorem State.setFar_free (s : State) (n : Nat) (x : FarPortState) : (s.setFar n x).free = s.free := rfl
@[simp] theorem State.setFar_out (s : State) (n : Nat) (x : FarPortState) : (s.setFar n x).out = s.out := rfl
@[simp] theorem State.setFar_regs (s : State) (n : Nat) (x : FarPortState) : (s.setFar n x).regs = s.regs := rfl
@[simp] theorem State.setFar_shadows (s : State) (n : Nat) (x : FarPortState) : (s.setFar n x).shadows = s.shadows := rfl
@[simp] theorem State.setFar_sealed (s : State) (n : Nat) (x : FarPortState) : (s.setFar n x).sealed = s.sealed := rfl
@[simp] theorem State.setFar_debug (s : State) (n : Nat) (x : FarPortState) : (s.setFar n x).debug = s.debug := rfl
@[simp] theorem State.setFar_inReset (s : State) (n : Nat) (x : FarPortState) : (s.setFar n x).inReset = s.inReset := rfl
@[simp] theorem State.setFar_upsets (s : State) (n : Nat) (x : FarPortState) : (s.setFar n x).upsets = s.upsets := rfl
@[simp] theorem State.setFar_poison (s : State) (n : Nat) (x : FarPortState) : (s.setFar n x).poison = s.poison := rfl
@[simp] theorem State.setFar_owners (s : State) (n : Nat) (x : FarPortState) : (s.setFar n x).owners = s.owners := rfl
@[simp] theorem State.setFar_errq (s : State) (n : Nat) (x : FarPortState) : (s.setFar n x).errq = s.errq := rfl
@[simp] theorem State.setFar_fatalPend (s : State) (n : Nat) (x : FarPortState) : (s.setFar n x).fatalPend = s.fatalPend := rfl
@[simp] theorem State.setFar_fatalLater (s : State) (n : Nat) (x : FarPortState) : (s.setFar n x).fatalLater = s.fatalLater := rfl
@[simp] theorem State.setFar_fatalTick (s : State) (n : Nat) (x : FarPortState) : (s.setFar n x).fatalTick = s.fatalTick := rfl
@[simp] theorem State.setFar_fatalWait (s : State) (n : Nat) (x : FarPortState) : (s.setFar n x).fatalWait = s.fatalWait := rfl
@[simp] theorem State.setFar_raised (s : State) (n : Nat) (x : FarPortState) : (s.setFar n x).raised = s.raised := rfl
@[simp] theorem State.setFar_heldHeads (s : State) (n : Nat) (x : FarPortState) : (s.setFar n x).heldHeads = s.heldHeads := rfl
@[simp] theorem State.setFar_strays (s : State) (n : Nat) (x : FarPortState) : (s.setFar n x).strays = s.strays := rfl
@[simp] theorem State.setFar_strayTick (s : State) (n : Nat) (x : FarPortState) : (s.setFar n x).strayTick = s.strayTick := rfl
@[simp] theorem State.setFar_accs (s : State) (n : Nat) (x : FarPortState) : (s.setFar n x).accs = s.accs := rfl
@[simp] theorem State.setFar_blockInks (s : State) (n : Nat) (x : FarPortState) : (s.setFar n x).blockInks = s.blockInks := rfl
@[simp] theorem State.setFar_logFaulted (s : State) (n : Nat) (x : FarPortState) : (s.setFar n x).logFaulted = s.logFaulted := rfl
@[simp] theorem State.setFar_fns (s : State) (n : Nat) (x : FarPortState) : (s.setFar n x).fns = s.fns := rfl
@[simp] theorem State.setFar_host (s : State) (n : Nat) (x : FarPortState) : (s.setFar n x).host = s.host := rfl
@[simp] theorem State.setFar_parts (s : State) (n : Nat) (x : FarPortState) : (s.setFar n x).parts = s.parts := rfl
@[simp] theorem State.setFar_tenants (s : State) (n : Nat) (x : FarPortState) : (s.setFar n x).tenants = s.tenants := rfl
@[simp] theorem State.setFar_rings (s : State) (n : Nat) (x : FarPortState) : (s.setFar n x).rings = s.rings := rfl
@[simp] theorem State.setFar_served (s : State) (n : Nat) (x : FarPortState) : (s.setFar n x).served = s.served := rfl
@[simp] theorem State.setFar_seqs (s : State) (n : Nat) (x : FarPortState) : (s.setFar n x).seqs = s.seqs := rfl
@[simp] theorem State.setFar_failing (s : State) (n : Nat) (x : FarPortState) : (s.setFar n x).failing = s.failing := rfl
@[simp] theorem State.setFar_fab (s : State) (n : Nat) (x : FarPortState) : (s.setFar n x).fab = s.fab := rfl
@[simp] theorem State.setFar_lnk (s : State) (n : Nat) (x : FarPortState) : (s.setFar n x).lnk = s.lnk := rfl
@[simp] theorem State.setFar_gens (s : State) (n : Nat) (x : FarPortState) : (s.setFar n x).gens = s.gens := rfl
@[simp] theorem State.setFar_issues (s : State) (n : Nat) (x : FarPortState) : (s.setFar n x).issues = s.issues := rfl
@[simp] theorem State.setFar_indexes (s : State) (n : Nat) (x : FarPortState) : (s.setFar n x).indexes = s.indexes := rfl
@[simp] theorem State.setFar_filters (s : State) (n : Nat) (x : FarPortState) : (s.setFar n x).filters = s.filters := rfl
@[simp] theorem State.setFar_images (s : State) (n : Nat) (x : FarPortState) : (s.setFar n x).images = s.images := rfl
@[simp] theorem State.setFar_pch (s : State) (n : Nat) (x : FarPortState) : (s.setFar n x).pch = s.pch := rfl
@[simp] theorem State.setFar_tokens (s : State) (n : Nat) (x : FarPortState) : (s.setFar n x).tokens = s.tokens := rfl
@[simp] theorem State.setFar_tokenDue (s : State) (n : Nat) (x : FarPortState) : (s.setFar n x).tokenDue = s.tokenDue := rfl
@[simp] theorem State.setFar_wcb (s : State) (n : Nat) (x : FarPortState) : (s.setFar n x).wcb = s.wcb := rfl
@[simp] theorem State.setFar_passes (s : State) (n : Nat) (x : FarPortState) : (s.setFar n x).passes = s.passes := rfl
@[simp] theorem State.setFar_hardList (s : State) (n : Nat) (x : FarPortState) : (s.setFar n x).hardList = s.hardList := rfl
@[simp] theorem State.setFar_decayDue (s : State) (n : Nat) (x : FarPortState) : (s.setFar n x).decayDue = s.decayDue := rfl
@[simp] theorem State.setFar_sosin (s : State) (n : Nat) (x : FarPortState) : (s.setFar n x).sosin = s.sosin := rfl
@[simp] theorem State.setFar_pwr (s : State) (n : Nat) (x : FarPortState) : (s.setFar n x).pwr = s.pwr := rfl
@[simp] theorem State.setFar_meter (s : State) (n : Nat) (x : FarPortState) : (s.setFar n x).meter = s.meter := rfl
@[simp] theorem State.setFar_mc (s : State) (n : Nat) (x : FarPortState) : (s.setFar n x).mc = s.mc := rfl
@[simp] theorem State.setFar_rst (s : State) (n : Nat) (x : FarPortState) : (s.setFar n x).rst = s.rst := rfl
@[simp] theorem State.setFar_pins (s : State) (n : Nat) (x : FarPortState) : (s.setFar n x).pins = s.pins := rfl
@[simp] theorem State.setFar_sweepTick (s : State) (n : Nat) (x : FarPortState) : (s.setFar n x).sweepTick = s.sweepTick := rfl
@[simp] theorem State.setFar_reg (s : State) (n : Nat) (y : FarPortState) (x : Nat) : (s.setFar n y).reg x = s.reg x := rfl
@[simp] theorem State.setFar_byte (s : State) (n : Nat) (y : FarPortState) (x : Nat) : (s.setFar n y).byte x = s.byte x := rfl

@[simp] theorem State.setTun_pending (s : State) (h : Nat) (t : Tun) : (s.setTun h t).pending = s.pending := rfl
@[simp] theorem State.setTun_now (s : State) (h : Nat) (t : Tun) : (s.setTun h t).now = s.now := rfl
@[simp] theorem State.setTun_free (s : State) (h : Nat) (t : Tun) : (s.setTun h t).free = s.free := rfl
@[simp] theorem State.setTun_out (s : State) (h : Nat) (t : Tun) : (s.setTun h t).out = s.out := rfl
@[simp] theorem State.setTun_regs (s : State) (h : Nat) (t : Tun) : (s.setTun h t).regs = s.regs := rfl
@[simp] theorem State.setTun_shadows (s : State) (h : Nat) (t : Tun) : (s.setTun h t).shadows = s.shadows := rfl
@[simp] theorem State.setTun_sealed (s : State) (h : Nat) (t : Tun) : (s.setTun h t).sealed = s.sealed := rfl
@[simp] theorem State.setTun_debug (s : State) (h : Nat) (t : Tun) : (s.setTun h t).debug = s.debug := rfl
@[simp] theorem State.setTun_inReset (s : State) (h : Nat) (t : Tun) : (s.setTun h t).inReset = s.inReset := rfl
@[simp] theorem State.setTun_upsets (s : State) (h : Nat) (t : Tun) : (s.setTun h t).upsets = s.upsets := rfl
@[simp] theorem State.setTun_poison (s : State) (h : Nat) (t : Tun) : (s.setTun h t).poison = s.poison := rfl
@[simp] theorem State.setTun_owners (s : State) (h : Nat) (t : Tun) : (s.setTun h t).owners = s.owners := rfl
@[simp] theorem State.setTun_errq (s : State) (h : Nat) (t : Tun) : (s.setTun h t).errq = s.errq := rfl
@[simp] theorem State.setTun_fatalPend (s : State) (h : Nat) (t : Tun) : (s.setTun h t).fatalPend = s.fatalPend := rfl
@[simp] theorem State.setTun_fatalLater (s : State) (h : Nat) (t : Tun) : (s.setTun h t).fatalLater = s.fatalLater := rfl
@[simp] theorem State.setTun_fatalTick (s : State) (h : Nat) (t : Tun) : (s.setTun h t).fatalTick = s.fatalTick := rfl
@[simp] theorem State.setTun_fatalWait (s : State) (h : Nat) (t : Tun) : (s.setTun h t).fatalWait = s.fatalWait := rfl
@[simp] theorem State.setTun_raised (s : State) (h : Nat) (t : Tun) : (s.setTun h t).raised = s.raised := rfl
@[simp] theorem State.setTun_heldHeads (s : State) (h : Nat) (t : Tun) : (s.setTun h t).heldHeads = s.heldHeads := rfl
@[simp] theorem State.setTun_strays (s : State) (h : Nat) (t : Tun) : (s.setTun h t).strays = s.strays := rfl
@[simp] theorem State.setTun_strayTick (s : State) (h : Nat) (t : Tun) : (s.setTun h t).strayTick = s.strayTick := rfl
@[simp] theorem State.setTun_accs (s : State) (h : Nat) (t : Tun) : (s.setTun h t).accs = s.accs := rfl
@[simp] theorem State.setTun_blockInks (s : State) (h : Nat) (t : Tun) : (s.setTun h t).blockInks = s.blockInks := rfl
@[simp] theorem State.setTun_logFaulted (s : State) (h : Nat) (t : Tun) : (s.setTun h t).logFaulted = s.logFaulted := rfl
@[simp] theorem State.setTun_fns (s : State) (h : Nat) (t : Tun) : (s.setTun h t).fns = s.fns := rfl
@[simp] theorem State.setTun_host (s : State) (h : Nat) (t : Tun) : (s.setTun h t).host = s.host := rfl
@[simp] theorem State.setTun_parts (s : State) (h : Nat) (t : Tun) : (s.setTun h t).parts = s.parts := rfl
@[simp] theorem State.setTun_tenants (s : State) (h : Nat) (t : Tun) : (s.setTun h t).tenants = s.tenants := rfl
@[simp] theorem State.setTun_rings (s : State) (h : Nat) (t : Tun) : (s.setTun h t).rings = s.rings := rfl
@[simp] theorem State.setTun_served (s : State) (h : Nat) (t : Tun) : (s.setTun h t).served = s.served := rfl
@[simp] theorem State.setTun_seqs (s : State) (h : Nat) (t : Tun) : (s.setTun h t).seqs = s.seqs := rfl
@[simp] theorem State.setTun_failing (s : State) (h : Nat) (t : Tun) : (s.setTun h t).failing = s.failing := rfl
@[simp] theorem State.setTun_fab (s : State) (h : Nat) (t : Tun) : (s.setTun h t).fab = s.fab := rfl
@[simp] theorem State.setTun_lnk (s : State) (h : Nat) (t : Tun) : (s.setTun h t).lnk = s.lnk := rfl
@[simp] theorem State.setTun_gens (s : State) (h : Nat) (t : Tun) : (s.setTun h t).gens = s.gens := rfl
@[simp] theorem State.setTun_issues (s : State) (h : Nat) (t : Tun) : (s.setTun h t).issues = s.issues := rfl
@[simp] theorem State.setTun_indexes (s : State) (h : Nat) (t : Tun) : (s.setTun h t).indexes = s.indexes := rfl
@[simp] theorem State.setTun_filters (s : State) (h : Nat) (t : Tun) : (s.setTun h t).filters = s.filters := rfl
@[simp] theorem State.setTun_images (s : State) (h : Nat) (t : Tun) : (s.setTun h t).images = s.images := rfl
@[simp] theorem State.setTun_pch (s : State) (h : Nat) (t : Tun) : (s.setTun h t).pch = s.pch := rfl
@[simp] theorem State.setTun_tokens (s : State) (h : Nat) (t : Tun) : (s.setTun h t).tokens = s.tokens := rfl
@[simp] theorem State.setTun_tokenDue (s : State) (h : Nat) (t : Tun) : (s.setTun h t).tokenDue = s.tokenDue := rfl
@[simp] theorem State.setTun_wcb (s : State) (h : Nat) (t : Tun) : (s.setTun h t).wcb = s.wcb := rfl
@[simp] theorem State.setTun_passes (s : State) (h : Nat) (t : Tun) : (s.setTun h t).passes = s.passes := rfl
@[simp] theorem State.setTun_hardList (s : State) (h : Nat) (t : Tun) : (s.setTun h t).hardList = s.hardList := rfl
@[simp] theorem State.setTun_decayDue (s : State) (h : Nat) (t : Tun) : (s.setTun h t).decayDue = s.decayDue := rfl
@[simp] theorem State.setTun_sosin (s : State) (h : Nat) (t : Tun) : (s.setTun h t).sosin = s.sosin := rfl
@[simp] theorem State.setTun_pwr (s : State) (h : Nat) (t : Tun) : (s.setTun h t).pwr = s.pwr := rfl
@[simp] theorem State.setTun_meter (s : State) (h : Nat) (t : Tun) : (s.setTun h t).meter = s.meter := rfl
@[simp] theorem State.setTun_mc (s : State) (h : Nat) (t : Tun) : (s.setTun h t).mc = s.mc := rfl
@[simp] theorem State.setTun_rst (s : State) (h : Nat) (t : Tun) : (s.setTun h t).rst = s.rst := rfl
@[simp] theorem State.setTun_pins (s : State) (h : Nat) (t : Tun) : (s.setTun h t).pins = s.pins := rfl
@[simp] theorem State.setTun_sweepTick (s : State) (h : Nat) (t : Tun) : (s.setTun h t).sweepTick = s.sweepTick := rfl
@[simp] theorem State.setTun_reg (s : State) (h : Nat) (t : Tun) (x : Nat) : (s.setTun h t).reg x = s.reg x := rfl
@[simp] theorem State.setTun_byte (s : State) (h : Nat) (t : Tun) (x : Nat) : (s.setTun h t).byte x = s.byte x := rfl

@[simp] theorem State.setKey_pending (s : State) (vf : Nat) (k : KeySlot) : (s.setKey vf k).pending = s.pending := rfl
@[simp] theorem State.setKey_now (s : State) (vf : Nat) (k : KeySlot) : (s.setKey vf k).now = s.now := rfl
@[simp] theorem State.setKey_free (s : State) (vf : Nat) (k : KeySlot) : (s.setKey vf k).free = s.free := rfl
@[simp] theorem State.setKey_out (s : State) (vf : Nat) (k : KeySlot) : (s.setKey vf k).out = s.out := rfl
@[simp] theorem State.setKey_regs (s : State) (vf : Nat) (k : KeySlot) : (s.setKey vf k).regs = s.regs := rfl
@[simp] theorem State.setKey_shadows (s : State) (vf : Nat) (k : KeySlot) : (s.setKey vf k).shadows = s.shadows := rfl
@[simp] theorem State.setKey_sealed (s : State) (vf : Nat) (k : KeySlot) : (s.setKey vf k).sealed = s.sealed := rfl
@[simp] theorem State.setKey_debug (s : State) (vf : Nat) (k : KeySlot) : (s.setKey vf k).debug = s.debug := rfl
@[simp] theorem State.setKey_inReset (s : State) (vf : Nat) (k : KeySlot) : (s.setKey vf k).inReset = s.inReset := rfl
@[simp] theorem State.setKey_upsets (s : State) (vf : Nat) (k : KeySlot) : (s.setKey vf k).upsets = s.upsets := rfl
@[simp] theorem State.setKey_poison (s : State) (vf : Nat) (k : KeySlot) : (s.setKey vf k).poison = s.poison := rfl
@[simp] theorem State.setKey_owners (s : State) (vf : Nat) (k : KeySlot) : (s.setKey vf k).owners = s.owners := rfl
@[simp] theorem State.setKey_errq (s : State) (vf : Nat) (k : KeySlot) : (s.setKey vf k).errq = s.errq := rfl
@[simp] theorem State.setKey_fatalPend (s : State) (vf : Nat) (k : KeySlot) : (s.setKey vf k).fatalPend = s.fatalPend := rfl
@[simp] theorem State.setKey_fatalLater (s : State) (vf : Nat) (k : KeySlot) : (s.setKey vf k).fatalLater = s.fatalLater := rfl
@[simp] theorem State.setKey_fatalTick (s : State) (vf : Nat) (k : KeySlot) : (s.setKey vf k).fatalTick = s.fatalTick := rfl
@[simp] theorem State.setKey_fatalWait (s : State) (vf : Nat) (k : KeySlot) : (s.setKey vf k).fatalWait = s.fatalWait := rfl
@[simp] theorem State.setKey_raised (s : State) (vf : Nat) (k : KeySlot) : (s.setKey vf k).raised = s.raised := rfl
@[simp] theorem State.setKey_heldHeads (s : State) (vf : Nat) (k : KeySlot) : (s.setKey vf k).heldHeads = s.heldHeads := rfl
@[simp] theorem State.setKey_strays (s : State) (vf : Nat) (k : KeySlot) : (s.setKey vf k).strays = s.strays := rfl
@[simp] theorem State.setKey_strayTick (s : State) (vf : Nat) (k : KeySlot) : (s.setKey vf k).strayTick = s.strayTick := rfl
@[simp] theorem State.setKey_accs (s : State) (vf : Nat) (k : KeySlot) : (s.setKey vf k).accs = s.accs := rfl
@[simp] theorem State.setKey_blockInks (s : State) (vf : Nat) (k : KeySlot) : (s.setKey vf k).blockInks = s.blockInks := rfl
@[simp] theorem State.setKey_logFaulted (s : State) (vf : Nat) (k : KeySlot) : (s.setKey vf k).logFaulted = s.logFaulted := rfl
@[simp] theorem State.setKey_fns (s : State) (vf : Nat) (k : KeySlot) : (s.setKey vf k).fns = s.fns := rfl
@[simp] theorem State.setKey_host (s : State) (vf : Nat) (k : KeySlot) : (s.setKey vf k).host = s.host := rfl
@[simp] theorem State.setKey_parts (s : State) (vf : Nat) (k : KeySlot) : (s.setKey vf k).parts = s.parts := rfl
@[simp] theorem State.setKey_tenants (s : State) (vf : Nat) (k : KeySlot) : (s.setKey vf k).tenants = s.tenants := rfl
@[simp] theorem State.setKey_rings (s : State) (vf : Nat) (k : KeySlot) : (s.setKey vf k).rings = s.rings := rfl
@[simp] theorem State.setKey_served (s : State) (vf : Nat) (k : KeySlot) : (s.setKey vf k).served = s.served := rfl
@[simp] theorem State.setKey_seqs (s : State) (vf : Nat) (k : KeySlot) : (s.setKey vf k).seqs = s.seqs := rfl
@[simp] theorem State.setKey_failing (s : State) (vf : Nat) (k : KeySlot) : (s.setKey vf k).failing = s.failing := rfl
@[simp] theorem State.setKey_fab (s : State) (vf : Nat) (k : KeySlot) : (s.setKey vf k).fab = s.fab := rfl
@[simp] theorem State.setKey_lnk (s : State) (vf : Nat) (k : KeySlot) : (s.setKey vf k).lnk = s.lnk := rfl
@[simp] theorem State.setKey_gens (s : State) (vf : Nat) (k : KeySlot) : (s.setKey vf k).gens = s.gens := rfl
@[simp] theorem State.setKey_issues (s : State) (vf : Nat) (k : KeySlot) : (s.setKey vf k).issues = s.issues := rfl
@[simp] theorem State.setKey_indexes (s : State) (vf : Nat) (k : KeySlot) : (s.setKey vf k).indexes = s.indexes := rfl
@[simp] theorem State.setKey_filters (s : State) (vf : Nat) (k : KeySlot) : (s.setKey vf k).filters = s.filters := rfl
@[simp] theorem State.setKey_images (s : State) (vf : Nat) (k : KeySlot) : (s.setKey vf k).images = s.images := rfl
@[simp] theorem State.setKey_pch (s : State) (vf : Nat) (k : KeySlot) : (s.setKey vf k).pch = s.pch := rfl
@[simp] theorem State.setKey_tokens (s : State) (vf : Nat) (k : KeySlot) : (s.setKey vf k).tokens = s.tokens := rfl
@[simp] theorem State.setKey_tokenDue (s : State) (vf : Nat) (k : KeySlot) : (s.setKey vf k).tokenDue = s.tokenDue := rfl
@[simp] theorem State.setKey_wcb (s : State) (vf : Nat) (k : KeySlot) : (s.setKey vf k).wcb = s.wcb := rfl
@[simp] theorem State.setKey_passes (s : State) (vf : Nat) (k : KeySlot) : (s.setKey vf k).passes = s.passes := rfl
@[simp] theorem State.setKey_hardList (s : State) (vf : Nat) (k : KeySlot) : (s.setKey vf k).hardList = s.hardList := rfl
@[simp] theorem State.setKey_decayDue (s : State) (vf : Nat) (k : KeySlot) : (s.setKey vf k).decayDue = s.decayDue := rfl
@[simp] theorem State.setKey_sosin (s : State) (vf : Nat) (k : KeySlot) : (s.setKey vf k).sosin = s.sosin := rfl
@[simp] theorem State.setKey_pwr (s : State) (vf : Nat) (k : KeySlot) : (s.setKey vf k).pwr = s.pwr := rfl
@[simp] theorem State.setKey_meter (s : State) (vf : Nat) (k : KeySlot) : (s.setKey vf k).meter = s.meter := rfl
@[simp] theorem State.setKey_mc (s : State) (vf : Nat) (k : KeySlot) : (s.setKey vf k).mc = s.mc := rfl
@[simp] theorem State.setKey_rst (s : State) (vf : Nat) (k : KeySlot) : (s.setKey vf k).rst = s.rst := rfl
@[simp] theorem State.setKey_pins (s : State) (vf : Nat) (k : KeySlot) : (s.setKey vf k).pins = s.pins := rfl
@[simp] theorem State.setKey_sweepTick (s : State) (vf : Nat) (k : KeySlot) : (s.setKey vf k).sweepTick = s.sweepTick := rfl
@[simp] theorem State.setKey_reg (s : State) (vf : Nat) (k : KeySlot) (x : Nat) : (s.setKey vf k).reg x = s.reg x := rfl

@[simp] theorem State.setInk_pending (s : State) (line : Nat) (k : List Byte) : (s.setInk line k).pending = s.pending := rfl
@[simp] theorem State.setInk_now (s : State) (line : Nat) (k : List Byte) : (s.setInk line k).now = s.now := rfl
@[simp] theorem State.setInk_free (s : State) (line : Nat) (k : List Byte) : (s.setInk line k).free = s.free := rfl
@[simp] theorem State.setInk_out (s : State) (line : Nat) (k : List Byte) : (s.setInk line k).out = s.out := rfl
@[simp] theorem State.setInk_regs (s : State) (line : Nat) (k : List Byte) : (s.setInk line k).regs = s.regs := rfl
@[simp] theorem State.setInk_shadows (s : State) (line : Nat) (k : List Byte) : (s.setInk line k).shadows = s.shadows := rfl
@[simp] theorem State.setInk_sealed (s : State) (line : Nat) (k : List Byte) : (s.setInk line k).sealed = s.sealed := rfl
@[simp] theorem State.setInk_debug (s : State) (line : Nat) (k : List Byte) : (s.setInk line k).debug = s.debug := rfl
@[simp] theorem State.setInk_inReset (s : State) (line : Nat) (k : List Byte) : (s.setInk line k).inReset = s.inReset := rfl
@[simp] theorem State.setInk_upsets (s : State) (line : Nat) (k : List Byte) : (s.setInk line k).upsets = s.upsets := rfl
@[simp] theorem State.setInk_poison (s : State) (line : Nat) (k : List Byte) : (s.setInk line k).poison = s.poison := rfl
@[simp] theorem State.setInk_owners (s : State) (line : Nat) (k : List Byte) : (s.setInk line k).owners = s.owners := rfl
@[simp] theorem State.setInk_errq (s : State) (line : Nat) (k : List Byte) : (s.setInk line k).errq = s.errq := rfl
@[simp] theorem State.setInk_fatalPend (s : State) (line : Nat) (k : List Byte) : (s.setInk line k).fatalPend = s.fatalPend := rfl
@[simp] theorem State.setInk_fatalLater (s : State) (line : Nat) (k : List Byte) : (s.setInk line k).fatalLater = s.fatalLater := rfl
@[simp] theorem State.setInk_fatalTick (s : State) (line : Nat) (k : List Byte) : (s.setInk line k).fatalTick = s.fatalTick := rfl
@[simp] theorem State.setInk_fatalWait (s : State) (line : Nat) (k : List Byte) : (s.setInk line k).fatalWait = s.fatalWait := rfl
@[simp] theorem State.setInk_raised (s : State) (line : Nat) (k : List Byte) : (s.setInk line k).raised = s.raised := rfl
@[simp] theorem State.setInk_heldHeads (s : State) (line : Nat) (k : List Byte) : (s.setInk line k).heldHeads = s.heldHeads := rfl
@[simp] theorem State.setInk_strays (s : State) (line : Nat) (k : List Byte) : (s.setInk line k).strays = s.strays := rfl
@[simp] theorem State.setInk_strayTick (s : State) (line : Nat) (k : List Byte) : (s.setInk line k).strayTick = s.strayTick := rfl
@[simp] theorem State.setInk_accs (s : State) (line : Nat) (k : List Byte) : (s.setInk line k).accs = s.accs := rfl
@[simp] theorem State.setInk_blockInks (s : State) (line : Nat) (k : List Byte) : (s.setInk line k).blockInks = s.blockInks := rfl
@[simp] theorem State.setInk_logFaulted (s : State) (line : Nat) (k : List Byte) : (s.setInk line k).logFaulted = s.logFaulted := rfl
@[simp] theorem State.setInk_fns (s : State) (line : Nat) (k : List Byte) : (s.setInk line k).fns = s.fns := rfl
@[simp] theorem State.setInk_host (s : State) (line : Nat) (k : List Byte) : (s.setInk line k).host = s.host := rfl
@[simp] theorem State.setInk_parts (s : State) (line : Nat) (k : List Byte) : (s.setInk line k).parts = s.parts := rfl
@[simp] theorem State.setInk_tenants (s : State) (line : Nat) (k : List Byte) : (s.setInk line k).tenants = s.tenants := rfl
@[simp] theorem State.setInk_rings (s : State) (line : Nat) (k : List Byte) : (s.setInk line k).rings = s.rings := rfl
@[simp] theorem State.setInk_served (s : State) (line : Nat) (k : List Byte) : (s.setInk line k).served = s.served := rfl
@[simp] theorem State.setInk_seqs (s : State) (line : Nat) (k : List Byte) : (s.setInk line k).seqs = s.seqs := rfl
@[simp] theorem State.setInk_failing (s : State) (line : Nat) (k : List Byte) : (s.setInk line k).failing = s.failing := rfl
@[simp] theorem State.setInk_fab (s : State) (line : Nat) (k : List Byte) : (s.setInk line k).fab = s.fab := rfl
@[simp] theorem State.setInk_lnk (s : State) (line : Nat) (k : List Byte) : (s.setInk line k).lnk = s.lnk := rfl
@[simp] theorem State.setInk_gens (s : State) (line : Nat) (k : List Byte) : (s.setInk line k).gens = s.gens := rfl
@[simp] theorem State.setInk_issues (s : State) (line : Nat) (k : List Byte) : (s.setInk line k).issues = s.issues := rfl
@[simp] theorem State.setInk_indexes (s : State) (line : Nat) (k : List Byte) : (s.setInk line k).indexes = s.indexes := rfl
@[simp] theorem State.setInk_filters (s : State) (line : Nat) (k : List Byte) : (s.setInk line k).filters = s.filters := rfl
@[simp] theorem State.setInk_images (s : State) (line : Nat) (k : List Byte) : (s.setInk line k).images = s.images := rfl
@[simp] theorem State.setInk_pch (s : State) (line : Nat) (k : List Byte) : (s.setInk line k).pch = s.pch := rfl
@[simp] theorem State.setInk_tokens (s : State) (line : Nat) (k : List Byte) : (s.setInk line k).tokens = s.tokens := rfl
@[simp] theorem State.setInk_tokenDue (s : State) (line : Nat) (k : List Byte) : (s.setInk line k).tokenDue = s.tokenDue := rfl
@[simp] theorem State.setInk_wcb (s : State) (line : Nat) (k : List Byte) : (s.setInk line k).wcb = s.wcb := rfl
@[simp] theorem State.setInk_passes (s : State) (line : Nat) (k : List Byte) : (s.setInk line k).passes = s.passes := rfl
@[simp] theorem State.setInk_hardList (s : State) (line : Nat) (k : List Byte) : (s.setInk line k).hardList = s.hardList := rfl
@[simp] theorem State.setInk_decayDue (s : State) (line : Nat) (k : List Byte) : (s.setInk line k).decayDue = s.decayDue := rfl
@[simp] theorem State.setInk_sosin (s : State) (line : Nat) (k : List Byte) : (s.setInk line k).sosin = s.sosin := rfl
@[simp] theorem State.setInk_pwr (s : State) (line : Nat) (k : List Byte) : (s.setInk line k).pwr = s.pwr := rfl
@[simp] theorem State.setInk_meter (s : State) (line : Nat) (k : List Byte) : (s.setInk line k).meter = s.meter := rfl
@[simp] theorem State.setInk_mc (s : State) (line : Nat) (k : List Byte) : (s.setInk line k).mc = s.mc := rfl
@[simp] theorem State.setInk_rst (s : State) (line : Nat) (k : List Byte) : (s.setInk line k).rst = s.rst := rfl
@[simp] theorem State.setInk_pins (s : State) (line : Nat) (k : List Byte) : (s.setInk line k).pins = s.pins := rfl
@[simp] theorem State.setInk_sweepTick (s : State) (line : Nat) (k : List Byte) : (s.setInk line k).sweepTick = s.sweepTick := rfl
@[simp] theorem State.setInk_reg (s : State) (line : Nat) (k : List Byte) (x : Nat) : (s.setInk line k).reg x = s.reg x := rfl

@[simp] theorem State.setPch_pending (s : State) (p : Nat) (c : PchState) : (s.setPch p c).pending = s.pending := rfl
@[simp] theorem State.setPch_now (s : State) (p : Nat) (c : PchState) : (s.setPch p c).now = s.now := rfl
@[simp] theorem State.setPch_free (s : State) (p : Nat) (c : PchState) : (s.setPch p c).free = s.free := rfl
@[simp] theorem State.setPch_out (s : State) (p : Nat) (c : PchState) : (s.setPch p c).out = s.out := rfl
@[simp] theorem State.setPch_regs (s : State) (p : Nat) (c : PchState) : (s.setPch p c).regs = s.regs := rfl
@[simp] theorem State.setPch_shadows (s : State) (p : Nat) (c : PchState) : (s.setPch p c).shadows = s.shadows := rfl
@[simp] theorem State.setPch_sealed (s : State) (p : Nat) (c : PchState) : (s.setPch p c).sealed = s.sealed := rfl
@[simp] theorem State.setPch_debug (s : State) (p : Nat) (c : PchState) : (s.setPch p c).debug = s.debug := rfl
@[simp] theorem State.setPch_inReset (s : State) (p : Nat) (c : PchState) : (s.setPch p c).inReset = s.inReset := rfl
@[simp] theorem State.setPch_upsets (s : State) (p : Nat) (c : PchState) : (s.setPch p c).upsets = s.upsets := rfl
@[simp] theorem State.setPch_poison (s : State) (p : Nat) (c : PchState) : (s.setPch p c).poison = s.poison := rfl
@[simp] theorem State.setPch_owners (s : State) (p : Nat) (c : PchState) : (s.setPch p c).owners = s.owners := rfl
@[simp] theorem State.setPch_errq (s : State) (p : Nat) (c : PchState) : (s.setPch p c).errq = s.errq := rfl
@[simp] theorem State.setPch_fatalPend (s : State) (p : Nat) (c : PchState) : (s.setPch p c).fatalPend = s.fatalPend := rfl
@[simp] theorem State.setPch_fatalLater (s : State) (p : Nat) (c : PchState) : (s.setPch p c).fatalLater = s.fatalLater := rfl
@[simp] theorem State.setPch_fatalTick (s : State) (p : Nat) (c : PchState) : (s.setPch p c).fatalTick = s.fatalTick := rfl
@[simp] theorem State.setPch_fatalWait (s : State) (p : Nat) (c : PchState) : (s.setPch p c).fatalWait = s.fatalWait := rfl
@[simp] theorem State.setPch_raised (s : State) (p : Nat) (c : PchState) : (s.setPch p c).raised = s.raised := rfl
@[simp] theorem State.setPch_heldHeads (s : State) (p : Nat) (c : PchState) : (s.setPch p c).heldHeads = s.heldHeads := rfl
@[simp] theorem State.setPch_strays (s : State) (p : Nat) (c : PchState) : (s.setPch p c).strays = s.strays := rfl
@[simp] theorem State.setPch_strayTick (s : State) (p : Nat) (c : PchState) : (s.setPch p c).strayTick = s.strayTick := rfl
@[simp] theorem State.setPch_accs (s : State) (p : Nat) (c : PchState) : (s.setPch p c).accs = s.accs := rfl
@[simp] theorem State.setPch_blockInks (s : State) (p : Nat) (c : PchState) : (s.setPch p c).blockInks = s.blockInks := rfl
@[simp] theorem State.setPch_logFaulted (s : State) (p : Nat) (c : PchState) : (s.setPch p c).logFaulted = s.logFaulted := rfl
@[simp] theorem State.setPch_fns (s : State) (p : Nat) (c : PchState) : (s.setPch p c).fns = s.fns := rfl
@[simp] theorem State.setPch_host (s : State) (p : Nat) (c : PchState) : (s.setPch p c).host = s.host := rfl
@[simp] theorem State.setPch_parts (s : State) (p : Nat) (c : PchState) : (s.setPch p c).parts = s.parts := rfl
@[simp] theorem State.setPch_tenants (s : State) (p : Nat) (c : PchState) : (s.setPch p c).tenants = s.tenants := rfl
@[simp] theorem State.setPch_rings (s : State) (p : Nat) (c : PchState) : (s.setPch p c).rings = s.rings := rfl
@[simp] theorem State.setPch_served (s : State) (p : Nat) (c : PchState) : (s.setPch p c).served = s.served := rfl
@[simp] theorem State.setPch_seqs (s : State) (p : Nat) (c : PchState) : (s.setPch p c).seqs = s.seqs := rfl
@[simp] theorem State.setPch_failing (s : State) (p : Nat) (c : PchState) : (s.setPch p c).failing = s.failing := rfl
@[simp] theorem State.setPch_fab (s : State) (p : Nat) (c : PchState) : (s.setPch p c).fab = s.fab := rfl
@[simp] theorem State.setPch_far (s : State) (p : Nat) (c : PchState) : (s.setPch p c).far = s.far := rfl
@[simp] theorem State.setPch_lnk (s : State) (p : Nat) (c : PchState) : (s.setPch p c).lnk = s.lnk := rfl
@[simp] theorem State.setPch_gens (s : State) (p : Nat) (c : PchState) : (s.setPch p c).gens = s.gens := rfl
@[simp] theorem State.setPch_issues (s : State) (p : Nat) (c : PchState) : (s.setPch p c).issues = s.issues := rfl
@[simp] theorem State.setPch_indexes (s : State) (p : Nat) (c : PchState) : (s.setPch p c).indexes = s.indexes := rfl
@[simp] theorem State.setPch_filters (s : State) (p : Nat) (c : PchState) : (s.setPch p c).filters = s.filters := rfl
@[simp] theorem State.setPch_images (s : State) (p : Nat) (c : PchState) : (s.setPch p c).images = s.images := rfl
@[simp] theorem State.setPch_tokens (s : State) (p : Nat) (c : PchState) : (s.setPch p c).tokens = s.tokens := rfl
@[simp] theorem State.setPch_tokenDue (s : State) (p : Nat) (c : PchState) : (s.setPch p c).tokenDue = s.tokenDue := rfl
@[simp] theorem State.setPch_wcb (s : State) (p : Nat) (c : PchState) : (s.setPch p c).wcb = s.wcb := rfl
@[simp] theorem State.setPch_passes (s : State) (p : Nat) (c : PchState) : (s.setPch p c).passes = s.passes := rfl
@[simp] theorem State.setPch_hardList (s : State) (p : Nat) (c : PchState) : (s.setPch p c).hardList = s.hardList := rfl
@[simp] theorem State.setPch_decayDue (s : State) (p : Nat) (c : PchState) : (s.setPch p c).decayDue = s.decayDue := rfl
@[simp] theorem State.setPch_sosin (s : State) (p : Nat) (c : PchState) : (s.setPch p c).sosin = s.sosin := rfl
@[simp] theorem State.setPch_pwr (s : State) (p : Nat) (c : PchState) : (s.setPch p c).pwr = s.pwr := rfl
@[simp] theorem State.setPch_meter (s : State) (p : Nat) (c : PchState) : (s.setPch p c).meter = s.meter := rfl
@[simp] theorem State.setPch_mc (s : State) (p : Nat) (c : PchState) : (s.setPch p c).mc = s.mc := rfl
@[simp] theorem State.setPch_rst (s : State) (p : Nat) (c : PchState) : (s.setPch p c).rst = s.rst := rfl
@[simp] theorem State.setPch_pins (s : State) (p : Nat) (c : PchState) : (s.setPch p c).pins = s.pins := rfl
@[simp] theorem State.setPch_sweepTick (s : State) (p : Nat) (c : PchState) : (s.setPch p c).sweepTick = s.sweepTick := rfl
@[simp] theorem State.setPch_reg (s : State) (p : Nat) (c : PchState) (x : Nat) : (s.setPch p c).reg x = s.reg x := rfl
@[simp] theorem State.setPch_byte (s : State) (p : Nat) (c : PchState) (x : Nat) : (s.setPch p c).byte x = s.byte x := rfl

@[simp] theorem State.setErrQueue_pending (s : State) (d : Nat) (q : ErrQueue) : (s.setErrQueue d q).pending = s.pending := rfl
@[simp] theorem State.setErrQueue_now (s : State) (d : Nat) (q : ErrQueue) : (s.setErrQueue d q).now = s.now := rfl
@[simp] theorem State.setErrQueue_free (s : State) (d : Nat) (q : ErrQueue) : (s.setErrQueue d q).free = s.free := rfl
@[simp] theorem State.setErrQueue_out (s : State) (d : Nat) (q : ErrQueue) : (s.setErrQueue d q).out = s.out := rfl
@[simp] theorem State.setErrQueue_regs (s : State) (d : Nat) (q : ErrQueue) : (s.setErrQueue d q).regs = s.regs := rfl
@[simp] theorem State.setErrQueue_shadows (s : State) (d : Nat) (q : ErrQueue) : (s.setErrQueue d q).shadows = s.shadows := rfl
@[simp] theorem State.setErrQueue_sealed (s : State) (d : Nat) (q : ErrQueue) : (s.setErrQueue d q).sealed = s.sealed := rfl
@[simp] theorem State.setErrQueue_debug (s : State) (d : Nat) (q : ErrQueue) : (s.setErrQueue d q).debug = s.debug := rfl
@[simp] theorem State.setErrQueue_inReset (s : State) (d : Nat) (q : ErrQueue) : (s.setErrQueue d q).inReset = s.inReset := rfl
@[simp] theorem State.setErrQueue_upsets (s : State) (d : Nat) (q : ErrQueue) : (s.setErrQueue d q).upsets = s.upsets := rfl
@[simp] theorem State.setErrQueue_poison (s : State) (d : Nat) (q : ErrQueue) : (s.setErrQueue d q).poison = s.poison := rfl
@[simp] theorem State.setErrQueue_owners (s : State) (d : Nat) (q : ErrQueue) : (s.setErrQueue d q).owners = s.owners := rfl
@[simp] theorem State.setErrQueue_fatalPend (s : State) (d : Nat) (q : ErrQueue) : (s.setErrQueue d q).fatalPend = s.fatalPend := rfl
@[simp] theorem State.setErrQueue_fatalLater (s : State) (d : Nat) (q : ErrQueue) : (s.setErrQueue d q).fatalLater = s.fatalLater := rfl
@[simp] theorem State.setErrQueue_fatalTick (s : State) (d : Nat) (q : ErrQueue) : (s.setErrQueue d q).fatalTick = s.fatalTick := rfl
@[simp] theorem State.setErrQueue_fatalWait (s : State) (d : Nat) (q : ErrQueue) : (s.setErrQueue d q).fatalWait = s.fatalWait := rfl
@[simp] theorem State.setErrQueue_raised (s : State) (d : Nat) (q : ErrQueue) : (s.setErrQueue d q).raised = s.raised := rfl
@[simp] theorem State.setErrQueue_heldHeads (s : State) (d : Nat) (q : ErrQueue) : (s.setErrQueue d q).heldHeads = s.heldHeads := rfl
@[simp] theorem State.setErrQueue_strays (s : State) (d : Nat) (q : ErrQueue) : (s.setErrQueue d q).strays = s.strays := rfl
@[simp] theorem State.setErrQueue_strayTick (s : State) (d : Nat) (q : ErrQueue) : (s.setErrQueue d q).strayTick = s.strayTick := rfl
@[simp] theorem State.setErrQueue_accs (s : State) (d : Nat) (q : ErrQueue) : (s.setErrQueue d q).accs = s.accs := rfl
@[simp] theorem State.setErrQueue_blockInks (s : State) (d : Nat) (q : ErrQueue) : (s.setErrQueue d q).blockInks = s.blockInks := rfl
@[simp] theorem State.setErrQueue_logFaulted (s : State) (d : Nat) (q : ErrQueue) : (s.setErrQueue d q).logFaulted = s.logFaulted := rfl
@[simp] theorem State.setErrQueue_fns (s : State) (d : Nat) (q : ErrQueue) : (s.setErrQueue d q).fns = s.fns := rfl
@[simp] theorem State.setErrQueue_host (s : State) (d : Nat) (q : ErrQueue) : (s.setErrQueue d q).host = s.host := rfl
@[simp] theorem State.setErrQueue_parts (s : State) (d : Nat) (q : ErrQueue) : (s.setErrQueue d q).parts = s.parts := rfl
@[simp] theorem State.setErrQueue_tenants (s : State) (d : Nat) (q : ErrQueue) : (s.setErrQueue d q).tenants = s.tenants := rfl
@[simp] theorem State.setErrQueue_rings (s : State) (d : Nat) (q : ErrQueue) : (s.setErrQueue d q).rings = s.rings := rfl
@[simp] theorem State.setErrQueue_served (s : State) (d : Nat) (q : ErrQueue) : (s.setErrQueue d q).served = s.served := rfl
@[simp] theorem State.setErrQueue_seqs (s : State) (d : Nat) (q : ErrQueue) : (s.setErrQueue d q).seqs = s.seqs := rfl
@[simp] theorem State.setErrQueue_failing (s : State) (d : Nat) (q : ErrQueue) : (s.setErrQueue d q).failing = s.failing := rfl
@[simp] theorem State.setErrQueue_fab (s : State) (d : Nat) (q : ErrQueue) : (s.setErrQueue d q).fab = s.fab := rfl
@[simp] theorem State.setErrQueue_far (s : State) (d : Nat) (q : ErrQueue) : (s.setErrQueue d q).far = s.far := rfl
@[simp] theorem State.setErrQueue_lnk (s : State) (d : Nat) (q : ErrQueue) : (s.setErrQueue d q).lnk = s.lnk := rfl
@[simp] theorem State.setErrQueue_gens (s : State) (d : Nat) (q : ErrQueue) : (s.setErrQueue d q).gens = s.gens := rfl
@[simp] theorem State.setErrQueue_issues (s : State) (d : Nat) (q : ErrQueue) : (s.setErrQueue d q).issues = s.issues := rfl
@[simp] theorem State.setErrQueue_indexes (s : State) (d : Nat) (q : ErrQueue) : (s.setErrQueue d q).indexes = s.indexes := rfl
@[simp] theorem State.setErrQueue_filters (s : State) (d : Nat) (q : ErrQueue) : (s.setErrQueue d q).filters = s.filters := rfl
@[simp] theorem State.setErrQueue_images (s : State) (d : Nat) (q : ErrQueue) : (s.setErrQueue d q).images = s.images := rfl
@[simp] theorem State.setErrQueue_pch (s : State) (d : Nat) (q : ErrQueue) : (s.setErrQueue d q).pch = s.pch := rfl
@[simp] theorem State.setErrQueue_tokens (s : State) (d : Nat) (q : ErrQueue) : (s.setErrQueue d q).tokens = s.tokens := rfl
@[simp] theorem State.setErrQueue_tokenDue (s : State) (d : Nat) (q : ErrQueue) : (s.setErrQueue d q).tokenDue = s.tokenDue := rfl
@[simp] theorem State.setErrQueue_wcb (s : State) (d : Nat) (q : ErrQueue) : (s.setErrQueue d q).wcb = s.wcb := rfl
@[simp] theorem State.setErrQueue_passes (s : State) (d : Nat) (q : ErrQueue) : (s.setErrQueue d q).passes = s.passes := rfl
@[simp] theorem State.setErrQueue_hardList (s : State) (d : Nat) (q : ErrQueue) : (s.setErrQueue d q).hardList = s.hardList := rfl
@[simp] theorem State.setErrQueue_decayDue (s : State) (d : Nat) (q : ErrQueue) : (s.setErrQueue d q).decayDue = s.decayDue := rfl
@[simp] theorem State.setErrQueue_sosin (s : State) (d : Nat) (q : ErrQueue) : (s.setErrQueue d q).sosin = s.sosin := rfl
@[simp] theorem State.setErrQueue_pwr (s : State) (d : Nat) (q : ErrQueue) : (s.setErrQueue d q).pwr = s.pwr := rfl
@[simp] theorem State.setErrQueue_meter (s : State) (d : Nat) (q : ErrQueue) : (s.setErrQueue d q).meter = s.meter := rfl
@[simp] theorem State.setErrQueue_mc (s : State) (d : Nat) (q : ErrQueue) : (s.setErrQueue d q).mc = s.mc := rfl
@[simp] theorem State.setErrQueue_rst (s : State) (d : Nat) (q : ErrQueue) : (s.setErrQueue d q).rst = s.rst := rfl
@[simp] theorem State.setErrQueue_pins (s : State) (d : Nat) (q : ErrQueue) : (s.setErrQueue d q).pins = s.pins := rfl
@[simp] theorem State.setErrQueue_sweepTick (s : State) (d : Nat) (q : ErrQueue) : (s.setErrQueue d q).sweepTick = s.sweepTick := rfl
@[simp] theorem State.setErrQueue_reg (s : State) (d : Nat) (q : ErrQueue) (x : Nat) : (s.setErrQueue d q).reg x = s.reg x := rfl
@[simp] theorem State.setErrQueue_byte (s : State) (d : Nat) (q : ErrQueue) (x : Nat) : (s.setErrQueue d q).byte x = s.byte x := rfl

@[simp] theorem State.setShadow_pending (s : State) (f : Nat) (x : Shadow) : (s.setShadow f x).pending = s.pending := rfl
@[simp] theorem State.setShadow_now (s : State) (f : Nat) (x : Shadow) : (s.setShadow f x).now = s.now := rfl
@[simp] theorem State.setShadow_free (s : State) (f : Nat) (x : Shadow) : (s.setShadow f x).free = s.free := rfl
@[simp] theorem State.setShadow_out (s : State) (f : Nat) (x : Shadow) : (s.setShadow f x).out = s.out := rfl
@[simp] theorem State.setShadow_regs (s : State) (f : Nat) (x : Shadow) : (s.setShadow f x).regs = s.regs := rfl
@[simp] theorem State.setShadow_sealed (s : State) (f : Nat) (x : Shadow) : (s.setShadow f x).sealed = s.sealed := rfl
@[simp] theorem State.setShadow_debug (s : State) (f : Nat) (x : Shadow) : (s.setShadow f x).debug = s.debug := rfl
@[simp] theorem State.setShadow_inReset (s : State) (f : Nat) (x : Shadow) : (s.setShadow f x).inReset = s.inReset := rfl
@[simp] theorem State.setShadow_upsets (s : State) (f : Nat) (x : Shadow) : (s.setShadow f x).upsets = s.upsets := rfl
@[simp] theorem State.setShadow_poison (s : State) (f : Nat) (x : Shadow) : (s.setShadow f x).poison = s.poison := rfl
@[simp] theorem State.setShadow_owners (s : State) (f : Nat) (x : Shadow) : (s.setShadow f x).owners = s.owners := rfl
@[simp] theorem State.setShadow_errq (s : State) (f : Nat) (x : Shadow) : (s.setShadow f x).errq = s.errq := rfl
@[simp] theorem State.setShadow_fatalPend (s : State) (f : Nat) (x : Shadow) : (s.setShadow f x).fatalPend = s.fatalPend := rfl
@[simp] theorem State.setShadow_fatalLater (s : State) (f : Nat) (x : Shadow) : (s.setShadow f x).fatalLater = s.fatalLater := rfl
@[simp] theorem State.setShadow_fatalTick (s : State) (f : Nat) (x : Shadow) : (s.setShadow f x).fatalTick = s.fatalTick := rfl
@[simp] theorem State.setShadow_fatalWait (s : State) (f : Nat) (x : Shadow) : (s.setShadow f x).fatalWait = s.fatalWait := rfl
@[simp] theorem State.setShadow_raised (s : State) (f : Nat) (x : Shadow) : (s.setShadow f x).raised = s.raised := rfl
@[simp] theorem State.setShadow_heldHeads (s : State) (f : Nat) (x : Shadow) : (s.setShadow f x).heldHeads = s.heldHeads := rfl
@[simp] theorem State.setShadow_strays (s : State) (f : Nat) (x : Shadow) : (s.setShadow f x).strays = s.strays := rfl
@[simp] theorem State.setShadow_strayTick (s : State) (f : Nat) (x : Shadow) : (s.setShadow f x).strayTick = s.strayTick := rfl
@[simp] theorem State.setShadow_accs (s : State) (f : Nat) (x : Shadow) : (s.setShadow f x).accs = s.accs := rfl
@[simp] theorem State.setShadow_blockInks (s : State) (f : Nat) (x : Shadow) : (s.setShadow f x).blockInks = s.blockInks := rfl
@[simp] theorem State.setShadow_logFaulted (s : State) (f : Nat) (x : Shadow) : (s.setShadow f x).logFaulted = s.logFaulted := rfl
@[simp] theorem State.setShadow_fns (s : State) (f : Nat) (x : Shadow) : (s.setShadow f x).fns = s.fns := rfl
@[simp] theorem State.setShadow_host (s : State) (f : Nat) (x : Shadow) : (s.setShadow f x).host = s.host := rfl
@[simp] theorem State.setShadow_parts (s : State) (f : Nat) (x : Shadow) : (s.setShadow f x).parts = s.parts := rfl
@[simp] theorem State.setShadow_tenants (s : State) (f : Nat) (x : Shadow) : (s.setShadow f x).tenants = s.tenants := rfl
@[simp] theorem State.setShadow_rings (s : State) (f : Nat) (x : Shadow) : (s.setShadow f x).rings = s.rings := rfl
@[simp] theorem State.setShadow_served (s : State) (f : Nat) (x : Shadow) : (s.setShadow f x).served = s.served := rfl
@[simp] theorem State.setShadow_seqs (s : State) (f : Nat) (x : Shadow) : (s.setShadow f x).seqs = s.seqs := rfl
@[simp] theorem State.setShadow_failing (s : State) (f : Nat) (x : Shadow) : (s.setShadow f x).failing = s.failing := rfl
@[simp] theorem State.setShadow_fab (s : State) (f : Nat) (x : Shadow) : (s.setShadow f x).fab = s.fab := rfl
@[simp] theorem State.setShadow_far (s : State) (f : Nat) (x : Shadow) : (s.setShadow f x).far = s.far := rfl
@[simp] theorem State.setShadow_lnk (s : State) (f : Nat) (x : Shadow) : (s.setShadow f x).lnk = s.lnk := rfl
@[simp] theorem State.setShadow_gens (s : State) (f : Nat) (x : Shadow) : (s.setShadow f x).gens = s.gens := rfl
@[simp] theorem State.setShadow_issues (s : State) (f : Nat) (x : Shadow) : (s.setShadow f x).issues = s.issues := rfl
@[simp] theorem State.setShadow_indexes (s : State) (f : Nat) (x : Shadow) : (s.setShadow f x).indexes = s.indexes := rfl
@[simp] theorem State.setShadow_filters (s : State) (f : Nat) (x : Shadow) : (s.setShadow f x).filters = s.filters := rfl
@[simp] theorem State.setShadow_images (s : State) (f : Nat) (x : Shadow) : (s.setShadow f x).images = s.images := rfl
@[simp] theorem State.setShadow_pch (s : State) (f : Nat) (x : Shadow) : (s.setShadow f x).pch = s.pch := rfl
@[simp] theorem State.setShadow_tokens (s : State) (f : Nat) (x : Shadow) : (s.setShadow f x).tokens = s.tokens := rfl
@[simp] theorem State.setShadow_tokenDue (s : State) (f : Nat) (x : Shadow) : (s.setShadow f x).tokenDue = s.tokenDue := rfl
@[simp] theorem State.setShadow_wcb (s : State) (f : Nat) (x : Shadow) : (s.setShadow f x).wcb = s.wcb := rfl
@[simp] theorem State.setShadow_passes (s : State) (f : Nat) (x : Shadow) : (s.setShadow f x).passes = s.passes := rfl
@[simp] theorem State.setShadow_hardList (s : State) (f : Nat) (x : Shadow) : (s.setShadow f x).hardList = s.hardList := rfl
@[simp] theorem State.setShadow_decayDue (s : State) (f : Nat) (x : Shadow) : (s.setShadow f x).decayDue = s.decayDue := rfl
@[simp] theorem State.setShadow_sosin (s : State) (f : Nat) (x : Shadow) : (s.setShadow f x).sosin = s.sosin := rfl
@[simp] theorem State.setShadow_pwr (s : State) (f : Nat) (x : Shadow) : (s.setShadow f x).pwr = s.pwr := rfl
@[simp] theorem State.setShadow_meter (s : State) (f : Nat) (x : Shadow) : (s.setShadow f x).meter = s.meter := rfl
@[simp] theorem State.setShadow_mc (s : State) (f : Nat) (x : Shadow) : (s.setShadow f x).mc = s.mc := rfl
@[simp] theorem State.setShadow_rst (s : State) (f : Nat) (x : Shadow) : (s.setShadow f x).rst = s.rst := rfl
@[simp] theorem State.setShadow_pins (s : State) (f : Nat) (x : Shadow) : (s.setShadow f x).pins = s.pins := rfl
@[simp] theorem State.setShadow_sweepTick (s : State) (f : Nat) (x : Shadow) : (s.setShadow f x).sweepTick = s.sweepTick := rfl
@[simp] theorem State.setShadow_reg (s : State) (f : Nat) (y : Shadow) (x : Nat) : (s.setShadow f y).reg x = s.reg x := rfl
@[simp] theorem State.setShadow_byte (s : State) (f : Nat) (y : Shadow) (x : Nat) : (s.setShadow f y).byte x = s.byte x := rfl

@[simp] theorem State.setRing_pending (s : State) (p : Nat) (r : Ring) : (s.setRing p r).pending = s.pending := rfl
@[simp] theorem State.setRing_now (s : State) (p : Nat) (r : Ring) : (s.setRing p r).now = s.now := rfl
@[simp] theorem State.setRing_free (s : State) (p : Nat) (r : Ring) : (s.setRing p r).free = s.free := rfl
@[simp] theorem State.setRing_out (s : State) (p : Nat) (r : Ring) : (s.setRing p r).out = s.out := rfl
@[simp] theorem State.setRing_regs (s : State) (p : Nat) (r : Ring) : (s.setRing p r).regs = s.regs := rfl
@[simp] theorem State.setRing_shadows (s : State) (p : Nat) (r : Ring) : (s.setRing p r).shadows = s.shadows := rfl
@[simp] theorem State.setRing_sealed (s : State) (p : Nat) (r : Ring) : (s.setRing p r).sealed = s.sealed := rfl
@[simp] theorem State.setRing_debug (s : State) (p : Nat) (r : Ring) : (s.setRing p r).debug = s.debug := rfl
@[simp] theorem State.setRing_inReset (s : State) (p : Nat) (r : Ring) : (s.setRing p r).inReset = s.inReset := rfl
@[simp] theorem State.setRing_upsets (s : State) (p : Nat) (r : Ring) : (s.setRing p r).upsets = s.upsets := rfl
@[simp] theorem State.setRing_poison (s : State) (p : Nat) (r : Ring) : (s.setRing p r).poison = s.poison := rfl
@[simp] theorem State.setRing_owners (s : State) (p : Nat) (r : Ring) : (s.setRing p r).owners = s.owners := rfl
@[simp] theorem State.setRing_errq (s : State) (p : Nat) (r : Ring) : (s.setRing p r).errq = s.errq := rfl
@[simp] theorem State.setRing_fatalPend (s : State) (p : Nat) (r : Ring) : (s.setRing p r).fatalPend = s.fatalPend := rfl
@[simp] theorem State.setRing_fatalLater (s : State) (p : Nat) (r : Ring) : (s.setRing p r).fatalLater = s.fatalLater := rfl
@[simp] theorem State.setRing_fatalTick (s : State) (p : Nat) (r : Ring) : (s.setRing p r).fatalTick = s.fatalTick := rfl
@[simp] theorem State.setRing_fatalWait (s : State) (p : Nat) (r : Ring) : (s.setRing p r).fatalWait = s.fatalWait := rfl
@[simp] theorem State.setRing_raised (s : State) (p : Nat) (r : Ring) : (s.setRing p r).raised = s.raised := rfl
@[simp] theorem State.setRing_heldHeads (s : State) (p : Nat) (r : Ring) : (s.setRing p r).heldHeads = s.heldHeads := rfl
@[simp] theorem State.setRing_strays (s : State) (p : Nat) (r : Ring) : (s.setRing p r).strays = s.strays := rfl
@[simp] theorem State.setRing_strayTick (s : State) (p : Nat) (r : Ring) : (s.setRing p r).strayTick = s.strayTick := rfl
@[simp] theorem State.setRing_accs (s : State) (p : Nat) (r : Ring) : (s.setRing p r).accs = s.accs := rfl
@[simp] theorem State.setRing_blockInks (s : State) (p : Nat) (r : Ring) : (s.setRing p r).blockInks = s.blockInks := rfl
@[simp] theorem State.setRing_logFaulted (s : State) (p : Nat) (r : Ring) : (s.setRing p r).logFaulted = s.logFaulted := rfl
@[simp] theorem State.setRing_fns (s : State) (p : Nat) (r : Ring) : (s.setRing p r).fns = s.fns := rfl
@[simp] theorem State.setRing_host (s : State) (p : Nat) (r : Ring) : (s.setRing p r).host = s.host := rfl
@[simp] theorem State.setRing_parts (s : State) (p : Nat) (r : Ring) : (s.setRing p r).parts = s.parts := rfl
@[simp] theorem State.setRing_tenants (s : State) (p : Nat) (r : Ring) : (s.setRing p r).tenants = s.tenants := rfl
@[simp] theorem State.setRing_served (s : State) (p : Nat) (r : Ring) : (s.setRing p r).served = s.served := rfl
@[simp] theorem State.setRing_seqs (s : State) (p : Nat) (r : Ring) : (s.setRing p r).seqs = s.seqs := rfl
@[simp] theorem State.setRing_failing (s : State) (p : Nat) (r : Ring) : (s.setRing p r).failing = s.failing := rfl
@[simp] theorem State.setRing_fab (s : State) (p : Nat) (r : Ring) : (s.setRing p r).fab = s.fab := rfl
@[simp] theorem State.setRing_far (s : State) (p : Nat) (r : Ring) : (s.setRing p r).far = s.far := rfl
@[simp] theorem State.setRing_lnk (s : State) (p : Nat) (r : Ring) : (s.setRing p r).lnk = s.lnk := rfl
@[simp] theorem State.setRing_gens (s : State) (p : Nat) (r : Ring) : (s.setRing p r).gens = s.gens := rfl
@[simp] theorem State.setRing_issues (s : State) (p : Nat) (r : Ring) : (s.setRing p r).issues = s.issues := rfl
@[simp] theorem State.setRing_indexes (s : State) (p : Nat) (r : Ring) : (s.setRing p r).indexes = s.indexes := rfl
@[simp] theorem State.setRing_filters (s : State) (p : Nat) (r : Ring) : (s.setRing p r).filters = s.filters := rfl
@[simp] theorem State.setRing_images (s : State) (p : Nat) (r : Ring) : (s.setRing p r).images = s.images := rfl
@[simp] theorem State.setRing_pch (s : State) (p : Nat) (r : Ring) : (s.setRing p r).pch = s.pch := rfl
@[simp] theorem State.setRing_tokens (s : State) (p : Nat) (r : Ring) : (s.setRing p r).tokens = s.tokens := rfl
@[simp] theorem State.setRing_tokenDue (s : State) (p : Nat) (r : Ring) : (s.setRing p r).tokenDue = s.tokenDue := rfl
@[simp] theorem State.setRing_wcb (s : State) (p : Nat) (r : Ring) : (s.setRing p r).wcb = s.wcb := rfl
@[simp] theorem State.setRing_passes (s : State) (p : Nat) (r : Ring) : (s.setRing p r).passes = s.passes := rfl
@[simp] theorem State.setRing_hardList (s : State) (p : Nat) (r : Ring) : (s.setRing p r).hardList = s.hardList := rfl
@[simp] theorem State.setRing_decayDue (s : State) (p : Nat) (r : Ring) : (s.setRing p r).decayDue = s.decayDue := rfl
@[simp] theorem State.setRing_sosin (s : State) (p : Nat) (r : Ring) : (s.setRing p r).sosin = s.sosin := rfl
@[simp] theorem State.setRing_pwr (s : State) (p : Nat) (r : Ring) : (s.setRing p r).pwr = s.pwr := rfl
@[simp] theorem State.setRing_meter (s : State) (p : Nat) (r : Ring) : (s.setRing p r).meter = s.meter := rfl
@[simp] theorem State.setRing_mc (s : State) (p : Nat) (r : Ring) : (s.setRing p r).mc = s.mc := rfl
@[simp] theorem State.setRing_rst (s : State) (p : Nat) (r : Ring) : (s.setRing p r).rst = s.rst := rfl
@[simp] theorem State.setRing_pins (s : State) (p : Nat) (r : Ring) : (s.setRing p r).pins = s.pins := rfl
@[simp] theorem State.setRing_sweepTick (s : State) (p : Nat) (r : Ring) : (s.setRing p r).sweepTick = s.sweepTick := rfl
@[simp] theorem State.setRing_reg (s : State) (p : Nat) (r : Ring) (x : Nat) : (s.setRing p r).reg x = s.reg x := rfl
@[simp] theorem State.setRing_byte (s : State) (p : Nat) (r : Ring) (x : Nat) : (s.setRing p r).byte x = s.byte x := rfl

@[simp] theorem State.setSeq_pending (s : State) (e : Nat) (q : Sequence) : (s.setSeq e q).pending = s.pending := rfl
@[simp] theorem State.setSeq_now (s : State) (e : Nat) (q : Sequence) : (s.setSeq e q).now = s.now := rfl
@[simp] theorem State.setSeq_free (s : State) (e : Nat) (q : Sequence) : (s.setSeq e q).free = s.free := rfl
@[simp] theorem State.setSeq_out (s : State) (e : Nat) (q : Sequence) : (s.setSeq e q).out = s.out := rfl
@[simp] theorem State.setSeq_regs (s : State) (e : Nat) (q : Sequence) : (s.setSeq e q).regs = s.regs := rfl
@[simp] theorem State.setSeq_shadows (s : State) (e : Nat) (q : Sequence) : (s.setSeq e q).shadows = s.shadows := rfl
@[simp] theorem State.setSeq_sealed (s : State) (e : Nat) (q : Sequence) : (s.setSeq e q).sealed = s.sealed := rfl
@[simp] theorem State.setSeq_debug (s : State) (e : Nat) (q : Sequence) : (s.setSeq e q).debug = s.debug := rfl
@[simp] theorem State.setSeq_inReset (s : State) (e : Nat) (q : Sequence) : (s.setSeq e q).inReset = s.inReset := rfl
@[simp] theorem State.setSeq_upsets (s : State) (e : Nat) (q : Sequence) : (s.setSeq e q).upsets = s.upsets := rfl
@[simp] theorem State.setSeq_poison (s : State) (e : Nat) (q : Sequence) : (s.setSeq e q).poison = s.poison := rfl
@[simp] theorem State.setSeq_owners (s : State) (e : Nat) (q : Sequence) : (s.setSeq e q).owners = s.owners := rfl
@[simp] theorem State.setSeq_errq (s : State) (e : Nat) (q : Sequence) : (s.setSeq e q).errq = s.errq := rfl
@[simp] theorem State.setSeq_fatalPend (s : State) (e : Nat) (q : Sequence) : (s.setSeq e q).fatalPend = s.fatalPend := rfl
@[simp] theorem State.setSeq_fatalLater (s : State) (e : Nat) (q : Sequence) : (s.setSeq e q).fatalLater = s.fatalLater := rfl
@[simp] theorem State.setSeq_fatalTick (s : State) (e : Nat) (q : Sequence) : (s.setSeq e q).fatalTick = s.fatalTick := rfl
@[simp] theorem State.setSeq_fatalWait (s : State) (e : Nat) (q : Sequence) : (s.setSeq e q).fatalWait = s.fatalWait := rfl
@[simp] theorem State.setSeq_raised (s : State) (e : Nat) (q : Sequence) : (s.setSeq e q).raised = s.raised := rfl
@[simp] theorem State.setSeq_heldHeads (s : State) (e : Nat) (q : Sequence) : (s.setSeq e q).heldHeads = s.heldHeads := rfl
@[simp] theorem State.setSeq_strays (s : State) (e : Nat) (q : Sequence) : (s.setSeq e q).strays = s.strays := rfl
@[simp] theorem State.setSeq_strayTick (s : State) (e : Nat) (q : Sequence) : (s.setSeq e q).strayTick = s.strayTick := rfl
@[simp] theorem State.setSeq_accs (s : State) (e : Nat) (q : Sequence) : (s.setSeq e q).accs = s.accs := rfl
@[simp] theorem State.setSeq_blockInks (s : State) (e : Nat) (q : Sequence) : (s.setSeq e q).blockInks = s.blockInks := rfl
@[simp] theorem State.setSeq_logFaulted (s : State) (e : Nat) (q : Sequence) : (s.setSeq e q).logFaulted = s.logFaulted := rfl
@[simp] theorem State.setSeq_fns (s : State) (e : Nat) (q : Sequence) : (s.setSeq e q).fns = s.fns := rfl
@[simp] theorem State.setSeq_host (s : State) (e : Nat) (q : Sequence) : (s.setSeq e q).host = s.host := rfl
@[simp] theorem State.setSeq_parts (s : State) (e : Nat) (q : Sequence) : (s.setSeq e q).parts = s.parts := rfl
@[simp] theorem State.setSeq_tenants (s : State) (e : Nat) (q : Sequence) : (s.setSeq e q).tenants = s.tenants := rfl
@[simp] theorem State.setSeq_rings (s : State) (e : Nat) (q : Sequence) : (s.setSeq e q).rings = s.rings := rfl
@[simp] theorem State.setSeq_served (s : State) (e : Nat) (q : Sequence) : (s.setSeq e q).served = s.served := rfl
@[simp] theorem State.setSeq_failing (s : State) (e : Nat) (q : Sequence) : (s.setSeq e q).failing = s.failing := rfl
@[simp] theorem State.setSeq_fab (s : State) (e : Nat) (q : Sequence) : (s.setSeq e q).fab = s.fab := rfl
@[simp] theorem State.setSeq_far (s : State) (e : Nat) (q : Sequence) : (s.setSeq e q).far = s.far := rfl
@[simp] theorem State.setSeq_lnk (s : State) (e : Nat) (q : Sequence) : (s.setSeq e q).lnk = s.lnk := rfl
@[simp] theorem State.setSeq_gens (s : State) (e : Nat) (q : Sequence) : (s.setSeq e q).gens = s.gens := rfl
@[simp] theorem State.setSeq_issues (s : State) (e : Nat) (q : Sequence) : (s.setSeq e q).issues = s.issues := rfl
@[simp] theorem State.setSeq_indexes (s : State) (e : Nat) (q : Sequence) : (s.setSeq e q).indexes = s.indexes := rfl
@[simp] theorem State.setSeq_filters (s : State) (e : Nat) (q : Sequence) : (s.setSeq e q).filters = s.filters := rfl
@[simp] theorem State.setSeq_images (s : State) (e : Nat) (q : Sequence) : (s.setSeq e q).images = s.images := rfl
@[simp] theorem State.setSeq_pch (s : State) (e : Nat) (q : Sequence) : (s.setSeq e q).pch = s.pch := rfl
@[simp] theorem State.setSeq_tokens (s : State) (e : Nat) (q : Sequence) : (s.setSeq e q).tokens = s.tokens := rfl
@[simp] theorem State.setSeq_tokenDue (s : State) (e : Nat) (q : Sequence) : (s.setSeq e q).tokenDue = s.tokenDue := rfl
@[simp] theorem State.setSeq_wcb (s : State) (e : Nat) (q : Sequence) : (s.setSeq e q).wcb = s.wcb := rfl
@[simp] theorem State.setSeq_passes (s : State) (e : Nat) (q : Sequence) : (s.setSeq e q).passes = s.passes := rfl
@[simp] theorem State.setSeq_hardList (s : State) (e : Nat) (q : Sequence) : (s.setSeq e q).hardList = s.hardList := rfl
@[simp] theorem State.setSeq_decayDue (s : State) (e : Nat) (q : Sequence) : (s.setSeq e q).decayDue = s.decayDue := rfl
@[simp] theorem State.setSeq_sosin (s : State) (e : Nat) (q : Sequence) : (s.setSeq e q).sosin = s.sosin := rfl
@[simp] theorem State.setSeq_pwr (s : State) (e : Nat) (q : Sequence) : (s.setSeq e q).pwr = s.pwr := rfl
@[simp] theorem State.setSeq_meter (s : State) (e : Nat) (q : Sequence) : (s.setSeq e q).meter = s.meter := rfl
@[simp] theorem State.setSeq_mc (s : State) (e : Nat) (q : Sequence) : (s.setSeq e q).mc = s.mc := rfl
@[simp] theorem State.setSeq_rst (s : State) (e : Nat) (q : Sequence) : (s.setSeq e q).rst = s.rst := rfl
@[simp] theorem State.setSeq_pins (s : State) (e : Nat) (q : Sequence) : (s.setSeq e q).pins = s.pins := rfl
@[simp] theorem State.setSeq_sweepTick (s : State) (e : Nat) (q : Sequence) : (s.setSeq e q).sweepTick = s.sweepTick := rfl
@[simp] theorem State.setSeq_reg (s : State) (e : Nat) (q : Sequence) (x : Nat) : (s.setSeq e q).reg x = s.reg x := rfl
@[simp] theorem State.setSeq_byte (s : State) (e : Nat) (q : Sequence) (x : Nat) : (s.setSeq e q).byte x = s.byte x := rfl

@[simp] theorem State.dropSeq_pending (s : State) (e : Nat) : (s.dropSeq e).pending = s.pending := rfl
@[simp] theorem State.dropSeq_now (s : State) (e : Nat) : (s.dropSeq e).now = s.now := rfl
@[simp] theorem State.dropSeq_free (s : State) (e : Nat) : (s.dropSeq e).free = s.free := rfl
@[simp] theorem State.dropSeq_out (s : State) (e : Nat) : (s.dropSeq e).out = s.out := rfl
@[simp] theorem State.dropSeq_regs (s : State) (e : Nat) : (s.dropSeq e).regs = s.regs := rfl
@[simp] theorem State.dropSeq_shadows (s : State) (e : Nat) : (s.dropSeq e).shadows = s.shadows := rfl
@[simp] theorem State.dropSeq_sealed (s : State) (e : Nat) : (s.dropSeq e).sealed = s.sealed := rfl
@[simp] theorem State.dropSeq_debug (s : State) (e : Nat) : (s.dropSeq e).debug = s.debug := rfl
@[simp] theorem State.dropSeq_inReset (s : State) (e : Nat) : (s.dropSeq e).inReset = s.inReset := rfl
@[simp] theorem State.dropSeq_upsets (s : State) (e : Nat) : (s.dropSeq e).upsets = s.upsets := rfl
@[simp] theorem State.dropSeq_poison (s : State) (e : Nat) : (s.dropSeq e).poison = s.poison := rfl
@[simp] theorem State.dropSeq_owners (s : State) (e : Nat) : (s.dropSeq e).owners = s.owners := rfl
@[simp] theorem State.dropSeq_errq (s : State) (e : Nat) : (s.dropSeq e).errq = s.errq := rfl
@[simp] theorem State.dropSeq_fatalPend (s : State) (e : Nat) : (s.dropSeq e).fatalPend = s.fatalPend := rfl
@[simp] theorem State.dropSeq_fatalLater (s : State) (e : Nat) : (s.dropSeq e).fatalLater = s.fatalLater := rfl
@[simp] theorem State.dropSeq_fatalTick (s : State) (e : Nat) : (s.dropSeq e).fatalTick = s.fatalTick := rfl
@[simp] theorem State.dropSeq_fatalWait (s : State) (e : Nat) : (s.dropSeq e).fatalWait = s.fatalWait := rfl
@[simp] theorem State.dropSeq_raised (s : State) (e : Nat) : (s.dropSeq e).raised = s.raised := rfl
@[simp] theorem State.dropSeq_heldHeads (s : State) (e : Nat) : (s.dropSeq e).heldHeads = s.heldHeads := rfl
@[simp] theorem State.dropSeq_strays (s : State) (e : Nat) : (s.dropSeq e).strays = s.strays := rfl
@[simp] theorem State.dropSeq_strayTick (s : State) (e : Nat) : (s.dropSeq e).strayTick = s.strayTick := rfl
@[simp] theorem State.dropSeq_accs (s : State) (e : Nat) : (s.dropSeq e).accs = s.accs := rfl
@[simp] theorem State.dropSeq_blockInks (s : State) (e : Nat) : (s.dropSeq e).blockInks = s.blockInks := rfl
@[simp] theorem State.dropSeq_logFaulted (s : State) (e : Nat) : (s.dropSeq e).logFaulted = s.logFaulted := rfl
@[simp] theorem State.dropSeq_fns (s : State) (e : Nat) : (s.dropSeq e).fns = s.fns := rfl
@[simp] theorem State.dropSeq_host (s : State) (e : Nat) : (s.dropSeq e).host = s.host := rfl
@[simp] theorem State.dropSeq_parts (s : State) (e : Nat) : (s.dropSeq e).parts = s.parts := rfl
@[simp] theorem State.dropSeq_tenants (s : State) (e : Nat) : (s.dropSeq e).tenants = s.tenants := rfl
@[simp] theorem State.dropSeq_rings (s : State) (e : Nat) : (s.dropSeq e).rings = s.rings := rfl
@[simp] theorem State.dropSeq_served (s : State) (e : Nat) : (s.dropSeq e).served = s.served := rfl
@[simp] theorem State.dropSeq_failing (s : State) (e : Nat) : (s.dropSeq e).failing = s.failing := rfl
@[simp] theorem State.dropSeq_fab (s : State) (e : Nat) : (s.dropSeq e).fab = s.fab := rfl
@[simp] theorem State.dropSeq_far (s : State) (e : Nat) : (s.dropSeq e).far = s.far := rfl
@[simp] theorem State.dropSeq_lnk (s : State) (e : Nat) : (s.dropSeq e).lnk = s.lnk := rfl
@[simp] theorem State.dropSeq_gens (s : State) (e : Nat) : (s.dropSeq e).gens = s.gens := rfl
@[simp] theorem State.dropSeq_issues (s : State) (e : Nat) : (s.dropSeq e).issues = s.issues := rfl
@[simp] theorem State.dropSeq_indexes (s : State) (e : Nat) : (s.dropSeq e).indexes = s.indexes := rfl
@[simp] theorem State.dropSeq_filters (s : State) (e : Nat) : (s.dropSeq e).filters = s.filters := rfl
@[simp] theorem State.dropSeq_images (s : State) (e : Nat) : (s.dropSeq e).images = s.images := rfl
@[simp] theorem State.dropSeq_pch (s : State) (e : Nat) : (s.dropSeq e).pch = s.pch := rfl
@[simp] theorem State.dropSeq_tokens (s : State) (e : Nat) : (s.dropSeq e).tokens = s.tokens := rfl
@[simp] theorem State.dropSeq_tokenDue (s : State) (e : Nat) : (s.dropSeq e).tokenDue = s.tokenDue := rfl
@[simp] theorem State.dropSeq_wcb (s : State) (e : Nat) : (s.dropSeq e).wcb = s.wcb := rfl
@[simp] theorem State.dropSeq_passes (s : State) (e : Nat) : (s.dropSeq e).passes = s.passes := rfl
@[simp] theorem State.dropSeq_hardList (s : State) (e : Nat) : (s.dropSeq e).hardList = s.hardList := rfl
@[simp] theorem State.dropSeq_decayDue (s : State) (e : Nat) : (s.dropSeq e).decayDue = s.decayDue := rfl
@[simp] theorem State.dropSeq_sosin (s : State) (e : Nat) : (s.dropSeq e).sosin = s.sosin := rfl
@[simp] theorem State.dropSeq_pwr (s : State) (e : Nat) : (s.dropSeq e).pwr = s.pwr := rfl
@[simp] theorem State.dropSeq_meter (s : State) (e : Nat) : (s.dropSeq e).meter = s.meter := rfl
@[simp] theorem State.dropSeq_mc (s : State) (e : Nat) : (s.dropSeq e).mc = s.mc := rfl
@[simp] theorem State.dropSeq_rst (s : State) (e : Nat) : (s.dropSeq e).rst = s.rst := rfl
@[simp] theorem State.dropSeq_pins (s : State) (e : Nat) : (s.dropSeq e).pins = s.pins := rfl
@[simp] theorem State.dropSeq_sweepTick (s : State) (e : Nat) : (s.dropSeq e).sweepTick = s.sweepTick := rfl
@[simp] theorem State.dropSeq_reg (s : State) (e : Nat) (x : Nat) : (s.dropSeq e).reg x = s.reg x := rfl
@[simp] theorem State.dropSeq_byte (s : State) (e : Nat) (x : Nat) : (s.dropSeq e).byte x = s.byte x := rfl

@[simp] theorem State.setIndex_pending (s : State) (h : Nat) (i : Index) : (s.setIndex h i).pending = s.pending := rfl
@[simp] theorem State.setIndex_now (s : State) (h : Nat) (i : Index) : (s.setIndex h i).now = s.now := rfl
@[simp] theorem State.setIndex_free (s : State) (h : Nat) (i : Index) : (s.setIndex h i).free = s.free := rfl
@[simp] theorem State.setIndex_out (s : State) (h : Nat) (i : Index) : (s.setIndex h i).out = s.out := rfl
@[simp] theorem State.setIndex_regs (s : State) (h : Nat) (i : Index) : (s.setIndex h i).regs = s.regs := rfl
@[simp] theorem State.setIndex_shadows (s : State) (h : Nat) (i : Index) : (s.setIndex h i).shadows = s.shadows := rfl
@[simp] theorem State.setIndex_sealed (s : State) (h : Nat) (i : Index) : (s.setIndex h i).sealed = s.sealed := rfl
@[simp] theorem State.setIndex_debug (s : State) (h : Nat) (i : Index) : (s.setIndex h i).debug = s.debug := rfl
@[simp] theorem State.setIndex_inReset (s : State) (h : Nat) (i : Index) : (s.setIndex h i).inReset = s.inReset := rfl
@[simp] theorem State.setIndex_upsets (s : State) (h : Nat) (i : Index) : (s.setIndex h i).upsets = s.upsets := rfl
@[simp] theorem State.setIndex_poison (s : State) (h : Nat) (i : Index) : (s.setIndex h i).poison = s.poison := rfl
@[simp] theorem State.setIndex_owners (s : State) (h : Nat) (i : Index) : (s.setIndex h i).owners = s.owners := rfl
@[simp] theorem State.setIndex_errq (s : State) (h : Nat) (i : Index) : (s.setIndex h i).errq = s.errq := rfl
@[simp] theorem State.setIndex_fatalPend (s : State) (h : Nat) (i : Index) : (s.setIndex h i).fatalPend = s.fatalPend := rfl
@[simp] theorem State.setIndex_fatalLater (s : State) (h : Nat) (i : Index) : (s.setIndex h i).fatalLater = s.fatalLater := rfl
@[simp] theorem State.setIndex_fatalTick (s : State) (h : Nat) (i : Index) : (s.setIndex h i).fatalTick = s.fatalTick := rfl
@[simp] theorem State.setIndex_fatalWait (s : State) (h : Nat) (i : Index) : (s.setIndex h i).fatalWait = s.fatalWait := rfl
@[simp] theorem State.setIndex_raised (s : State) (h : Nat) (i : Index) : (s.setIndex h i).raised = s.raised := rfl
@[simp] theorem State.setIndex_heldHeads (s : State) (h : Nat) (i : Index) : (s.setIndex h i).heldHeads = s.heldHeads := rfl
@[simp] theorem State.setIndex_strays (s : State) (h : Nat) (i : Index) : (s.setIndex h i).strays = s.strays := rfl
@[simp] theorem State.setIndex_strayTick (s : State) (h : Nat) (i : Index) : (s.setIndex h i).strayTick = s.strayTick := rfl
@[simp] theorem State.setIndex_accs (s : State) (h : Nat) (i : Index) : (s.setIndex h i).accs = s.accs := rfl
@[simp] theorem State.setIndex_blockInks (s : State) (h : Nat) (i : Index) : (s.setIndex h i).blockInks = s.blockInks := rfl
@[simp] theorem State.setIndex_logFaulted (s : State) (h : Nat) (i : Index) : (s.setIndex h i).logFaulted = s.logFaulted := rfl
@[simp] theorem State.setIndex_fns (s : State) (h : Nat) (i : Index) : (s.setIndex h i).fns = s.fns := rfl
@[simp] theorem State.setIndex_host (s : State) (h : Nat) (i : Index) : (s.setIndex h i).host = s.host := rfl
@[simp] theorem State.setIndex_parts (s : State) (h : Nat) (i : Index) : (s.setIndex h i).parts = s.parts := rfl
@[simp] theorem State.setIndex_tenants (s : State) (h : Nat) (i : Index) : (s.setIndex h i).tenants = s.tenants := rfl
@[simp] theorem State.setIndex_rings (s : State) (h : Nat) (i : Index) : (s.setIndex h i).rings = s.rings := rfl
@[simp] theorem State.setIndex_served (s : State) (h : Nat) (i : Index) : (s.setIndex h i).served = s.served := rfl
@[simp] theorem State.setIndex_seqs (s : State) (h : Nat) (i : Index) : (s.setIndex h i).seqs = s.seqs := rfl
@[simp] theorem State.setIndex_failing (s : State) (h : Nat) (i : Index) : (s.setIndex h i).failing = s.failing := rfl
@[simp] theorem State.setIndex_fab (s : State) (h : Nat) (i : Index) : (s.setIndex h i).fab = s.fab := rfl
@[simp] theorem State.setIndex_far (s : State) (h : Nat) (i : Index) : (s.setIndex h i).far = s.far := rfl
@[simp] theorem State.setIndex_lnk (s : State) (h : Nat) (i : Index) : (s.setIndex h i).lnk = s.lnk := rfl
@[simp] theorem State.setIndex_gens (s : State) (h : Nat) (i : Index) : (s.setIndex h i).gens = s.gens := rfl
@[simp] theorem State.setIndex_issues (s : State) (h : Nat) (i : Index) : (s.setIndex h i).issues = s.issues := rfl
@[simp] theorem State.setIndex_filters (s : State) (h : Nat) (i : Index) : (s.setIndex h i).filters = s.filters := rfl
@[simp] theorem State.setIndex_images (s : State) (h : Nat) (i : Index) : (s.setIndex h i).images = s.images := rfl
@[simp] theorem State.setIndex_pch (s : State) (h : Nat) (i : Index) : (s.setIndex h i).pch = s.pch := rfl
@[simp] theorem State.setIndex_tokens (s : State) (h : Nat) (i : Index) : (s.setIndex h i).tokens = s.tokens := rfl
@[simp] theorem State.setIndex_tokenDue (s : State) (h : Nat) (i : Index) : (s.setIndex h i).tokenDue = s.tokenDue := rfl
@[simp] theorem State.setIndex_wcb (s : State) (h : Nat) (i : Index) : (s.setIndex h i).wcb = s.wcb := rfl
@[simp] theorem State.setIndex_passes (s : State) (h : Nat) (i : Index) : (s.setIndex h i).passes = s.passes := rfl
@[simp] theorem State.setIndex_hardList (s : State) (h : Nat) (i : Index) : (s.setIndex h i).hardList = s.hardList := rfl
@[simp] theorem State.setIndex_decayDue (s : State) (h : Nat) (i : Index) : (s.setIndex h i).decayDue = s.decayDue := rfl
@[simp] theorem State.setIndex_sosin (s : State) (h : Nat) (i : Index) : (s.setIndex h i).sosin = s.sosin := rfl
@[simp] theorem State.setIndex_pwr (s : State) (h : Nat) (i : Index) : (s.setIndex h i).pwr = s.pwr := rfl
@[simp] theorem State.setIndex_meter (s : State) (h : Nat) (i : Index) : (s.setIndex h i).meter = s.meter := rfl
@[simp] theorem State.setIndex_mc (s : State) (h : Nat) (i : Index) : (s.setIndex h i).mc = s.mc := rfl
@[simp] theorem State.setIndex_rst (s : State) (h : Nat) (i : Index) : (s.setIndex h i).rst = s.rst := rfl
@[simp] theorem State.setIndex_pins (s : State) (h : Nat) (i : Index) : (s.setIndex h i).pins = s.pins := rfl
@[simp] theorem State.setIndex_sweepTick (s : State) (h : Nat) (i : Index) : (s.setIndex h i).sweepTick = s.sweepTick := rfl
@[simp] theorem State.setIndex_reg (s : State) (h : Nat) (i : Index) (x : Nat) : (s.setIndex h i).reg x = s.reg x := rfl
@[simp] theorem State.setIndex_byte (s : State) (h : Nat) (i : Index) (x : Nat) : (s.setIndex h i).byte x = s.byte x := rfl

@[simp] theorem State.setFilter_pending (s : State) (h : Nat) (f : Filter) : (s.setFilter h f).pending = s.pending := rfl
@[simp] theorem State.setFilter_now (s : State) (h : Nat) (f : Filter) : (s.setFilter h f).now = s.now := rfl
@[simp] theorem State.setFilter_free (s : State) (h : Nat) (f : Filter) : (s.setFilter h f).free = s.free := rfl
@[simp] theorem State.setFilter_out (s : State) (h : Nat) (f : Filter) : (s.setFilter h f).out = s.out := rfl
@[simp] theorem State.setFilter_regs (s : State) (h : Nat) (f : Filter) : (s.setFilter h f).regs = s.regs := rfl
@[simp] theorem State.setFilter_shadows (s : State) (h : Nat) (f : Filter) : (s.setFilter h f).shadows = s.shadows := rfl
@[simp] theorem State.setFilter_sealed (s : State) (h : Nat) (f : Filter) : (s.setFilter h f).sealed = s.sealed := rfl
@[simp] theorem State.setFilter_debug (s : State) (h : Nat) (f : Filter) : (s.setFilter h f).debug = s.debug := rfl
@[simp] theorem State.setFilter_inReset (s : State) (h : Nat) (f : Filter) : (s.setFilter h f).inReset = s.inReset := rfl
@[simp] theorem State.setFilter_upsets (s : State) (h : Nat) (f : Filter) : (s.setFilter h f).upsets = s.upsets := rfl
@[simp] theorem State.setFilter_poison (s : State) (h : Nat) (f : Filter) : (s.setFilter h f).poison = s.poison := rfl
@[simp] theorem State.setFilter_owners (s : State) (h : Nat) (f : Filter) : (s.setFilter h f).owners = s.owners := rfl
@[simp] theorem State.setFilter_errq (s : State) (h : Nat) (f : Filter) : (s.setFilter h f).errq = s.errq := rfl
@[simp] theorem State.setFilter_fatalPend (s : State) (h : Nat) (f : Filter) : (s.setFilter h f).fatalPend = s.fatalPend := rfl
@[simp] theorem State.setFilter_fatalLater (s : State) (h : Nat) (f : Filter) : (s.setFilter h f).fatalLater = s.fatalLater := rfl
@[simp] theorem State.setFilter_fatalTick (s : State) (h : Nat) (f : Filter) : (s.setFilter h f).fatalTick = s.fatalTick := rfl
@[simp] theorem State.setFilter_fatalWait (s : State) (h : Nat) (f : Filter) : (s.setFilter h f).fatalWait = s.fatalWait := rfl
@[simp] theorem State.setFilter_raised (s : State) (h : Nat) (f : Filter) : (s.setFilter h f).raised = s.raised := rfl
@[simp] theorem State.setFilter_heldHeads (s : State) (h : Nat) (f : Filter) : (s.setFilter h f).heldHeads = s.heldHeads := rfl
@[simp] theorem State.setFilter_strays (s : State) (h : Nat) (f : Filter) : (s.setFilter h f).strays = s.strays := rfl
@[simp] theorem State.setFilter_strayTick (s : State) (h : Nat) (f : Filter) : (s.setFilter h f).strayTick = s.strayTick := rfl
@[simp] theorem State.setFilter_accs (s : State) (h : Nat) (f : Filter) : (s.setFilter h f).accs = s.accs := rfl
@[simp] theorem State.setFilter_blockInks (s : State) (h : Nat) (f : Filter) : (s.setFilter h f).blockInks = s.blockInks := rfl
@[simp] theorem State.setFilter_logFaulted (s : State) (h : Nat) (f : Filter) : (s.setFilter h f).logFaulted = s.logFaulted := rfl
@[simp] theorem State.setFilter_fns (s : State) (h : Nat) (f : Filter) : (s.setFilter h f).fns = s.fns := rfl
@[simp] theorem State.setFilter_host (s : State) (h : Nat) (f : Filter) : (s.setFilter h f).host = s.host := rfl
@[simp] theorem State.setFilter_parts (s : State) (h : Nat) (f : Filter) : (s.setFilter h f).parts = s.parts := rfl
@[simp] theorem State.setFilter_tenants (s : State) (h : Nat) (f : Filter) : (s.setFilter h f).tenants = s.tenants := rfl
@[simp] theorem State.setFilter_rings (s : State) (h : Nat) (f : Filter) : (s.setFilter h f).rings = s.rings := rfl
@[simp] theorem State.setFilter_served (s : State) (h : Nat) (f : Filter) : (s.setFilter h f).served = s.served := rfl
@[simp] theorem State.setFilter_seqs (s : State) (h : Nat) (f : Filter) : (s.setFilter h f).seqs = s.seqs := rfl
@[simp] theorem State.setFilter_failing (s : State) (h : Nat) (f : Filter) : (s.setFilter h f).failing = s.failing := rfl
@[simp] theorem State.setFilter_fab (s : State) (h : Nat) (f : Filter) : (s.setFilter h f).fab = s.fab := rfl
@[simp] theorem State.setFilter_far (s : State) (h : Nat) (f : Filter) : (s.setFilter h f).far = s.far := rfl
@[simp] theorem State.setFilter_lnk (s : State) (h : Nat) (f : Filter) : (s.setFilter h f).lnk = s.lnk := rfl
@[simp] theorem State.setFilter_gens (s : State) (h : Nat) (f : Filter) : (s.setFilter h f).gens = s.gens := rfl
@[simp] theorem State.setFilter_issues (s : State) (h : Nat) (f : Filter) : (s.setFilter h f).issues = s.issues := rfl
@[simp] theorem State.setFilter_indexes (s : State) (h : Nat) (f : Filter) : (s.setFilter h f).indexes = s.indexes := rfl
@[simp] theorem State.setFilter_images (s : State) (h : Nat) (f : Filter) : (s.setFilter h f).images = s.images := rfl
@[simp] theorem State.setFilter_pch (s : State) (h : Nat) (f : Filter) : (s.setFilter h f).pch = s.pch := rfl
@[simp] theorem State.setFilter_tokens (s : State) (h : Nat) (f : Filter) : (s.setFilter h f).tokens = s.tokens := rfl
@[simp] theorem State.setFilter_tokenDue (s : State) (h : Nat) (f : Filter) : (s.setFilter h f).tokenDue = s.tokenDue := rfl
@[simp] theorem State.setFilter_wcb (s : State) (h : Nat) (f : Filter) : (s.setFilter h f).wcb = s.wcb := rfl
@[simp] theorem State.setFilter_passes (s : State) (h : Nat) (f : Filter) : (s.setFilter h f).passes = s.passes := rfl
@[simp] theorem State.setFilter_hardList (s : State) (h : Nat) (f : Filter) : (s.setFilter h f).hardList = s.hardList := rfl
@[simp] theorem State.setFilter_decayDue (s : State) (h : Nat) (f : Filter) : (s.setFilter h f).decayDue = s.decayDue := rfl
@[simp] theorem State.setFilter_sosin (s : State) (h : Nat) (f : Filter) : (s.setFilter h f).sosin = s.sosin := rfl
@[simp] theorem State.setFilter_pwr (s : State) (h : Nat) (f : Filter) : (s.setFilter h f).pwr = s.pwr := rfl
@[simp] theorem State.setFilter_meter (s : State) (h : Nat) (f : Filter) : (s.setFilter h f).meter = s.meter := rfl
@[simp] theorem State.setFilter_mc (s : State) (h : Nat) (f : Filter) : (s.setFilter h f).mc = s.mc := rfl
@[simp] theorem State.setFilter_rst (s : State) (h : Nat) (f : Filter) : (s.setFilter h f).rst = s.rst := rfl
@[simp] theorem State.setFilter_pins (s : State) (h : Nat) (f : Filter) : (s.setFilter h f).pins = s.pins := rfl
@[simp] theorem State.setFilter_sweepTick (s : State) (h : Nat) (f : Filter) : (s.setFilter h f).sweepTick = s.sweepTick := rfl
@[simp] theorem State.setFilter_reg (s : State) (h : Nat) (f : Filter) (x : Nat) : (s.setFilter h f).reg x = s.reg x := rfl
@[simp] theorem State.setFilter_byte (s : State) (h : Nat) (f : Filter) (x : Nat) : (s.setFilter h f).byte x = s.byte x := rfl

@[simp] theorem State.setImage_pending (s : State) (h : Nat) (i : Image) : (s.setImage h i).pending = s.pending := rfl
@[simp] theorem State.setImage_now (s : State) (h : Nat) (i : Image) : (s.setImage h i).now = s.now := rfl
@[simp] theorem State.setImage_free (s : State) (h : Nat) (i : Image) : (s.setImage h i).free = s.free := rfl
@[simp] theorem State.setImage_out (s : State) (h : Nat) (i : Image) : (s.setImage h i).out = s.out := rfl
@[simp] theorem State.setImage_regs (s : State) (h : Nat) (i : Image) : (s.setImage h i).regs = s.regs := rfl
@[simp] theorem State.setImage_shadows (s : State) (h : Nat) (i : Image) : (s.setImage h i).shadows = s.shadows := rfl
@[simp] theorem State.setImage_sealed (s : State) (h : Nat) (i : Image) : (s.setImage h i).sealed = s.sealed := rfl
@[simp] theorem State.setImage_debug (s : State) (h : Nat) (i : Image) : (s.setImage h i).debug = s.debug := rfl
@[simp] theorem State.setImage_inReset (s : State) (h : Nat) (i : Image) : (s.setImage h i).inReset = s.inReset := rfl
@[simp] theorem State.setImage_upsets (s : State) (h : Nat) (i : Image) : (s.setImage h i).upsets = s.upsets := rfl
@[simp] theorem State.setImage_poison (s : State) (h : Nat) (i : Image) : (s.setImage h i).poison = s.poison := rfl
@[simp] theorem State.setImage_owners (s : State) (h : Nat) (i : Image) : (s.setImage h i).owners = s.owners := rfl
@[simp] theorem State.setImage_errq (s : State) (h : Nat) (i : Image) : (s.setImage h i).errq = s.errq := rfl
@[simp] theorem State.setImage_fatalPend (s : State) (h : Nat) (i : Image) : (s.setImage h i).fatalPend = s.fatalPend := rfl
@[simp] theorem State.setImage_fatalLater (s : State) (h : Nat) (i : Image) : (s.setImage h i).fatalLater = s.fatalLater := rfl
@[simp] theorem State.setImage_fatalTick (s : State) (h : Nat) (i : Image) : (s.setImage h i).fatalTick = s.fatalTick := rfl
@[simp] theorem State.setImage_fatalWait (s : State) (h : Nat) (i : Image) : (s.setImage h i).fatalWait = s.fatalWait := rfl
@[simp] theorem State.setImage_raised (s : State) (h : Nat) (i : Image) : (s.setImage h i).raised = s.raised := rfl
@[simp] theorem State.setImage_heldHeads (s : State) (h : Nat) (i : Image) : (s.setImage h i).heldHeads = s.heldHeads := rfl
@[simp] theorem State.setImage_strays (s : State) (h : Nat) (i : Image) : (s.setImage h i).strays = s.strays := rfl
@[simp] theorem State.setImage_strayTick (s : State) (h : Nat) (i : Image) : (s.setImage h i).strayTick = s.strayTick := rfl
@[simp] theorem State.setImage_accs (s : State) (h : Nat) (i : Image) : (s.setImage h i).accs = s.accs := rfl
@[simp] theorem State.setImage_blockInks (s : State) (h : Nat) (i : Image) : (s.setImage h i).blockInks = s.blockInks := rfl
@[simp] theorem State.setImage_logFaulted (s : State) (h : Nat) (i : Image) : (s.setImage h i).logFaulted = s.logFaulted := rfl
@[simp] theorem State.setImage_fns (s : State) (h : Nat) (i : Image) : (s.setImage h i).fns = s.fns := rfl
@[simp] theorem State.setImage_host (s : State) (h : Nat) (i : Image) : (s.setImage h i).host = s.host := rfl
@[simp] theorem State.setImage_parts (s : State) (h : Nat) (i : Image) : (s.setImage h i).parts = s.parts := rfl
@[simp] theorem State.setImage_tenants (s : State) (h : Nat) (i : Image) : (s.setImage h i).tenants = s.tenants := rfl
@[simp] theorem State.setImage_rings (s : State) (h : Nat) (i : Image) : (s.setImage h i).rings = s.rings := rfl
@[simp] theorem State.setImage_served (s : State) (h : Nat) (i : Image) : (s.setImage h i).served = s.served := rfl
@[simp] theorem State.setImage_seqs (s : State) (h : Nat) (i : Image) : (s.setImage h i).seqs = s.seqs := rfl
@[simp] theorem State.setImage_failing (s : State) (h : Nat) (i : Image) : (s.setImage h i).failing = s.failing := rfl
@[simp] theorem State.setImage_fab (s : State) (h : Nat) (i : Image) : (s.setImage h i).fab = s.fab := rfl
@[simp] theorem State.setImage_far (s : State) (h : Nat) (i : Image) : (s.setImage h i).far = s.far := rfl
@[simp] theorem State.setImage_lnk (s : State) (h : Nat) (i : Image) : (s.setImage h i).lnk = s.lnk := rfl
@[simp] theorem State.setImage_gens (s : State) (h : Nat) (i : Image) : (s.setImage h i).gens = s.gens := rfl
@[simp] theorem State.setImage_issues (s : State) (h : Nat) (i : Image) : (s.setImage h i).issues = s.issues := rfl
@[simp] theorem State.setImage_indexes (s : State) (h : Nat) (i : Image) : (s.setImage h i).indexes = s.indexes := rfl
@[simp] theorem State.setImage_filters (s : State) (h : Nat) (i : Image) : (s.setImage h i).filters = s.filters := rfl
@[simp] theorem State.setImage_pch (s : State) (h : Nat) (i : Image) : (s.setImage h i).pch = s.pch := rfl
@[simp] theorem State.setImage_tokens (s : State) (h : Nat) (i : Image) : (s.setImage h i).tokens = s.tokens := rfl
@[simp] theorem State.setImage_tokenDue (s : State) (h : Nat) (i : Image) : (s.setImage h i).tokenDue = s.tokenDue := rfl
@[simp] theorem State.setImage_wcb (s : State) (h : Nat) (i : Image) : (s.setImage h i).wcb = s.wcb := rfl
@[simp] theorem State.setImage_passes (s : State) (h : Nat) (i : Image) : (s.setImage h i).passes = s.passes := rfl
@[simp] theorem State.setImage_hardList (s : State) (h : Nat) (i : Image) : (s.setImage h i).hardList = s.hardList := rfl
@[simp] theorem State.setImage_decayDue (s : State) (h : Nat) (i : Image) : (s.setImage h i).decayDue = s.decayDue := rfl
@[simp] theorem State.setImage_sosin (s : State) (h : Nat) (i : Image) : (s.setImage h i).sosin = s.sosin := rfl
@[simp] theorem State.setImage_pwr (s : State) (h : Nat) (i : Image) : (s.setImage h i).pwr = s.pwr := rfl
@[simp] theorem State.setImage_meter (s : State) (h : Nat) (i : Image) : (s.setImage h i).meter = s.meter := rfl
@[simp] theorem State.setImage_mc (s : State) (h : Nat) (i : Image) : (s.setImage h i).mc = s.mc := rfl
@[simp] theorem State.setImage_rst (s : State) (h : Nat) (i : Image) : (s.setImage h i).rst = s.rst := rfl
@[simp] theorem State.setImage_pins (s : State) (h : Nat) (i : Image) : (s.setImage h i).pins = s.pins := rfl
@[simp] theorem State.setImage_sweepTick (s : State) (h : Nat) (i : Image) : (s.setImage h i).sweepTick = s.sweepTick := rfl
@[simp] theorem State.setImage_reg (s : State) (h : Nat) (i : Image) (x : Nat) : (s.setImage h i).reg x = s.reg x := rfl
@[simp] theorem State.setImage_byte (s : State) (h : Nat) (i : Image) (x : Nat) : (s.setImage h i).byte x = s.byte x := rfl

@[simp] theorem State.setTenant_pending (s : State) (v : Nat) (t : Tenant) : (s.setTenant v t).pending = s.pending := rfl
@[simp] theorem State.setTenant_now (s : State) (v : Nat) (t : Tenant) : (s.setTenant v t).now = s.now := rfl
@[simp] theorem State.setTenant_free (s : State) (v : Nat) (t : Tenant) : (s.setTenant v t).free = s.free := rfl
@[simp] theorem State.setTenant_out (s : State) (v : Nat) (t : Tenant) : (s.setTenant v t).out = s.out := rfl
@[simp] theorem State.setTenant_regs (s : State) (v : Nat) (t : Tenant) : (s.setTenant v t).regs = s.regs := rfl
@[simp] theorem State.setTenant_shadows (s : State) (v : Nat) (t : Tenant) : (s.setTenant v t).shadows = s.shadows := rfl
@[simp] theorem State.setTenant_sealed (s : State) (v : Nat) (t : Tenant) : (s.setTenant v t).sealed = s.sealed := rfl
@[simp] theorem State.setTenant_debug (s : State) (v : Nat) (t : Tenant) : (s.setTenant v t).debug = s.debug := rfl
@[simp] theorem State.setTenant_inReset (s : State) (v : Nat) (t : Tenant) : (s.setTenant v t).inReset = s.inReset := rfl
@[simp] theorem State.setTenant_upsets (s : State) (v : Nat) (t : Tenant) : (s.setTenant v t).upsets = s.upsets := rfl
@[simp] theorem State.setTenant_poison (s : State) (v : Nat) (t : Tenant) : (s.setTenant v t).poison = s.poison := rfl
@[simp] theorem State.setTenant_owners (s : State) (v : Nat) (t : Tenant) : (s.setTenant v t).owners = s.owners := rfl
@[simp] theorem State.setTenant_errq (s : State) (v : Nat) (t : Tenant) : (s.setTenant v t).errq = s.errq := rfl
@[simp] theorem State.setTenant_fatalPend (s : State) (v : Nat) (t : Tenant) : (s.setTenant v t).fatalPend = s.fatalPend := rfl
@[simp] theorem State.setTenant_fatalLater (s : State) (v : Nat) (t : Tenant) : (s.setTenant v t).fatalLater = s.fatalLater := rfl
@[simp] theorem State.setTenant_fatalTick (s : State) (v : Nat) (t : Tenant) : (s.setTenant v t).fatalTick = s.fatalTick := rfl
@[simp] theorem State.setTenant_fatalWait (s : State) (v : Nat) (t : Tenant) : (s.setTenant v t).fatalWait = s.fatalWait := rfl
@[simp] theorem State.setTenant_raised (s : State) (v : Nat) (t : Tenant) : (s.setTenant v t).raised = s.raised := rfl
@[simp] theorem State.setTenant_heldHeads (s : State) (v : Nat) (t : Tenant) : (s.setTenant v t).heldHeads = s.heldHeads := rfl
@[simp] theorem State.setTenant_strays (s : State) (v : Nat) (t : Tenant) : (s.setTenant v t).strays = s.strays := rfl
@[simp] theorem State.setTenant_strayTick (s : State) (v : Nat) (t : Tenant) : (s.setTenant v t).strayTick = s.strayTick := rfl
@[simp] theorem State.setTenant_accs (s : State) (v : Nat) (t : Tenant) : (s.setTenant v t).accs = s.accs := rfl
@[simp] theorem State.setTenant_blockInks (s : State) (v : Nat) (t : Tenant) : (s.setTenant v t).blockInks = s.blockInks := rfl
@[simp] theorem State.setTenant_logFaulted (s : State) (v : Nat) (t : Tenant) : (s.setTenant v t).logFaulted = s.logFaulted := rfl
@[simp] theorem State.setTenant_fns (s : State) (v : Nat) (t : Tenant) : (s.setTenant v t).fns = s.fns := rfl
@[simp] theorem State.setTenant_host (s : State) (v : Nat) (t : Tenant) : (s.setTenant v t).host = s.host := rfl
@[simp] theorem State.setTenant_parts (s : State) (v : Nat) (t : Tenant) : (s.setTenant v t).parts = s.parts := rfl
@[simp] theorem State.setTenant_rings (s : State) (v : Nat) (t : Tenant) : (s.setTenant v t).rings = s.rings := rfl
@[simp] theorem State.setTenant_served (s : State) (v : Nat) (t : Tenant) : (s.setTenant v t).served = s.served := rfl
@[simp] theorem State.setTenant_seqs (s : State) (v : Nat) (t : Tenant) : (s.setTenant v t).seqs = s.seqs := rfl
@[simp] theorem State.setTenant_failing (s : State) (v : Nat) (t : Tenant) : (s.setTenant v t).failing = s.failing := rfl
@[simp] theorem State.setTenant_fab (s : State) (v : Nat) (t : Tenant) : (s.setTenant v t).fab = s.fab := rfl
@[simp] theorem State.setTenant_far (s : State) (v : Nat) (t : Tenant) : (s.setTenant v t).far = s.far := rfl
@[simp] theorem State.setTenant_lnk (s : State) (v : Nat) (t : Tenant) : (s.setTenant v t).lnk = s.lnk := rfl
@[simp] theorem State.setTenant_gens (s : State) (v : Nat) (t : Tenant) : (s.setTenant v t).gens = s.gens := rfl
@[simp] theorem State.setTenant_issues (s : State) (v : Nat) (t : Tenant) : (s.setTenant v t).issues = s.issues := rfl
@[simp] theorem State.setTenant_indexes (s : State) (v : Nat) (t : Tenant) : (s.setTenant v t).indexes = s.indexes := rfl
@[simp] theorem State.setTenant_filters (s : State) (v : Nat) (t : Tenant) : (s.setTenant v t).filters = s.filters := rfl
@[simp] theorem State.setTenant_images (s : State) (v : Nat) (t : Tenant) : (s.setTenant v t).images = s.images := rfl
@[simp] theorem State.setTenant_pch (s : State) (v : Nat) (t : Tenant) : (s.setTenant v t).pch = s.pch := rfl
@[simp] theorem State.setTenant_tokens (s : State) (v : Nat) (t : Tenant) : (s.setTenant v t).tokens = s.tokens := rfl
@[simp] theorem State.setTenant_tokenDue (s : State) (v : Nat) (t : Tenant) : (s.setTenant v t).tokenDue = s.tokenDue := rfl
@[simp] theorem State.setTenant_wcb (s : State) (v : Nat) (t : Tenant) : (s.setTenant v t).wcb = s.wcb := rfl
@[simp] theorem State.setTenant_passes (s : State) (v : Nat) (t : Tenant) : (s.setTenant v t).passes = s.passes := rfl
@[simp] theorem State.setTenant_hardList (s : State) (v : Nat) (t : Tenant) : (s.setTenant v t).hardList = s.hardList := rfl
@[simp] theorem State.setTenant_decayDue (s : State) (v : Nat) (t : Tenant) : (s.setTenant v t).decayDue = s.decayDue := rfl
@[simp] theorem State.setTenant_sosin (s : State) (v : Nat) (t : Tenant) : (s.setTenant v t).sosin = s.sosin := rfl
@[simp] theorem State.setTenant_pwr (s : State) (v : Nat) (t : Tenant) : (s.setTenant v t).pwr = s.pwr := rfl
@[simp] theorem State.setTenant_meter (s : State) (v : Nat) (t : Tenant) : (s.setTenant v t).meter = s.meter := rfl
@[simp] theorem State.setTenant_mc (s : State) (v : Nat) (t : Tenant) : (s.setTenant v t).mc = s.mc := rfl
@[simp] theorem State.setTenant_rst (s : State) (v : Nat) (t : Tenant) : (s.setTenant v t).rst = s.rst := rfl
@[simp] theorem State.setTenant_pins (s : State) (v : Nat) (t : Tenant) : (s.setTenant v t).pins = s.pins := rfl
@[simp] theorem State.setTenant_sweepTick (s : State) (v : Nat) (t : Tenant) : (s.setTenant v t).sweepTick = s.sweepTick := rfl
@[simp] theorem State.setTenant_reg (s : State) (v : Nat) (t : Tenant) (x : Nat) : (s.setTenant v t).reg x = s.reg x := rfl
@[simp] theorem State.setTenant_byte (s : State) (v : Nat) (t : Tenant) (x : Nat) : (s.setTenant v t).byte x = s.byte x := rfl

@[simp] theorem State.setPart_pending (s : State) (p : Nat) (x : Partition) : (s.setPart p x).pending = s.pending := rfl
@[simp] theorem State.setPart_now (s : State) (p : Nat) (x : Partition) : (s.setPart p x).now = s.now := rfl
@[simp] theorem State.setPart_free (s : State) (p : Nat) (x : Partition) : (s.setPart p x).free = s.free := rfl
@[simp] theorem State.setPart_out (s : State) (p : Nat) (x : Partition) : (s.setPart p x).out = s.out := rfl
@[simp] theorem State.setPart_regs (s : State) (p : Nat) (x : Partition) : (s.setPart p x).regs = s.regs := rfl
@[simp] theorem State.setPart_shadows (s : State) (p : Nat) (x : Partition) : (s.setPart p x).shadows = s.shadows := rfl
@[simp] theorem State.setPart_sealed (s : State) (p : Nat) (x : Partition) : (s.setPart p x).sealed = s.sealed := rfl
@[simp] theorem State.setPart_debug (s : State) (p : Nat) (x : Partition) : (s.setPart p x).debug = s.debug := rfl
@[simp] theorem State.setPart_inReset (s : State) (p : Nat) (x : Partition) : (s.setPart p x).inReset = s.inReset := rfl
@[simp] theorem State.setPart_upsets (s : State) (p : Nat) (x : Partition) : (s.setPart p x).upsets = s.upsets := rfl
@[simp] theorem State.setPart_poison (s : State) (p : Nat) (x : Partition) : (s.setPart p x).poison = s.poison := rfl
@[simp] theorem State.setPart_owners (s : State) (p : Nat) (x : Partition) : (s.setPart p x).owners = s.owners := rfl
@[simp] theorem State.setPart_errq (s : State) (p : Nat) (x : Partition) : (s.setPart p x).errq = s.errq := rfl
@[simp] theorem State.setPart_fatalPend (s : State) (p : Nat) (x : Partition) : (s.setPart p x).fatalPend = s.fatalPend := rfl
@[simp] theorem State.setPart_fatalLater (s : State) (p : Nat) (x : Partition) : (s.setPart p x).fatalLater = s.fatalLater := rfl
@[simp] theorem State.setPart_fatalTick (s : State) (p : Nat) (x : Partition) : (s.setPart p x).fatalTick = s.fatalTick := rfl
@[simp] theorem State.setPart_fatalWait (s : State) (p : Nat) (x : Partition) : (s.setPart p x).fatalWait = s.fatalWait := rfl
@[simp] theorem State.setPart_raised (s : State) (p : Nat) (x : Partition) : (s.setPart p x).raised = s.raised := rfl
@[simp] theorem State.setPart_heldHeads (s : State) (p : Nat) (x : Partition) : (s.setPart p x).heldHeads = s.heldHeads := rfl
@[simp] theorem State.setPart_strays (s : State) (p : Nat) (x : Partition) : (s.setPart p x).strays = s.strays := rfl
@[simp] theorem State.setPart_strayTick (s : State) (p : Nat) (x : Partition) : (s.setPart p x).strayTick = s.strayTick := rfl
@[simp] theorem State.setPart_accs (s : State) (p : Nat) (x : Partition) : (s.setPart p x).accs = s.accs := rfl
@[simp] theorem State.setPart_blockInks (s : State) (p : Nat) (x : Partition) : (s.setPart p x).blockInks = s.blockInks := rfl
@[simp] theorem State.setPart_logFaulted (s : State) (p : Nat) (x : Partition) : (s.setPart p x).logFaulted = s.logFaulted := rfl
@[simp] theorem State.setPart_fns (s : State) (p : Nat) (x : Partition) : (s.setPart p x).fns = s.fns := rfl
@[simp] theorem State.setPart_host (s : State) (p : Nat) (x : Partition) : (s.setPart p x).host = s.host := rfl
@[simp] theorem State.setPart_tenants (s : State) (p : Nat) (x : Partition) : (s.setPart p x).tenants = s.tenants := rfl
@[simp] theorem State.setPart_rings (s : State) (p : Nat) (x : Partition) : (s.setPart p x).rings = s.rings := rfl
@[simp] theorem State.setPart_served (s : State) (p : Nat) (x : Partition) : (s.setPart p x).served = s.served := rfl
@[simp] theorem State.setPart_seqs (s : State) (p : Nat) (x : Partition) : (s.setPart p x).seqs = s.seqs := rfl
@[simp] theorem State.setPart_failing (s : State) (p : Nat) (x : Partition) : (s.setPart p x).failing = s.failing := rfl
@[simp] theorem State.setPart_fab (s : State) (p : Nat) (x : Partition) : (s.setPart p x).fab = s.fab := rfl
@[simp] theorem State.setPart_far (s : State) (p : Nat) (x : Partition) : (s.setPart p x).far = s.far := rfl
@[simp] theorem State.setPart_lnk (s : State) (p : Nat) (x : Partition) : (s.setPart p x).lnk = s.lnk := rfl
@[simp] theorem State.setPart_gens (s : State) (p : Nat) (x : Partition) : (s.setPart p x).gens = s.gens := rfl
@[simp] theorem State.setPart_issues (s : State) (p : Nat) (x : Partition) : (s.setPart p x).issues = s.issues := rfl
@[simp] theorem State.setPart_indexes (s : State) (p : Nat) (x : Partition) : (s.setPart p x).indexes = s.indexes := rfl
@[simp] theorem State.setPart_filters (s : State) (p : Nat) (x : Partition) : (s.setPart p x).filters = s.filters := rfl
@[simp] theorem State.setPart_images (s : State) (p : Nat) (x : Partition) : (s.setPart p x).images = s.images := rfl
@[simp] theorem State.setPart_pch (s : State) (p : Nat) (x : Partition) : (s.setPart p x).pch = s.pch := rfl
@[simp] theorem State.setPart_tokens (s : State) (p : Nat) (x : Partition) : (s.setPart p x).tokens = s.tokens := rfl
@[simp] theorem State.setPart_tokenDue (s : State) (p : Nat) (x : Partition) : (s.setPart p x).tokenDue = s.tokenDue := rfl
@[simp] theorem State.setPart_wcb (s : State) (p : Nat) (x : Partition) : (s.setPart p x).wcb = s.wcb := rfl
@[simp] theorem State.setPart_passes (s : State) (p : Nat) (x : Partition) : (s.setPart p x).passes = s.passes := rfl
@[simp] theorem State.setPart_hardList (s : State) (p : Nat) (x : Partition) : (s.setPart p x).hardList = s.hardList := rfl
@[simp] theorem State.setPart_decayDue (s : State) (p : Nat) (x : Partition) : (s.setPart p x).decayDue = s.decayDue := rfl
@[simp] theorem State.setPart_sosin (s : State) (p : Nat) (x : Partition) : (s.setPart p x).sosin = s.sosin := rfl
@[simp] theorem State.setPart_pwr (s : State) (p : Nat) (x : Partition) : (s.setPart p x).pwr = s.pwr := rfl
@[simp] theorem State.setPart_meter (s : State) (p : Nat) (x : Partition) : (s.setPart p x).meter = s.meter := rfl
@[simp] theorem State.setPart_mc (s : State) (p : Nat) (x : Partition) : (s.setPart p x).mc = s.mc := rfl
@[simp] theorem State.setPart_rst (s : State) (p : Nat) (x : Partition) : (s.setPart p x).rst = s.rst := rfl
@[simp] theorem State.setPart_pins (s : State) (p : Nat) (x : Partition) : (s.setPart p x).pins = s.pins := rfl
@[simp] theorem State.setPart_sweepTick (s : State) (p : Nat) (x : Partition) : (s.setPart p x).sweepTick = s.sweepTick := rfl
@[simp] theorem State.setPart_reg (s : State) (p : Nat) (y : Partition) (x : Nat) : (s.setPart p y).reg x = s.reg x := rfl
@[simp] theorem State.setPart_byte (s : State) (p : Nat) (y : Partition) (x : Nat) : (s.setPart p y).byte x = s.byte x := rfl

@[simp] theorem State.setFn_pending (s : State) (f : Nat) (x : FnState) : (s.setFn f x).pending = s.pending := rfl
@[simp] theorem State.setFn_now (s : State) (f : Nat) (x : FnState) : (s.setFn f x).now = s.now := rfl
@[simp] theorem State.setFn_free (s : State) (f : Nat) (x : FnState) : (s.setFn f x).free = s.free := rfl
@[simp] theorem State.setFn_out (s : State) (f : Nat) (x : FnState) : (s.setFn f x).out = s.out := rfl
@[simp] theorem State.setFn_regs (s : State) (f : Nat) (x : FnState) : (s.setFn f x).regs = s.regs := rfl
@[simp] theorem State.setFn_shadows (s : State) (f : Nat) (x : FnState) : (s.setFn f x).shadows = s.shadows := rfl
@[simp] theorem State.setFn_sealed (s : State) (f : Nat) (x : FnState) : (s.setFn f x).sealed = s.sealed := rfl
@[simp] theorem State.setFn_debug (s : State) (f : Nat) (x : FnState) : (s.setFn f x).debug = s.debug := rfl
@[simp] theorem State.setFn_inReset (s : State) (f : Nat) (x : FnState) : (s.setFn f x).inReset = s.inReset := rfl
@[simp] theorem State.setFn_upsets (s : State) (f : Nat) (x : FnState) : (s.setFn f x).upsets = s.upsets := rfl
@[simp] theorem State.setFn_poison (s : State) (f : Nat) (x : FnState) : (s.setFn f x).poison = s.poison := rfl
@[simp] theorem State.setFn_owners (s : State) (f : Nat) (x : FnState) : (s.setFn f x).owners = s.owners := rfl
@[simp] theorem State.setFn_errq (s : State) (f : Nat) (x : FnState) : (s.setFn f x).errq = s.errq := rfl
@[simp] theorem State.setFn_fatalPend (s : State) (f : Nat) (x : FnState) : (s.setFn f x).fatalPend = s.fatalPend := rfl
@[simp] theorem State.setFn_fatalLater (s : State) (f : Nat) (x : FnState) : (s.setFn f x).fatalLater = s.fatalLater := rfl
@[simp] theorem State.setFn_fatalTick (s : State) (f : Nat) (x : FnState) : (s.setFn f x).fatalTick = s.fatalTick := rfl
@[simp] theorem State.setFn_fatalWait (s : State) (f : Nat) (x : FnState) : (s.setFn f x).fatalWait = s.fatalWait := rfl
@[simp] theorem State.setFn_raised (s : State) (f : Nat) (x : FnState) : (s.setFn f x).raised = s.raised := rfl
@[simp] theorem State.setFn_heldHeads (s : State) (f : Nat) (x : FnState) : (s.setFn f x).heldHeads = s.heldHeads := rfl
@[simp] theorem State.setFn_strays (s : State) (f : Nat) (x : FnState) : (s.setFn f x).strays = s.strays := rfl
@[simp] theorem State.setFn_strayTick (s : State) (f : Nat) (x : FnState) : (s.setFn f x).strayTick = s.strayTick := rfl
@[simp] theorem State.setFn_accs (s : State) (f : Nat) (x : FnState) : (s.setFn f x).accs = s.accs := rfl
@[simp] theorem State.setFn_blockInks (s : State) (f : Nat) (x : FnState) : (s.setFn f x).blockInks = s.blockInks := rfl
@[simp] theorem State.setFn_logFaulted (s : State) (f : Nat) (x : FnState) : (s.setFn f x).logFaulted = s.logFaulted := rfl
@[simp] theorem State.setFn_host (s : State) (f : Nat) (x : FnState) : (s.setFn f x).host = s.host := rfl
@[simp] theorem State.setFn_parts (s : State) (f : Nat) (x : FnState) : (s.setFn f x).parts = s.parts := rfl
@[simp] theorem State.setFn_tenants (s : State) (f : Nat) (x : FnState) : (s.setFn f x).tenants = s.tenants := rfl
@[simp] theorem State.setFn_rings (s : State) (f : Nat) (x : FnState) : (s.setFn f x).rings = s.rings := rfl
@[simp] theorem State.setFn_served (s : State) (f : Nat) (x : FnState) : (s.setFn f x).served = s.served := rfl
@[simp] theorem State.setFn_seqs (s : State) (f : Nat) (x : FnState) : (s.setFn f x).seqs = s.seqs := rfl
@[simp] theorem State.setFn_failing (s : State) (f : Nat) (x : FnState) : (s.setFn f x).failing = s.failing := rfl
@[simp] theorem State.setFn_fab (s : State) (f : Nat) (x : FnState) : (s.setFn f x).fab = s.fab := rfl
@[simp] theorem State.setFn_far (s : State) (f : Nat) (x : FnState) : (s.setFn f x).far = s.far := rfl
@[simp] theorem State.setFn_lnk (s : State) (f : Nat) (x : FnState) : (s.setFn f x).lnk = s.lnk := rfl
@[simp] theorem State.setFn_gens (s : State) (f : Nat) (x : FnState) : (s.setFn f x).gens = s.gens := rfl
@[simp] theorem State.setFn_issues (s : State) (f : Nat) (x : FnState) : (s.setFn f x).issues = s.issues := rfl
@[simp] theorem State.setFn_indexes (s : State) (f : Nat) (x : FnState) : (s.setFn f x).indexes = s.indexes := rfl
@[simp] theorem State.setFn_filters (s : State) (f : Nat) (x : FnState) : (s.setFn f x).filters = s.filters := rfl
@[simp] theorem State.setFn_images (s : State) (f : Nat) (x : FnState) : (s.setFn f x).images = s.images := rfl
@[simp] theorem State.setFn_pch (s : State) (f : Nat) (x : FnState) : (s.setFn f x).pch = s.pch := rfl
@[simp] theorem State.setFn_tokens (s : State) (f : Nat) (x : FnState) : (s.setFn f x).tokens = s.tokens := rfl
@[simp] theorem State.setFn_tokenDue (s : State) (f : Nat) (x : FnState) : (s.setFn f x).tokenDue = s.tokenDue := rfl
@[simp] theorem State.setFn_wcb (s : State) (f : Nat) (x : FnState) : (s.setFn f x).wcb = s.wcb := rfl
@[simp] theorem State.setFn_passes (s : State) (f : Nat) (x : FnState) : (s.setFn f x).passes = s.passes := rfl
@[simp] theorem State.setFn_hardList (s : State) (f : Nat) (x : FnState) : (s.setFn f x).hardList = s.hardList := rfl
@[simp] theorem State.setFn_decayDue (s : State) (f : Nat) (x : FnState) : (s.setFn f x).decayDue = s.decayDue := rfl
@[simp] theorem State.setFn_sosin (s : State) (f : Nat) (x : FnState) : (s.setFn f x).sosin = s.sosin := rfl
@[simp] theorem State.setFn_pwr (s : State) (f : Nat) (x : FnState) : (s.setFn f x).pwr = s.pwr := rfl
@[simp] theorem State.setFn_meter (s : State) (f : Nat) (x : FnState) : (s.setFn f x).meter = s.meter := rfl
@[simp] theorem State.setFn_mc (s : State) (f : Nat) (x : FnState) : (s.setFn f x).mc = s.mc := rfl
@[simp] theorem State.setFn_rst (s : State) (f : Nat) (x : FnState) : (s.setFn f x).rst = s.rst := rfl
@[simp] theorem State.setFn_pins (s : State) (f : Nat) (x : FnState) : (s.setFn f x).pins = s.pins := rfl
@[simp] theorem State.setFn_sweepTick (s : State) (f : Nat) (x : FnState) : (s.setFn f x).sweepTick = s.sweepTick := rfl
@[simp] theorem State.setFn_reg (s : State) (f : Nat) (y : FnState) (x : Nat) : (s.setFn f y).reg x = s.reg x := rfl
@[simp] theorem State.setFn_byte (s : State) (f : Nat) (y : FnState) (x : Nat) : (s.setFn f y).byte x = s.byte x := rfl

@[simp] theorem State.setMbx_pending (s : State) (m : Nat) (x : Mailbox) : (s.setMbx m x).pending = s.pending := rfl
@[simp] theorem State.setMbx_now (s : State) (m : Nat) (x : Mailbox) : (s.setMbx m x).now = s.now := rfl
@[simp] theorem State.setMbx_free (s : State) (m : Nat) (x : Mailbox) : (s.setMbx m x).free = s.free := rfl
@[simp] theorem State.setMbx_out (s : State) (m : Nat) (x : Mailbox) : (s.setMbx m x).out = s.out := rfl
@[simp] theorem State.setMbx_regs (s : State) (m : Nat) (x : Mailbox) : (s.setMbx m x).regs = s.regs := rfl
@[simp] theorem State.setMbx_shadows (s : State) (m : Nat) (x : Mailbox) : (s.setMbx m x).shadows = s.shadows := rfl
@[simp] theorem State.setMbx_sealed (s : State) (m : Nat) (x : Mailbox) : (s.setMbx m x).sealed = s.sealed := rfl
@[simp] theorem State.setMbx_debug (s : State) (m : Nat) (x : Mailbox) : (s.setMbx m x).debug = s.debug := rfl
@[simp] theorem State.setMbx_inReset (s : State) (m : Nat) (x : Mailbox) : (s.setMbx m x).inReset = s.inReset := rfl
@[simp] theorem State.setMbx_upsets (s : State) (m : Nat) (x : Mailbox) : (s.setMbx m x).upsets = s.upsets := rfl
@[simp] theorem State.setMbx_poison (s : State) (m : Nat) (x : Mailbox) : (s.setMbx m x).poison = s.poison := rfl
@[simp] theorem State.setMbx_owners (s : State) (m : Nat) (x : Mailbox) : (s.setMbx m x).owners = s.owners := rfl
@[simp] theorem State.setMbx_errq (s : State) (m : Nat) (x : Mailbox) : (s.setMbx m x).errq = s.errq := rfl
@[simp] theorem State.setMbx_fatalPend (s : State) (m : Nat) (x : Mailbox) : (s.setMbx m x).fatalPend = s.fatalPend := rfl
@[simp] theorem State.setMbx_fatalLater (s : State) (m : Nat) (x : Mailbox) : (s.setMbx m x).fatalLater = s.fatalLater := rfl
@[simp] theorem State.setMbx_fatalTick (s : State) (m : Nat) (x : Mailbox) : (s.setMbx m x).fatalTick = s.fatalTick := rfl
@[simp] theorem State.setMbx_fatalWait (s : State) (m : Nat) (x : Mailbox) : (s.setMbx m x).fatalWait = s.fatalWait := rfl
@[simp] theorem State.setMbx_raised (s : State) (m : Nat) (x : Mailbox) : (s.setMbx m x).raised = s.raised := rfl
@[simp] theorem State.setMbx_heldHeads (s : State) (m : Nat) (x : Mailbox) : (s.setMbx m x).heldHeads = s.heldHeads := rfl
@[simp] theorem State.setMbx_strays (s : State) (m : Nat) (x : Mailbox) : (s.setMbx m x).strays = s.strays := rfl
@[simp] theorem State.setMbx_strayTick (s : State) (m : Nat) (x : Mailbox) : (s.setMbx m x).strayTick = s.strayTick := rfl
@[simp] theorem State.setMbx_accs (s : State) (m : Nat) (x : Mailbox) : (s.setMbx m x).accs = s.accs := rfl
@[simp] theorem State.setMbx_blockInks (s : State) (m : Nat) (x : Mailbox) : (s.setMbx m x).blockInks = s.blockInks := rfl
@[simp] theorem State.setMbx_logFaulted (s : State) (m : Nat) (x : Mailbox) : (s.setMbx m x).logFaulted = s.logFaulted := rfl
@[simp] theorem State.setMbx_fns (s : State) (m : Nat) (x : Mailbox) : (s.setMbx m x).fns = s.fns := rfl
@[simp] theorem State.setMbx_host (s : State) (m : Nat) (x : Mailbox) : (s.setMbx m x).host = s.host := rfl
@[simp] theorem State.setMbx_parts (s : State) (m : Nat) (x : Mailbox) : (s.setMbx m x).parts = s.parts := rfl
@[simp] theorem State.setMbx_tenants (s : State) (m : Nat) (x : Mailbox) : (s.setMbx m x).tenants = s.tenants := rfl
@[simp] theorem State.setMbx_rings (s : State) (m : Nat) (x : Mailbox) : (s.setMbx m x).rings = s.rings := rfl
@[simp] theorem State.setMbx_served (s : State) (m : Nat) (x : Mailbox) : (s.setMbx m x).served = s.served := rfl
@[simp] theorem State.setMbx_seqs (s : State) (m : Nat) (x : Mailbox) : (s.setMbx m x).seqs = s.seqs := rfl
@[simp] theorem State.setMbx_failing (s : State) (m : Nat) (x : Mailbox) : (s.setMbx m x).failing = s.failing := rfl
@[simp] theorem State.setMbx_fab (s : State) (m : Nat) (x : Mailbox) : (s.setMbx m x).fab = s.fab := rfl
@[simp] theorem State.setMbx_far (s : State) (m : Nat) (x : Mailbox) : (s.setMbx m x).far = s.far := rfl
@[simp] theorem State.setMbx_lnk (s : State) (m : Nat) (x : Mailbox) : (s.setMbx m x).lnk = s.lnk := rfl
@[simp] theorem State.setMbx_gens (s : State) (m : Nat) (x : Mailbox) : (s.setMbx m x).gens = s.gens := rfl
@[simp] theorem State.setMbx_issues (s : State) (m : Nat) (x : Mailbox) : (s.setMbx m x).issues = s.issues := rfl
@[simp] theorem State.setMbx_indexes (s : State) (m : Nat) (x : Mailbox) : (s.setMbx m x).indexes = s.indexes := rfl
@[simp] theorem State.setMbx_filters (s : State) (m : Nat) (x : Mailbox) : (s.setMbx m x).filters = s.filters := rfl
@[simp] theorem State.setMbx_images (s : State) (m : Nat) (x : Mailbox) : (s.setMbx m x).images = s.images := rfl
@[simp] theorem State.setMbx_pch (s : State) (m : Nat) (x : Mailbox) : (s.setMbx m x).pch = s.pch := rfl
@[simp] theorem State.setMbx_tokens (s : State) (m : Nat) (x : Mailbox) : (s.setMbx m x).tokens = s.tokens := rfl
@[simp] theorem State.setMbx_tokenDue (s : State) (m : Nat) (x : Mailbox) : (s.setMbx m x).tokenDue = s.tokenDue := rfl
@[simp] theorem State.setMbx_wcb (s : State) (m : Nat) (x : Mailbox) : (s.setMbx m x).wcb = s.wcb := rfl
@[simp] theorem State.setMbx_passes (s : State) (m : Nat) (x : Mailbox) : (s.setMbx m x).passes = s.passes := rfl
@[simp] theorem State.setMbx_hardList (s : State) (m : Nat) (x : Mailbox) : (s.setMbx m x).hardList = s.hardList := rfl
@[simp] theorem State.setMbx_decayDue (s : State) (m : Nat) (x : Mailbox) : (s.setMbx m x).decayDue = s.decayDue := rfl
@[simp] theorem State.setMbx_pwr (s : State) (m : Nat) (x : Mailbox) : (s.setMbx m x).pwr = s.pwr := rfl
@[simp] theorem State.setMbx_meter (s : State) (m : Nat) (x : Mailbox) : (s.setMbx m x).meter = s.meter := rfl
@[simp] theorem State.setMbx_mc (s : State) (m : Nat) (x : Mailbox) : (s.setMbx m x).mc = s.mc := rfl
@[simp] theorem State.setMbx_rst (s : State) (m : Nat) (x : Mailbox) : (s.setMbx m x).rst = s.rst := rfl
@[simp] theorem State.setMbx_pins (s : State) (m : Nat) (x : Mailbox) : (s.setMbx m x).pins = s.pins := rfl
@[simp] theorem State.setMbx_sweepTick (s : State) (m : Nat) (x : Mailbox) : (s.setMbx m x).sweepTick = s.sweepTick := rfl
@[simp] theorem State.setMbx_reg (s : State) (m : Nat) (y : Mailbox) (x : Nat) : (s.setMbx m y).reg x = s.reg x := rfl
@[simp] theorem State.setMbx_byte (s : State) (m : Nat) (y : Mailbox) (x : Nat) : (s.setMbx m y).byte x = s.byte x := rfl

@[simp] theorem State.setSlot_pending (s : State) (m k : Nat) (x : MbxSlot) : (s.setSlot m k x).pending = s.pending := rfl
@[simp] theorem State.setSlot_now (s : State) (m k : Nat) (x : MbxSlot) : (s.setSlot m k x).now = s.now := rfl
@[simp] theorem State.setSlot_free (s : State) (m k : Nat) (x : MbxSlot) : (s.setSlot m k x).free = s.free := rfl
@[simp] theorem State.setSlot_out (s : State) (m k : Nat) (x : MbxSlot) : (s.setSlot m k x).out = s.out := rfl
@[simp] theorem State.setSlot_regs (s : State) (m k : Nat) (x : MbxSlot) : (s.setSlot m k x).regs = s.regs := rfl
@[simp] theorem State.setSlot_shadows (s : State) (m k : Nat) (x : MbxSlot) : (s.setSlot m k x).shadows = s.shadows := rfl
@[simp] theorem State.setSlot_sealed (s : State) (m k : Nat) (x : MbxSlot) : (s.setSlot m k x).sealed = s.sealed := rfl
@[simp] theorem State.setSlot_debug (s : State) (m k : Nat) (x : MbxSlot) : (s.setSlot m k x).debug = s.debug := rfl
@[simp] theorem State.setSlot_inReset (s : State) (m k : Nat) (x : MbxSlot) : (s.setSlot m k x).inReset = s.inReset := rfl
@[simp] theorem State.setSlot_upsets (s : State) (m k : Nat) (x : MbxSlot) : (s.setSlot m k x).upsets = s.upsets := rfl
@[simp] theorem State.setSlot_poison (s : State) (m k : Nat) (x : MbxSlot) : (s.setSlot m k x).poison = s.poison := rfl
@[simp] theorem State.setSlot_owners (s : State) (m k : Nat) (x : MbxSlot) : (s.setSlot m k x).owners = s.owners := rfl
@[simp] theorem State.setSlot_errq (s : State) (m k : Nat) (x : MbxSlot) : (s.setSlot m k x).errq = s.errq := rfl
@[simp] theorem State.setSlot_fatalPend (s : State) (m k : Nat) (x : MbxSlot) : (s.setSlot m k x).fatalPend = s.fatalPend := rfl
@[simp] theorem State.setSlot_fatalLater (s : State) (m k : Nat) (x : MbxSlot) : (s.setSlot m k x).fatalLater = s.fatalLater := rfl
@[simp] theorem State.setSlot_fatalTick (s : State) (m k : Nat) (x : MbxSlot) : (s.setSlot m k x).fatalTick = s.fatalTick := rfl
@[simp] theorem State.setSlot_fatalWait (s : State) (m k : Nat) (x : MbxSlot) : (s.setSlot m k x).fatalWait = s.fatalWait := rfl
@[simp] theorem State.setSlot_raised (s : State) (m k : Nat) (x : MbxSlot) : (s.setSlot m k x).raised = s.raised := rfl
@[simp] theorem State.setSlot_heldHeads (s : State) (m k : Nat) (x : MbxSlot) : (s.setSlot m k x).heldHeads = s.heldHeads := rfl
@[simp] theorem State.setSlot_strays (s : State) (m k : Nat) (x : MbxSlot) : (s.setSlot m k x).strays = s.strays := rfl
@[simp] theorem State.setSlot_strayTick (s : State) (m k : Nat) (x : MbxSlot) : (s.setSlot m k x).strayTick = s.strayTick := rfl
@[simp] theorem State.setSlot_accs (s : State) (m k : Nat) (x : MbxSlot) : (s.setSlot m k x).accs = s.accs := rfl
@[simp] theorem State.setSlot_blockInks (s : State) (m k : Nat) (x : MbxSlot) : (s.setSlot m k x).blockInks = s.blockInks := rfl
@[simp] theorem State.setSlot_logFaulted (s : State) (m k : Nat) (x : MbxSlot) : (s.setSlot m k x).logFaulted = s.logFaulted := rfl
@[simp] theorem State.setSlot_fns (s : State) (m k : Nat) (x : MbxSlot) : (s.setSlot m k x).fns = s.fns := rfl
@[simp] theorem State.setSlot_host (s : State) (m k : Nat) (x : MbxSlot) : (s.setSlot m k x).host = s.host := rfl
@[simp] theorem State.setSlot_parts (s : State) (m k : Nat) (x : MbxSlot) : (s.setSlot m k x).parts = s.parts := rfl
@[simp] theorem State.setSlot_tenants (s : State) (m k : Nat) (x : MbxSlot) : (s.setSlot m k x).tenants = s.tenants := rfl
@[simp] theorem State.setSlot_rings (s : State) (m k : Nat) (x : MbxSlot) : (s.setSlot m k x).rings = s.rings := rfl
@[simp] theorem State.setSlot_served (s : State) (m k : Nat) (x : MbxSlot) : (s.setSlot m k x).served = s.served := rfl
@[simp] theorem State.setSlot_seqs (s : State) (m k : Nat) (x : MbxSlot) : (s.setSlot m k x).seqs = s.seqs := rfl
@[simp] theorem State.setSlot_failing (s : State) (m k : Nat) (x : MbxSlot) : (s.setSlot m k x).failing = s.failing := rfl
@[simp] theorem State.setSlot_fab (s : State) (m k : Nat) (x : MbxSlot) : (s.setSlot m k x).fab = s.fab := rfl
@[simp] theorem State.setSlot_far (s : State) (m k : Nat) (x : MbxSlot) : (s.setSlot m k x).far = s.far := rfl
@[simp] theorem State.setSlot_lnk (s : State) (m k : Nat) (x : MbxSlot) : (s.setSlot m k x).lnk = s.lnk := rfl
@[simp] theorem State.setSlot_gens (s : State) (m k : Nat) (x : MbxSlot) : (s.setSlot m k x).gens = s.gens := rfl
@[simp] theorem State.setSlot_issues (s : State) (m k : Nat) (x : MbxSlot) : (s.setSlot m k x).issues = s.issues := rfl
@[simp] theorem State.setSlot_indexes (s : State) (m k : Nat) (x : MbxSlot) : (s.setSlot m k x).indexes = s.indexes := rfl
@[simp] theorem State.setSlot_filters (s : State) (m k : Nat) (x : MbxSlot) : (s.setSlot m k x).filters = s.filters := rfl
@[simp] theorem State.setSlot_images (s : State) (m k : Nat) (x : MbxSlot) : (s.setSlot m k x).images = s.images := rfl
@[simp] theorem State.setSlot_pch (s : State) (m k : Nat) (x : MbxSlot) : (s.setSlot m k x).pch = s.pch := rfl
@[simp] theorem State.setSlot_tokens (s : State) (m k : Nat) (x : MbxSlot) : (s.setSlot m k x).tokens = s.tokens := rfl
@[simp] theorem State.setSlot_tokenDue (s : State) (m k : Nat) (x : MbxSlot) : (s.setSlot m k x).tokenDue = s.tokenDue := rfl
@[simp] theorem State.setSlot_wcb (s : State) (m k : Nat) (x : MbxSlot) : (s.setSlot m k x).wcb = s.wcb := rfl
@[simp] theorem State.setSlot_passes (s : State) (m k : Nat) (x : MbxSlot) : (s.setSlot m k x).passes = s.passes := rfl
@[simp] theorem State.setSlot_hardList (s : State) (m k : Nat) (x : MbxSlot) : (s.setSlot m k x).hardList = s.hardList := rfl
@[simp] theorem State.setSlot_decayDue (s : State) (m k : Nat) (x : MbxSlot) : (s.setSlot m k x).decayDue = s.decayDue := rfl
@[simp] theorem State.setSlot_pwr (s : State) (m k : Nat) (x : MbxSlot) : (s.setSlot m k x).pwr = s.pwr := rfl
@[simp] theorem State.setSlot_meter (s : State) (m k : Nat) (x : MbxSlot) : (s.setSlot m k x).meter = s.meter := rfl
@[simp] theorem State.setSlot_mc (s : State) (m k : Nat) (x : MbxSlot) : (s.setSlot m k x).mc = s.mc := rfl
@[simp] theorem State.setSlot_rst (s : State) (m k : Nat) (x : MbxSlot) : (s.setSlot m k x).rst = s.rst := rfl
@[simp] theorem State.setSlot_pins (s : State) (m k : Nat) (x : MbxSlot) : (s.setSlot m k x).pins = s.pins := rfl
@[simp] theorem State.setSlot_sweepTick (s : State) (m k : Nat) (x : MbxSlot) : (s.setSlot m k x).sweepTick = s.sweepTick := rfl
@[simp] theorem State.setSlot_reg (s : State) (m k : Nat) (y : MbxSlot) (x : Nat) : (s.setSlot m k y).reg x = s.reg x := rfl
@[simp] theorem State.setSlot_byte (s : State) (m k : Nat) (y : MbxSlot) (x : Nat) : (s.setSlot m k y).byte x = s.byte x := rfl

@[simp] theorem State.setLnk_pending (s : State) (n : Nat) (x : LnkPort) : (s.setLnk n x).pending = s.pending := rfl
@[simp] theorem State.setLnk_now (s : State) (n : Nat) (x : LnkPort) : (s.setLnk n x).now = s.now := rfl
@[simp] theorem State.setLnk_free (s : State) (n : Nat) (x : LnkPort) : (s.setLnk n x).free = s.free := rfl
@[simp] theorem State.setLnk_out (s : State) (n : Nat) (x : LnkPort) : (s.setLnk n x).out = s.out := rfl
@[simp] theorem State.setLnk_regs (s : State) (n : Nat) (x : LnkPort) : (s.setLnk n x).regs = s.regs := rfl
@[simp] theorem State.setLnk_shadows (s : State) (n : Nat) (x : LnkPort) : (s.setLnk n x).shadows = s.shadows := rfl
@[simp] theorem State.setLnk_sealed (s : State) (n : Nat) (x : LnkPort) : (s.setLnk n x).sealed = s.sealed := rfl
@[simp] theorem State.setLnk_debug (s : State) (n : Nat) (x : LnkPort) : (s.setLnk n x).debug = s.debug := rfl
@[simp] theorem State.setLnk_inReset (s : State) (n : Nat) (x : LnkPort) : (s.setLnk n x).inReset = s.inReset := rfl
@[simp] theorem State.setLnk_upsets (s : State) (n : Nat) (x : LnkPort) : (s.setLnk n x).upsets = s.upsets := rfl
@[simp] theorem State.setLnk_poison (s : State) (n : Nat) (x : LnkPort) : (s.setLnk n x).poison = s.poison := rfl
@[simp] theorem State.setLnk_owners (s : State) (n : Nat) (x : LnkPort) : (s.setLnk n x).owners = s.owners := rfl
@[simp] theorem State.setLnk_errq (s : State) (n : Nat) (x : LnkPort) : (s.setLnk n x).errq = s.errq := rfl
@[simp] theorem State.setLnk_fatalPend (s : State) (n : Nat) (x : LnkPort) : (s.setLnk n x).fatalPend = s.fatalPend := rfl
@[simp] theorem State.setLnk_fatalLater (s : State) (n : Nat) (x : LnkPort) : (s.setLnk n x).fatalLater = s.fatalLater := rfl
@[simp] theorem State.setLnk_fatalTick (s : State) (n : Nat) (x : LnkPort) : (s.setLnk n x).fatalTick = s.fatalTick := rfl
@[simp] theorem State.setLnk_fatalWait (s : State) (n : Nat) (x : LnkPort) : (s.setLnk n x).fatalWait = s.fatalWait := rfl
@[simp] theorem State.setLnk_raised (s : State) (n : Nat) (x : LnkPort) : (s.setLnk n x).raised = s.raised := rfl
@[simp] theorem State.setLnk_heldHeads (s : State) (n : Nat) (x : LnkPort) : (s.setLnk n x).heldHeads = s.heldHeads := rfl
@[simp] theorem State.setLnk_strays (s : State) (n : Nat) (x : LnkPort) : (s.setLnk n x).strays = s.strays := rfl
@[simp] theorem State.setLnk_strayTick (s : State) (n : Nat) (x : LnkPort) : (s.setLnk n x).strayTick = s.strayTick := rfl
@[simp] theorem State.setLnk_accs (s : State) (n : Nat) (x : LnkPort) : (s.setLnk n x).accs = s.accs := rfl
@[simp] theorem State.setLnk_blockInks (s : State) (n : Nat) (x : LnkPort) : (s.setLnk n x).blockInks = s.blockInks := rfl
@[simp] theorem State.setLnk_logFaulted (s : State) (n : Nat) (x : LnkPort) : (s.setLnk n x).logFaulted = s.logFaulted := rfl
@[simp] theorem State.setLnk_fns (s : State) (n : Nat) (x : LnkPort) : (s.setLnk n x).fns = s.fns := rfl
@[simp] theorem State.setLnk_host (s : State) (n : Nat) (x : LnkPort) : (s.setLnk n x).host = s.host := rfl
@[simp] theorem State.setLnk_parts (s : State) (n : Nat) (x : LnkPort) : (s.setLnk n x).parts = s.parts := rfl
@[simp] theorem State.setLnk_tenants (s : State) (n : Nat) (x : LnkPort) : (s.setLnk n x).tenants = s.tenants := rfl
@[simp] theorem State.setLnk_rings (s : State) (n : Nat) (x : LnkPort) : (s.setLnk n x).rings = s.rings := rfl
@[simp] theorem State.setLnk_served (s : State) (n : Nat) (x : LnkPort) : (s.setLnk n x).served = s.served := rfl
@[simp] theorem State.setLnk_seqs (s : State) (n : Nat) (x : LnkPort) : (s.setLnk n x).seqs = s.seqs := rfl
@[simp] theorem State.setLnk_failing (s : State) (n : Nat) (x : LnkPort) : (s.setLnk n x).failing = s.failing := rfl
@[simp] theorem State.setLnk_fab (s : State) (n : Nat) (x : LnkPort) : (s.setLnk n x).fab = s.fab := rfl
@[simp] theorem State.setLnk_far (s : State) (n : Nat) (x : LnkPort) : (s.setLnk n x).far = s.far := rfl
@[simp] theorem State.setLnk_gens (s : State) (n : Nat) (x : LnkPort) : (s.setLnk n x).gens = s.gens := rfl
@[simp] theorem State.setLnk_issues (s : State) (n : Nat) (x : LnkPort) : (s.setLnk n x).issues = s.issues := rfl
@[simp] theorem State.setLnk_indexes (s : State) (n : Nat) (x : LnkPort) : (s.setLnk n x).indexes = s.indexes := rfl
@[simp] theorem State.setLnk_filters (s : State) (n : Nat) (x : LnkPort) : (s.setLnk n x).filters = s.filters := rfl
@[simp] theorem State.setLnk_images (s : State) (n : Nat) (x : LnkPort) : (s.setLnk n x).images = s.images := rfl
@[simp] theorem State.setLnk_pch (s : State) (n : Nat) (x : LnkPort) : (s.setLnk n x).pch = s.pch := rfl
@[simp] theorem State.setLnk_tokens (s : State) (n : Nat) (x : LnkPort) : (s.setLnk n x).tokens = s.tokens := rfl
@[simp] theorem State.setLnk_tokenDue (s : State) (n : Nat) (x : LnkPort) : (s.setLnk n x).tokenDue = s.tokenDue := rfl
@[simp] theorem State.setLnk_wcb (s : State) (n : Nat) (x : LnkPort) : (s.setLnk n x).wcb = s.wcb := rfl
@[simp] theorem State.setLnk_passes (s : State) (n : Nat) (x : LnkPort) : (s.setLnk n x).passes = s.passes := rfl
@[simp] theorem State.setLnk_hardList (s : State) (n : Nat) (x : LnkPort) : (s.setLnk n x).hardList = s.hardList := rfl
@[simp] theorem State.setLnk_decayDue (s : State) (n : Nat) (x : LnkPort) : (s.setLnk n x).decayDue = s.decayDue := rfl
@[simp] theorem State.setLnk_sosin (s : State) (n : Nat) (x : LnkPort) : (s.setLnk n x).sosin = s.sosin := rfl
@[simp] theorem State.setLnk_pwr (s : State) (n : Nat) (x : LnkPort) : (s.setLnk n x).pwr = s.pwr := rfl
@[simp] theorem State.setLnk_meter (s : State) (n : Nat) (x : LnkPort) : (s.setLnk n x).meter = s.meter := rfl
@[simp] theorem State.setLnk_mc (s : State) (n : Nat) (x : LnkPort) : (s.setLnk n x).mc = s.mc := rfl
@[simp] theorem State.setLnk_rst (s : State) (n : Nat) (x : LnkPort) : (s.setLnk n x).rst = s.rst := rfl
@[simp] theorem State.setLnk_pins (s : State) (n : Nat) (x : LnkPort) : (s.setLnk n x).pins = s.pins := rfl
@[simp] theorem State.setLnk_sweepTick (s : State) (n : Nat) (x : LnkPort) : (s.setLnk n x).sweepTick = s.sweepTick := rfl
@[simp] theorem State.setLnk_reg (s : State) (n : Nat) (y : LnkPort) (x : Nat) : (s.setLnk n y).reg x = s.reg x := rfl
@[simp] theorem State.setLnk_byte (s : State) (n : Nat) (y : LnkPort) (x : Nat) : (s.setLnk n y).byte x = s.byte x := rfl

@[simp] theorem State.setFabPort_pending (s : State) (n : Nat) (x : FabPort) : (s.setFabPort n x).pending = s.pending := rfl
@[simp] theorem State.setFabPort_now (s : State) (n : Nat) (x : FabPort) : (s.setFabPort n x).now = s.now := rfl
@[simp] theorem State.setFabPort_free (s : State) (n : Nat) (x : FabPort) : (s.setFabPort n x).free = s.free := rfl
@[simp] theorem State.setFabPort_out (s : State) (n : Nat) (x : FabPort) : (s.setFabPort n x).out = s.out := rfl
@[simp] theorem State.setFabPort_regs (s : State) (n : Nat) (x : FabPort) : (s.setFabPort n x).regs = s.regs := rfl
@[simp] theorem State.setFabPort_shadows (s : State) (n : Nat) (x : FabPort) : (s.setFabPort n x).shadows = s.shadows := rfl
@[simp] theorem State.setFabPort_sealed (s : State) (n : Nat) (x : FabPort) : (s.setFabPort n x).sealed = s.sealed := rfl
@[simp] theorem State.setFabPort_debug (s : State) (n : Nat) (x : FabPort) : (s.setFabPort n x).debug = s.debug := rfl
@[simp] theorem State.setFabPort_inReset (s : State) (n : Nat) (x : FabPort) : (s.setFabPort n x).inReset = s.inReset := rfl
@[simp] theorem State.setFabPort_upsets (s : State) (n : Nat) (x : FabPort) : (s.setFabPort n x).upsets = s.upsets := rfl
@[simp] theorem State.setFabPort_poison (s : State) (n : Nat) (x : FabPort) : (s.setFabPort n x).poison = s.poison := rfl
@[simp] theorem State.setFabPort_owners (s : State) (n : Nat) (x : FabPort) : (s.setFabPort n x).owners = s.owners := rfl
@[simp] theorem State.setFabPort_errq (s : State) (n : Nat) (x : FabPort) : (s.setFabPort n x).errq = s.errq := rfl
@[simp] theorem State.setFabPort_fatalPend (s : State) (n : Nat) (x : FabPort) : (s.setFabPort n x).fatalPend = s.fatalPend := rfl
@[simp] theorem State.setFabPort_fatalLater (s : State) (n : Nat) (x : FabPort) : (s.setFabPort n x).fatalLater = s.fatalLater := rfl
@[simp] theorem State.setFabPort_fatalTick (s : State) (n : Nat) (x : FabPort) : (s.setFabPort n x).fatalTick = s.fatalTick := rfl
@[simp] theorem State.setFabPort_fatalWait (s : State) (n : Nat) (x : FabPort) : (s.setFabPort n x).fatalWait = s.fatalWait := rfl
@[simp] theorem State.setFabPort_raised (s : State) (n : Nat) (x : FabPort) : (s.setFabPort n x).raised = s.raised := rfl
@[simp] theorem State.setFabPort_heldHeads (s : State) (n : Nat) (x : FabPort) : (s.setFabPort n x).heldHeads = s.heldHeads := rfl
@[simp] theorem State.setFabPort_strays (s : State) (n : Nat) (x : FabPort) : (s.setFabPort n x).strays = s.strays := rfl
@[simp] theorem State.setFabPort_strayTick (s : State) (n : Nat) (x : FabPort) : (s.setFabPort n x).strayTick = s.strayTick := rfl
@[simp] theorem State.setFabPort_accs (s : State) (n : Nat) (x : FabPort) : (s.setFabPort n x).accs = s.accs := rfl
@[simp] theorem State.setFabPort_blockInks (s : State) (n : Nat) (x : FabPort) : (s.setFabPort n x).blockInks = s.blockInks := rfl
@[simp] theorem State.setFabPort_logFaulted (s : State) (n : Nat) (x : FabPort) : (s.setFabPort n x).logFaulted = s.logFaulted := rfl
@[simp] theorem State.setFabPort_fns (s : State) (n : Nat) (x : FabPort) : (s.setFabPort n x).fns = s.fns := rfl
@[simp] theorem State.setFabPort_host (s : State) (n : Nat) (x : FabPort) : (s.setFabPort n x).host = s.host := rfl
@[simp] theorem State.setFabPort_parts (s : State) (n : Nat) (x : FabPort) : (s.setFabPort n x).parts = s.parts := rfl
@[simp] theorem State.setFabPort_tenants (s : State) (n : Nat) (x : FabPort) : (s.setFabPort n x).tenants = s.tenants := rfl
@[simp] theorem State.setFabPort_rings (s : State) (n : Nat) (x : FabPort) : (s.setFabPort n x).rings = s.rings := rfl
@[simp] theorem State.setFabPort_served (s : State) (n : Nat) (x : FabPort) : (s.setFabPort n x).served = s.served := rfl
@[simp] theorem State.setFabPort_seqs (s : State) (n : Nat) (x : FabPort) : (s.setFabPort n x).seqs = s.seqs := rfl
@[simp] theorem State.setFabPort_failing (s : State) (n : Nat) (x : FabPort) : (s.setFabPort n x).failing = s.failing := rfl
@[simp] theorem State.setFabPort_far (s : State) (n : Nat) (x : FabPort) : (s.setFabPort n x).far = s.far := rfl
@[simp] theorem State.setFabPort_lnk (s : State) (n : Nat) (x : FabPort) : (s.setFabPort n x).lnk = s.lnk := rfl
@[simp] theorem State.setFabPort_gens (s : State) (n : Nat) (x : FabPort) : (s.setFabPort n x).gens = s.gens := rfl
@[simp] theorem State.setFabPort_issues (s : State) (n : Nat) (x : FabPort) : (s.setFabPort n x).issues = s.issues := rfl
@[simp] theorem State.setFabPort_indexes (s : State) (n : Nat) (x : FabPort) : (s.setFabPort n x).indexes = s.indexes := rfl
@[simp] theorem State.setFabPort_filters (s : State) (n : Nat) (x : FabPort) : (s.setFabPort n x).filters = s.filters := rfl
@[simp] theorem State.setFabPort_images (s : State) (n : Nat) (x : FabPort) : (s.setFabPort n x).images = s.images := rfl
@[simp] theorem State.setFabPort_pch (s : State) (n : Nat) (x : FabPort) : (s.setFabPort n x).pch = s.pch := rfl
@[simp] theorem State.setFabPort_tokens (s : State) (n : Nat) (x : FabPort) : (s.setFabPort n x).tokens = s.tokens := rfl
@[simp] theorem State.setFabPort_tokenDue (s : State) (n : Nat) (x : FabPort) : (s.setFabPort n x).tokenDue = s.tokenDue := rfl
@[simp] theorem State.setFabPort_wcb (s : State) (n : Nat) (x : FabPort) : (s.setFabPort n x).wcb = s.wcb := rfl
@[simp] theorem State.setFabPort_passes (s : State) (n : Nat) (x : FabPort) : (s.setFabPort n x).passes = s.passes := rfl
@[simp] theorem State.setFabPort_hardList (s : State) (n : Nat) (x : FabPort) : (s.setFabPort n x).hardList = s.hardList := rfl
@[simp] theorem State.setFabPort_decayDue (s : State) (n : Nat) (x : FabPort) : (s.setFabPort n x).decayDue = s.decayDue := rfl
@[simp] theorem State.setFabPort_sosin (s : State) (n : Nat) (x : FabPort) : (s.setFabPort n x).sosin = s.sosin := rfl
@[simp] theorem State.setFabPort_pwr (s : State) (n : Nat) (x : FabPort) : (s.setFabPort n x).pwr = s.pwr := rfl
@[simp] theorem State.setFabPort_meter (s : State) (n : Nat) (x : FabPort) : (s.setFabPort n x).meter = s.meter := rfl
@[simp] theorem State.setFabPort_mc (s : State) (n : Nat) (x : FabPort) : (s.setFabPort n x).mc = s.mc := rfl
@[simp] theorem State.setFabPort_rst (s : State) (n : Nat) (x : FabPort) : (s.setFabPort n x).rst = s.rst := rfl
@[simp] theorem State.setFabPort_pins (s : State) (n : Nat) (x : FabPort) : (s.setFabPort n x).pins = s.pins := rfl
@[simp] theorem State.setFabPort_sweepTick (s : State) (n : Nat) (x : FabPort) : (s.setFabPort n x).sweepTick = s.sweepTick := rfl
@[simp] theorem State.setFabPort_reg (s : State) (n : Nat) (y : FabPort) (x : Nat) : (s.setFabPort n y).reg x = s.reg x := rfl
@[simp] theorem State.setFabPort_byte (s : State) (n : Nat) (y : FabPort) (x : Nat) : (s.setFabPort n y).byte x = s.byte x := rfl

@[simp] theorem State.setMio_pending (s : State) (n : Nat) (x : Mio) : (s.setMio n x).pending = s.pending := rfl
@[simp] theorem State.setMio_now (s : State) (n : Nat) (x : Mio) : (s.setMio n x).now = s.now := rfl
@[simp] theorem State.setMio_free (s : State) (n : Nat) (x : Mio) : (s.setMio n x).free = s.free := rfl
@[simp] theorem State.setMio_out (s : State) (n : Nat) (x : Mio) : (s.setMio n x).out = s.out := rfl
@[simp] theorem State.setMio_regs (s : State) (n : Nat) (x : Mio) : (s.setMio n x).regs = s.regs := rfl
@[simp] theorem State.setMio_shadows (s : State) (n : Nat) (x : Mio) : (s.setMio n x).shadows = s.shadows := rfl
@[simp] theorem State.setMio_sealed (s : State) (n : Nat) (x : Mio) : (s.setMio n x).sealed = s.sealed := rfl
@[simp] theorem State.setMio_debug (s : State) (n : Nat) (x : Mio) : (s.setMio n x).debug = s.debug := rfl
@[simp] theorem State.setMio_inReset (s : State) (n : Nat) (x : Mio) : (s.setMio n x).inReset = s.inReset := rfl
@[simp] theorem State.setMio_upsets (s : State) (n : Nat) (x : Mio) : (s.setMio n x).upsets = s.upsets := rfl
@[simp] theorem State.setMio_poison (s : State) (n : Nat) (x : Mio) : (s.setMio n x).poison = s.poison := rfl
@[simp] theorem State.setMio_owners (s : State) (n : Nat) (x : Mio) : (s.setMio n x).owners = s.owners := rfl
@[simp] theorem State.setMio_errq (s : State) (n : Nat) (x : Mio) : (s.setMio n x).errq = s.errq := rfl
@[simp] theorem State.setMio_fatalPend (s : State) (n : Nat) (x : Mio) : (s.setMio n x).fatalPend = s.fatalPend := rfl
@[simp] theorem State.setMio_fatalLater (s : State) (n : Nat) (x : Mio) : (s.setMio n x).fatalLater = s.fatalLater := rfl
@[simp] theorem State.setMio_fatalTick (s : State) (n : Nat) (x : Mio) : (s.setMio n x).fatalTick = s.fatalTick := rfl
@[simp] theorem State.setMio_fatalWait (s : State) (n : Nat) (x : Mio) : (s.setMio n x).fatalWait = s.fatalWait := rfl
@[simp] theorem State.setMio_raised (s : State) (n : Nat) (x : Mio) : (s.setMio n x).raised = s.raised := rfl
@[simp] theorem State.setMio_heldHeads (s : State) (n : Nat) (x : Mio) : (s.setMio n x).heldHeads = s.heldHeads := rfl
@[simp] theorem State.setMio_strays (s : State) (n : Nat) (x : Mio) : (s.setMio n x).strays = s.strays := rfl
@[simp] theorem State.setMio_strayTick (s : State) (n : Nat) (x : Mio) : (s.setMio n x).strayTick = s.strayTick := rfl
@[simp] theorem State.setMio_accs (s : State) (n : Nat) (x : Mio) : (s.setMio n x).accs = s.accs := rfl
@[simp] theorem State.setMio_blockInks (s : State) (n : Nat) (x : Mio) : (s.setMio n x).blockInks = s.blockInks := rfl
@[simp] theorem State.setMio_logFaulted (s : State) (n : Nat) (x : Mio) : (s.setMio n x).logFaulted = s.logFaulted := rfl
@[simp] theorem State.setMio_fns (s : State) (n : Nat) (x : Mio) : (s.setMio n x).fns = s.fns := rfl
@[simp] theorem State.setMio_host (s : State) (n : Nat) (x : Mio) : (s.setMio n x).host = s.host := rfl
@[simp] theorem State.setMio_parts (s : State) (n : Nat) (x : Mio) : (s.setMio n x).parts = s.parts := rfl
@[simp] theorem State.setMio_tenants (s : State) (n : Nat) (x : Mio) : (s.setMio n x).tenants = s.tenants := rfl
@[simp] theorem State.setMio_rings (s : State) (n : Nat) (x : Mio) : (s.setMio n x).rings = s.rings := rfl
@[simp] theorem State.setMio_served (s : State) (n : Nat) (x : Mio) : (s.setMio n x).served = s.served := rfl
@[simp] theorem State.setMio_seqs (s : State) (n : Nat) (x : Mio) : (s.setMio n x).seqs = s.seqs := rfl
@[simp] theorem State.setMio_failing (s : State) (n : Nat) (x : Mio) : (s.setMio n x).failing = s.failing := rfl
@[simp] theorem State.setMio_fab (s : State) (n : Nat) (x : Mio) : (s.setMio n x).fab = s.fab := rfl
@[simp] theorem State.setMio_far (s : State) (n : Nat) (x : Mio) : (s.setMio n x).far = s.far := rfl
@[simp] theorem State.setMio_lnk (s : State) (n : Nat) (x : Mio) : (s.setMio n x).lnk = s.lnk := rfl
@[simp] theorem State.setMio_gens (s : State) (n : Nat) (x : Mio) : (s.setMio n x).gens = s.gens := rfl
@[simp] theorem State.setMio_issues (s : State) (n : Nat) (x : Mio) : (s.setMio n x).issues = s.issues := rfl
@[simp] theorem State.setMio_indexes (s : State) (n : Nat) (x : Mio) : (s.setMio n x).indexes = s.indexes := rfl
@[simp] theorem State.setMio_filters (s : State) (n : Nat) (x : Mio) : (s.setMio n x).filters = s.filters := rfl
@[simp] theorem State.setMio_images (s : State) (n : Nat) (x : Mio) : (s.setMio n x).images = s.images := rfl
@[simp] theorem State.setMio_pch (s : State) (n : Nat) (x : Mio) : (s.setMio n x).pch = s.pch := rfl
@[simp] theorem State.setMio_tokens (s : State) (n : Nat) (x : Mio) : (s.setMio n x).tokens = s.tokens := rfl
@[simp] theorem State.setMio_tokenDue (s : State) (n : Nat) (x : Mio) : (s.setMio n x).tokenDue = s.tokenDue := rfl
@[simp] theorem State.setMio_wcb (s : State) (n : Nat) (x : Mio) : (s.setMio n x).wcb = s.wcb := rfl
@[simp] theorem State.setMio_passes (s : State) (n : Nat) (x : Mio) : (s.setMio n x).passes = s.passes := rfl
@[simp] theorem State.setMio_hardList (s : State) (n : Nat) (x : Mio) : (s.setMio n x).hardList = s.hardList := rfl
@[simp] theorem State.setMio_decayDue (s : State) (n : Nat) (x : Mio) : (s.setMio n x).decayDue = s.decayDue := rfl
@[simp] theorem State.setMio_sosin (s : State) (n : Nat) (x : Mio) : (s.setMio n x).sosin = s.sosin := rfl
@[simp] theorem State.setMio_pwr (s : State) (n : Nat) (x : Mio) : (s.setMio n x).pwr = s.pwr := rfl
@[simp] theorem State.setMio_meter (s : State) (n : Nat) (x : Mio) : (s.setMio n x).meter = s.meter := rfl
@[simp] theorem State.setMio_mc (s : State) (n : Nat) (x : Mio) : (s.setMio n x).mc = s.mc := rfl
@[simp] theorem State.setMio_rst (s : State) (n : Nat) (x : Mio) : (s.setMio n x).rst = s.rst := rfl
@[simp] theorem State.setMio_sweepTick (s : State) (n : Nat) (x : Mio) : (s.setMio n x).sweepTick = s.sweepTick := rfl
@[simp] theorem State.setMio_reg (s : State) (n : Nat) (y : Mio) (x : Nat) : (s.setMio n y).reg x = s.reg x := rfl
@[simp] theorem State.setMio_byte (s : State) (n : Nat) (y : Mio) (x : Nat) : (s.setMio n y).byte x = s.byte x := rfl

@[simp] theorem State.flashJob_pending (s : State) (j : FlashJob) : (s.flashJob j).pending = s.pending := rfl
@[simp] theorem State.flashJob_now (s : State) (j : FlashJob) : (s.flashJob j).now = s.now := rfl
@[simp] theorem State.flashJob_free (s : State) (j : FlashJob) : (s.flashJob j).free = s.free := rfl
@[simp] theorem State.flashJob_out (s : State) (j : FlashJob) : (s.flashJob j).out = s.out := rfl
@[simp] theorem State.flashJob_regs (s : State) (j : FlashJob) : (s.flashJob j).regs = s.regs := rfl
@[simp] theorem State.flashJob_shadows (s : State) (j : FlashJob) : (s.flashJob j).shadows = s.shadows := rfl
@[simp] theorem State.flashJob_sealed (s : State) (j : FlashJob) : (s.flashJob j).sealed = s.sealed := rfl
@[simp] theorem State.flashJob_debug (s : State) (j : FlashJob) : (s.flashJob j).debug = s.debug := rfl
@[simp] theorem State.flashJob_inReset (s : State) (j : FlashJob) : (s.flashJob j).inReset = s.inReset := rfl
@[simp] theorem State.flashJob_upsets (s : State) (j : FlashJob) : (s.flashJob j).upsets = s.upsets := rfl
@[simp] theorem State.flashJob_poison (s : State) (j : FlashJob) : (s.flashJob j).poison = s.poison := rfl
@[simp] theorem State.flashJob_owners (s : State) (j : FlashJob) : (s.flashJob j).owners = s.owners := rfl
@[simp] theorem State.flashJob_errq (s : State) (j : FlashJob) : (s.flashJob j).errq = s.errq := rfl
@[simp] theorem State.flashJob_fatalPend (s : State) (j : FlashJob) : (s.flashJob j).fatalPend = s.fatalPend := rfl
@[simp] theorem State.flashJob_fatalLater (s : State) (j : FlashJob) : (s.flashJob j).fatalLater = s.fatalLater := rfl
@[simp] theorem State.flashJob_fatalTick (s : State) (j : FlashJob) : (s.flashJob j).fatalTick = s.fatalTick := rfl
@[simp] theorem State.flashJob_fatalWait (s : State) (j : FlashJob) : (s.flashJob j).fatalWait = s.fatalWait := rfl
@[simp] theorem State.flashJob_raised (s : State) (j : FlashJob) : (s.flashJob j).raised = s.raised := rfl
@[simp] theorem State.flashJob_heldHeads (s : State) (j : FlashJob) : (s.flashJob j).heldHeads = s.heldHeads := rfl
@[simp] theorem State.flashJob_strays (s : State) (j : FlashJob) : (s.flashJob j).strays = s.strays := rfl
@[simp] theorem State.flashJob_strayTick (s : State) (j : FlashJob) : (s.flashJob j).strayTick = s.strayTick := rfl
@[simp] theorem State.flashJob_accs (s : State) (j : FlashJob) : (s.flashJob j).accs = s.accs := rfl
@[simp] theorem State.flashJob_blockInks (s : State) (j : FlashJob) : (s.flashJob j).blockInks = s.blockInks := rfl
@[simp] theorem State.flashJob_logFaulted (s : State) (j : FlashJob) : (s.flashJob j).logFaulted = s.logFaulted := rfl
@[simp] theorem State.flashJob_fns (s : State) (j : FlashJob) : (s.flashJob j).fns = s.fns := rfl
@[simp] theorem State.flashJob_host (s : State) (j : FlashJob) : (s.flashJob j).host = s.host := rfl
@[simp] theorem State.flashJob_parts (s : State) (j : FlashJob) : (s.flashJob j).parts = s.parts := rfl
@[simp] theorem State.flashJob_tenants (s : State) (j : FlashJob) : (s.flashJob j).tenants = s.tenants := rfl
@[simp] theorem State.flashJob_rings (s : State) (j : FlashJob) : (s.flashJob j).rings = s.rings := rfl
@[simp] theorem State.flashJob_served (s : State) (j : FlashJob) : (s.flashJob j).served = s.served := rfl
@[simp] theorem State.flashJob_seqs (s : State) (j : FlashJob) : (s.flashJob j).seqs = s.seqs := rfl
@[simp] theorem State.flashJob_failing (s : State) (j : FlashJob) : (s.flashJob j).failing = s.failing := rfl
@[simp] theorem State.flashJob_fab (s : State) (j : FlashJob) : (s.flashJob j).fab = s.fab := rfl
@[simp] theorem State.flashJob_far (s : State) (j : FlashJob) : (s.flashJob j).far = s.far := rfl
@[simp] theorem State.flashJob_lnk (s : State) (j : FlashJob) : (s.flashJob j).lnk = s.lnk := rfl
@[simp] theorem State.flashJob_gens (s : State) (j : FlashJob) : (s.flashJob j).gens = s.gens := rfl
@[simp] theorem State.flashJob_issues (s : State) (j : FlashJob) : (s.flashJob j).issues = s.issues := rfl
@[simp] theorem State.flashJob_indexes (s : State) (j : FlashJob) : (s.flashJob j).indexes = s.indexes := rfl
@[simp] theorem State.flashJob_filters (s : State) (j : FlashJob) : (s.flashJob j).filters = s.filters := rfl
@[simp] theorem State.flashJob_images (s : State) (j : FlashJob) : (s.flashJob j).images = s.images := rfl
@[simp] theorem State.flashJob_pch (s : State) (j : FlashJob) : (s.flashJob j).pch = s.pch := rfl
@[simp] theorem State.flashJob_tokens (s : State) (j : FlashJob) : (s.flashJob j).tokens = s.tokens := rfl
@[simp] theorem State.flashJob_tokenDue (s : State) (j : FlashJob) : (s.flashJob j).tokenDue = s.tokenDue := rfl
@[simp] theorem State.flashJob_wcb (s : State) (j : FlashJob) : (s.flashJob j).wcb = s.wcb := rfl
@[simp] theorem State.flashJob_passes (s : State) (j : FlashJob) : (s.flashJob j).passes = s.passes := rfl
@[simp] theorem State.flashJob_hardList (s : State) (j : FlashJob) : (s.flashJob j).hardList = s.hardList := rfl
@[simp] theorem State.flashJob_decayDue (s : State) (j : FlashJob) : (s.flashJob j).decayDue = s.decayDue := rfl
@[simp] theorem State.flashJob_sosin (s : State) (j : FlashJob) : (s.flashJob j).sosin = s.sosin := rfl
@[simp] theorem State.flashJob_pwr (s : State) (j : FlashJob) : (s.flashJob j).pwr = s.pwr := rfl
@[simp] theorem State.flashJob_meter (s : State) (j : FlashJob) : (s.flashJob j).meter = s.meter := rfl
@[simp] theorem State.flashJob_rst (s : State) (j : FlashJob) : (s.flashJob j).rst = s.rst := rfl
@[simp] theorem State.flashJob_pins (s : State) (j : FlashJob) : (s.flashJob j).pins = s.pins := rfl
@[simp] theorem State.flashJob_sweepTick (s : State) (j : FlashJob) : (s.flashJob j).sweepTick = s.sweepTick := rfl
@[simp] theorem State.flashJob_reg (s : State) (j : FlashJob) (x : Nat) : (s.flashJob j).reg x = s.reg x := rfl
@[simp] theorem State.flashJob_byte (s : State) (j : FlashJob) (x : Nat) : (s.flashJob j).byte x = s.byte x := rfl

/-! ### What an update stores -/

@[simp] theorem State.find_setSeq (s : State) (e : Nat) (q : Sequence) : Tab.find (s.setSeq e q).seqs e = some q := Tab.find_insert_self _ _ _
theorem State.find_setSeq_other (s : State) (e : Nat) (q : Sequence) (k : Nat) (h_ : k ≠ e) : Tab.find (s.setSeq e q).seqs k = Tab.find s.seqs k :=
  Tab.find_insert_ne _ _ (Ne.symm h_)
@[simp] theorem State.find_setRing (s : State) (p : Nat) (r : Ring) : Tab.find (s.setRing p r).rings p = some r := Tab.find_insert_self _ _ _
theorem State.find_setRing_other (s : State) (p : Nat) (r : Ring) (k : Nat) (h_ : k ≠ p) : Tab.find (s.setRing p r).rings k = Tab.find s.rings k :=
  Tab.find_insert_ne _ _ (Ne.symm h_)
@[simp] theorem State.find_setIndex (s : State) (h : Nat) (i : Index) : Tab.find (s.setIndex h i).indexes h = some i := Tab.find_insert_self _ _ _
theorem State.find_setIndex_other (s : State) (h : Nat) (i : Index) (k : Nat) (h_ : k ≠ h) : Tab.find (s.setIndex h i).indexes k = Tab.find s.indexes k :=
  Tab.find_insert_ne _ _ (Ne.symm h_)
@[simp] theorem State.find_setFilter (s : State) (h : Nat) (f : Filter) : Tab.find (s.setFilter h f).filters h = some f := Tab.find_insert_self _ _ _
theorem State.find_setFilter_other (s : State) (h : Nat) (f : Filter) (k : Nat) (h_ : k ≠ h) : Tab.find (s.setFilter h f).filters k = Tab.find s.filters k :=
  Tab.find_insert_ne _ _ (Ne.symm h_)
@[simp] theorem State.find_setImage (s : State) (h : Nat) (i : Image) : Tab.find (s.setImage h i).images h = some i := Tab.find_insert_self _ _ _
theorem State.find_setImage_other (s : State) (h : Nat) (i : Image) (k : Nat) (h_ : k ≠ h) : Tab.find (s.setImage h i).images k = Tab.find s.images k :=
  Tab.find_insert_ne _ _ (Ne.symm h_)
@[simp] theorem State.find_setTenant (s : State) (v : Nat) (t : Tenant) : Tab.find (s.setTenant v t).tenants v = some t := Tab.find_insert_self _ _ _
theorem State.find_setTenant_other (s : State) (v : Nat) (t : Tenant) (k : Nat) (h_ : k ≠ v) : Tab.find (s.setTenant v t).tenants k = Tab.find s.tenants k :=
  Tab.find_insert_ne _ _ (Ne.symm h_)
@[simp] theorem State.find_setPart (s : State) (p : Nat) (x : Partition) : Tab.find (s.setPart p x).parts p = some x := Tab.find_insert_self _ _ _
theorem State.find_setPart_other (s : State) (p : Nat) (x : Partition) (k : Nat) (h_ : k ≠ p) : Tab.find (s.setPart p x).parts k = Tab.find s.parts k :=
  Tab.find_insert_ne _ _ (Ne.symm h_)
@[simp] theorem State.pchAt_setPch (s : State) (p : Nat) (c : PchState) :
    (s.setPch p c).pchAt p = { c with starving := c.starving && !c.lcr.isEmpty } := Tab.read_write_self _ _ _ _
theorem State.pchAt_setPch_other (s : State) (p : Nat) (c : PchState) (k : Nat) (h_ : k ≠ p) : (s.setPch p c).pchAt k = s.pchAt k :=
  Tab.read_write_ne _ _ _ (Ne.symm h_)
@[simp] theorem State.fnAt_setFn (s : State) (f : Nat) (x : FnState) : (s.setFn f x).fnAt f = x := Tab.read_write_self _ _ _ _
theorem State.fnAt_setFn_other (s : State) (f : Nat) (x : FnState) (k : Nat) (h_ : k ≠ f) : (s.setFn f x).fnAt k = s.fnAt k :=
  Tab.read_write_ne _ _ _ (Ne.symm h_)
@[simp] theorem State.farAt_setFar (s : State) (n : Nat) (x : FarPortState) : (s.setFar n x).farAt n = x := Tab.read_write_self _ _ _ _
theorem State.farAt_setFar_other (s : State) (n : Nat) (x : FarPortState) (k : Nat) (h_ : k ≠ n) : (s.setFar n x).farAt k = s.farAt k :=
  Tab.read_write_ne _ _ _ (Ne.symm h_)
@[simp] theorem State.errQueue_setErrQueue (s : State) (d : Nat) (q : ErrQueue) : (s.setErrQueue d q).errQueue d = q := Tab.read_write_self _ _ _ _
theorem State.errQueue_setErrQueue_other (s : State) (d : Nat) (q : ErrQueue) (k : Nat) (h_ : k ≠ d) : (s.setErrQueue d q).errQueue k = s.errQueue k :=
  Tab.read_write_ne _ _ _ (Ne.symm h_)
@[simp] theorem State.lnkAt_setLnk (s : State) (n : Nat) (x : LnkPort) : (s.setLnk n x).lnkAt n = x := Tab.read_write_self _ _ _ _
theorem State.lnkAt_setLnk_other (s : State) (n : Nat) (x : LnkPort) (k : Nat) (h_ : k ≠ n) : (s.setLnk n x).lnkAt k = s.lnkAt k :=
  Tab.read_write_ne _ _ _ (Ne.symm h_)
@[simp] theorem State.mbxAt_setMbx (s : State) (m : Nat) (x : Mailbox) : (s.setMbx m x).mbxAt m = x := Tab.read_write_self _ _ _ _
theorem State.mbxAt_setMbx_other (s : State) (m : Nat) (x : Mailbox) (k : Nat) (h_ : k ≠ m) : (s.setMbx m x).mbxAt k = s.mbxAt k :=
  Tab.read_write_ne _ _ _ (Ne.symm h_)
@[simp] theorem State.mio_setMio (s : State) (n : Nat) (x : Mio) : (s.setMio n x).mio n = x := Tab.read_write_self _ _ _ _
theorem State.mio_setMio_other (s : State) (n : Nat) (x : Mio) (k : Nat) (h_ : k ≠ n) : (s.setMio n x).mio k = s.mio k :=
  Tab.read_write_ne _ _ _ (Ne.symm h_)

/-! ### Registers -/

/-- A register reads what was last stored in it. -/
@[simp] theorem State.reg_setReg (s : State) (a v : Nat) : (s.setReg a v).reg a = v % 2 ^ 64 := by
  by_cases h : v % 2 ^ 64 = regReset a
  · simp only [State.setReg, State.reg, if_pos h, Tab.find_erase_self]; exact h.symm
  · simp only [State.setReg, State.reg, if_neg h, Tab.find_insert_self, BitVec.toNat_ofNat]

/-- Other registers stay. -/
theorem State.reg_setReg_other (s : State) (a v b : Nat) (h : b ≠ a) : (s.setReg a v).reg b = s.reg b := by
  by_cases hv : v % 2 ^ 64 = regReset a
  · simp only [State.setReg, State.reg, if_pos hv, Tab.find_erase_ne _ (Ne.symm h)]
  · simp only [State.setReg, State.reg, if_neg hv, Tab.find_insert_ne _ _ (Ne.symm h)]

/-- A field is a register's bits. -/
theorem State.fld_eq (s : State) (a : Nat) (f : Nat × Nat) : s.fld a f = bits (s.reg a) f.1 f.2 := rfl

/-- What stands in a slot is what was put there. -/
@[simp] theorem State.slotAt_setSlot (s : State) (m k : Nat) (x : MbxSlot) : (s.setSlot m k x).slotAt m k = x := by
  simp [State.setSlot, State.slotAt, Tab.read_write_self]

end Sys2Proof.Machine
end

