-- ==== Sys2Proof/WellFormed.lean ====
section
/-! DEFINITION. WellFormed.lean: which commands the world around the device can utter: lengths and sizes that the bus or the
unit behind a command fixes. A meaning is total: it does not rely on the check. -/

namespace Sys2Proof

/-- Is a command well-formed? Accesses have a size and values of that size, descriptors are 128 B (R83), a sync word is 32 B
(R333), a frame carries 240 B (Table 11.2), a window measures 9 lanes (R358), a thermal sample is of 8 stacks and 16 core
sensors (R532), a stream writes whole words (R264), and the flash has 2^20 slots of 64 B (R552). -/
def Instr.wf (i : Instr) : Bool :=
  match i with
  | .registerWrite _ _ size val => decide (0 < size) && decide (val < 2 ^ (8 * size))
  | .regSize _ _ size _ => decide (0 < size)
  | .lowHalfRead _ _ => true
  | .highHalfRead _ _ => true
  | .rcRead _ _ size => decide (0 < size)
  | .lowHalfWrite _ _ _ => true
  | .highHalfWrite _ _ _ => true
  | .split8bAccess _ _ _ => true
  | .stepTick => true
  | .qfeSqtail _ _ _ => true
  | .qfeCqhead _ _ _ => true
  | .qfeCancel _ _ _ => true
  | .cancelAct _ => true
  | .descriptorFetch _ data => data.length % 128 == 0
  | .sqFetchFault _ _ => true
  | .operandStage _ _ _ => true
  | .cqWriteFault _ _ => true
  | .resultWriteFault _ _ => true
  | .query _ desc _ _ => desc.length == 128
  | .insert _ desc _ _ => desc.length == 128
  | .delete _ desc => desc.length == 128
  | .publish _ desc => desc.length == 128
  | .stageComplete _ => true
  | .listLineReturn _ _ => true
  | .centroidPass _ => true
  | .scanRequest _ _ => true
  | .hopRequest _ _ => true
  | .rawRequest _ _ words => decide (0 < words)
  | .lineReadReturn _ _ => true
  | .survivorCollect _ => true
  | .contextMiss _ _ => true
  | .killRerun _ => true
  | .deadlineExpire _ => true
  | .slotBoundary _ => true
  | .switchEnd _ => true
  | .fillDone _ => true
  | .streamEnc _ => true
  | .foldStep _ => true
  | .revokeSequences _ => true
  | .burstStart _ => true
  | .burstComplete _ _ => true
  | .displace _ _ => true
  | .tokenRefill => true
  | .drainEligible _ => true
  | .drainMerge _ _ => true
  | .drainComplete _ => true
  | .wholeWordStream addr data => addr % 64 == 0 && data.length % 64 == 0
  | .poolAtomic _ off _ _ _ _ => decide (off < 2 ^ 28)
  | .refreshDue _ => true
  | .ceDecay => true
  | .copyRead _ _ => true
  | .copyWrite _ => true
  | .scrubRead _ _ => true
  | .scrubLate _ => true
  | .tgcCtl _ _ => true
  | .tgcRunDone _ _ => true
  | .farPortTrained _ _ => true
  | .farAbsentRetry _ _ => true
  | .ftcDlat _ _ => true
  | .farReadIssue _ => true
  | .farReadReturn _ _ _ => true
  | .readTimeout _ _ => true
  | .farWriteComplete _ => true
  | .farLinkDown _ => true
  | .farLinkRetrain _ _ => true
  | .gpfPhase2Response _ _ => true
  | .devEventPoll _ => true
  | .syncWord _ _ _ word _ => word.length == 32
  | .searchSlot _ => true
  | .fullSet _ => true
  | .searchEnd _ => true
  | .beacon _ => true
  | .lockTimeout _ => true
  | .adaptDone _ => true
  | .adaptTimeout _ => true
  | .firreq _ _ _ => true
  | .dpdreq _ _ _ => true
  | .offsetUpdate _ _ => true
  | .codeWindowEnd _ meas => meas.length == 9
  | .sync _ _ => true
  | .lockLost _ _ _ _ => true
  | .quickRetrain _ => true
  | .faultExpire _ => true
  | .lnkEnable _ _ => true
  | .lnkRetrain _ _ => true
  | .lnkRatemax _ _ => true
  | .lnkMedia _ _ => true
  | .rampEnd _ => true
  | .dozeRequest _ => true
  | .wake _ _ => true
  | .flitReceive _ flit _ => flit.length == 240
  | .nak _ => true
  | .replayLimit _ => true
  | .flitsLost _ => true
  | .frameSend _ => true
  | .miswired _ => true
  | .unisolate _ => true
  | .fabFly _ _ => true
  | .qreq _ => true
  | .qlist _ => true
  | .laneEmit _ _ _ => true
  | .remoteTimerExpire _ => true
  | .subtreeTimerExpire _ _ _ => true
  | .cancelMsg _ => true
  | .cancelKeepExpire => true
  | .wreq _ => true
  | .wrep _ => true
  | .writeRetry _ _ => true
  | .pprep _ => true
  | .pprdy _ => true
  | .pcommit _ => true
  | .pdone _ => true
  | .publishRetry _ => true
  | .lstate _ => true
  | .ldownPeriod => true
  | .ldown _ => true
  | .lup _ => true
  | .leagueLost => true
  | .memberLost _ => true
  | .mgt _ => true
  | .perstN _ => true
  | .configRequest _ _ => true
  | .hostUr _ _ _ => true
  | .vfEnable _ => true
  | .numvfsWrite _ => true
  | .systemPageSizeWrite _ => true
  | .tdiBlock _ off => decide (off < 64)
  | .atsInvalidate _ _ _ _ => true
  | .atsDenied _ => true
  | .dmaTimeout _ => true
  | .dmaAbort _ _ => true
  | .hostPoisonRx _ _ => true
  | .hostProto _ => true
  | .hostLinkCe _ => true
  | .hostDegraded _ _ _ => true
  | .hostLinkDown _ => true
  | .busMasterEnable _ _ => true
  | .msixUnmask _ => true
  | .ideFail _ => true
  | .ideKm _ _ _ key => key.length == 32
  | .lockInterfaceRequest _ => true
  | .startInterfaceRequest _ => true
  | .stopInterfaceRequest _ => true
  | .tdiError _ => true
  | .install _ _ => true
  | .spdmRequest _ _ => true
  | .getMeasurements _ _ => true
  | .vfFlr _ => true
  | .pfFlr => true
  | .flrComplete _ => true
  | .mbxDoorbell _ _ => true
  | .mbxAck _ _ => true
  | .mbxAbort _ _ => true
  | .commandAccept => true
  | .commandComplete _ _ => true
  | .sosinStall _ _ => true
  | .mctpMessage _ _ => true
  | .mctpBadPacket => true
  | .hello _ _ => true
  | .devinfo _ _ => true
  | .devReset _ _ => true
  | .partCreate _ _ => true
  | .partModify _ _ => true
  | .partDestroy _ _ => true
  | .partSlices _ _ => true
  | .tenantBind _ _ => true
  | .tenantModify _ _ => true
  | .tenantRevoke _ _ => true
  | .tenantRestore _ _ => true
  | .tenantRemove _ _ => true
  | .keyGenerate _ _ => true
  | .seal _ _ => true
  | .tenantInfo _ _ => true
  | .indexCreate _ _ _ => true
  | .indexDestroy _ _ => true
  | .indexLoad _ _ _ => true
  | .indexInfo _ _ => true
  | .indexEncoder _ _ => true
  | .checkpoint _ _ => true
  | .restore _ _ => true
  | .vecsum _ _ => true
  | .filterCreate _ _ _ => true
  | .filterDelete _ _ => true
  | .imageRegister _ _ _ => true
  | .imageDelete _ _ => true
  | .imageFill _ _ => true
  | .imagePin _ _ => true
  | .imageUnpin _ _ => true
  | .swset _ _ => true
  | .perchInfo _ _ => true
  | .ringCreate _ _ => true
  | .ringDestroy _ _ => true
  | .pasidSet _ _ => true
  | .tunCreate _ _ => true
  | .tunDelete _ _ => true
  | .tunInfo _ _ => true
  | .tunCopy _ _ _ => true
  | .fmapInstall _ _ => true
  | .fmapInfo _ _ => true
  | .pageRetire _ _ => true
  | .retireList _ _ => true
  | .granuleTest _ _ => true
  | .powerPolicy _ _ => true
  | .phaseSet _ _ => true
  | .powerStatus _ _ => true
  | .pfailNotice _ _ => true
  | .meterRead _ _ => true
  | .meterCert _ _ => true
  | .errRead _ _ => true
  | .errAck _ _ => true
  | .errInject _ _ => true
  | .updStage _ _ _ => true
  | .updActivate _ _ => true
  | .updStatus _ _ => true
  | .dbgEnter _ _ => true
  | .dbgExit _ _ => true
  | .arm _ => true
  | .summaryW1c _ _ => true
  | .summaryEnable _ _ => true
  | .coalesceTimer _ => true
  | .recordRelease _ => true
  | .logFault _ _ => true
  | .irqPinForce _ => true
  | .pmbusPoll _ _ => true
  | .regLost _ => true
  | .windowEnd => true
  | .thmSample stk cores => stk.length == 8 && cores.length == 16
  | .opTransition _ => true
  | .voltageSettle _ => true
  | .vralertN _ => true
  | .pfailN _ => true
  | .minuteEnd => true
  | .meterSign => true
  | .mcWatchdog => true
  | .entropyFail => true
  | .flashRecordWrite _ => true
  | .mgtLogsel _ => true
  | .logSearchDone => true
  | .bootImageSelect => true
  | .ready => true
  | .bmcProbe _ => true
  | .bmcPresent => true
  | .pldmUpdateCommand _ => true
  | .pldmUpdateTimeout => true
  | .getSensorReading _ => true
  | .pldmPdrRequest _ => true
  | .mctpControl _ => true
  | .refclkLoss _ => true
  | .synthLoss _ => true
  | .synthRelock => true
  | .pwrgoodRise straps => straps.2.all (fun c => decide (c.1 < 2 ^ 20) && c.2.length == 64)
  | .pwrgoodFall => true
  | .sysrstN asserted => asserted.2.all (fun c => decide (c.1 < 2 ^ 20) && c.2.length == 64)
  | .resetEntry => true
  | .startupLadder _ => true
  | .hardRepairDone _ _ => true
  | .stackTrained _ _ _ => true
  | .mioMuxWrite _ _ _ => true
  | .mioHoldEnd _ => true
  | .pinPullWrite _ _ => true
  | .lsyncEdge => true
  | .lsyncPulse => true
  | .jtagInstruction _ => true
  | .uartRx _ => true
  | .stbLcallow _ => true
  | .hostProtoRecoveryTimeout => true
  | .hostLinkUp _ _ _ _ => true
  | .refclkReturn => true
  | .mcSramError _ _ => true
  | .entropyHealthPass => true

end Sys2Proof
end

