-- ==== Sys2Proof/Tests/Slice0.lean ====
section
/-! SUPPORT. Tests/Slice0.lean: the checks of WellFormed refuse what they should, and witnesses that the hypotheses
of the statements can be met. -/

namespace Sys2Proof.Machine

/-! ### Ill-formed commands (Table of WellFormed.lean: the rule each length comes from) -/

theorem test_wf_write_size : (Instr.registerWrite .pf0 0 0 0).wf = false := by decide
theorem test_wf_write_value : (Instr.registerWrite .pf0 0 4 (2 ^ 32)).wf = false := by decide
theorem test_wf_write_good : (Instr.registerWrite .pf0 0 4 (2 ^ 32 - 1)).wf = true := by decide
theorem test_wf_regSize : (Instr.regSize .pf0 0 0 false).wf = false := by decide
theorem test_wf_rcRead : (Instr.rcRead .pf0 0 0).wf = false := by decide
theorem test_wf_descriptorFetch : (Instr.descriptorFetch 0 [0, 1]).wf = false := by decide
theorem test_wf_query : (Instr.query 0 [] [] []).wf = false := by decide
theorem test_wf_insert : (Instr.insert 0 [0] [] []).wf = false := by decide
theorem test_wf_delete : (Instr.delete 0 (List.replicate 64 0)).wf = false := by decide
theorem test_wf_publish : (Instr.publish 0 [4, 0, 0, 0]).wf = false := by decide
theorem test_wf_rawRequest : (Instr.rawRequest 0 0 0).wf = false := by decide
theorem test_wf_stream_address : (Instr.wholeWordStream 8 (List.replicate 64 0)).wf = false := by decide
theorem test_wf_stream_length : (Instr.wholeWordStream 64 (List.replicate 63 0)).wf = false := by decide
theorem test_wf_poolAtomic : (Instr.poolAtomic .add (2 ^ 28) false 1 0 []).wf = false := by decide
theorem test_wf_syncWord : (Instr.syncWord 0 0 0 (List.replicate 31 0) 0).wf = false := by decide
theorem test_wf_codeWindowEnd : (Instr.codeWindowEnd 0 []).wf = false := by decide
theorem test_wf_flitReceive : (Instr.flitReceive 0 [0, 0] []).wf = false := by decide
theorem test_wf_tdiBlock : (Instr.tdiBlock 0 64).wf = false := by decide
theorem test_wf_ideKm : (Instr.ideKm 0 true [] (List.replicate 16 0)).wf = false := by decide
theorem test_wf_thmSample : (Instr.thmSample (List.replicate 8 40) (List.replicate 8 40)).wf = false := by decide

-- One theorem is checked after the other: side by side, the kernel's evaluations take a thread each.
set_option Elab.async false

/-! ### Witnesses: states and operands that meet the hypotheses of the statements

Each theorem names the statement and the clauses whose hypotheses it meets. -/

/-- A device that runs, its firmware ready, its memory space open, 1 s after reset; some registers stored. -/
def dev (regs : List (Nat × Nat)) : State :=
  regs.foldl (fun s x => s.setReg x.1 x.2)
    { State.reset with
      inReset := false, now := msec 1000, sosin := { ready := true }
      rst := { phase := .running, pwrgood := true, sysrst := false, perst := false }
      host := { mse := true, vfEnable := true, vfMse := true, numVfs := 64 }
      fns := [(0, { bme := true, sessions := 1 }), (1, { bme := true, sessions := 1 })] }

/-- A ring pair of VF 1 of 64 entries. -/
def ring0 : Ring := { sqbase := 0x1000, cqbase := 0x3000, sqsize := 64, cqsize := 64, cls := 4, coalcnt := 1, coalus := 0, stream := false, fresh := false }

/-- The device with ring pair 0 in a state. -/
def ringDev (st : Nat) (r : Ring) : State := { dev [(Reg.QFE_RSTATE 0, st), (Reg.STB_TICK, 9)] with rings := [(0, r)] }

/-- An index of VF 1. -/
def index1 : Index :=
  { handle := 5, vf := 1, chn := false, t2 := false, len := 64, nmax := 64, buckets := 1, bmax := 2, elog := 256, chans := [0], nbush := 2,
    lg0 := 0, lists := 0x8000, cents := 0x9000, entries := 0, idtab := 0xA000, iddir := 0xB000, tomb := 0xC000, rerank := false, vfmt := 0,
    vmx := false, dim := 0, metric := .dot, scale := 0, stride := 0, vecTun := none, vecs := 0, st := .ready,
    epochs := List.replicate 5 {} }

/-- A query of ring pair 0 in a stage. -/
def query1 (st : Nat) (ph : SeqPhase) : Sequence :=
  { vf := 1, rp := some 0, desc := List.replicate 128 0, opcode := 1, tag := 7, cls := 0, elevel := 0, admitTick := 1, index := 5, stage := st, phase := ph }

/-- The device with one sequence, of index 5. -/
def seqDev (q : Sequence) : State := { ringDev 1 ring0 with seqs := [(0, q)], indexes := [(5, index1)] }

/-- The device with a pseudo-channel 0. -/
def pchDev (c : PchState) : State := { dev [(Reg.HMC_SCRUB, 24)] with pch := [(0, c)] }

/-- The reply of a command. -/
def after (i : Instr) (s : State) : State := match exec i s with | .next t => t | _ => s

theorem witness_EveryStepKeepsMemoryCanonical :
    Memory.wf ({ dev [] with mem := [(3, 1), (9, 2)], pending := [.stepTick] } : State).mem = true := by decide +kernel

/-- STB_TICK, an unsealed register of 64 bits. -/
theorem witness_RegisterHalvesReadAtOneEdge :
    place .pf0 Reg.STB_TICK = .reg Reg.STB_TICK ∧ place .pf0 (Reg.STB_TICK + 4) = .reg (Reg.STB_TICK + 4) ∧
    ((regRow? Reg.STB_TICK).map (fun r => (r.wide, occupant (Reg.STB_TICK + 4) == some (r, Reg.STB_TICK)))) = some (true, true) ∧
    (dev []).takes .pf0 Reg.STB_TICK 4 = true ∧ (dev []).takes .pf0 (Reg.STB_TICK + 4) 4 = true := by decide +kernel

theorem witness_RegisterHalvesWrittenTogether :
    place .pf0 (Reg.TGC_BASE 0) = .reg (Reg.TGC_BASE 0) ∧ place .pf0 (Reg.TGC_BASE 0 + 4) = .reg (Reg.TGC_BASE 0 + 4) ∧
    ((regRow? (Reg.TGC_BASE 0)).map (fun r => (r.wide, occupant (Reg.TGC_BASE 0 + 4) == some (r, Reg.TGC_BASE 0), actsOnWrite.contains r.base,
      r.mask Access.writable == 0))) = some (true, true, false, false) ∧
    (dev []).takes .pf0 (Reg.TGC_BASE 0) 4 = true ∧ (dev []).takes .pf0 (Reg.TGC_BASE 0 + 4) 4 = true := by decide +kernel

theorem witness_LockedRegistersFollowTheSeal :
    (regRow? (Reg.ERR_PINMASK 1)).map (fun r => (occupant (Reg.ERR_PINMASK 1) == some (r, Reg.ERR_PINMASK 1),
      r.fields.all (fun f => f.acc == .LK), actsOnWrite.contains r.base, decide (r.mask (· == .LK) < 2 ^ 32))) = some (true, true, false, true) ∧
    (dev []).takes .pf0 (Reg.ERR_PINMASK 1) 4 = true := by decide +kernel

theorem witness_AlignedReadClearsItsRcFields :
    ((regRow? (Reg.STB_VOIDCNT 3)).map (fun r => (r.wide, r.mask (· == .RC) == ones 32))) = some (false, true) ∧
    (dev []).takes .pf0 (Reg.STB_VOIDCNT 3) 4 = true ∧ (dev []).takes .pf0 0x7F_FFF8 8 = true ∧ occupant 0x7F_FFF8 = none ∧
    occupant 0x7F_FFFC = none ∧ inSeq 0x7F_FFF8 = false ∧ inSeq 0x7F_FFFC = false ∧ inSeq 0xFF_FFFC = true ∧ occupant 0xFF_FFFC = none ∧
    (dev []).takes .pf0 0xFF_FFFC 4 = true := by decide +kernel

theorem witness_WrongSizeAccessHasNoEffect :
    Reg.STB_TICK < viewSize .pf0 ∧ (dev []).accessShut .pf0 = false ∧ (dev []).windowShut .pf0 Reg.STB_TICK = false ∧
    sizeOk (place .pf0 Reg.STB_TICK) Reg.STB_TICK 2 = false := by decide +kernel

theorem witness_PairOfRegistersWrittenInOneAccess :
    (regRow? (Reg.ERR_PINMASK 0 - 4)).map (fun r => (r.wide, actsOnWrite.contains r.base, r.mask (· == .RC))) = some (false, false, 0) ∧
    (regRow? (Reg.ERR_PINMASK 0)).map (fun r => (r.wide, actsOnWrite.contains r.base, r.mask (· == .RC))) = some (false, false, 0) ∧
    (dev []).takes .pf0 (Reg.ERR_PINMASK 0 - 4) 8 = true := by decide +kernel

/-! Ring pairs and descriptors -/

theorem witness_RingDoorbellsAndCancels :
    barShows (.vf 0) 0 = true ∧ (ringDev 1 ring0).memOpen (barFn (.vf 0)) = true ∧ (ringDev 1 ring0).tdiBlocked (.vf 0) 0 = false ∧
    (ringDev 1 ring0).up = true ∧ Tab.find (ringDev 1 ring0).rings 0 = some ring0 ∧ (ringDev 1 ring0).ringState 0 = 1 ∧
    tailOk 64 0 0 63 = true ∧ tailOk 64 0 0 64 = false ∧ cqHeadOk 64 0 0 0 = true ∧ cqHeadOk 64 0 0 1 = false ∧
    (ringDev 2 ring0).ringState 0 ≠ 1 ∧ (List.replicate 15 3).length < 16 ∧ 16 ≤ (List.replicate 16 3).length := by decide +kernel

/-- A ring pair with three descriptors to fetch, or one staged that waits for its operands. -/
def fetching : Ring := { ring0 with tail := 3 }
def staging : Ring := { ring0 with tail := 3, fetched := 1, staged := [{ desc := List.replicate 128 0 }] }

theorem witness_FetchFillsStagingInRingOrder :
    (ringDev 1 fetching).mayFetch 0 fetching = true ∧ fetching.unfetched ≠ 0 ∧ (ringDev 1 staging).mayFetch 0 staging = true ∧
    staging.staged.findIdx? (fun x => !x.ready) = some 0 ∧
    (ringDev 1 staging).shareUsed 1 + operandBytes (List.replicate 128 0) ((ringDev 1 staging).codeLen 1 (List.replicate 128 0)) ≤ 262144 := by decide +kernel

def cqFaulty : Ring := { ring0 with cqFault := some .denied }

theorem witness_CompletionAndResultWriteFaults :
    Tab.find (ringDev 1 cqFaulty).rings 0 = some cqFaulty ∧ (ringDev 1 cqFaulty).cqGone 0 = false ∧ (ringDev 1 cqFaulty).ringState 0 = 1 ∧
    Tab.find (seqDev (query1 stCQ .running)).seqs 0 = some (query1 stCQ .running) ∧ (query1 stCQ .running).isQuery = true := by decide +kernel

/-- A tenant of partition 0 with VF 1. -/
def tenant1 : Tenant := { part := 0, lcmax := 0, seqmax := 64, stkq := 100, poolq := 100, farq := 100, perchq := 1, pinmax := 1, conf := false }
def part0 : Partition := { roods := [0], perches := 1, quiet := false, slices := [(1, 100), (2, 50)], slotEnd := msec 1001, holder := 1 }
def tenantDev (s : State) : State := { s with tenants := [(1, tenant1)], parts := [(0, part0)] }

/-- An opcode in byte 0 of a descriptor of 128 bytes. -/
def descOf (op : Nat) : List Byte := leBytes 1 op ++ List.replicate 127 0
def wholeDev : State := tenantDev (ringDev 1 fetching)

theorem witness_DescriptorRunsWhole :
    wholeDev.wholeReady 0 fetching = true ∧ ([1, 2, 3, 4].map (fun op => descOp (descOf op))) = [1, 2, 3, 4] ∧
    ([1, 2, 3, 4].all (fun op => wholeDev.missing wholeDev.headroom 0 fetching (descOf op)
        (wholeDev.admitStatus 1 false (wholeDev.stage 1 (descOf op)).bad (descOf op)).isSome == 0
      && decide (wholeDev.shareUsed 1 + (wholeDev.stageWhole 1 (descOf op) [] []).share ≤ 262144))) = true := by decide +kernel

def cancelling : Ring := { ring0 with cancels := [7], cancelTick := 8 }
def endDev (q : Sequence) : State := { seqDev q with rings := [(0, cancelling)], tenants := [(1, { tenant1 with revokeDue := some 9 })] }

theorem witness_CancelsDeadlinesAndRevocationsEndWork :
    (endDev (query1 stCQ .running)).up = true ∧ cancelling.cancelTick < (endDev (query1 stCQ .running)).tick ∧
    (query1 stCQ .running).isQuery = true ∧ (query1 stCQ .running).tag ∈ cancelling.cancels ∧ (query1 stCQ .running).committing = false ∧
    (query1 stCQ .running).endable = true ∧ msec 999 ≤ (endDev (query1 stCQ .running)).now ∧
    Tab.find (endDev (query1 stCQ .running)).tenants 1 = some { tenant1 with revokeDue := some 9 } ∧
    (∀ x ∈ (endDev { query1 stCQ .running with tag := 8 }).seqs, ¬ (x.2.rp = some 0 ∧ x.2.isQuery = true ∧ x.2.tag = 7 ∧ x.2.committing = false)) := by
  decide +kernel

def killed1 : Sequence := query1 stCQ .again
def switching0 : Partition := { part0 with switching := true, holder := 2, slot := 1 }
def image1 : Image :=
  { handle := 3, vf := 1, size := 64, digest := [], tun := none, base := 0, infmt := 0, din := 0, t2 := false, outlen := 64, nlayer := 1, layeroff := 0,
    encsteps := 1, filling := some 5, perches := [0] }

theorem witness_RerunAndSlicesMoveOn :
    (tenantDev (seqDev killed1)).holds 1 0 = true ∧ { part0 with slotEnd := msec 1000 }.slotEnd ≤ (dev []).now ∧ part0.switching = false ∧
    part0.slices ≠ [] ∧ ({ dev [] with parts := [(0, switching0)] } : State).switchFilling 2 = false ∧ image1.filling = some 5 := by decide +kernel

/-! Engines and memory -/

def landed (kind a : Nat) : Landed := { kind := kind, addr := a, data := List.replicate 64 0 }
def place1 : Sequence := { query1 stPLACE .waiting with opcode := 2, pending := 2, landed := [landed 2 0x9000] }
def scan1 (l : List Landed) : Sequence := { query1 stSCAN .waiting with pending := 2, landed := l, pin := some (0, 0) }
def returned1 : Sequence := { scan1 [] with returned := [(0, [⟨3, 1, 9⟩])] }

theorem witness_EngineTakesLandedBursts :
    place1.back 2 0x9000 = some (landed 2 0x9000) ∧ extLineOf 0 0x9000 = none ∧
    (scan1 [landed 3 64]).back 3 (64 * 1) = some (landed 3 64) ∧ (scan1 [landed 3 64]).frames = [] ∧
    (scan1 [landed 4 0x8000]).back 4 (64 * 0x200) = some (landed 4 0x8000) ∧ (seqDev (scan1 [])).heldBad [landed 4 0x8000] 0x200 = none ∧
    (seqDev (scan1 [])).indexOf (scan1 []) = some index1 ∧ returned1.returned = [(0, [⟨3, 1, 9⟩])] ∧
    (scan1 [landed 0 0]).back 0 0 = some (landed 0 0) ∧
    (scan1 [landed 0 0]).holdsLines ((seqDev (scan1 [landed 0 0])).frameLines (scan1 [landed 0 0]) (landed 0 0)) = true ∧
    (scan1 [landed 1 0]).back 1 0 = some (landed 1 0) := by decide +kernel

def running1 : Sequence := { query1 stCQ .running with tile := some (0, 2), cached := [1] }
def spilled1 : Sequence := { query1 stRERANK .waiting with cands := [⟨1, 2, 3⟩], spilled := [0] }
def streaming1 : Sequence := query1 stENC .waiting
def fold1 (ls : List Nat) : Sequence := { query1 stFOLD .running with opcode := 4, lines := ls }
def encDev : State := { seqDev streaming1 with indexes := [(5, { index1 with encoder := some 3 })], images := [(3, image1)] }
/-- A publish whose retiree has one DELETE in the delta log. -/
def foldDev (q : Sequence) : State :=
  { tenantDev (seqDev q) with
    indexes := [(5, { index1 with retiree := some { record := 1 }, epochs := [{}, { st := .retiring, dlcount := 1 }, {}, {}, {}] })] }

theorem witness_StagesEndAndWaitsAreCharged :
    running1.phase = .running ∧ running1.stage = stCQ ∧ spilled1.missing.contains 0 = true ∧ spilled1.lc = true ∧ bit spilled1.void voidCtx = false ∧
    encDev.imageOf streaming1 = some image1 ∧ image1.tun = none ∧
    ({ dev [] with passes := [(0, ⟨1, 0, 0, 1⟩)] } : State).passes = [(0, ⟨1, 0, 0, 1⟩)] ∧
    ((foldDev (fold1 [])).foldWords (fold1 [])).filter isStacked ≠ [] ∧
    (foldDev (fold1 [9])).foldRoom (fold1 [9]) ≤ (foldDev (fold1 [9])).wcbFree (fold1 [9]) := by decide +kernel

def read1 : Req := { client := .raw 0, addr := 0, words := 4, level := 0 }
def free0 : PchState := { trained := true, lastRefresh := msec 1000, lcr := [read1] }
def busy0 : PchState := { trained := true, service := some (.burst read1 (List.replicate 256 7) []), serviceEnd := msec 1000 }
def late0 : PchState :=
  { trained := true, ber := List.replicate 48 { read1 with level := 4 }, lcr := List.replicate 16 read1, backlog := [{ read1 with addr := 64 }] }

theorem witness_PseudoChannelServesByRow :
    (pchDev free0).startAt free0 < (pchDev free0).tickEnd ∧ (pchDev free0).stackShut (rowAddr 0 0) = false ∧
    (pchDev free0).refreshOwed 0 ((pchDev free0).startAt free0) = false ∧ free0.copyOwed ((pchDev free0).startAt free0) = false ∧
    (((pchDev free0).refillTo ((pchDev free0).startAt free0)).candidate 0 ((pchDev free0).startAt free0) free0).map (·.1) = some read1 ∧
    (pchDev free0).reqOwned read1 = true ∧ busy0.serviceEnd ≤ (pchDev busy0).tickEnd ∧ read1.client ≠ .tgc ∧
    (pchDev free0).refreshEvery 0 = some (nsec 750) ∧
    max ((pchDev free0).freeFrom { free0 with lastRefresh := 0 }) (0 + nsec 750) < (pchDev free0).tickEnd ∧
    late0.backlog.find? (fun r => r.lc && r.addr == 64) = some { read1 with addr := 64 } ∧ late0.roomFor read1 = false ∧
    late0.victim false = some { read1 with level := 4 } := by decide +kernel

def entry1 (mask drain : Nat) : WcbEntry := { mask := mask, data := List.replicate 64 5, first := 0, rood := none, drain := drain }
def wcbDev (e : WcbEntry) : State := { dev [] with wcb := [(3, e)] }

theorem witness_TokensAndDrains :
    (dev []).tokenDue ≤ (dev []).now ∧ (wcbDev (entry1 (2 ^ 128 - 1) 0)).eligibleEntry (entry1 (2 ^ 128 - 1) 0) = true ∧
    (entry1 (2 ^ 128 - 1) 0).full = true ∧ (wcbDev (entry1 1 0)).eligibleEntry (entry1 1 0) = true ∧ (entry1 1 0).full = false ∧
    (wcbDev (entry1 1 4)).rawOutcome 3 = .clean ∧ (entry1 1 4).drain = 4 ∧ (entry1 1 1).drain = 1 ∧ (entry1 1 3).drain = 3 := by decide +kernel

def stream1 : Req := { client := .stream, addr := 1024, words := 2, write := true, data := List.replicate 128 6, level := 4 }

theorem witness_FirmwareStreamsAndPoolAtomics :
    (stackedEnd - 64) % 64 = 0 ∧ (List.replicate 64 (1 : Byte)).length % 64 = 0 ∧ stackedEnd - 64 + 64 ≤ stackedEnd ∧
    stream1.addr % 64 = 0 ∧ stream1.data.length = 64 * stream1.words ∧ stream1.addr + 64 * stream1.words ≤ stackedEnd ∧
    ((List.range 128).all (fun k => (pchDev free0).keySlotAt (1024 + k) == stream1.keySlot && (Tab.find (pchDev free0).wcb ((1024 + k) / 64)).isNone)) = true ∧
    (2 ^ 28 - 8) % 8 = 0 ∧ 2 ^ 28 - 8 + 8 ≤ 2 ^ 28 ∧
    ({ dev [] with mem := [(poolBase, 1)] } : State).num (poolBase + 0) 4 &&& (1 : Word64).toNat ≠ 0 := by decide +kernel

def idle0 : PchState := { trained := true, lastRefresh := msec 1000, scrubPos := 786431 }
def remapping0 : PchState := { trained := true, remapQ := [5], spares := 63 }
def copying0 : PchState := { trained := true, copy := some { row := 5, dest := 0, retire := false, held := some [] } }

theorem witness_ScrubDecayAndCopies :
    (pchDev idle0).scrubMay 0 = true ∧ 786432 ≤ idle0.scrubPos + 1 ∧
    ({ pchDev idle0 with now := 24 * msec 3600000 } : State).fld Reg.HMC_SCRUB (7, 0) * msec 3600000 ≤ 24 * msec 3600000 ∧
    (dev []).decayDue ≤ (dev []).now ∧ (pchDev remapping0).copyMay 0 = true ∧ (remapping0.nextCopy).isSome = true ∧ remapping0.spares < 64 ∧
    (pchDev copying0).copyMay 0 = true := by decide +kernel

def tgcDev (x : TgcRun) : State := { dev [(Reg.TGC_LEN 0, 2 ^ 21), (Reg.TGC_CTL 0, 5 * 256)] with pch := [(0, { trained := true, tgc := some x })] }

theorem witness_TrafficGeneratorRuns :
    (dev []).fld (Reg.TGC_CTL 0) (31, 31) = 0 ∧ bit (2 ^ 31 + 1) 31 = true ∧ bits (2 ^ 31 + 1) 2 0 = 1 ∧
    (tgcDev { mode := 2, pos := 1024 }).tgcOver 0 { mode := 2, pos := 1024 } = true ∧
    (tgcDev { mode := 2, pos := 1023 }).tgcOver 0 { mode := 2, pos := 1023 } = false := by decide +kernel

/-! The far tier -/

def card1 : FarCard :=
  { type3 := true, multiLogical := false, switch := false, dynamic := false, capacity := 2 ^ 40, persistent := true, gpf := true, serial := 77,
    latency := some 500, bandwidth := some 40, width := 8, rate := 3 }
def farRead1 : FarReq := { seq := some 0, line := 2 ^ 34, level := 0 }
def farWrite1 : FarWrite := { line := 2 ^ 34, old := List.replicate 64 0, sent := true }
def farDev (st : Nat) (x : FarPortState) : State := { dev [(Reg.FTC_PSTATE 0, st)] with far := { ports := [(0, x)] } }

theorem witness_FarPortsTrainAndFall :
    (farDev 0 {}).farState 0 = 0 ∧ farRefusal card1 = 0 ∧ farRefusal { card1 with type3 := false } ≠ 0 ∧ (farDev 0 {}).inReset = false ∧
    (farDev 2 {}).farUp 0 = true ∧ (farDev 3 { serial := some 77 }).farState 0 = 3 ∧
    ((farDev 3 { serial := some 77 }).farAt 0).serial = some card1.serial ∧ ((farDev 3 { serial := some 77 }).farAt 0).retryAt ≤ (dev []).now := by
  decide +kernel

theorem witness_FarReadsAndWrites :
    ((farDev 2 { lc := [farRead1] }).farAt 0).freeTag = some 0 ∧ (farDev 2 { lc := [farRead1] }).farOwned farRead1 = true ∧
    Tab.find ((farDev 2 { tags := [(0, farRead1)] }).farAt 0).tags 0 = some farRead1 ∧ farPortOf (64 * farRead1.line) = 0 ∧
    farRead1.sent + usec ((dev []).fld Reg.FTC_TIMEOUT (15, 0)) ≤ (dev []).now ∧ farWrite1.sent = true ∧
    ((farDev 2 { gpf := 2 }).farAt 0).gpf = 2 ∧ (farDev 2 {}).far.pollAt ≤ (dev []).now := by decide +kernel

/-! Lenlink and the fabric -/

def lnkDev (st : Nat) (x : LnkPort) : State := { dev [(Reg.LNK_PSTAT 0, st)] with lnk := [(0, x)] }
def lnkState_ (st : Nat) : Nat := st * 2 ^ (F.LNK_PSTAT_STATE).2

theorem witness_LenlinkSearchMoves :
    (lnkDev (lnkState_ 1) { slots := 63 }).lnkState 0 = 1 ∧ usec 2048 * 64 ≤ (dev []).now ∧
    ((lnkDev (lnkState_ 1) { firstHeard := some 0 }).lnkAt 0).firstHeard = some 0 ∧ usec 8192 ≤ (dev []).now ∧
    (lnkDev (lnkState_ 1) {}).fld (Reg.LNK_PSTAT 0) F.LNK_PSTAT_FULL = 0 ∧ (lnkDev (lnkState_ 1) { slots := 64 }).fld (Reg.LNK_PSTAT 0) F.LNK_PSTAT_HEARD = 0 ∧
    (lnkDev (lnkState_ 1 + 2 ^ F.LNK_PSTAT_HEARD.2) { slots := 64 }).fld (Reg.LNK_PSTAT 0) F.LNK_PSTAT_HEARD ≠ 0 ∧
    (lnkDev (lnkState_ 2) {}).lnkState 0 = 2 ∧ (lnkDev (lnkState_ 3) { quick := 2 }).lnkState 0 = 3 ∧ msec 2 ≤ (dev []).now := by decide +kernel

def goodLane : LaneMeas := { snr := 1000, corr := 0, eyeUp := 100, eyeMid := 100, eyeLow := 100, ctle := 0, dfe := 0 }

theorem witness_LenlinkTrainsToActive :
    (lnkDev (lnkState_ 4) { enterAt := msec 1000 }).lnkState 0 = 4 ∧ (dev []).now < msec 1000 + ({ enterAt := msec 1000 } : LnkPort).adaptLimit ∧
    0 + ({} : LnkPort).adaptLimit ≤ (dev []).now ∧ (lnkDev (lnkState_ 5) {}).lnkState 0 = 5 ∧ (List.replicate 9 goodLane).length = 9 ∧
    (∀ l, l < 9 → ((lnkDev (lnkState_ 5) {}).lnkLane 0 l).failed = false) ∧
    (∀ m ∈ List.replicate 9 goodLane, (lnkDev (lnkState_ 5) {}).fld Reg.LNK_QMIN F.LNK_QMIN_SNR ≤ m.snr ∧
      m.corr ≤ (lnkDev (lnkState_ 5) {}).fld Reg.LNK_QMIN F.LNK_QMIN_CORR) ∧
    (dev []).now ≤ msec 995 + msec 5 := by decide +kernel

theorem witness_LenlinkPartnersTuneEachOther :
    (lnkDev (lnkState_ 3) {}).training 0 = true ∧ 3 ≤ (lnkDev (lnkState_ 8) {}).lnkState 0 ∧ (lnkDev (lnkState_ 8) {}).lnkState 0 ≤ 8 ∧
    syncOk (upright (List.replicate 32 0)).2 = false ∧ (lnkDev (lnkState_ 4) {}).lnkRate 0 = 0 := by decide +kernel

theorem witness_LenlinkLosesLockAndRetrains :
    (lnkDev (lnkState_ 6) {}).lnkState 0 = 6 ∧ (lnkDev (lnkState_ 5) { quick := 3 }).lnkState 0 = 5 ∧ 0 + msec 5 ≤ (dev []).now ∧
    (lnkDev (lnkState_ 9) {}).lnkState 0 = 9 ∧ 0 + msec 1000 ≤ (dev []).now ∧ (lnkDev 0 {}).lnkState 0 = 0 := by decide +kernel

def dozing : LnkPort := { partner := { dozeReq := true, dozeAck := true } }
def dozeDev : State := (lnkDev (lnkState_ 6) dozing).setReg (Reg.LNK_PCTL 0) (2 ^ F.LNK_PCTL_DOZE.2)

theorem witness_LenlinkRatesRampsAndDoze :
    dozeDev.lnkState 0 = 6 ∧ dozeDev.fld (Reg.LNK_PCTL 0) F.LNK_PCTL_DOZE = 1 ∧ (dozeDev.lnkAt 0).partner.state ≠ 8 ∧ dozeDev.dozeAgreed 0 = true ∧
    (lnkDev (lnkState_ 7) {}).lnkState 0 = 7 ∧ (lnkDev (lnkState_ 7) {}).fld (Reg.LNK_PCTL 0) F.LNK_PCTL_DOZE = 0 ∧ msec 999 ≤ (dev []).now := by decide +kernel

def fabDev (st : Nat) (x : FabPort) : State := { lnkDev (lnkState_ st) { slot := 1 } with fab := { map := .torus 4 1 1 1, ports := [(0, x)], reach := [1] } }

theorem witness_LinkLayerKeepsOrder :
    (fabDev 6 { up := true }).lnkState 0 = 6 ∧ flitOk (List.replicate 64 1) = false ∧ ((fabDev 6 { up := true }).fabPort 0).up = true ∧
    ((fabDev 6 { nakGot := true }).fabPort 0).nakGot = true ∧ 8 ≤ ((fabDev 6 { fails := 8 }).fabPort 0).fails ∧ (fabDev 9 {}).lnkState 0 = 9 ∧
    ((fabDev 6 { up := true }).lnkAt 0).slot ≠ 0 ∧ ((fabDev 6 { up := true }).fabPort 0).again = [] := by decide +kernel

/-- A message of a type that has arrived by port 0. -/
def heard1 (m : Msg) : Arrived := { port := 0, lane := 0, msg := m }
def msgDev (m : Msg) (q : List (Nat × Sequence)) : State := { fabDev 6 { up := true } with seqs := q, fab := { map := .torus 4 1 1 1, reach := [1], inbox := [heard1 m] } }

theorem witness_FabricPortsFollowTheMap :
    ((fabDev 6 {}).fab.map.partner (fabDev 6 {}).devId 0).isSome = true ∧
    ((msgDev { mtype := 0x0A, home := 1 } []).take 0 0x0A).isSome = true ∧ ((fabDev 6 {}).lnkAt 0).flyMeas < 2 ^ 16 := by decide +kernel

def lane1 : Lane := { home := 1, hent := 2, gen := 3, desc := [], cls := 0, awaits := [1], timer := some 5 }
def laneDev (l : Lane) : State := { msgDev { mtype := 2, home := 1, hent := 2, gen := 3 } [] with fab := { map := .torus 4 1 1 1, reach := [1], lanes := [l], inbox := [heard1 { mtype := 2, home := 1, hent := 2, gen := 3 }] } }
def remote1 : Sequence := { query1 stMERGE .waiting with remote := { uses := true, sent := true, timer := some 5 } }

theorem witness_ShardedSearchLanes :
    ((msgDev { mtype := 1, home := 1 } []).take 0 1).isSome = true ∧ (msgDev { mtype := 1, home := 1 } []).lane 1 0 0 = none ∧
    (laneDev lane1).lane 1 2 3 = some lane1 ∧ ((laneDev lane1).take 0 2).isSome = true ∧ lane1.awaits.contains ((laneDev lane1).from_ 0) = true ∧
    (laneDev { lane1 with awaits := [] }).laneReady { lane1 with awaits := [] } = true ∧ 5 ≤ (dev []).now ∧ remote1.isQuery = true ∧
    ((msgDev { mtype := 3, home := 1 } []).take 0 3).isSome = true := by decide +kernel

/-- Shard 1 of index 5 of device 1, at handle 5 here. -/
def shard1 : Index := { index1 with sharded := true, shards := [1, 0], homeDev := 1, ghandle := 9, myShard := 1 }
def write1 : Msg := { mtype := 4, home := 1, hent := 2, xarg := 1, body := leBytes 8 9 ++ leBytes 2 1 ++ List.replicate 118 0 }
def shardDev (m : Msg) : State :=
  { msgDev m [] with tenants := [(1, tenant1)], parts := [(0, part0)], indexes := [(5, shard1)]
                     fab := { map := .torus 4 1 1 1, reach := [1], inbox := [heard1 m], logs := [{ index := 5 }], pubs := [{ index := 5, home := 1, hent := 2, gen := 0, epoch := 4, retiree := 0, phase := 1 }] } }
def asking1 : Sequence := { query1 stCOMMIT .waiting with opcode := 2, remote := { sent := true, timer := some 5, serial := 1 } }

theorem witness_RemoteWritesRunOnce :
    ((shardDev write1).take 0 4).isSome = true ∧ write1.dest = (shardDev write1).devId ∧
    (shardDev write1).shardOf 1 9 = some (5, shard1) ∧ field write1.body 8 2 = shard1.myShard ∧ (shardDev write1).shardOf 1 8 = none ∧
    write1.xarg = 0 + 1 ∧ (shardDev write1).writeRuns 5 1 = false ∧
    (({ shardDev write1 with fab := { (shardDev write1).fab with inbox := [] } } : State).entryFor 1 0).isSome = true ∧
    ((msgDev { mtype := 5, xarg := 1 } [(0, asking1)]).take 0 5).isSome = true ∧ asking1.isQuery = false := by decide +kernel

def publishing1 : Sequence := { query1 stFOLD .waiting with opcode := 4, remote := { sent := true, timer := some 5 } }
def homeIndex : Index := { index1 with sharded := true, shards := [0, 1] }

theorem witness_ShardedPublishes :
    ((shardDev { write1 with mtype := 6, xarg := 4 }).take 0 6).isSome = true ∧ ((shardDev write1).pubOf 5 4).isSome = true ∧ (shardDev write1).pubOf 5 3 = none ∧
    ((shardDev write1).entryFor 1 0).isSome = true ∧ ((msgDev { mtype := 7, dest := 1 } [(0, publishing1)]).take 0 7).isSome = true ∧
    ({ msgDev { mtype := 9 } [(0, publishing1)] with indexes := [(5, homeIndex)] } : State).otherShards publishing1 = [1] := by decide +kernel

def leagueDev : State := { fabDev 6 { up := true } with fab := { map := .torus 4 1 1 1, reach := [1], ports := [(0, { up := true })], league := { heardAt := some 0, lups := [(1, (0, 0, 5))] } } }

theorem witness_LeagueRunsByPeriods :
    leagueDev.leads = true ∧ leagueDev.fab.league.ldownDue ≤ leagueDev.now ∧ ((msgDev { mtype := 12 } []).take 0 12).isSome = true ∧
    ((msgDev { mtype := 11 } []).take 0 11).isSome = true ∧ ((msgDev { mtype := 13, dest := 1 } []).take 0 13).isSome = true ∧
    0 + msec 1 ≤ leagueDev.now ∧ (leagueDev.setReg Reg.FAB_LEAGUE (2 ^ 31)).agreed = true ∧ Tab.find leagueDev.fab.league.lups 1 = some (0, 0, 5) := by decide +kernel

/-! The host interface -/

theorem witness_ConfigurationAndClosedMemory :
    (State.reset).configReady = false ∧ (dev []).configReady = true ∧ ((dev []).fnAt 0).flr = false ∧ (dev []).host.bars.length = 3 ∧
    ({ dev [] with host := { (dev []).host with vfEnable := false } } : State).host.vfEnable = false ∧ (dev []).host.vfEnable = true ∧
    ({ dev [] with host := { (dev []).host with mse := false } } : State).memOpen (barFn .pf0) = false ∧
    ({ dev [] with fns := [(1, { tdi := 1 })] } : State).tdiBlocked .pf2 0 = true := by decide +kernel

/-- A command in place 0 of a mailbox, at its turn: opcode, payload, and a buffer of some length at 0x1000. -/
def cmdSlot (op : Nat) (p : List Byte) (buf : Nat) : MbxSlot :=
  { st := 2, accepted := 1
    copy := leBytes 2 op ++ leBytes 2 (if buf = 0 then 0 else 1) ++ leBytes 4 0 ++ leBytes 4 p.length ++ leBytes 4 0 ++ leBytes 8 0x1000
      ++ leBytes 8 buf ++ p ++ List.replicate (448 - p.length) 0 }
def withCmd (s : State) (m op : Nat) (p : List Byte) (buf : Nat) : State :=
  { s with sosin := { s.sosin with mbx := [(m, { slots := [(0, cmdSlot op p buf)] })] } }
def cmdDev (m op : Nat) (p : List Byte) (buf : Nat) : State := withCmd (tenantDev (dev [])) m op p buf

theorem witness_DmaRequestsThatFail :
    ((cmdDev 1 0x0203 [] 64).slotAt 1 0).st = 2 ∧ bit (field ((cmdDev 1 0x0203 [] 64).slotAt 1 0).copy 2 2) 0 = true ∧
    ({ dev [] with fns := [(1, { atsEnable := true })] } : State).fnAt (mbxFn 1) = { atsEnable := true } := by decide +kernel

theorem witness_HostLinkEvents :
    (dev []).host.protoDue = none ∧ ({ dev [] with host := { protoDue := some (5, 1) } } : State).host.protoDue = some (5, 1) ∧ 5 ≤ (dev []).now ∧
    (dev []).fatal = false ∧ (dev []).clocked = true ∧ 3 ≤ (dev [(Reg.RST_STAGE, 13 * 2 ^ F.RST_STAGE_RUNG.2)]).rung := by decide +kernel

theorem witness_MessagesAndStreams :
    (dev []).fnExists 64 = true ∧ (dev []).secured 0 = true ∧
    ({ dev [] with fns := [(1, { msixPend := true, msixEnable := true, bme := true })] } : State).maySend 1 = true ∧
    (dev [(Reg.HIF_IDESTATE 3, 2)]).fld (Reg.HIF_IDESTATE 3) F.HIF_IDESTATE_STATE = 2 ∧
    (dev [(Reg.HIF_IDESTATE 3, 2)]).fld (Reg.HIF_IDESTATE 3) F.HIF_IDESTATE_LINK = 0 ∧
    (dev [(Reg.HIF_IDESTATE 0, 2 + 2 ^ F.HIF_IDESTATE_LINK.2)]).fld (Reg.HIF_IDESTATE 0) F.HIF_IDESTATE_LINK = 1 := by decide +kernel

def confDev (tdi : Nat) : State :=
  { dev [(Reg.HIF_IDESTATE 1, 2), (Reg.HIF_TDISTATE 0, tdi)] with
    tenants := [(1, { tenant1 with conf := true })], parts := [(0, part0)], fns := [(0, { sessions := 1 }), (1, { pasid := some 5, tdi := tdi, sessions := 1 })]
    host := { (dev []).host with ideCover := [(1, [1])] } }

theorem witness_InterfacesAndFunctionResets :
    (confDev 0).secured 0 = true ∧ ((confDev 0).fnAt 1).pasid = some 5 ∧ (confDev 0).covered 1 = true ∧ (confDev 1).tdi 1 = 1 ∧
    (confDev 2).tdiLocked 1 = true ∧ (confDev 3).tdiLocked 1 = false ∧ (confDev 2).secured 1 = true ∧
    (confDev 0).installStatus 1 [] ≠ 0 ∧ (confDev 0).configReady = true ∧ (confDev 0).fnExists 1 = true ∧
    (({ dev [(Reg.STB_TICK, 9)] with fns := [(2, { flr := true })] } : State).fnAt 2).flrTick < 9 ∧
    ({ dev [(Reg.STB_TICK, 9)] with fns := [(2, { flr := true })] } : State).flrKeyGone 2 = true ∧ ((dev []).mbxAt 2).canReset = true := by decide +kernel

/-! Resets, start-up and clocks -/

def entryDev : State := { dev [] with rst := { phase := .entry, pwrgood := true, sysrst := false, perst := false, cold := false, trigger := trigPerst } }
def ladderDev (rung : Nat) (stk : Tab Nat) : State :=
  { dev [(Reg.RST_STAGE, rung * 2 ^ F.RST_STAGE_RUNG.2), (Reg.FTC_PSTATE 0, 0), (Reg.FTC_PSTATE 1, 0)] with
    rst := { phase := .ladder, pwrgood := true, sysrst := false, perst := false, stk := stk }, sosin := {} }
def eight (k : Nat) : Tab Nat := (List.range 8).map (fun n => (n, k))

theorem witness_ResetsTakeHold :
    (dev []).rst.phase = .running ∧ [(7 : Byte)].all (· == 0xFF) = false ∧
    ({ dev [] with rst := { phase := .off } } : State).rst.pwrgood = false ∧ entryDev.rst.phase = .entry ∧ entryDev.entryOver = true := by decide +kernel

theorem witness_StartUpClimbs :
    State.reset.released = true ∧ (ladderDev 2 []).released = false ∧ (ladderDev 2 []).rung = 2 ∧ (ladderDev 2 []).fld Reg.PIN_STRAP F.PIN_STRAP_TEST = 0 ∧
    (ladderDev 11 (eight 3)).rung = 11 ∧ (∀ k, k < 8 → (ladderDev 11 (eight 3)).stkAt k = 3) ∧ (ladderDev 11 (eight 1)).stkAt 7 = 1 ∧
    (ladderDev 11 (eight 2)).stkAt 7 = 2 ∧ (ladderDev 12 (eight 3)).readyNow = true ∧ (ladderDev 4 []).fld Reg.RST_STAGE F.RST_STAGE_RUNG = 4 ∧
    ((ladderDev 4 []).fwSlot 0).committed = false ∧ (ladderDev 4 []).bootCtl.active < 2 := by decide +kernel

def mcDev : State := { dev [(Reg.CLK_STAT, 15)] with mc := { running := true, probeAt := 5, wdogAt := 5 } }

theorem witness_ClocksAndControllerFail :
    mcDev.clocked = true ∧ bit (mcDev.reg Reg.CLK_STAT) 0 = true ∧ bit (mcDev.reg Reg.CLK_STAT) 3 = true ∧ mcDev.mc.wdogAt ≤ mcDev.now ∧
    mcDev.sosin.ready = true ∧ (ladderDev 12 []).sosin.ready = false ∧ (ladderDev 12 []).rst.phase = .ladder := by decide +kernel

/-! Sosin commands -/

def zeros (n : Nat) : List Byte := List.replicate n 0

theorem witness_SosinReadsChangeNothing :
    ([(0, 0x0001, 0), (1, 0x0001, 0), (0, 0x0002, 0), (1, 0x010C, 1), (1, 0x0407, 0), (0, 0x0702, 0), (0, 0x0903, 0), (0, 0x0A01, 11), (0, 0x0A02, 0), (0, 0x0C03, 0), (0, 0x0802, 2),
      (1, 0x0204, 10), (1, 0x0603, 17), (1, 0x0208, 16)].all (fun x => (cmdDev x.1 x.2.1 (zeros x.2.2) 0).admits x.1 0 x.2.1)) = true ∧
    (cmdDev 0 0x0B01 (leBytes 1 5 ++ leBytes 1 32 ++ zeros 14) 0).admits 0 0 0x0B01 = true ∧
    (cmdDev 0 0x010C (leBytes 1 64) 0).admits 0 0 0x010C = true := by decide +kernel

/-- Amounts of PART_CREATE: roods 1 and 2, no perch, shared. -/
def partArgs : List Byte := leBytes 2 6 ++ zeros 38

theorem witness_PartitionCommands :
    (cmdDev 0 0x0101 partArgs 0).admits 0 0 0x0101 = true ∧
    (let c := (cmdDev 0 0x0101 partArgs 0).cmdAt 0 0 []
     bitList (c.fld 0 2) 16 = [1, 2] ∧ lcresFault c = none ∧ [1, 2].all (fun r => !(cmdDev 0 0x0101 partArgs 0).roodTaken none r) = true ∧
     [1, 2].all (cmdDev 0 0x0101 partArgs 0).roodFailed = false ∧ (cmdDev 0 0x0101 partArgs 0).perchesElsewhere none + 0 ≤ 16) ∧
    (withCmd { dev [] with parts := [(0, part0)] } 0 0x0102 (leBytes 1 0 ++ leBytes 1 2 ++ zeros 38) 0).admits 0 0 0x0102 = true ∧
    (cmdDev 0 0x0104 (leBytes 1 0 ++ leBytes 1 1 ++ zeros 6 ++ leBytes 1 1 ++ zeros 3 ++ leBytes 4 10) 0).admits 0 0 0x0104 = true ∧
    (withCmd { dev [] with parts := [(0, part0)] } 0 0x0103 (zeros 1) 0).tenantsOf 0 = [] ∧
    (withCmd { dev [] with parts := [(0, part0)] } 0 0x0103 (zeros 1) 0).admits 0 0 0x0103 = true := by decide +kernel

/-- TENANT_BIND of VF 2 to partition 0: class NONE, one sequence, a slot of 10 µs. -/
def bindArgs : List Byte := leBytes 1 2 ++ leBytes 1 0 ++ leBytes 1 4 ++ leBytes 1 0 ++ leBytes 2 1 ++ zeros 14 ++ leBytes 4 10

theorem witness_TenantCommands :
    (cmdDev 0 0x0105 bindArgs 0).admits 0 0 0x0105 = true ∧
    (tenantRanges { part := 0, lcmax := 4, seqmax := 1, stkq := 0, poolq := 0, farq := 0, perchq := 0, pinmax := 0, conf := false, phase := 1 } part0).all (fun x => !x.1) = true ∧
    (cmdDev 0 0x0105 bindArgs 0).overAmount 0 2 part0 { part := 0, lcmax := 4, seqmax := 1, stkq := 0, poolq := 0, farq := 0, perchq := 0, pinmax := 0, conf := false, phase := 1 } = none ∧
    part0.table.length < 16 ∧ (cmdDev 0 0x0106 (leBytes 1 1 ++ zeros 19) 0).admits 0 0 0x0106 = true ∧ (cmdDev 0 0x0106 (leBytes 1 1 ++ zeros 19) 0).tdiLocked 1 = false ∧
    [0x0107, 0x0108, 0x0109].all (fun op => (cmdDev 0 op (leBytes 1 1) 0).admits 0 0 op) = true := by decide +kernel

theorem witness_KeysRingsAndPasids :
    (cmdDev 0 0x010A (leBytes 1 1 ++ zeros 15) 0).admits 0 0 0x010A = true ∧ ((cmdDev 0 0x010A [] 0).keyOf 1).st = 0 ∧
    (cmdDev 0 0x010B (leBytes 4 0x4C414553) 0).admits 0 0 0x010B = true ∧
    (cmdDev 0 0x0003 (leBytes 4 1 ++ leBytes 4 0x54455352) 0).admits 0 0 0x0003 = true ∧
    (cmdDev 1 0x0501 (leBytes 1 15 ++ leBytes 1 0 ++ leBytes 1 1 ++ zeros 1 ++ leBytes 1 6 ++ leBytes 1 16 ++ zeros 18 ++ leBytes 4 1 ++ zeros 4) 0).admits 1 0 0x0501 = true ∧
    (withCmd (tenantDev (ringDev 1 ring0)) 1 0x0502 (zeros 1) 0).admits 1 0 0x0502 = true ∧
    (cmdDev 1 0x0503 (leBytes 4 (2 ^ 20 - 1) ++ leBytes 1 1) 0).admits 1 0 0x0503 = true ∧
    (cmdDev 1 0x0503 (leBytes 4 (2 ^ 20) ++ leBytes 1 1) 0).admits 1 0 0x0503 = false := by decide +kernel

def indexDev (m op : Nat) (p : List Byte) (buf : Nat) (i : Index) : State :=
  withCmd { tenantDev (dev []) with indexes := [(5, i)], images := [(3, image1)], filters := [(filterKey 5 2, { handle := 2, vf := 1, index := 5, grains := 1, base := 0, pool := false })] } m op p buf

theorem witness_IndexCommands :
    (indexDev 1 0x0202 (leBytes 8 5) 0 index1).admits 1 0 0x0202 = true ∧ (indexDev 1 0x0202 (leBytes 8 5) 0 index1).indexBusy [0x0203, 0x0206] 5 = false ∧
    (indexDev 1 0x0202 (leBytes 8 5) 0 index1).indexNamed ((indexDev 1 0x0202 (leBytes 8 5) 0 index1).cmdAt 1 0 []) 5 = some index1 ∧
    (indexDev 1 0x0203 (leBytes 8 5 ++ zeros 32) 2048 { index1 with st := .loading }).admits 1 0 0x0203 = true ∧
    (indexDev 1 0x0205 (leBytes 8 5 ++ leBytes 8 3) 0 { index1 with st := .loading }).admits 1 0 0x0205 = true ∧
    (indexDev 1 0x0206 (leBytes 8 5 ++ zeros 24) 0 index1).admits 1 0 0x0206 = true := by decide +kernel

theorem witness_FilterAndImageCommands :
    (indexDev 1 0x0301 (leBytes 8 5 ++ zeros 1) 64 index1).admits 1 0 0x0301 = true ∧
    (indexDev 1 0x0302 (leBytes 8 5 ++ leBytes 4 2) 0 index1).admits 1 0 0x0302 = true ∧
    ((indexDev 1 0x0302 (leBytes 8 5 ++ leBytes 4 2) 0 index1).filterFor 1 index1 2).isSome = true ∧
    [0x0402, 0x0403, 0x0404, 0x0405].all (fun op => (indexDev 1 op (leBytes 8 3) 0 index1).admits 1 0 op) = true ∧
    ((indexDev 1 0x0402 (leBytes 8 3) 0 index1).imageFor 1 3).isSome = true ∧ (indexDev 1 0x0403 (leBytes 8 3) 0 index1).noClass 1 = false ∧
    (cmdDev 1 0x0406 (zeros 8) 0).admits 1 0 0x0406 = true := by decide +kernel

def tun1 : Tun :=
  { name := leBytes 16 7, vf := 1, both := false, port := 0, size := 2 ^ 21, persist := false, retain := false, base0 := 2 ^ 40, base1 := 0, keyid := 0, st := .online }
def tunDev (m op : Nat) (p : List Byte) (buf : Nat) : State :=
  withCmd { tenantDev (dev [(Reg.FTC_PSTATE 0, 2), (Reg.FTC_CAP 0, 2 ^ 40)]) with far := { tuns := [(1, tun1)], nextTun := 2, keys := [(1, { st := 1, key := [1] })] } } m op p buf

theorem witness_TunAndMapCommands :
    (tunDev 1 0x0601 (leBytes 16 9 ++ leBytes 1 1 ++ zeros 7 ++ leBytes 8 (2 ^ 21)) 0).admits 1 0 0x0601 = true ∧
    (tunDev 1 0x0601 [] 0).noKey 1 = false ∧ (tunDev 1 0x0601 [] 0).tunNamed 1 (leBytes 16 9) = none ∧ (tunDev 1 0x0601 [] 0).tunRoom 0 = true ∧
    (tunDev 1 0x0604 (leBytes 8 1 ++ leBytes 16 7 ++ leBytes 8 0) 64).admits 1 0 0x0604 = true ∧
    (tunDev 1 0x0604 [] 0).tunNamed 1 (leBytes 16 7) = some (1, tun1) ∧ (tunDev 1 0x0602 (leBytes 16 7 ++ zeros 1) 0).admits 1 0 0x0602 = true ∧
    (tunDev 1 0x0602 [] 0).tunUsed 1 = false ∧ (cmdDev 0 0x0701 (zeros 8) 0).admits 0 0 0x0701 = true ∧ (mapOfRequest (zeros 448)).isSome = true := by decide +kernel

theorem witness_MemoryPowerAndDebugCommands :
    (cmdDev 0 0x0801 (leBytes 8 4096) 0).admits 0 0 0x0801 = true ∧ inReplacement 4096 = false ∧
    (cmdDev 0 0x0803 (leBytes 8 0 ++ leBytes 4 2 ++ leBytes 1 1) 0).admits 0 0 0x0803 = true ∧ (cmdDev 0 0x0803 [] 0).owner 256 = .free ∧
    (cmdDev 0 0x0901 (leBytes 2 1 ++ leBytes 2 1100 ++ leBytes 1 16 ++ zeros 5) 0).admits 0 0 0x0901 = true ∧
    (cmdDev 1 0x0902 (leBytes 1 3) 0).admits 1 0 0x0902 = true ∧ (cmdDev 0 0x0904 (leBytes 1 1) 0).admits 0 0 0x0904 = true ∧
    (cmdDev 0 0x0B02 (leBytes 1 5 ++ zeros 15) 0).admits 0 0 0x0B02 = true ∧ (injectable.head?).isSome = true ∧
    (cmdDev 0 0x0B03 (zeros 4) 0).admits 0 0 0x0B03 = true ∧ (cmdDev 0 0x0C01 [] 4096).admits 0 0 0x0C01 = true ∧ (cmdDev 0 0x0C02 (zeros 2) 0).admits 0 0 0x0C02 = true ∧
    (withCmd (dev [(Reg.MGT_FUSE, 0)]) 0 0x0D01 [] 0).admits 0 0 0x0D01 = true ∧ (cmdDev 0 0x0D02 [] 0).admits 0 0 0x0D02 = true := by decide +kernel

/-! Mailboxes, interrupts, power, pins and the management links -/

def doneSlot : MbxSlot := { cmdSlot 0x0001 [] 0 with ran := true }

theorem witness_MailboxSlots :
    (dev []).mbxOpen 1 = true ∧ ((dev []).mbxAt 1).resetting = false ∧
    (({ dev [] with sosin := { ready := true, mbx := [(1, { slots := [(3, { st := 1, req := zeros 480 })] })] } } : State).nextPosted).isSome = true ∧
    doneSlot.st = 2 ∧ (dev []).keptInFlash (field doneSlot.copy 0 2) = true ∧ (dev []).keyEmptied doneSlot = true ∧
    (dev []).tenantQuiet 1 = true ∧ (cmdRow? 0x0001).map (·.cls) = some 0 ∧ doneSlot.since + msec 1000 ≤ (dev []).now ∧
    ((dev []).slotAt 65 3).st = 0 := by decide +kernel

theorem witness_InterruptTreeAndRecords :
    ({ ring0 with unsig := 1 } : Ring).oldest + usec 0 ≤ (dev []).now ∧ (dev []).fatal = false ∧ (dev []).fatalPend = none := by decide +kernel

def vreg1 : Regulator := { seg := 0, addr := 1, domain := 0, corev := true, lsb := 1, icc := 1 }
def pwrDev : State := { dev [(Reg.PWR_STATE, 5 * 2 ^ 29)] with pwr := { regs := [vreg1], mapOk := true, settledFor := some 0 } }

theorem witness_PowerAndMetering :
    pwrDev.pwr.pollAt ≤ pwrDev.now ∧ pwrDev.pwr.mapOk = true ∧ vreg1.lost = false ∧ vreg1.goodAt + msec 100 ≤ pwrDev.now ∧
    pwrDev.pwr.windowEnd ≤ pwrDev.now ∧ pwrDev.wantedOp ≠ pwrDev.op ∧ pwrDev.wantedOp < 8 ∧ pwrDev.voltsFor pwrDev.wantedOp = true ∧
    ({ dev [] with pwr := { trans := some { target := 0, asked := some 0 } } } : State).pwr.trans = some { target := 0, asked := some 0 } ∧
    0 + msec 1 ≤ (dev []).now ∧ ({ minuteWin := 60000 } : Meter).minuteWin = 60000 := by decide +kernel

theorem witness_PinsAndTestPorts :
    ({ dev [] with pins := { mio := [(15, { holdEnd := some 5 })] } } : State).mio 15 = { holdEnd := some 5 } ∧ ((dev []).mio 15).pendPull = none ∧
    ({ dev [] with pins := { pulseEnd := some (msec 1001) } } : State).pulsing = true ∧ (dev []).pulsing = false ∧
    ({ dev [] with debug := true, regs := [(Reg.MGT_FUSE, 0)] } : State).fld Reg.MGT_FUSE F.MGT_FUSE_DBGOFF = 0 := by decide +kernel

def job1 : FlashJob := { prio := 1, area := 0, kind := 2, payload := [] }

theorem witness_FlashAndBmcLink :
    ({ dev [] with mc := { jobs := [job1] } } : State).mc.nextJob = some job1 ∧ (dev []).spiOff = false ∧
    ({ dev [] with mc := { jobs := [{ job1 with slot := some 3 }], flash := [(3, zeros 64)] } } : State).mc.nextJob = some { job1 with slot := some 3 } ∧
    ({ search := some 9 } : Mc).search = some 9 ∧ mcDev.sosin.bmcAbsent = true ∧ mcDev.mc.probeAt ≤ mcDev.now ∧
    ({ mcDev with sosin := { ready := true, bmcAbsent := false } } : State).fatal = false := by decide +kernel

theorem witness_AttestationAndUpdates :
    (dev []).spdmOpen (some 64) = true ∧ (dev []).spdmOpen none = true ∧ (dev []).sosin.pldm = none ∧ (dev []).staging_ = false ∧
    ({ lastAt := 0 } : Pldm).lastAt + msec 90000 ≤ msec 90000 := by decide +kernel

theorem witness_CodeDistancesAndSurvivors :
    (1024 : Nat) ∈ [64, 128, 256, 512, 1024] ∧ (zeros 128).length = 1024 / 8 ∧ (zeros 16).length = 2 * (64 / 8) := by decide +kernel

end Sys2Proof.Machine
end

section
/-! Bit fields of registers: which bits `bit`, `bits`, `setBits` and `without` show and leave, and what a field reads after it
has been stored. -/

namespace Sys2Proof.Machine

/-! ### Bits and fields of numbers -/

theorem bit_eq_testBit (v i : Nat) : bit v i = v.testBit i := by
  rw [bit, Nat.testBit_eq_decide_div_mod_eq]; rfl

theorem testBit_bits (v hi lo i : Nat) : (bits v hi lo).testBit i = (decide (i < hi + 1 - lo) && v.testBit (i + lo)) := by
  simp [bits, Nat.testBit_mod_two_pow, Nat.testBit_div_two_pow]

/-- Bits above 63 of a value make no difference to a field below. -/
theorem bits_mod_two_pow_64 (v : Nat) {hi lo : Nat} (h : hi < 64) : bits (v % 2 ^ 64) hi lo = bits v hi lo := by
  refine Nat.eq_of_testBit_eq fun i => ?_
  simp only [testBit_bits, Nat.testBit_mod_two_pow]
  by_cases hi' : i < hi + 1 - lo
  · have : i + lo < 64 := by omega
    simp [this]
  · simp [hi']

theorem without_div_two (v m : Nat) : without v m / 2 = without (v / 2) (m / 2) := by
  have hle : v &&& m ≤ v := Nat.and_le_left
  have hdiv : (v &&& m) / 2 = v / 2 &&& m / 2 := Nat.and_div_two
  have hle2 : v / 2 &&& m / 2 ≤ v / 2 := Nat.and_le_left
  have hmod : (v &&& m) % 2 = 1 → v % 2 = 1 := fun h => (Nat.and_mod_two_eq_one.mp h).1
  simp only [without]
  omega

/-- `without v m` has exactly the bits of `v` that the mask does not name. -/
theorem testBit_without (v m j : Nat) : (without v m).testBit j = (v.testBit j && !m.testBit j) := by
  induction j generalizing v m with
  | zero =>
    have hle : v &&& m ≤ v := Nat.and_le_left
    have hmod : (v &&& m) % 2 = 1 ↔ v % 2 = 1 ∧ m % 2 = 1 := Nat.and_mod_two_eq_one
    rw [Bool.eq_iff_iff]
    simp only [Nat.testBit_zero, without, Bool.and_eq_true, decide_eq_true_eq, Bool.not_eq_true', decide_eq_false_iff_not]
    omega
  | succ j ih => simp only [Nat.testBit_succ, without_div_two, ih]

@[simp] theorem without_zero (v : Nat) : without v 0 = v := by simp [without]

/-- A mask of all of the low `w` bits takes the value modulo `2 ^ w` away. -/
theorem without_ones (v w : Nat) : without v (ones w) = v - v % 2 ^ w := by rw [without, ones, Nat.and_two_pow_sub_one_eq_mod]

/-- A mask below `2 ^ w` picks the same bits of a value and of its low `w` bits. -/
theorem mod_two_pow_and {m w : Nat} (x : Nat) (h : m < 2 ^ w) : x % 2 ^ w &&& m = x &&& m := by
  rw [← Nat.and_two_pow_sub_one_eq_mod, Nat.and_assoc, Nat.and_comm (2 ^ w - 1), Nat.and_two_pow_sub_one_of_lt_two_pow h]

/-- `setBits` by quotient and remainders: the bits above the field, the new field, and the bits below. -/
theorem setBits_eq (v hi lo x : Nat) : setBits v hi lo x
    = 2 ^ lo * (2 ^ (hi + 1 - lo) * (v / 2 ^ lo / 2 ^ (hi + 1 - lo)) + x % 2 ^ (hi + 1 - lo)) + v % 2 ^ lo := by
  have hlow : 2 ^ lo * (v / 2 ^ lo) + v % 2 ^ lo = v := Nat.div_add_mod _ _
  have hfield := Nat.div_add_mod (v / 2 ^ lo) (2 ^ (hi + 1 - lo))
  have hsplit : v = 2 ^ lo * (2 ^ (hi + 1 - lo) * (v / 2 ^ lo / 2 ^ (hi + 1 - lo))) + bits v hi lo * 2 ^ lo + v % 2 ^ lo := by
    rw [bits, Nat.mul_comm _ (2 ^ lo), ← Nat.mul_add, hfield, hlow]
  simp only [setBits, Nat.mul_add, Nat.mul_comm (x % _)]
  omega

theorem testBit_setBits (v hi lo x j : Nat) :
    (setBits v hi lo x).testBit j = if lo ≤ j ∧ j ≤ hi then x.testBit (j - lo) else v.testBit j := by
  rw [setBits_eq, Nat.testBit_two_pow_mul_add _ (Nat.mod_lt _ (Nat.two_pow_pos lo)),
    Nat.testBit_two_pow_mul_add _ (Nat.mod_lt _ (Nat.two_pow_pos _))]
  by_cases hlo : j < lo
  · simp [hlo, Nat.not_le.mpr hlo]
  · by_cases hhi : j ≤ hi
    · have : j - lo < hi + 1 - lo := by omega
      simp [hlo, hhi, this, Nat.not_lt.mp hlo]
    · have hout : ¬ j - lo < hi + 1 - lo := by omega
      simp only [hlo, hhi, hout, if_false, and_false, Nat.testBit_div_two_pow]
      rw [show j - lo - (hi + 1 - lo) + (hi + 1 - lo) + lo = j by omega]

/-- The field that `setBits` replaces shows the new value. -/
theorem bits_setBits (v hi lo x : Nat) : bits (setBits v hi lo x) hi lo = x % 2 ^ (hi + 1 - lo) := by
  refine Nat.eq_of_testBit_eq fun i => ?_
  rw [testBit_bits, testBit_setBits, Nat.testBit_mod_two_pow]
  by_cases h : i < hi + 1 - lo
  · have : i + lo ≤ hi := by omega
    simp [h, this]
  · simp [h]

/-! ### Fields of the register file -/

/-- A field of a register reads what was stored in it. -/
theorem State.fld_setFld (s : State) (a : Nat) (f : Nat × Nat) (v : Nat) (h : f.1 < 64) :
    (s.setFld a f v).fld a f = v % 2 ^ (f.1 + 1 - f.2) := by
  rw [State.fld, State.setFld, State.reg_setReg, bits_mod_two_pow_64 _ h, bits_setBits]

/-- The bits of a register below 64 after a store. -/
theorem State.bit_reg_setReg (s : State) (a v : Nat) {j : Nat} (h : j < 64) : bit ((s.setReg a v).reg a) j = v.testBit j := by
  rw [bit_eq_testBit, State.reg_setReg, Nat.testBit_mod_two_pow, decide_eq_true h, Bool.true_and]

/-- Counting leaves a 32-bit counter at the saturated sum (R12). -/
@[simp] theorem State.reg_count (s : State) (a n : Nat) : (s.count a n).reg a = satAdd 32 (s.reg a) n := by
  have : satAdd 32 (s.reg a) n ≤ ones 32 := Nat.min_le_right _ _
  rw [State.count, State.reg_setReg, Nat.mod_eq_of_lt (by simp only [ones] at this; omega)]

/-- Counting leaves a 64-bit counter at the saturated sum (R12). -/
@[simp] theorem State.reg_count64 (s : State) (a n : Nat) : (s.count64 a n).reg a = satAdd 64 (s.reg a) n := by
  have : satAdd 64 (s.reg a) n ≤ ones 64 := Nat.min_le_right _ _
  rw [State.count64, State.reg_setReg, Nat.mod_eq_of_lt (by simp only [ones] at this; omega)]

end Sys2Proof.Machine
end

section
/-! Rows of the register map: the mask of the fields of some access codes, what a write stores under them (Table 0.4), and the
width of a register. -/

namespace Sys2Proof.Machine

/-! ### Masks -/

theorem RegRow.mask_eq_sum (r : RegRow) (p : Access → Bool) :
    r.mask p = (r.fields.map (fun f => if p f.acc then ones (f.hi + 1 - f.lo) * 2 ^ f.lo else 0)).sum := by
  have hfold : ∀ (l : List RegField) (n : Nat),
      l.foldl (fun a f => if p f.acc then a + ones (f.hi + 1 - f.lo) * 2 ^ f.lo else a) n
        = n + (l.map (fun f => if p f.acc then ones (f.hi + 1 - f.lo) * 2 ^ f.lo else 0)).sum := by
    intro l
    induction l with
    | nil => intro n; rfl
    | cons f l ih =>
      intro n
      rw [List.foldl_cons, ih, List.map_cons, List.sum_cons]
      split <;> omega
  rw [RegRow.mask, hfold, Nat.zero_add]

/-- Two tests that agree on the fields of a register give the same mask. -/
theorem RegRow.mask_congr {r : RegRow} {p q : Access → Bool} (h : ∀ f ∈ r.fields, p f.acc = q f.acc) : r.mask p = r.mask q := by
  rw [RegRow.mask_eq_sum, RegRow.mask_eq_sum, List.map_congr_left (fun f hf => by rw [h f hf])]

/-- A test that no field of a register passes gives no bits. -/
theorem RegRow.mask_eq_zero {r : RegRow} {p : Access → Bool} (h : ∀ f ∈ r.fields, p f.acc = false) : r.mask p = 0 := by
  rw [RegRow.mask_congr (q := fun _ => false) h, RegRow.mask_eq_sum]
  simp

/-- A stronger test has no bits where a weaker one has none. -/
theorem RegRow.mask_eq_zero_of_imp {r : RegRow} {p q : Access → Bool} (hpq : ∀ a, p a = true → q a = true) (h : r.mask q = 0) :
    r.mask p = 0 := by
  rw [RegRow.mask_eq_sum] at h ⊢
  refine Nat.le_zero.mp (Nat.le_trans (List.sum_le_sum fun f _ => ?_) (Nat.le_of_eq h))
  by_cases hp : p f.acc = true
  · simp [hp, hpq _ hp]
  · simp [hp]

/-! ### What a write stores -/

/-- A register with no writable field keeps its value (R8). -/
theorem RegRow.written_readOnly {r : RegRow} (h : r.mask Access.writable = 0) (locked : Bool) (old x m : Nat) :
    r.written locked old x m = old := by
  have hrw : r.mask (fun a => a == .RW || (a == .LK && !locked)) = 0 :=
    RegRow.mask_eq_zero_of_imp (fun a => by cases a <;> simp [Access.writable]) h
  have hc : r.mask (· == .W1C) = 0 := RegRow.mask_eq_zero_of_imp (fun a => by cases a <;> simp [Access.writable]) h
  have hw : r.mask (· == .W1S) = 0 := RegRow.mask_eq_zero_of_imp (fun a => by cases a <;> simp [Access.writable]) h
  simp [RegRow.written, hrw, hc, hw]

/-- A write of a register all of whose fields are LK: nothing once the device is sealed, and the bits of its fields before (R9). -/
theorem RegRow.written_locked {r : RegRow} (h : ∀ f ∈ r.fields, f.acc = .LK) (locked : Bool) (old x m : Nat) :
    r.written locked old x m
      = if locked then old else without old (r.mask (· == .LK) &&& m) + (x &&& (r.mask (· == .LK) &&& m)) := by
  have hc : r.mask (· == .W1C) = 0 := RegRow.mask_eq_zero fun f hf => by simp [h f hf]
  have hw : r.mask (· == .W1S) = 0 := RegRow.mask_eq_zero fun f hf => by simp [h f hf]
  have hrw : r.mask (fun a => a == .RW || (a == .LK && !locked)) = if locked then 0 else r.mask (· == .LK) := by
    cases locked with
    | true => exact RegRow.mask_eq_zero fun f hf => by simp [h f hf]
    | false => exact RegRow.mask_congr (q := (· == .LK)) fun f hf => by simp [h f hf]
  simp only [RegRow.written, hrw, hc, hw]
  cases locked <;> simp

/-! ### Width -/

/-- Every row of the register map resets to less than 64 bits, with room for a fused field of 32. -/
theorem regBlocks_reset_lt : ∀ b ∈ regBlocks, ∀ r ∈ b.2.2,
    r.fields.foldl (fun a f => if f.reset = 0 then a else a + f.reset * 2 ^ f.lo) 0 + 2 ^ 32 ≤ 2 ^ 64 := by decide

/-- The row that a register is found in stands in one of the blocks. -/
theorem regRow?_mem {a : Nat} {r : RegRow} (h : regRow? a = some r) : ∃ b ∈ regBlocks, r ∈ b.2.2 := by
  unfold regRow? at h
  split at h
  next b hb => exact ⟨b, List.mem_of_find?_eq_some hb, List.mem_of_find?_eq_some h⟩
  next => exact absurd h (by simp)

theorem regFused_lt (base a : Nat) : regFused base a < 2 ^ 32 := by
  unfold regFused
  split
  · omega
  · split
    · omega
    · split <;> omega

theorem regReset_lt (a : Nat) : regReset a < 2 ^ 64 := by
  unfold regReset
  split
  next => decide
  next r h =>
    obtain ⟨b, hb, hr⟩ := regRow?_mem h
    have hreset := regBlocks_reset_lt b hb r hr
    have hfused := regFused_lt r.base a
    omega

/-- A register holds 64 bits at most. -/
theorem State.reg_lt (s : State) (a : Nat) : s.reg a < 2 ^ 64 := by
  unfold State.reg
  split
  next v _ => exact v.isLt
  next => exact regReset_lt a

/-! ### The register at an offset -/

theorem occupant_of_regRow {a : Nat} {r : RegRow} (h : regRow? a = some r) : occupant a = some (r, a) := by
  simp [occupant, h]

theorem regRow?_of_unoccupied {a : Nat} (h : occupant a = none) : regRow? a = none := by
  cases hr : regRow? a with
  | none => rfl
  | some r => simp [occupant_of_regRow hr] at h

theorem wideAt_of_wide {a : Nat} {r : RegRow} (h : regRow? a = some r) (hw : r.wide = true) : wideAt a = some r := by
  simp [wideAt, h, hw]

theorem wideAt_of_narrow {a : Nat} {r : RegRow} (h : regRow? a = some r) (hw : r.wide = false) : wideAt a = none := by
  simp [wideAt, h, hw]

theorem wideAt_of_unoccupied {a : Nat} (h : occupant a = none) : wideAt a = none := by
  simp [wideAt, regRow?_of_unoccupied h]

theorem halfAt_low {v : BarView} {off a : Nat} {r : RegRow} (hp : place v off = .reg a) (h : regRow? a = some r)
    (hw : r.wide = true) : halfAt v off = some (a, true) := by
  simp [halfAt, hp, occupant_of_regRow h, hw]

theorem halfAt_high {v : BarView} {off a : Nat} {r : RegRow} (hp : place v off = .reg (a + 4)) (h : occupant (a + 4) = some (r, a))
    (hw : r.wide = true) : halfAt v off = some (a, false) := by
  simp [halfAt, hp, h, hw]

end Sys2Proof.Machine
end

section
/-! Rules for accesses of register space through a BAR: what the shadows hold, what each half, whole or pair of registers reads
and stores, and what every such access leaves alone (R7 to R11, R652). -/

namespace Sys2Proof.Machine

/-! ### Memory -/

/-- Memory reads the same where cells, buffered words, owners and keys are the same. -/
theorem SameMemory.of_fields {s t : State} (hmem : t.mem = s.mem) (hwcb : t.wcb = s.wcb) (howners : t.owners = s.owners)
    (hinks : t.blockInks = s.blockInks) (hfar : t.far = s.far) : SameMemory s t := fun a =>
  calc ({ t with free := s.free } : State).byte a
      = ({ s with mem := t.mem, wcb := t.wcb, owners := t.owners, blockInks := t.blockInks, far := t.far } : State).byte a := rfl
    _ = s.byte a := by rw [hmem, hwcb, howners, hinks, hfar]

/-! ### What a well-formed access may change -/

/-- `t` differs from `s` in registers, shadows and outputs at most: what an access of register space may change. -/
def AccessFrame (s t : State) : Prop := t = { s with regs := t.regs, shadows := t.shadows, out := t.out }

theorem AccessFrame.refl (s : State) : AccessFrame s s := rfl

theorem AccessFrame.trans {s t u : State} (hst : AccessFrame s t) (htu : AccessFrame t u) : AccessFrame s u := by
  unfold AccessFrame at *
  rw [htu, hst]

theorem AccessFrame.sameMemory {s t : State} (h : AccessFrame s t) : SameMemory s t := by
  rw [h]
  exact fun _ => rfl

theorem AccessFrame.sealed {s t : State} (h : AccessFrame s t) : t.sealed = s.sealed := by rw [h]

theorem AccessFrame.takes {s t : State} (h : AccessFrame s t) (v : BarView) (off size : Nat) : t.takes v off size = s.takes v off size := by
  rw [h]; rfl

theorem AccessFrame.setReg (s : State) (a x : Nat) : AccessFrame s (s.setReg a x) := rfl
theorem AccessFrame.setShadow (s : State) (f : Nat) (x : Shadow) : AccessFrame s (s.setShadow f x) := rfl
theorem AccessFrame.emit (s : State) (o : Output) : AccessFrame s (s.emit o) := rfl

/-! ### Shadows -/

@[simp] theorem State.shadow_setShadow (s : State) (f : Nat) (x : Shadow) : (s.setShadow f x).shadow f = x := Tab.read_write_self _ _ _ _
@[simp] theorem State.shadow_setReg (s : State) (a x f : Nat) : (s.setReg a x).shadow f = s.shadow f := rfl
@[simp] theorem State.shadow_emit (s : State) (o : Output) (f : Nat) : (s.emit o).shadow f = s.shadow f := rfl

/-- An access discards a held low half of another register, and does nothing else (R8). -/
theorem State.touch_cases (s : State) (f a : Nat) : s.touch f a = s ∨ s.touch f a = s.dropHeld f := by
  unfold State.touch
  split
  · split
    · exact .inl rfl
    · exact .inr rfl
  · exact .inl rfl

theorem State.touch_of_empty {s : State} {f : Nat} (a : Nat) (h : (s.shadow f).wr = none) : s.touch f a = s := by
  simp [State.touch, h]

theorem State.touch_of_held {s : State} {f a x : Nat} (h : (s.shadow f).wr = some (a, x)) : s.touch f a = s := by
  simp [State.touch, h]

@[simp] theorem State.dropHeld_wr (s : State) (f : Nat) : ((s.dropHeld f).shadow f).wr = none := by simp [State.dropHeld]

@[simp] theorem State.touch_rd (s : State) (f a : Nat) : ((s.touch f a).shadow f).rd = (s.shadow f).rd := by
  rcases s.touch_cases f a with h | h <;> simp [h, State.dropHeld]

theorem AccessFrame.dropHeld (s : State) (f : Nat) : AccessFrame s (s.dropHeld f) := rfl

theorem AccessFrame.touch (s : State) (f a : Nat) : AccessFrame s (s.touch f a) := by
  rcases s.touch_cases f a with h | h <;> rw [h]
  · exact .refl s
  · exact .dropHeld s f

@[simp] theorem State.touch_reg (s : State) (f a b : Nat) : (s.touch f a).reg b = s.reg b := by
  rcases s.touch_cases f a with h | h <;> rw [h]; rfl

@[simp] theorem State.touch_out (s : State) (f a : Nat) : (s.touch f a).out = s.out := by
  rcases s.touch_cases f a with h | h <;> rw [h]; rfl

@[simp] theorem State.touch_sealed (s : State) (f a : Nat) : (s.touch f a).sealed = s.sealed := (AccessFrame.touch s f a).sealed

/-! ### What a register shows does not depend on the shadows -/

theorem State.pullEdge_setShadow (s : State) (f : Nat) (x : Shadow) (n : Nat) :
    (s.setShadow f x).pullEdge n = (s.pullEdge n).setShadow f x := by
  unfold State.pullEdge
  rw [show (s.setShadow f x).mio n = s.mio n from rfl, State.setShadow_now]
  dsimp only
  split
  · split <;> rfl
  · rfl

theorem State.muxEdge_setShadow (s : State) (f : Nat) (x : Shadow) (n : Nat) :
    (s.setShadow f x).muxEdge n = (s.muxEdge n).setShadow f x := by
  unfold State.muxEdge
  rw [show (s.setShadow f x).mio n = s.mio n from rfl, State.setShadow_now]
  dsimp only
  split
  · rfl
  · split <;> rfl

theorem State.pullOf_setShadow (s : State) (f : Nat) (x : Shadow) (n : Nat) : (s.setShadow f x).pullOf n = s.pullOf n := by
  rw [State.pullOf, State.pullEdge_setShadow]; rfl

theorem State.mioDrive_setShadow (s : State) (f : Nat) (x : Shadow) (n : Nat) : (s.setShadow f x).mioDrive n = s.mioDrive n := rfl

theorem State.mioIn_setShadow (s : State) (f : Nat) (x : Shadow) : (s.setShadow f x).mioIn = s.mioIn := by
  funext n
  simp only [State.mioIn, State.muxEdge_setShadow, State.pullOf_setShadow, State.mioDrive_setShadow]
  rfl

@[simp] theorem State.readable_setShadow (s : State) (f : Nat) (x : Shadow) (r : RegRow) (a : Nat) :
    (s.setShadow f x).readable r a = s.readable r a := by
  have hview : (s.setShadow f x).view r a = s.view r a := by
    unfold State.view
    simp only [State.pullOf_setShadow, State.mioIn_setShadow]
    rfl
  rw [State.readable, hview, State.readable]

@[simp] theorem State.readable_dropHeld (s : State) (f : Nat) (r : RegRow) (a : Nat) :
    (s.dropHeld f).readable r a = s.readable r a := s.readable_setShadow f _ r a

@[simp] theorem State.readable_touch (s : State) (f b : Nat) (r : RegRow) (a : Nat) :
    (s.touch f b).readable r a = s.readable r a := by
  rcases s.touch_cases f b with h | h <;> rw [h]
  exact s.readable_dropHeld f r a

/-! ### RC fields (R11) -/

theorem AccessFrame.clearRc (s : State) (r : RegRow) (a : Nat) : AccessFrame s (s.clearRc r a) := by
  unfold State.clearRc
  dsimp only
  split
  · exact .refl s
  · exact .setReg _ _ _

theorem State.clearRc_of_none {s : State} {r : RegRow} (a : Nat) (h : r.mask (· == .RC) = 0) : s.clearRc r a = s := by
  simp [State.clearRc, h]

@[simp] theorem State.clearRc_reg (s : State) (r : RegRow) (a : Nat) :
    (s.clearRc r a).reg a = without (s.reg a) (r.mask (· == .RC)) % 2 ^ 64 := by
  unfold State.clearRc
  dsimp only
  split
  next h => rw [h, without_zero, Nat.mod_eq_of_lt (s.reg_lt a)]
  next => rw [State.reg_setReg]

theorem State.clearRc_reg_other (s : State) (r : RegRow) {a b : Nat} (h : b ≠ a) : (s.clearRc r a).reg b = s.reg b := by
  unfold State.clearRc
  dsimp only
  split
  · rfl
  · exact State.reg_setReg_other _ _ _ _ h

@[simp] theorem State.clearRc_shadow (s : State) (r : RegRow) (a f : Nat) : (s.clearRc r a).shadow f = s.shadow f := by
  unfold State.clearRc
  dsimp only
  split <;> rfl

@[simp] theorem State.clearRc_out (s : State) (r : RegRow) (a : Nat) : (s.clearRc r a).out = s.out := by
  unfold State.clearRc
  dsimp only
  split <;> rfl

/-! ### Writes of plain registers (R9) -/

/-- A write of a register with no effect of its own stores what its access codes say. -/
theorem State.regWrite_plain (s : State) {r : RegRow} (h : r.base ∉ actsOnWrite) (a x m : Nat) :
    s.regWrite r a x m = if r.mask Access.writable = 0 then s else s.setReg a (r.written s.sealed (s.reg a) x m) := by
  simp only [actsOnWrite, List.mem_cons, List.not_mem_nil, or_false, not_or] at h
  simp [State.regWrite, h]

/-- What a plain register reads after a write, a read-only one included. -/
theorem State.regWrite_reg (s : State) {r : RegRow} (h : r.base ∉ actsOnWrite) (a x m : Nat) :
    (s.regWrite r a x m).reg a = r.written s.sealed (s.reg a) x m % 2 ^ 64 := by
  rw [s.regWrite_plain h]
  split
  next hro => rw [RegRow.written_readOnly hro, Nat.mod_eq_of_lt (s.reg_lt a)]
  next => rw [State.reg_setReg]

theorem State.regWrite_reg_other (s : State) {r : RegRow} (h : r.base ∉ actsOnWrite) {a b : Nat} (x m : Nat) (hb : b ≠ a) :
    (s.regWrite r a x m).reg b = s.reg b := by
  rw [s.regWrite_plain h]
  split
  · rfl
  · exact State.reg_setReg_other _ _ _ _ hb

theorem State.regWrite_shadow (s : State) {r : RegRow} (h : r.base ∉ actsOnWrite) (a x m f : Nat) :
    (s.regWrite r a x m).shadow f = s.shadow f := by
  rw [s.regWrite_plain h]
  split <;> rfl

theorem AccessFrame.regWrite (s : State) {r : RegRow} (h : r.base ∉ actsOnWrite) (a x m : Nat) :
    AccessFrame s (s.regWrite r a x m) := by
  rw [s.regWrite_plain h]
  split
  · exact .refl s
  · exact .setReg _ _ _

/-! ### Reads of register space -/

section
variable {s : State} {f a : Nat} {r : RegRow}

theorem State.read4_narrow (h : regRow? a = some r) (hw : r.wide = false) :
    s.read4 f a = ((s.touch f a).clearRc r a, s.readable r a) := by
  simp [State.read4, occupant_of_regRow h, hw]

/-- The state in which a low-half read has latched the high half (R7). -/
def State.latched (s : State) (f a : Nat) (r : RegRow) : State :=
  (s.touch f a).setShadow f { (s.touch f a).shadow f with rd := some (a, s.readable r a / 2 ^ 32) }

theorem State.read4_low (h : regRow? a = some r) (hw : r.wide = true) :
    s.read4 f a = ((s.latched f a r).clearRc r a, s.readable r a % 2 ^ 32) := by
  simp [State.read4, State.latched, occupant_of_regRow h, hw]

theorem State.read4_high {x : Nat} (h : occupant (a + 4) = some (r, a)) (hw : r.wide = true) (hrd : (s.shadow f).rd = some (a, x)) :
    s.read4 f (a + 4) = ((s.touch f a).setShadow f { (s.touch f a).shadow f with rd := none }, x) := by
  simp [State.read4, h, hw, hrd]

theorem State.read4_gap (h : occupant a = none) : s.read4 f a = (s, if inSeq a then s.seqRead4 a else 0) := by
  simp [State.read4, h]

theorem State.read8_wide (h : regRow? a = some r) (hw : r.wide = true) :
    s.read8 f a = ((s.touch f a).clearRc r a, s.readable r a) := by
  simp [State.read8, wideAt_of_wide h hw]

/-- A read of a register with its own width returns its value and clears its RC fields (R11). -/
theorem State.readPlace_whole (h : regRow? a = some r) :
    s.readPlace f (.reg a) (if r.wide then 8 else 4) = ((s.touch f a).clearRc r a, s.readable r a) := by
  cases hw : r.wide with
  | true => simp [State.readPlace, State.read8_wide h hw]
  | false => simp [State.readPlace, State.read4_narrow h hw]

/-! ### Writes of register space -/

theorem State.write4_narrow (h : regRow? a = some r) (hw : r.wide = false) (x : Nat) :
    s.write4 f a x = (s.touch f a).regWrite r a x (ones 32) := by
  simp [State.write4, occupant_of_regRow h, hw]

theorem State.write4_low (h : regRow? a = some r) (hw : r.wide = true) (hm : r.mask Access.writable ≠ 0) (x : Nat) :
    s.write4 f a x = (s.touch f a).setShadow f { (s.touch f a).shadow f with wr := some (a, x) } := by
  simp [State.write4, occupant_of_regRow h, hw, hm]

theorem State.write4_high {lo : Nat} (h : occupant (a + 4) = some (r, a)) (hw : r.wide = true) (hwr : (s.shadow f).wr = some (a, lo))
    (x : Nat) : s.write4 f (a + 4) x = (s.setShadow f { s.shadow f with wr := none }).regWrite r a (x * 2 ^ 32 + lo) (ones 64) := by
  simp [State.write4, h, hw, State.touch_of_held hwr, hwr]

theorem State.write4_gap (h : occupant a = none) (x : Nat) : s.write4 f a x = s := by
  simp [State.write4, h]

theorem State.write8_wide (h : regRow? a = some r) (hw : r.wide = true) (x : Nat) :
    s.write8 f a x = (s.touch f a).regWrite r a x (ones 64) := by
  simp [State.write8, wideAt_of_wide h hw]

/-- A write of a register with its own width reaches all of it. -/
theorem State.writePlace_whole (h : regRow? a = some r) (x : Nat) :
    s.writePlace f (.reg a) (if r.wide then 8 else 4) x
      = (s.touch f a).regWrite r a (x % 2 ^ (if r.wide then 64 else 32)) (ones (if r.wide then 64 else 32)) := by
  cases hw : r.wide with
  | true => simp [State.writePlace, State.write8_wide h hw]
  | false => simp [State.writePlace, State.write4_narrow h hw]

end

/-! ### Accesses that are taken -/

theorem State.takes_sizeOk {s : State} {v : BarView} {off size : Nat} (h : s.takes v off size = true) :
    sizeOk (place v off) off size = true := by
  simp only [State.takes, Bool.and_eq_true] at h
  exact h.2

/-- Register space takes accesses of 4 B and 8 B (R5). -/
theorem State.takes_size {s : State} {v : BarView} {off size a : Nat} (hp : place v off = .reg a) (h : s.takes v off size = true) :
    size = 4 ∨ size = 8 := by
  have hok := State.takes_sizeOk h
  simp only [hp, sizeOk, Bool.and_eq_true, Bool.or_eq_true, beq_iff_eq] at hok
  exact hok.1

theorem State.hostRead_of_takes {s : State} {v : BarView} {off size : Nat} (h : s.takes v off size = true) :
    s.hostRead v off size = (s.readPlace (barFn v) (place v off) size).1.emit
      (.readData (barFn v) (some (s.readPlace (barFn v) (place v off) size).2)) := by
  simp only [State.takes, Bool.and_eq_true, decide_eq_true_eq, Bool.not_eq_true'] at h
  obtain ⟨⟨⟨hoff, hacc⟩, hwin⟩, hok⟩ := h
  simp [State.hostRead, Nat.not_le.mpr hoff, hacc, hwin, hok]

theorem State.hostWrite_of_takes {s : State} {v : BarView} {off size : Nat} (h : s.takes v off size = true) (x : Nat) :
    s.hostWrite v off size x = s.writePlace (barFn v) (place v off) size x := by
  simp only [State.takes, Bool.and_eq_true, decide_eq_true_eq, Bool.not_eq_true'] at h
  obtain ⟨⟨⟨hoff, hacc⟩, hwin⟩, hok⟩ := h
  simp [State.hostWrite, Nat.not_le.mpr hoff, hacc, hwin, hok]

end Sys2Proof.Machine
end

section
/-! Reads and writes of registers through the BARs: halves, whole registers, pairs and unoccupied offsets. -/

namespace Sys2Proof.Machine

/-! ### Halves of a 64-bit register (R7, R8) -/

section
variable {s : State} {v : BarView} {off a : Nat} {r : RegRow}

theorem exec_lowHalfRead (hp : place v off = .reg a) (hr : regRow? a = some r) (hw : r.wide = true) (ht : s.takes v off 4 = true) :
    exec (.lowHalfRead v off) s = .next (((s.latched (barFn v) a r).clearRc r a).emit
      (.readData (barFn v) (some (s.readable r a % 2 ^ 32)))) := by
  change execLowHalfRead v off s = _
  simp only [execLowHalfRead, halfAt_low hp hr hw, State.hostRead_of_takes ht, hp, State.readPlace, State.read4_low hr hw,
    Nat.reduceEqDiff, if_false]

theorem exec_highHalfRead {x : Nat} (hp : place v off = .reg (a + 4)) (ho : occupant (a + 4) = some (r, a)) (hw : r.wide = true)
    (ht : s.takes v off 4 = true) (hrd : (s.shadow (barFn v)).rd = some (a, x)) :
    exec (.highHalfRead v off) s = .next (((s.touch (barFn v) a).setShadow (barFn v)
      { (s.touch (barFn v) a).shadow (barFn v) with rd := none }).emit (.readData (barFn v) (some x))) := by
  change execHighHalfRead v off s = _
  simp only [execHighHalfRead, halfAt_high hp ho hw, State.hostRead_of_takes ht, hp, State.readPlace, State.read4_high ho hw hrd,
    Nat.reduceEqDiff, if_false]

theorem exec_lowHalfWrite (hp : place v off = .reg a) (hr : regRow? a = some r) (hw : r.wide = true)
    (hm : r.mask Access.writable ≠ 0) (ht : s.takes v off 4 = true) (x : Word32) :
    exec (.lowHalfWrite v off x) s = .next ((s.touch (barFn v) a).setShadow (barFn v)
      { (s.touch (barFn v) a).shadow (barFn v) with wr := some (a, x.toNat) }) := by
  change execLowHalfWrite v off x s = _
  simp only [execLowHalfWrite, halfAt_low hp hr hw, State.hostWrite_of_takes ht, hp, State.writePlace, State.write4_low hr hw hm,
    Nat.mod_eq_of_lt x.isLt, Nat.reduceEqDiff, if_false]

theorem exec_highHalfWrite {lo : Nat} (hp : place v off = .reg (a + 4)) (ho : occupant (a + 4) = some (r, a)) (hw : r.wide = true)
    (ht : s.takes v off 4 = true) (hwr : (s.shadow (barFn v)).wr = some (a, lo)) (x : Word32) :
    exec (.highHalfWrite v off x) s = .next ((s.setShadow (barFn v) { s.shadow (barFn v) with wr := none }).regWrite r a
      (x.toNat * 2 ^ 32 + lo) (ones 64)) := by
  change execHighHalfWrite v off x s = _
  simp only [execHighHalfWrite, halfAt_high hp ho hw, State.hostWrite_of_takes ht, hp, State.writePlace, State.write4_high ho hw hwr,
    Nat.mod_eq_of_lt x.isLt, Nat.reduceEqDiff, if_false]

end

/-- Settles O5: the low half's read latches the high half and clears the RC fields; the high half's read takes the latch. -/
theorem registerHalvesReadAtOneEdge : Obligations.RegisterHalvesReadAtOneEdge := by
  intro s v off a r hplo hphi hr hw ho htlo hthi
  have hlow := exec_lowHalfRead hplo hr hw htlo
  generalize htdef : ((s.latched (barFn v) a r).clearRc r a).emit (.readData (barFn v) (some (s.readable r a % 2 ^ 32))) = t at hlow
  have hframe : AccessFrame s t := htdef ▸ (((AccessFrame.touch s _ a).trans (.setShadow _ _ _)).trans (.clearRc _ r a)).trans (.emit _ _)
  have hrd : (t.shadow (barFn v)).rd = some (a, s.readable r a / 2 ^ 32) := by simp [← htdef, State.latched]
  have hthi' : t.takes v (off + 4) 4 = true := (hframe.takes v (off + 4) 4).trans hthi
  refine ⟨t, _, hlow, exec_highHalfRead hphi ho hw hthi' hrd, ?_, hrd, ?_, ?_, fun b hb => ?_, ?_⟩
  · simp [State.emit, ← htdef, State.latched]
  · simp
  · simp [← htdef, State.latched]
  · have hne : b ≠ a := by simpa using hb
    simp [← htdef, State.latched, State.clearRc_reg_other _ r hne]
  · exact ((hframe.trans (.touch t _ a)).trans ((AccessFrame.setShadow _ _ _).trans (.emit _ _))).sameMemory

/-- Settles O6: the low half waits in the write shadow, and the high half's write stores both. -/
theorem registerHalvesWrittenTogether : Obligations.RegisterHalvesWrittenTogether := by
  intro s v off a r lo hi hplo hphi hr hw ho hacts hm htlo hthi
  have hlow := exec_lowHalfWrite hplo hr hw hm htlo lo
  generalize htdef : (s.touch (barFn v) a).setShadow (barFn v)
      { (s.touch (barFn v) a).shadow (barFn v) with wr := some (a, lo.toNat) } = t at hlow
  have hframe : AccessFrame s t := htdef ▸ (AccessFrame.touch s _ a).trans (.setShadow _ _ _)
  have hreg : ∀ b, t.reg b = s.reg b := fun b => by simp [← htdef]
  have hwr : (t.shadow (barFn v)).wr = some (a, lo.toNat) := by simp [← htdef]
  have hthi' : t.takes v (off + 4) 4 = true := (hframe.takes v (off + 4) 4).trans hthi
  refine ⟨t, _, hlow, exec_highHalfWrite hphi ho hw hthi' hwr hi, fun b _ => hreg b, hwr, ?_, ?_, fun b hb => ?_, ?_⟩
  · simp [State.regWrite_shadow _ hacts]
  · simp [State.regWrite_reg _ hacts, hreg, hframe.sealed]
  · have hne : b ≠ a := by simpa using hb
    simp [State.regWrite_reg_other _ hacts _ _ hne, hreg]
  · exact (hframe.trans ((AccessFrame.setShadow t _ _).trans (.regWrite _ hacts _ _ _))).sameMemory

/-! ### Locked registers (R9, R477) -/

/-- Settles O7: with LK fields only, the seal decides between the old value and the bits written. -/
theorem lockedRegistersFollowTheSeal : Obligations.LockedRegistersFollowTheSeal := by
  refine ⟨fun s r a x hr _ hlk hacts ht hmask => ?_, fun s x => ?_⟩
  · have hfields : ∀ f ∈ r.fields, f.acc = .LK := by simpa using hlk
    have hexec : exec (.registerWrite .pf0 a (if r.wide then 8 else 4) x) s
        = .next ((s.touch 0 a).regWrite r a (x % 2 ^ (if r.wide then 64 else 32)) (ones (if r.wide then 64 else 32))) := by
      change execRegisterWrite _ _ _ _ s = _
      rw [execRegisterWrite, State.hostWrite_of_takes ht]
      exact congrArg _ (State.writePlace_whole hr x)
    refine ⟨_, hexec, ?_, fun b hb => ?_, ?_⟩
    · have hwhole : r.mask (· == .LK) &&& ones (if r.wide then 64 else 32) = r.mask (· == .LK) :=
        Nat.and_two_pow_sub_one_of_lt_two_pow hmask
      have hmask64 : r.mask (· == .LK) < 2 ^ 64 :=
        Nat.lt_of_lt_of_le hmask (Nat.pow_le_pow_right (by decide) (by split <;> decide))
      rw [State.regWrite_reg _ hacts, RegRow.written_locked hfields, hwhole, State.touch_sealed, State.touch_reg,
        mod_two_pow_and x hmask, mod_two_pow_and x hmask64]
    · have hne : b ≠ a := by simpa using hb
      rw [State.regWrite_reg_other _ hacts _ _ hne, State.touch_reg]
    · exact ((AccessFrame.touch s 0 a).trans (.regWrite _ hacts _ _ _)).sameMemory
  · refine ⟨(s.dropHeld 0).setAllow x.toNat, rfl, ?_⟩
    cases hseal : s.sealed with
    | true =>
      have hkeep : (s.dropHeld 0).setAllow x.toNat = s.dropHeld 0 := by simp [State.setAllow, State.dropHeld, hseal]
      rw [hkeep]
      exact ⟨rfl, fun b _ => rfl, (AccessFrame.dropHeld s 0).sameMemory⟩
    | false =>
      have hstore : (s.dropHeld 0).setAllow x.toNat = (s.dropHeld 0).setReg Reg.STB_LCALLOW (min (x.toNat % 64) 32) := by
        simp [State.setAllow, State.dropHeld, hseal]
      rw [hstore]
      refine ⟨?_, fun b hb => ?_, ((AccessFrame.dropHeld s 0).trans (.setReg _ _ _)).sameMemory⟩
      · rw [State.reg_setReg, Nat.mod_eq_of_lt (by omega)]; simp
      · exact State.reg_setReg_other _ _ _ _ (by simpa using hb)

/-! ### Aligned reads and unoccupied offsets (R11, R15, R645) -/

/-- A 4 B read of an offset that no register occupies reads zero, outside the SEQ window of debug mode (R15). -/
theorem State.read4_unoccupied {s : State} {f a : Nat} (h : occupant a = none) (hd : s.debug = false ∨ inSeq a = false) :
    s.read4 f a = (s, 0) := by
  rw [State.read4_gap h]
  rcases hd with hd | hd
  · have hzero : s.seqRead4 a = 0 := by
      unfold State.seqRead4
      dsimp only
      split <;> simp [hd]
    rw [hzero, ite_self]
  · simp [hd]

theorem State.readPlace_unoccupied {s : State} {f a size : Nat} (hsize : size = 4 ∨ size = 8) (h : occupant a = none)
    (h4 : size = 8 → occupant (a + 4) = none) (hd : s.debug = false ∨ (inSeq a = false ∧ inSeq (a + 4) = false)) :
    s.readPlace f (.reg a) size = (s, 0) := by
  have hlo : s.read4 f a = (s, 0) := State.read4_unoccupied h (hd.imp_right And.left)
  rcases hsize with rfl | rfl
  · exact hlo
  · have hhi : s.read4 f (a + 4) = (s, 0) := State.read4_unoccupied (h4 rfl) (hd.imp_right And.right)
    simp [State.readPlace, State.read8, wideAt_of_unoccupied h, occupied, h, h4 rfl, hlo, hhi]

theorem State.writePlace_unoccupied {s : State} {f a size : Nat} (hsize : size = 4 ∨ size = 8) (h : occupant a = none)
    (h4 : size = 8 → occupant (a + 4) = none) (x : Nat) : s.writePlace f (.reg a) size x = s := by
  rcases hsize with rfl | rfl
  · exact State.write4_gap h _
  · simp [State.writePlace, State.write8, wideAt_of_unoccupied h, occupied, h, h4 rfl, State.write4_gap]

/-- Settles O8: a whole read clears the RC fields alone, and an unoccupied offset has nothing to clear or to store. -/
theorem alignedReadClearsItsRcFields : Obligations.AlignedReadClearsItsRcFields := by
  refine ⟨fun s v off a r hp hr ht => ?_, fun s v off a size x hp ht ho ho4 => ?_, fun s a hseq ho ht hd => ?_⟩
  · have hexec : exec (.rcRead v off (if r.wide then 8 else 4)) s
        = .next (((s.touch (barFn v) a).clearRc r a).emit (.readData (barFn v) (some (s.readable r a)))) := by
      change execRcRead _ _ _ s = _
      rw [execRcRead, State.hostRead_of_takes ht, hp, State.readPlace_whole hr]
    generalize htdef : ((s.touch (barFn v) a).clearRc r a).emit (.readData (barFn v) (some (s.readable r a))) = t at hexec
    have hreg : t.reg a = without (s.reg a) (r.mask (· == .RC)) % 2 ^ 64 := by simp [← htdef]
    refine ⟨t, hexec, ?_, ?_, fun b hb => ?_, ?_, fun hrc hlt => ?_, fun hrc => ?_⟩
    · simp [State.emit, ← htdef]
    · rw [hreg, Nat.mod_mod]
    · have hne : b ≠ a := by simpa using hb
      simp [← htdef, State.clearRc_reg_other _ r hne]
    · exact htdef ▸ ((AccessFrame.touch s _ a).trans ((AccessFrame.clearRc _ r a).trans (.emit _ _))).sameMemory
    · rw [State.reg_count, hreg, hrc, without_ones, Nat.mod_eq_of_lt hlt, Nat.sub_self]; rfl
    · rw [State.reg_count64, hreg, hrc, without_ones, Nat.mod_eq_of_lt (s.reg_lt a), Nat.sub_self]; rfl
  · have hsize := State.takes_size hp ht
    refine ⟨?_, fun hd => ?_⟩
    · change execRegisterWrite _ _ _ _ s = _
      rw [execRegisterWrite, State.hostWrite_of_takes ht, hp, State.writePlace_unoccupied hsize ho ho4]
    · change execRcRead _ _ _ s = _
      rw [execRcRead, State.hostRead_of_takes ht, hp, State.readPlace_unoccupied hsize ho ho4 hd]
      rfl
  · have hp : place .pf0 a = .reg a := rfl
    have hread : s.readPlace (barFn .pf0) (.reg a) 4 = (s, s.seqRead4 a) := by
      change s.read4 _ a = _
      rw [State.read4_gap ho, if_pos hseq]
    change execRcRead _ _ _ s = _
    rw [execRcRead, State.hostRead_of_takes ht, hp, hread]
    cases hq : Tab.find s.seqs ((a - 0x80_0000) / 512) with
    | none => simp [State.seqRead4, hq, barFn]
    | some q => simp [State.seqRead4, hq, hd, barFn]

/-! ### Pairs of 32-bit registers (R652) -/

section
variable {s : State} {f a : Nat} {r1 r2 : RegRow}

/-- An 8 B write of two 32-bit registers: a held low half goes, then each half is written. -/
theorem State.write8_pair (hr1 : regRow? a = some r1) (hw1 : r1.wide = false) (hr2 : regRow? (a + 4) = some r2) (hw2 : r2.wide = false)
    (hacts1 : r1.base ∉ actsOnWrite) (x : Nat) :
    s.write8 f a x = ((s.dropHeld f).regWrite r1 a (x % 2 ^ 32) (ones 32)).regWrite r2 (a + 4) (x / 2 ^ 32 % 2 ^ 32) (ones 32) := by
  have hocc : occupied a = true := by simp [occupied, occupant_of_regRow hr1]
  have hempty : (((s.dropHeld f).regWrite r1 a (x % 2 ^ 32) (ones 32)).shadow f).wr = none := by
    rw [State.regWrite_shadow _ hacts1, State.dropHeld_wr]
  rw [State.write8, wideAt_of_narrow hr1 hw1]
  simp only [hocc, Bool.true_or, if_true]
  rw [State.write4_narrow hr1 hw1, State.touch_of_empty a (s.dropHeld_wr f), State.write4_narrow hr2 hw2,
    State.touch_of_empty (a + 4) hempty]

/-- An 8 B read of two 32-bit registers without RC fields: a held low half goes, and both values are returned. -/
theorem State.read8_pair (hr1 : regRow? a = some r1) (hw1 : r1.wide = false) (hr2 : regRow? (a + 4) = some r2) (hw2 : r2.wide = false)
    (hrc1 : r1.mask (· == .RC) = 0) (hrc2 : r2.mask (· == .RC) = 0) :
    s.read8 f a = (s.dropHeld f, s.readable r1 a + s.readable r2 (a + 4) * 2 ^ 32) := by
  have hocc : occupied a = true := by simp [occupied, occupant_of_regRow hr1]
  have hread1 : (s.dropHeld f).read4 f a = (s.dropHeld f, s.readable r1 a) := by
    rw [State.read4_narrow hr1 hw1, State.touch_of_empty a (s.dropHeld_wr f), State.clearRc_of_none a hrc1, State.readable_dropHeld]
  have hread2 : (s.dropHeld f).read4 f (a + 4) = (s.dropHeld f, s.readable r2 (a + 4)) := by
    rw [State.read4_narrow hr2 hw2, State.touch_of_empty _ (s.dropHeld_wr f), State.clearRc_of_none _ hrc2, State.readable_dropHeld]
  simp [State.read8, wideAt_of_narrow hr1 hw1, hocc, hread1, hread2]

end

/-- Settles O10: each half goes to its own register, and a read takes both at once. -/
theorem pairOfRegistersWrittenInOneAccess : Obligations.PairOfRegistersWrittenInOneAccess := by
  intro s v off a r1 r2 hp hr1 hw1 hr2 hw2 ht
  have hnarrow := wideAt_of_narrow hr1 hw1
  refine ⟨fun x hacts1 hacts2 => ?_, fun hrc1 hrc2 => ?_⟩
  · have hexec : exec (.split8bAccess v off (some x)) s = .next (((s.dropHeld (barFn v)).regWrite r1 a (x.toNat % 2 ^ 32) (ones 32)).regWrite
        r2 (a + 4) (x.toNat / 2 ^ 32) (ones 32)) := by
      have hx : x.toNat < 2 ^ 64 := x.isLt
      have hhi : x.toNat / 2 ^ 32 % 2 ^ 32 = x.toNat / 2 ^ 32 := Nat.mod_eq_of_lt (by omega)
      change execSplit8bAccess v off (some x) s = _
      simp only [execSplit8bAccess, hp, hnarrow, State.hostWrite_of_takes ht, State.writePlace, Option.isSome_none, Bool.false_eq_true,
        if_false, if_true, Nat.mod_eq_of_lt hx, State.write8_pair hr1 hw1 hr2 hw2 hacts1, hhi]
    have hlo : a ≠ a + 4 := by omega
    refine ⟨_, hexec, ?_, ?_, ?_, fun b hb => ?_, ?_⟩
    · rw [State.regWrite_reg_other _ hacts2 _ _ hlo, State.regWrite_reg _ hacts1, Nat.mod_mod]
      rfl
    · rw [State.regWrite_reg _ hacts2, Nat.mod_mod, State.regWrite_reg_other _ hacts1 _ _ hlo.symm,
        (AccessFrame.regWrite _ hacts1 _ _ _).sealed]
      rfl
    · rw [State.regWrite_shadow _ hacts2, State.regWrite_shadow _ hacts1, State.dropHeld_wr]
    · obtain ⟨hne1, hne2⟩ : b ≠ a ∧ b ≠ a + 4 := by simpa using hb
      rw [State.regWrite_reg_other _ hacts2 _ _ hne2, State.regWrite_reg_other _ hacts1 _ _ hne1]
      rfl
    · exact ((AccessFrame.dropHeld s _).trans ((AccessFrame.regWrite _ hacts1 _ _ _).trans (.regWrite _ hacts2 _ _ _))).sameMemory
  · have hexec : exec (.split8bAccess v off none) s = .next ((s.dropHeld (barFn v)).emit
        (.readData (barFn v) (some (s.readable r1 a + s.readable r2 (a + 4) * 2 ^ 32)))) := by
      change execSplit8bAccess v off none s = _
      simp only [execSplit8bAccess, hp, hnarrow, State.hostRead_of_takes ht, State.readPlace, Option.isSome_none, Bool.false_eq_true,
        if_false, if_true, State.read8_pair hr1 hw1 hr2 hw2 hrc1 hrc2]
    exact ⟨_, hexec, rfl, fun b _ => rfl, ((AccessFrame.dropHeld s _).trans (.emit _ _)).sameMemory⟩

end Sys2Proof.Machine
end

section
/-! Reports of occurrences (R494 to R498): what a report may change, and that the error queue tells of it afterwards. -/

namespace Sys2Proof.Machine

/-! ### What a report may change -/

/-- `t` differs from `s` in registers, error queues, summary bits to be raised and the pending fatal occurrence at most. -/
def ReportFrame (s t : State) : Prop :=
  t = { s with regs := t.regs, errq := t.errq, raised := t.raised, fatalPend := t.fatalPend, fatalLater := t.fatalLater }

theorem ReportFrame.refl (s : State) : ReportFrame s s := rfl

theorem ReportFrame.trans {s t u : State} (hst : ReportFrame s t) (htu : ReportFrame t u) : ReportFrame s u := by
  unfold ReportFrame at *
  rw [htu, hst]

theorem ReportFrame.sameMemory {s t : State} (h : ReportFrame s t) : SameMemory s t := by
  rw [h]
  exact fun _ => rfl

theorem ReportFrame.out {s t : State} (h : ReportFrame s t) : t.out = s.out := by rw [h]
theorem ReportFrame.shadows {s t : State} (h : ReportFrame s t) : t.shadows = s.shadows := by rw [h]
theorem ReportFrame.rings {s t : State} (h : ReportFrame s t) : t.rings = s.rings := by rw [h]

theorem ReportFrame.setReg (s : State) (a x : Nat) : ReportFrame s (s.setReg a x) := rfl
theorem ReportFrame.setErrQueue (s : State) (d : Nat) (q : ErrQueue) : ReportFrame s (s.setErrQueue d q) := rfl
theorem ReportFrame.setSummary (s : State) (f lo v : Nat) : ReportFrame s (s.setSummary f lo v) := rfl

@[simp] theorem State.reg_setSummary (s : State) (f lo v a : Nat) : (s.setSummary f lo v).reg a = s.reg a := rfl
@[simp] theorem State.errQueue_setSummary (s : State) (f lo v d : Nat) : (s.setSummary f lo v).errQueue d = s.errQueue d := rfl
@[simp] theorem State.errQueue_setReg (s : State) (a x d : Nat) : (s.setReg a x).errQueue d = s.errQueue d := rfl
@[simp] theorem State.reg_setErrQueue (s : State) (d : Nat) (q : ErrQueue) (a : Nat) : (s.setErrQueue d q).reg a = s.reg a := rfl

/-! ### The fatal state's notice (R505, R506) -/

/-- A fatal occurrence counts in ERR_FATAL, or waits for the end of the tick, or counts as a later one. -/
theorem State.fatalOccur_cases (s : State) (d c n : Nat) :
    (s.fatal = true ∧ s.fatalOccur d c n = s.setFld Reg.ERR_FATAL (59, 52) (satAdd 8 (s.fld Reg.ERR_FATAL (59, 52)) 1)) ∨
    (s.fatal = false ∧ s.fatalPend = none ∧
      s.fatalOccur d c n = { s with fatalPend := some { domain := d, cause := c, seq := n } }) ∨
    (s.fatal = false ∧ s.fatalPend ≠ none ∧ s.fatalOccur d c n = { s with fatalLater := s.fatalLater + 1 }) := by
  unfold State.fatalOccur
  cases hf : s.fatal with
  | true => simp
  | false =>
    cases hp : s.fatalPend with
    | none => simp
    | some p => simp

theorem ReportFrame.fatalOccur (s : State) (d c n : Nat) : ReportFrame s (s.fatalOccur d c n) := by
  rcases s.fatalOccur_cases d c n with ⟨_, h⟩ | ⟨_, _, h⟩ | ⟨_, _, h⟩ <;> rw [h]
  · exact .setReg _ _ _
  · rfl
  · rfl

theorem State.fatalOccur_reg_other (s : State) (d c n : Nat) {a : Nat} (ha : a ≠ Reg.ERR_FATAL) :
    (s.fatalOccur d c n).reg a = s.reg a := by
  rcases s.fatalOccur_cases d c n with ⟨_, h⟩ | ⟨_, _, h⟩ | ⟨_, _, h⟩ <;> rw [h]
  · exact State.reg_setReg_other _ _ _ _ ha
  · rfl
  · rfl

@[simp] theorem State.fatalOccur_errQueue (s : State) (d c n k : Nat) : (s.fatalOccur d c n).errQueue k = s.errQueue k := by
  rcases s.fatalOccur_cases d c n with ⟨_, h⟩ | ⟨_, _, h⟩ | ⟨_, _, h⟩ <;> rw [h]
  · exact State.errQueue_setReg _ _ _ _
  · rfl
  · rfl

/-! ### A report -/

/-- What every report of an occurrence leaves: registers of the record only, and a queue that tells of it. -/
structure Reported (s t : State) (o : Occ) : Prop where
  frame : ReportFrame s t
  regs : SameRegs s t (reportRegs o)
  tells : t.tells o = true

theorem Reported.setSummary {s t : State} {o : Occ} (h : Reported s t o) (f lo v : Nat) : Reported s (t.setSummary f lo v) o :=
  ⟨h.frame.trans (.setSummary t f lo v), fun a ha => h.regs a ha, h.tells⟩

theorem Reported.raiseErr {s t : State} {o : Occ} (h : Reported s t o) (d sev f : Nat) : Reported s (t.raiseErr d sev f) o := by
  have hvf : Reported s (if f != 0 then t.setSummary f 33 (2 ^ d) else t) o := by
    split
    · exact h.setSummary _ _ _
    · exact h
  unfold State.raiseErr
  extract_lets t'
  split
  · exact hvf.setSummary _ _ _
  · exact hvf

theorem Reported.fatalOccur {s t : State} {o : Occ} (h : Reported s t o) (d c n : Nat) : Reported s (t.fatalOccur d c n) o where
  frame := h.frame.trans (.fatalOccur t d c n)
  regs a ha := by
    have hne : a ≠ Reg.ERR_FATAL := by rintro rfl; simp [reportRegs] at ha
    rw [t.fatalOccur_reg_other d c n hne, h.regs a ha]
  tells := by simpa [State.tells] using h.tells

/-- An occurrence whose identity a record holds is noted in that record (R495, R496). -/
theorem Reported.held {s : State} {o : Occ} {r : ErrRec} (hr : r ∈ (s.errQueue o.cause.domain).recs)
    (r' : ErrRec) (his' : r'.is o = true) :
    Reported s (s.setErrQueue o.cause.domain { s.errQueue o.cause.domain with
      recs := (s.errQueue o.cause.domain).recs.map (fun x => if x.seq = r.seq then r' else x) }) o where
  frame := .setErrQueue _ _ _
  regs _ _ := rfl
  tells := by
    have hmem : r' ∈ (s.errQueue o.cause.domain).recs.map (fun x => if x.seq = r.seq then r' else x) :=
      List.mem_map.mpr ⟨r, hr, if_pos rfl⟩
    have hany : ((s.errQueue o.cause.domain).recs.map (fun x => if x.seq = r.seq then r' else x)).any (fun x => x.is o) = true :=
      List.any_eq_true.mpr ⟨r', hmem, his'⟩
    simp [State.tells, hany]

/-- An occurrence that takes a slot leaves its record at the queue's end (R494, R497). -/
theorem Reported.new {s : State} {o : Occ} {r : ErrRec} (his : r.is o = true) (n : Nat) :
    Reported s ((s.setErrQueue o.cause.domain { s.errQueue o.cause.domain with
      recs := (s.errQueue o.cause.domain).recs ++ [r], lostSince := false }).setReg Reg.ERR_NEXTSEQ n) o where
  frame := (ReportFrame.setErrQueue _ _ _).trans (.setReg _ _ _)
  regs a ha := by
    have hne : a ≠ Reg.ERR_NEXTSEQ := by rintro rfl; simp [reportRegs] at ha
    rw [State.reg_setReg_other _ _ _ _ hne, State.reg_setErrQueue]
  tells := by simp [State.tells, his]

/-- An occurrence that finds no slot leaves the note that one was lost, and is counted (R498). -/
theorem Reported.lost (s : State) (o : Occ) (n : Nat) :
    Reported s ((s.setErrQueue o.cause.domain { s.errQueue o.cause.domain with lostSince := true }).setReg
      (Reg.ERR_QSTAT o.cause.domain) n) o where
  frame := (ReportFrame.setErrQueue _ _ _).trans (.setReg _ _ _)
  regs a ha := by
    have hne : a ≠ Reg.ERR_QSTAT o.cause.domain := by rintro rfl; simp [reportRegs] at ha
    rw [State.reg_setReg_other _ _ _ _ hne, State.reg_setErrQueue]
  tells := by simp [State.tells]

theorem Reported.countVf {s t : State} {o : Occ} (h : Reported s t o) : Reported s (t.count (Reg.ERR_VFOVF (o.func - 1)) 1) o where
  frame := h.frame.trans (.setReg _ _ _)
  regs a ha := by
    have hne : a ≠ Reg.ERR_VFOVF (o.func - 1) := by rintro rfl; simp [reportRegs] at ha
    rw [State.count, State.reg_setReg_other _ _ _ _ hne, h.regs a ha]
  tells := h.tells

/-- Every report of an occurrence is told of in its queue, and changes the registers of the record only. -/
theorem State.occur_reported (s : State) (o : Occ) : Reported s (s.occur o).1 o := by
  unfold State.occur
  extract_lets d q n new taken numbered lost qstat counted res
  have hres : Reported s res.1 o := by
    dsimp only [res]
    split
    next r hr =>
      have hheld : q.recs.find? (fun r => r.is o) = some r := by
        split at hr
        · exact absurd hr (by simp)
        · exact hr
      have his : r.is o = true := by simpa using List.find?_some hheld
      have h := Reported.held (List.mem_of_find?_eq_some hheld) { r with again := true, againCnt := min (r.againCnt + 1) 255 } his
      dsimp only
      split
      · exact h.setSummary _ _ _
      · exact h
    next =>
      have hnew : new.is o = true := by simp [new, ErrRec.is]
      split
      · exact (Reported.new hnew _).raiseErr _ _ _
      · have h := Reported.lost s o
        dsimp only
        split
        · exact (h _).countVf
        · exact h _
  split
  · exact hres.fatalOccur _ _ _
  · exact hres

/-! ### Accesses of the wrong size (R6, R414) -/

theorem State.badSize_eq_record (s : State) (v : BarView) (off : Nat) : ∃ addr arg0,
    s.badSize v off = s.record { cause := Cause.regSize, func := barFn v, subject := barFn v, addr := addr, arg0 := arg0 } := by
  unfold State.badSize
  dsimp only
  split
  · split <;> exact ⟨_, _, rfl⟩
  · exact ⟨_, _, rfl⟩

theorem exec_regSize {s : State} {v : BarView} {off size : Nat} (hoff : off < viewSize v) (hacc : s.accessShut v = false)
    (hwin : s.windowShut v off = false) (hbad : sizeOk (place v off) off size = false) (write : Bool) :
    exec (.regSize v off size write) s
      = .next (if write then s.badSize v off else (s.badSize v off).emit (.readData (barFn v) (some 0))) := by
  change execRegSize v off size write s = _
  simp [execRegSize, State.hostRead, State.hostWrite, Nat.not_le.mpr hoff, hacc, hwin, hbad]

/-- Settles O9: the access comes down to the report of REG_SIZE, and a read returns zero. -/
theorem wrongSizeAccessHasNoEffect : Obligations.WrongSizeAccessHasNoEffect := by
  intro s v off size write hoff hacc hwin hbad
  obtain ⟨addr, arg0, hrec⟩ := s.badSize_eq_record v off
  obtain ⟨hframe, hregs, htells⟩ : Reported s (s.badSize v off) { cause := Cause.regSize, func := barFn v, subject := barFn v, addr := addr, arg0 := arg0 } :=
    hrec ▸ s.occur_reported _
  refine ⟨_, exec_regSize hoff hacc hwin hbad write, ?_⟩
  cases write with
  | true => exact ⟨by simpa using hframe.out, htells, hregs, hframe.sameMemory, hframe.shadows, hframe.rings⟩
  | false =>
    refine ⟨?_, htells, hregs, hframe.sameMemory, hframe.shadows, hframe.rings⟩
    simp [State.emit, hframe.out]

end Sys2Proof.Machine
end

section
/-! The interrupt tree and the error block: summary registers, coalescing, release of records, faults of record storage and the
pin (R485 to R492, R499, R507). -/

namespace Sys2Proof.Machine

/-! ### Summary registers (R488) -/

/-- A store that goes with the discard of a held low half changes its register only. -/
theorem SameRegs.touch_setReg (s : State) (f a b v : Nat) : SameRegs s ((s.touch f b).setReg a v) [a] := fun c hc => by
  rw [State.reg_setReg_other _ _ _ _ (by simpa using hc), State.touch_reg]

theorem SameMemory.touch_setReg (s : State) (f a b v : Nat) : SameMemory s ((s.touch f b).setReg a v) :=
  ((AccessFrame.touch s f b).trans (.setReg _ _ _)).sameMemory

/-- ARM sets bit 63 of a summary register and leaves the others. -/
theorem State.bit_arm (s : State) (f : Nat) {j : Nat} (hj : j < 64) :
    bit ((s.arm f).reg (summary f)) j = (j == 63 || bit (s.reg (summary f)) j) := by
  rw [State.arm, State.bit_reg_setReg _ _ _ hj, testBit_setBits]
  by_cases h : j = 63
  · simp [h]
  · have hout : ¬ (63 ≤ j ∧ j ≤ 63) := by omega
    simp [h, hout, bit_eq_testBit]

/-- SUMMARY_W1C clears the bits that it names among those that may be cleared. -/
theorem State.bit_summaryClear (s : State) (f mask : Nat) {j : Nat} (hj : j < 64) :
    bit ((s.summaryClear f mask).reg (summary f)) j = (bit (s.reg (summary f)) j && !(mask.testBit j && bit (summaryW1c f) j)) := by
  have hclear : s.summaryClear f mask = s.setReg (summary f) (without (s.reg (summary f)) (mask &&& summaryW1c f)) := by
    rw [State.summaryClear, without, Nat.and_assoc]
  rw [hclear, State.bit_reg_setReg _ _ _ hj, testBit_without, Nat.testBit_and]
  simp only [bit_eq_testBit]

/-- SUMMARY_ENABLE stores ENABLE in bits 55 to 52, for the groups that the function has. -/
theorem State.bits_setEnable (s : State) (f : Nat) {v : Nat} (hv : v < 16) :
    bits ((s.setEnable f v).reg (summary f)) 55 52 = (v &&& summaryEnable f) := by
  have hlt : v &&& summaryEnable f < 2 ^ 4 := Nat.lt_of_le_of_lt Nat.and_le_left hv
  rw [State.setEnable, State.reg_setReg, bits_mod_two_pow_64 _ (by decide), bits_setBits, Nat.mod_eq_of_lt hlt]

/-- SUMMARY_ENABLE leaves the bits outside ENABLE. -/
theorem State.bit_setEnable (s : State) (f v : Nat) {j : Nat} (hj : j < 64) (hout : j < 52 ∨ 55 < j) :
    bit ((s.setEnable f v).reg (summary f)) j = bit (s.reg (summary f)) j := by
  have hfield : ¬ (52 ≤ j ∧ j ≤ 55) := by omega
  rw [State.setEnable, State.bit_reg_setReg _ _ _ hj, testBit_setBits, if_neg hfield, bit_eq_testBit]

theorem summaryRegisterWrites (s : State) (f : Fn) :
    (∃ t, exec (.arm f) s = .next t ∧ SameRegs s t [summary f] ∧ SameMemory s t ∧
      ∀ j, j < 64 → bit (t.reg (summary f)) j = (j == 63 || bit (s.reg (summary f)) j)) ∧
    (∀ mask : Word64, ∃ t, exec (.summaryW1c f mask) s = .next t ∧ SameRegs s t [summary f] ∧ SameMemory s t ∧
      ∀ j, j < 64 → bit (t.reg (summary f)) j = (bit (s.reg (summary f)) j && !(mask.getLsbD j && bit (summaryW1c f) j))) ∧
    (∀ e : BitVec 4, ∃ t, exec (.summaryEnable f e) s = .next t ∧ SameRegs s t [summary f] ∧ SameMemory s t ∧
      bits (t.reg (summary f)) 55 52 = (e.toNat &&& summaryEnable f) ∧
      ∀ j, j < 64 → (j < 52 ∨ 55 < j) → bit (t.reg (summary f)) j = bit (s.reg (summary f)) j) := by
  refine ⟨⟨_, rfl, .touch_setReg _ _ _ _ _, .touch_setReg _ _ _ _ _, fun j hj => ?_⟩,
    fun mask => ⟨_, rfl, .touch_setReg _ _ _ _ _, .touch_setReg _ _ _ _ _, fun j hj => ?_⟩,
    fun e => ⟨_, rfl, .touch_setReg _ _ _ _ _, .touch_setReg _ _ _ _ _, ?_, fun j hj hout => ?_⟩⟩
  · rw [State.bit_arm _ _ hj, State.touch_reg]
  · rw [State.bit_summaryClear _ _ _ hj, State.touch_reg]
    rfl
  · exact State.bits_setEnable _ _ e.isLt
  · rw [State.bit_setEnable _ _ _ hj hout, State.touch_reg]

/-! ### Coalescing (R490) -/

/-- A bit that an event sets stands among those raised in its tick (R486). -/
theorem State.bit_raised_setSummary (s : State) (f k : Nat) : bit (Tab.read (s.setSummary f 0 (2 ^ k)).raised 0 f) k = true := by
  simp [State.setSummary, bit_eq_testBit, Nat.testBit_two_pow_self]

theorem State.onRing_of_find {s : State} {p : Nat} {r : Ring} (h : Tab.find s.rings p = some r) (g : Ring → Ring) :
    s.onRing p g = s.setRing p (g r) := by
  simp [State.onRing, h]

/-- A signal raises the ring pair's bit and leaves nothing unsignalled. -/
theorem State.signal_of_find {s : State} {p : Nat} {r : Ring} (h : Tab.find s.rings p = some r) :
    s.signal p = (s.setSummary (ringVf p) 0 (2 ^ ringLocal p)).setRing p { r with unsig := 0, signalNow := false } :=
  State.onRing_of_find (s := s.setSummary (ringVf p) 0 (2 ^ ringLocal p)) h _

theorem exec_coalesceTimer {s : State} {p : RingPair} {r : Ring} (h : Tab.find s.rings p = some r) (hu : r.unsig ≠ 0)
    (hdue : r.oldest + usec r.coalus ≤ s.now) : exec (.coalesceTimer p) s = .next (s.signal p) := by
  change execCoalesceTimer p s = _
  simp [execCoalesceTimer, h, hu, hdue]

/-! ### Records (R499, R507) -/

/-- RECORD_RELEASE keeps, in their order, the records that are not acknowledged or not yet 1 ms old. -/
theorem State.releaseRecords_recs (s : State) (d : Nat) : ((s.releaseRecords d).errQueue d).recs
    = (s.errQueue d).recs.filter (fun r => !r.acked || decide (s.clkTime < r.time + 1000000)) := by
  have hkeep : ∀ r : ErrRec, (!(r.acked && decide (r.time + 1000000 ≤ s.clkTime))) = (!r.acked || decide (s.clkTime < r.time + 1000000)) :=
    fun r => by rw [Bool.not_and, ← decide_not, decide_eq_decide.mpr Nat.not_le]
  simp only [State.releaseRecords, State.errQueue_setErrQueue, hkeep]

/-- An uncorrectable error of a queue's storage (R507). -/
def State.queueFaulty (s : State) (d : Nat) : State :=
  { s.setErrQueue d { s.errQueue d with faulty := true } with logFaulted := true }

theorem exec_logFault {s : State} {d : Domain} {kind : Nat} (h : kind ≠ 0) :
    exec (.logFault d kind) s = .next ((s.queueFaulty d).fatalOccur 5 0x0503 0) := by
  change execLogFault d kind s = _
  simp [execLogFault, h, State.queueFaulty]

theorem ReportFrame.logFaulted {s t : State} (h : ReportFrame s t) : t.logFaulted = s.logFaulted := by rw [h]

/-- A fatal occurrence that is the first, outside the fatal state, waits for the end of the tick (R505). -/
theorem State.fatalOccur_first {s : State} (hf : s.fatal = false) (hp : s.fatalPend = none) (d c n : Nat) :
    (s.fatalOccur d c n).fatalPend = some { domain := d, cause := c, seq := n } := by
  rcases s.fatalOccur_cases d c n with ⟨h, _⟩ | ⟨_, _, h⟩ | ⟨_, h, _⟩
  · simp [hf] at h
  · rw [h]
  · exact absurd hp h

theorem logFaultOfRecordStorage (s : State) (d : Domain) (kind : Nat) :
    (kind = 0 → ∃ t, exec (.logFault d kind) s = .next t ∧ SameRegs s t [Reg.ERR_LOGCE] ∧ SameMemory s t ∧
      t.reg Reg.ERR_LOGCE = satAdd 32 (s.reg Reg.ERR_LOGCE) 1) ∧
    (kind ≠ 0 → ∃ t, exec (.logFault d kind) s = .next t ∧ SameRegs s t [Reg.ERR_FATAL] ∧ SameMemory s t ∧ (t.errQueue d).faulty = true ∧
      (t.errQueue d).recs = (s.errQueue d).recs ∧ t.logFaulted = true ∧
      (s.fatal = false → s.fatalPend = none → t.fatalPend = some { domain := 5, cause := 0x0503, seq := 0 })) := by
  refine ⟨?_, fun h => ?_⟩
  · rintro rfl
    exact ⟨s.count Reg.ERR_LOGCE 1, rfl, fun a ha => State.reg_setReg_other _ _ _ _ (by simpa using ha), (AccessFrame.setReg s _ _).sameMemory,
      State.reg_count _ _ _⟩
  · have hq : (s.queueFaulty d).errQueue d = { s.errQueue d with faulty := true } := s.errQueue_setErrQueue d _
    have hframe := ReportFrame.fatalOccur (s.queueFaulty d) 5 0x0503 0
    refine ⟨_, exec_logFault h, fun a ha => ?_, hframe.sameMemory, ?_, ?_, hframe.logFaulted,
      fun hf hp => State.fatalOccur_first (s := s.queueFaulty d) hf hp 5 0x0503 0⟩
    · rw [State.fatalOccur_reg_other _ _ _ _ (by simpa using ha)]
      rfl
    · rw [State.fatalOccur_errQueue, hq]
    · rw [State.fatalOccur_errQueue, hq]

/-- Settles O56, command by command. -/
theorem interruptTreeAndRecords : Obligations.InterruptTreeAndRecords := by
  refine ⟨summaryRegisterWrites, fun s p r hr hu hdue => ?_, fun s d => ?_, logFaultOfRecordStorage, fun s on => ?_⟩
  · refine ⟨s.signal p, exec_coalesceTimer hr hu hdue, ?_⟩
    rw [State.signal_of_find hr]
    exact ⟨fun _ _ => rfl, fun _ => rfl, State.find_setRing _ _ _, State.bit_raised_setSummary _ _ _⟩
  · exact ⟨s.releaseRecords d, rfl, fun _ _ => rfl, fun _ => rfl, s.releaseRecords_recs d,
      fun j hj => State.errQueue_setErrQueue_other _ _ _ _ hj⟩
  · refine ⟨(s.dropHeld 0).forceIrq on, rfl, fun a ha => State.reg_setReg_other _ _ _ _ (by simpa using ha),
      ((AccessFrame.dropHeld s 0).trans (.setReg _ _ _)).sameMemory, ?_⟩
    rw [State.forceIrq, State.fld_setFld _ _ _ _ (by decide)]
    exact Nat.mod_eq_of_lt (by unfold b2n; split <;> decide)

end Sys2Proof.Machine
end

section
/-! Sosin commands at their turn: how a command's effect and answer are made (R442, R444, R448), and the commands on keys, the
seal, ring pairs, PASIDs and the reset (R454, R459, R472, R473, R654). -/

namespace Sys2Proof.Machine

/-! ### A command at its turn -/

/-- A command that is admitted makes its effect, and its answer stands in its place. -/
theorem State.runCmd_of_admits {s : State} {m k op : Nat} (h : s.admits m k op = true) (data : List Byte)
    (f : Cmd → State → State × Reply) :
    s.runCmd m k op data f
      = (f (s.cmdAt m k data) s).1.setSlot m k (((f (s.cmdAt m k data) s).1.slotAt m k).answer (f (s.cmdAt m k data) s).2) := by
  simp only [State.admits, Bool.and_eq_true, Bool.not_eq_true'] at h
  obtain ⟨⟨hturn, habort⟩, hpayload⟩ := h
  cases hrow : cmdRow? op with
  | none => simp [hrow] at hpayload
  | some row =>
    simp only [hrow, Option.isNone_iff_eq_none] at hpayload
    simp [State.runCmd, hturn, habort, hrow, hpayload, State.cmdAt]

/-- The checks of a command that all pass leave its effect (R448). -/
theorem checked_of_pass (s : State) {l : List (Bool × Nat × Nat)} (h : ∀ x ∈ l, x.1 = false) (f : State → State × Reply) :
    checked s l f = f s := by
  have hfirst : firstFail l = none := by
    induction l with
    | nil => rfl
    | cons x l ih =>
      obtain ⟨fails, st, det⟩ := x
      have hx : fails = false := h _ List.mem_cons_self
      simp [firstFail, hx, ih fun y hy => h y (List.mem_cons_of_mem _ hy)]
  rw [checked, hfirst]

/-- The state after a command: the answer of its place, over the state its effect leaves. -/
def State.replied (s : State) (m k : Nat) (r : Reply) : State := s.setSlot m k ((s.slotAt m k).answer r)

theorem State.runCmd_eq_replied {s t : State} {m k op : Nat} {data : List Byte} {r : Reply} {f : Cmd → State → State × Reply}
    (h : s.admits m k op = true) (hf : f (s.cmdAt m k data) s = (t, r)) : s.runCmd m k op data f = t.replied m k r := by
  rw [State.runCmd_of_admits h, hf, State.replied]

section
variable (s : State) (m k : Nat) (r : Reply)

@[simp] theorem State.slotAt_replied : (s.replied m k r).slotAt m k = (s.slotAt m k).answer r := State.slotAt_setSlot _ _ _ _

/-- A command answers with the status of its reply. -/
theorem State.answered_replied : (s.replied m k r).answered m k r.status = true := by
  simp [State.answered, MbxSlot.answer]

theorem State.wait_replied : ((s.replied m k r).slotAt m k).wait = r.wait := by simp [MbxSlot.answer]

theorem State.payload_replied : ((s.replied m k r).slotAt m k).payload = slice r.payload 0 (roundUp r.payload.length 4) := by
  simp [MbxSlot.answer]

@[simp] theorem State.mem_replied : (s.replied m k r).mem = s.mem := rfl
@[simp] theorem State.free_replied : (s.replied m k r).free = s.free := rfl
@[simp] theorem State.tenants_replied : (s.replied m k r).tenants = s.tenants := rfl
@[simp] theorem State.parts_replied : (s.replied m k r).parts = s.parts := rfl
@[simp] theorem State.rings_replied : (s.replied m k r).rings = s.rings := rfl
@[simp] theorem State.fnAt_replied (f : Nat) : (s.replied m k r).fnAt f = s.fnAt f := rfl
@[simp] theorem State.reg_replied (a : Nat) : (s.replied m k r).reg a = s.reg a := rfl
@[simp] theorem State.keyOf_replied (v : Nat) : (s.replied m k r).keyOf v = s.keyOf v := rfl

end

/-- An answer carries the status of its reply, and leaves memory, tenants and partitions as the effect does. -/
theorem State.replied_frame {s t : State} (hmem : SameMemory s t) (htenants : t.tenants = s.tenants) (hparts : t.parts = s.parts)
    (m k : Nat) (r : Reply) : (t.replied m k r).answered m k r.status = true ∧ SameMemory s (t.replied m k r) ∧
      (t.replied m k r).tenants = s.tenants ∧ (t.replied m k r).parts = s.parts :=
  ⟨t.answered_replied m k r, hmem, htenants, hparts⟩

/-! ### Keys (R185, R459) -/

@[simp] theorem State.keyOf_setKey (s : State) (v : Nat) (x : KeySlot) : (s.setKey v x).keyOf v = x := Tab.read_write_self _ _ _ _

theorem State.keyOf_setKey_other (s : State) {v j : Nat} (x : KeySlot) (h : j ≠ v) : (s.setKey v x).keyOf j = s.keyOf j :=
  Tab.read_write_ne _ _ _ (Ne.symm h)

/-- `t` differs from `s` in the far tier's tuns at most. -/
def TunFrame (s t : State) : Prop := t = { s with far := { s.far with tuns := t.far.tuns } }

/-- Bringing tuns back changes tuns alone (R319). -/
theorem TunFrame.returnTuns (s : State) : TunFrame s s.returnTuns := by
  unfold State.returnTuns forAll
  suffices h : ∀ (l : List (Nat × Tun)) (t : State), TunFrame s t → TunFrame s (l.foldl _ t) from h _ _ rfl
  intro l
  induction l with
  | nil => exact fun t h => h
  | cons x l ih =>
    intro t h
    refine ih _ ?_
    dsimp only
    split
    · unfold TunFrame at *
      rw [h]
      rfl
    · exact h

/-- The state after a generated key has been put in a slot. -/
def State.withNewKey (s : State) (v id : Nat) : State :=
  (({ s with free := s.free + 64 } : State).installKey v { st := 1, keyid := id, key := s.freeKey }).tenantChanged v

/-- A generated key takes 64 free values, fills its slot, and moves only tuns and the tenant's summary bit besides. -/
theorem State.withNewKey_eq (s : State) (v id : Nat) : ∃ raised tuns, s.withNewKey v id =
    { s.setKey v { st := 1, keyid := id, key := s.freeKey } with
      free := s.free + 64, raised := raised,
      far := { (s.setKey v { st := 1, keyid := id, key := s.freeKey }).far with tuns := tuns } } := by
  unfold State.withNewKey State.installKey State.tenantChanged
  rw [TunFrame.returnTuns]
  split <;> exact ⟨_, _, rfl⟩

/-- A generated key leaves memory, tenants, partitions and registers, and takes 64 free values (log entry 1). -/
theorem State.withNewKey_frame (s : State) (v id : Nat) : (s.withNewKey v id).mem = s.mem ∧ (s.withNewKey v id).tenants = s.tenants ∧
    (s.withNewKey v id).parts = s.parts ∧ (∀ a, (s.withNewKey v id).reg a = s.reg a) ∧ (s.withNewKey v id).free = s.free + 64 := by
  obtain ⟨_, _, h⟩ := s.withNewKey_eq v id
  rw [h]
  exact ⟨rfl, rfl, rfl, fun _ => rfl, rfl⟩

theorem State.keyOf_withNewKey (s : State) (v id : Nat) :
    (s.withNewKey v id).keyOf v = { st := 1, keyid := id, key := s.freeKey } := by
  obtain ⟨_, _, h⟩ := s.withNewKey_eq v id
  rw [h]
  exact s.keyOf_setKey v { st := 1, keyid := id, key := s.freeKey }

theorem State.keyOf_withNewKey_other (s : State) {v j : Nat} (id : Nat) (hj : j ≠ v) : (s.withNewKey v id).keyOf j = s.keyOf j := by
  obtain ⟨_, _, h⟩ := s.withNewKey_eq v id
  rw [h]
  exact s.keyOf_setKey_other { st := 1, keyid := id, key := s.freeKey } hj

theorem State.length_freeKey (s : State) : s.freeKey.length = 64 := by simp [State.freeKey]

/-- KEY_GENERATE for a bound tenant that is not confidential and holds nothing under its key. -/
theorem keyGenerate_eq {c : Cmd} {s : State} {x : Tenant} (hlo : 1 ≤ c.fld 0 1) (hhi : c.fld 0 1 ≤ 64)
    (hx : Tab.find s.tenants (c.fld 0 1) = some x) (hconf : x.conf = false)
    (hfree : (s.keyOf (c.fld 0 1)).st = 0 ∨ s.holdsStores (c.fld 0 1) = false) (hentropy : s.mc.entropyOk = true) :
    keyGenerate c s = (s.withNewKey (c.fld 0 1) (c.fld 8 8), {}) := by
  have hrange : ¬ (c.fld 0 1 = 0 ∨ 64 < c.fld 0 1) := by omega
  have hbusy : ((s.keyOf (c.fld 0 1)).st != 0 && s.holdsStores (c.fld 0 1)) = false := by
    rcases hfree with h | h <;> simp [h]
  have hpass : ∀ y ∈ [(x.conf, sSTATE, at_ 0), ((s.keyOf (c.fld 0 1)).st != 0 && s.holdsStores (c.fld 0 1), sBUSY, 0),
      (!s.mc.entropyOk, sBUSY, 0)], y.1 = false := by simp [hconf, hbusy, hentropy]
  simp only [keyGenerate, onTenant_, hx, Bool.or_eq_true, decide_eq_true_eq, if_neg hrange, checked_of_pass s hpass]
  rfl

/-! ### The seal and the reset (R454, R459) -/

theorem sealCmd_eq {c : Cmd} (s : State) (h : c.fld 0 4 = 0x4C414553) : sealCmd c s = ({ s with sealed := true }, {}) :=
  checked_of_pass s (by simp [h]) _

theorem devReset_eq {c : Cmd} (s : State) (h0 : c.fld 0 1 = 1) (h4 : c.fld 4 4 = 0x54455352) :
    devReset c s = (s, { wait := .reset 3 }) :=
  checked_of_pass s (by simp [h0, h4]) _

/-! ### Ring pairs (R88, R472, R473) -/

/-- Registers of a range that is reset read their reset values, and the others stay. -/
theorem State.reg_resetRegs (s : State) (lo n a : Nat) :
    (s.resetRegs lo n).reg a = if lo ≤ a ∧ a < lo + n then regReset a else s.reg a := by
  unfold State.resetRegs State.reg
  rw [Tab.find_clear]
  by_cases h : lo ≤ a ∧ a < lo + n
  · simp only [if_pos h]
  · simp only [if_neg h]

/-- The ring pair that RING_CREATE is asked for. -/
def Cmd.newRing (c : Cmd) : Ring :=
  { sqbase := c.fld 8 8, cqbase := c.fld 16 8, sqsize := 2 ^ c.fld 4 1, cqsize := 2 ^ c.fld 5 1, cls := c.fld 1 1,
    coalcnt := c.fld 24 4, coalus := c.fld 28 4, stream := c.fld 2 1 == 1 }

/-- Are the operands of RING_CREATE in range (R472)? -/
structure Cmd.RingOperands (c : Cmd) : Prop where
  number : c.fld 0 1 ≤ 15
  cls : c.fld 1 1 ≤ 4
  stream : c.fld 2 1 ≤ 1
  sqLo : 6 ≤ c.fld 4 1
  sqHi : c.fld 4 1 ≤ 16
  cqLo : 6 ≤ c.fld 5 1
  cqHi : c.fld 5 1 ≤ 16
  sqBase : c.fld 8 8 % 4096 = 0
  cqBase : c.fld 16 8 % 4096 = 0
  countLo : 1 ≤ c.fld 24 4
  countHi : c.fld 24 4 ≤ 65535
  micros : c.fld 28 4 ≤ 65535

theorem ringCreate_eq {c : Cmd} {s : State} {x : Tenant} (hc : c.RingOperands) (hx : Tab.find s.tenants c.fn = some x)
    (hmax : x.lcmax ≤ c.fld 1 1) (hpasid : (s.fnAt c.fn).pasidEnable = true → (s.fnAt c.fn).pasid ≠ none)
    (hnew : Tab.find s.rings (16 * (c.fn - 1) + c.fld 0 1) = none) :
    ringCreate c s = ((s.resetRegs (Reg.QFE_SQTAIL (16 * (c.fn - 1) + c.fld 0 1)) 64).setRing (16 * (c.fn - 1) + c.fld 0 1) c.newRing,
      { payload := leBytes 2 (16 * (c.fn - 1) + c.fld 0 1) }) := by
  have hclass : aboveMax (c.fld 1 1) x.lcmax = false := by simp [aboveMax, Nat.not_lt.mpr hmax]
  have hnull : ((s.fnAt c.fn).pasidEnable && (s.fnAt c.fn).pasid.isNone) = false := by
    cases he : (s.fnAt c.fn).pasidEnable with
    | false => rfl
    | true => simpa [Option.isSome_iff_ne_none] using hpasid he
  have hcount : c.fld 24 4 ≠ 0 := Nat.ne_of_gt hc.countLo
  unfold ringCreate
  dsimp only
  refine checked_of_pass s ?_ _
  simp [hx, hclass, hc.number, hc.cls, hc.stream, hc.sqLo, hc.sqHi, hc.cqLo, hc.cqHi, hc.sqBase, hc.cqBase, hcount, hc.countHi,
    hc.micros, hnull, hnew]

theorem ringDestroy_eq {c : Cmd} {s : State} {r : Ring} (hnum : c.fld 0 1 ≤ 15)
    (hr : Tab.find s.rings (16 * (c.fn - 1) + c.fld 0 1) = some r) :
    ringDestroy c s = (s.setRing (16 * (c.fn - 1) + c.fld 0 1) { r with closing := true },
      { wait := .ring (16 * (c.fn - 1) + c.fld 0 1) }) := by
  have hpass : ∀ y ∈ [(decide (15 < c.fld 0 1), sRANGE, at_ 0),
      ((Tab.find s.rings (16 * (c.fn - 1) + c.fld 0 1)).isNone, sNOOBJ, at_ 0)], y.1 = false := by simp [hnum, hr]
  unfold ringDestroy
  dsimp only
  rw [checked_of_pass s hpass, State.onRing_of_find hr]

/-- The two bytes of a ring pair's number, padded to a whole word, read back as the number (R472). -/
theorem field_paddedPair {p : Nat} (h : p < 2 ^ 16) : field (slice (leBytes 2 p) 0 (roundUp (leBytes 2 p).length 4)) 0 2 = p := by
  simp [field, slice, leBytes, leNat, roundUp, cdiv]
  omega

/-! ### PASIDs (R416, R654) -/

theorem pasidSet_eq {c : Cmd} {s : State} (hset : c.fld 4 1 ≤ 1) (hbuf : s.bufferInUse c = false) (htdi : s.tdiLocked c.fn = false)
    (hrings : ∀ x ∈ s.rings, c.fn = 0 ∨ ringVf x.1 ≠ c.fn) :
    pasidSet c s = (s.setFn c.fn { s.fnAt c.fn with pasid := if c.fld 4 1 = 1 then some (c.fld 0 4) else none }, {}) := by
  have hnone : s.rings.any (fun (x : Nat × Ring) => c.fn != 0 && ringVf x.1 == c.fn) = false := by
    rw [List.any_eq_false]
    intro x hx
    rcases hrings x hx with h | h <;> simp [h]
  unfold pasidSet
  dsimp only
  refine checked_of_pass s ?_ _
  simp [hset, hnone, hbuf, htdi]

/-- Settles O49, command by command. -/
theorem keysRingsAndPasids : Obligations.KeysRingsAndPasids := by
  intro s m k c done
  refine ⟨fun x hadm hlo hhi hx hconf hfree hent => ?_, fun hadm hcode => ?_, fun hadm h0 h4 => ?_,
    fun hadm hm0 hm65 => ?_, fun r hadm hnum hr => ?_, fun hadm _ hset hbuf htdi hrings => ?_⟩
  · have hrun : s.runCmd m k 0x010A [] keyGenerate = (s.withNewKey (c.fld 0 1) (c.fld 8 8)).replied m k {} :=
      State.runCmd_eq_replied hadm (keyGenerate_eq hlo hhi hx hconf hfree hent)
    refine ⟨_, congrArg Host.Outcome.next hrun, State.answered_replied _ _ _ _, ?_⟩
    simp only [State.mem_replied, State.tenants_replied, State.parts_replied, State.free_replied, SameRegs, State.reg_replied,
      State.keyOf_replied, State.keyOf_withNewKey]
    obtain ⟨hmem, htenants, hparts, hregs, hdraws⟩ := s.withNewKey_frame (c.fld 0 1) (c.fld 8 8)
    exact ⟨hmem, htenants, hparts, fun a _ => hregs a, hdraws, trivial, trivial, s.length_freeKey, fun j hj => s.keyOf_withNewKey_other _ hj⟩
  · have hrun := State.runCmd_eq_replied hadm (sealCmd_eq s hcode)
    exact ⟨_, congrArg Host.Outcome.next hrun, State.replied_frame (fun _ => rfl) rfl rfl _ _ _, fun _ _ => rfl, rfl⟩
  · have hrun := State.runCmd_eq_replied hadm (devReset_eq s h0 h4)
    exact ⟨_, congrArg Host.Outcome.next hrun, State.replied_frame (fun _ => rfl) rfl rfl _ _ _, fun _ _ => rfl,
      State.wait_replied _ _ _ _⟩
  · intro p hnumber hcls hstream hsqLo hsqHi hcqLo hcqHi hsqBase hcqBase hcountLo hcountHi hmicros hmax hbound hpasid hnew
    obtain ⟨x, hx⟩ := hbound
    have hfn : c.fn = m.val := if_neg hm65
    have hp : 16 * (c.fn - 1) + c.fld 0 1 = p := by rw [hfn]
    have heq := ringCreate_eq (c := c) (s := s) ⟨hnumber, hcls, hstream, hsqLo, hsqHi, hcqLo, hcqHi, hsqBase, hcqBase, hcountLo, hcountHi,
      hmicros⟩ (hfn ▸ hx) (hmax x hx) (hfn ▸ hpasid) (hp ▸ hnew)
    rw [hp] at heq
    have hrun := State.runCmd_eq_replied hadm heq
    have hp16 : p < 2 ^ 16 := by have := m.isLt; omega
    refine ⟨_, congrArg Host.Outcome.next hrun, State.replied_frame (fun _ => rfl) rfl rfl _ _ _, ?_,
      State.find_setRing _ _ _, fun a hlo hhi => ?_, fun a hout => ?_⟩
    · rw [State.payload_replied]
      exact field_paddedPair hp16
    · rw [State.reg_replied, State.setRing_reg, State.reg_resetRegs, if_pos ⟨hlo, hhi⟩]
    · rw [State.reg_replied, State.setRing_reg, State.reg_resetRegs, if_neg (by omega)]
  · have hrun := State.runCmd_eq_replied hadm (ringDestroy_eq hnum hr)
    refine ⟨_, congrArg Host.Outcome.next hrun, State.replied_frame (fun _ => rfl) rfl rfl _ _ _, fun _ _ => rfl,
      State.wait_replied _ _ _ _, ?_⟩
    rw [State.rings_replied]
    exact State.find_setRing _ _ _
  · have hrun := State.runCmd_eq_replied hadm (pasidSet_eq hset hbuf htdi hrings)
    refine ⟨_, congrArg Host.Outcome.next hrun, State.replied_frame (fun _ => rfl) rfl rfl _ _ _, fun _ _ => rfl, rfl, ?_, fun j hj => ?_⟩
    · rw [State.fnAt_replied, State.fnAt_setFn]
    · rw [State.fnAt_replied, State.fnAt_setFn_other _ _ _ _ hj]

end Sys2Proof.Machine
end

section
/-! Distances of codes (R16, R18) and the survivors of a bucket (R30). -/

namespace Sys2Proof.Machine

/-! ### Bits of byte strings -/

/-- Bit `j` of a byte string, bit 0 of its first byte first. -/
def bitOf (z : List Byte) (j : Nat) : Bool := (z.getD (j / 8) 0).getLsbD (j % 8)

theorem bitOf_cons_low (b : Byte) (z : List Byte) {j : Nat} (h : j < 8) : bitOf (b :: z) j = b.getLsbD j := by
  simp [bitOf, Nat.div_eq_of_lt h, Nat.mod_eq_of_lt h]

theorem bitOf_cons_high (b : Byte) (z : List Byte) (j : Nat) : bitOf (b :: z) (8 + j) = bitOf z j := by
  simp [bitOf, Nat.add_div_left]

theorem bitOf_drop (z : List Byte) (n j : Nat) : bitOf (z.drop n) j = bitOf z (8 * n + j) := by
  simp [bitOf, Nat.mul_add_div, List.getD_eq_getElem?_getD]

theorem bitOf_take (z : List Byte) {n j : Nat} (h : j < 8 * n) : bitOf (z.take n) j = bitOf z j := by
  have hbyte : j / 8 < n := by omega
  simp [bitOf, List.getD_eq_getElem?_getD, hbyte]

/-- Bits of strings joined byte by byte, where two absent bytes join to none. -/
theorem bitOf_zipWith {f : Byte → Byte → Byte} {g : Bool → Bool → Bool} (hf : ∀ a b i, (f a b).getLsbD i = g (a.getLsbD i) (b.getLsbD i))
    (hg : g false false = false) {y z : List Byte} (h : y.length = z.length) (j : Nat) :
    bitOf (List.zipWith f y z) j = g (bitOf y j) (bitOf z j) := by
  by_cases hj : j / 8 < z.length
  · have hy : j / 8 < y.length := h ▸ hj
    simp [bitOf, List.getD_eq_getElem?_getD, hj, hy, hf]
  · have hy : ¬ j / 8 < y.length := h ▸ hj
    simp [bitOf, List.getD_eq_getElem?_getD, hj, hy, hg]

theorem bitOf_xor {y z : List Byte} (h : y.length = z.length) (j : Nat) :
    bitOf (List.zipWith (· ^^^ ·) y z) j = (bitOf y j != bitOf z j) :=
  bitOf_zipWith (g := bne) (fun a b i => by simp [BitVec.getLsbD_xor]) rfl h j

theorem bitOf_and {y z : List Byte} (h : y.length = z.length) (j : Nat) :
    bitOf (List.zipWith (· &&& ·) y z) j = (bitOf y j && bitOf z j) :=
  bitOf_zipWith (fun _ _ _ => BitVec.getLsbD_and) rfl h j

theorem popByte_eq_countP (b : Byte) : popByte b = (List.range 8).countP (fun j => b.getLsbD j) := by
  simp only [popByte, popcount, bitList, bit_eq_testBit, BitVec.testBit_toNat, List.countP_eq_length_filter]

theorem popBytes_cons (b : Byte) (z : List Byte) : popBytes (b :: z) = popByte b + popBytes z := by
  have hfold : ∀ (l : List Byte) (n : Nat), l.foldl (fun a b => a + popByte b) n = n + popBytes l := by
    intro l
    induction l with
    | nil => exact fun n => rfl
    | cons c l ih =>
      intro n
      rw [popBytes, List.foldl_cons, List.foldl_cons, ih, ih]
      omega
  rw [popBytes, List.foldl_cons, hfold, Nat.zero_add]

/-- The population of a byte string counts its bits. -/
theorem popBytes_eq_countP (z : List Byte) : popBytes z = (List.range (8 * z.length)).countP (bitOf z) := by
  induction z with
  | nil => rfl
  | cons b z ih =>
    have hlow : (List.range 8).countP (bitOf (b :: z)) = popByte b := by
      rw [popByte_eq_countP]
      exact List.countP_congr fun j hj => by rw [bitOf_cons_low b z (List.mem_range.mp hj)]
    have hhigh : bitOf (b :: z) ∘ (8 + ·) = bitOf z := funext (bitOf_cons_high b z)
    rw [popBytes_cons, List.length_cons, Nat.mul_succ, Nat.add_comm _ 8, List.range_add, List.countP_append, List.countP_map, hlow, hhigh, ih]

/-! ### Distances -/

/-- R16: the distance of two B1 codes of one length is the number of bits in which they differ. -/
theorem codeDist_b1 {L : Nat} {q c : List Byte} (hq : 8 * q.length = L) (hc : 8 * c.length = L) :
    codeDist false q c = (List.range L).countP (fun j => bitOf q j != bitOf c j) := by
  have hlen : q.length = c.length := by omega
  have hbits : bitOf (List.zipWith (· ^^^ ·) q c) = fun j => bitOf q j != bitOf c j := funext (bitOf_xor hlen)
  simp [codeDist, popBytes_eq_countP, hbits, hlen, hc]

/-- The value of a position of a T2 code of length `L`: its P plane is followed by its S plane (R17). -/
def t2Value (L : Nat) (z : List Byte) (j : Nat) : Int := if bitOf z j then (if bitOf z (L + j) then -1 else 1) else 0

/-- Two positions differ by one where one of them alone is 0, and by two where their signs differ. -/
theorem natAbs_t2Value_sub (L : Nat) (q c : List Byte) (j : Nat) : (t2Value L q j - t2Value L c j).natAbs
    = (bitOf q j != bitOf c j).toNat + 2 * (bitOf q j && bitOf c j && (bitOf q (L + j) != bitOf c (L + j))).toNat := by
  simp only [t2Value]
  generalize bitOf q j = pq, bitOf c j = pc, bitOf q (L + j) = sq, bitOf c (L + j) = sc
  revert pq pc sq sc
  decide

theorem sum_toNat_eq_countP (l : List Nat) (p r : Nat → Bool) :
    (l.map (fun j => (p j).toNat + 2 * (r j).toNat)).sum = l.countP p + 2 * l.countP r := by
  induction l with
  | nil => rfl
  | cons j l ih =>
    simp only [List.map_cons, List.sum_cons, ih, List.countP_cons]
    cases p j <;> cases r j <;> simp <;> omega

/-- R18: the distance of two T2 codes of one length is the sum over the positions of the differences of their values. -/
theorem codeDist_t2 {L : Nat} {q c : List Byte} (h8 : 8 ∣ L) (hq : q.length = 2 * (L / 8)) (hc : c.length = 2 * (L / 8)) :
    codeDist true q c = ((List.range L).map (fun j => (t2Value L q j - t2Value L c j).natAbs)).sum := by
  obtain ⟨h, rfl⟩ := h8
  have hh : 8 * h / 8 = h := by omega
  rw [hh] at hq hc
  have hhalf : q.length / 2 = h := by omega
  have hp : (q.take h).length = (c.take h).length := by simp [hq, hc]
  have hs : (q.drop h).length = (c.drop h).length := by simp [hq, hc]
  have hpand : (List.zipWith (· &&& ·) (q.take h) (c.take h)).length = (List.zipWith (· ^^^ ·) (q.drop h) (c.drop h)).length := by
    simp [hq, hc]; omega
  have hplen : (List.zipWith (· ^^^ ·) (q.take h) (c.take h)).length = h := by simp [hq, hc]; omega
  have hslen : (List.zipWith (· &&& ·) (List.zipWith (· &&& ·) (q.take h) (c.take h)) (List.zipWith (· ^^^ ·) (q.drop h) (c.drop h))).length = h := by
    simp [hq, hc]; omega
  simp only [natAbs_t2Value_sub, sum_toNat_eq_countP, codeDist, if_true, hhalf, popBytes_eq_countP, hplen, hslen]
  congr 1
  · refine List.countP_congr fun j hj => ?_
    have hj := List.mem_range.mp hj
    rw [bitOf_xor hp, bitOf_take q hj, bitOf_take c hj]
  · refine congrArg (2 * ·) (List.countP_congr fun j hj => ?_)
    have hj := List.mem_range.mp hj
    rw [bitOf_and hpand, bitOf_and hp, bitOf_xor hs, bitOf_take q hj, bitOf_take c hj, bitOf_drop, bitOf_drop]

theorem natAbs_t2Value_sub_le (L : Nat) (q c : List Byte) (j : Nat) : (t2Value L q j - t2Value L c j).natAbs ≤ 2 := by
  simp only [t2Value]
  generalize bitOf q j = pq, bitOf c j = pc, bitOf q (L + j) = sq, bitOf c (L + j) = sc
  revert pq pc sq sc
  decide

theorem codeDist_t2_le {L : Nat} {q c : List Byte} (h8 : 8 ∣ L) (hq : q.length = 2 * (L / 8)) (hc : c.length = 2 * (L / 8)) :
    codeDist true q c ≤ 2 * L := by
  have hle := List.sum_le_card_nsmul ((List.range L).map (fun j => (t2Value L q j - t2Value L c j).natAbs)) 2 fun n hn => by
    obtain ⟨j, -, rfl⟩ := List.mem_map.mp hn
    exact natAbs_t2Value_sub_le L q c j
  rw [codeDist_t2 h8 hq hc]
  simpa [Nat.mul_comm] using hle

/-- A T2 code whose values are those of another is as far from every code: S counts for nothing where P is clear (R18). -/
theorem codeDist_t2_congr {L : Nat} {q z c : List Byte} (h8 : 8 ∣ L) (hq : q.length = 2 * (L / 8)) (hz : z.length = q.length)
    (hc : c.length = 2 * (L / 8)) (h : ∀ j, j < L → bitOf z j = bitOf q j ∧ (bitOf q j = true → bitOf z (L + j) = bitOf q (L + j))) :
    codeDist true z c = codeDist true q c := by
  rw [codeDist_t2 h8 (hz.trans hq) hc, codeDist_t2 h8 hq hc]
  refine congrArg List.sum (List.map_congr_left fun j hj => ?_)
  obtain ⟨hp, hs⟩ := h j (List.mem_range.mp hj)
  have hvalue : t2Value L z j = t2Value L q j := by
    by_cases hb : bitOf q j = true
    · simp [t2Value, hp, hb, hs hb]
    · simp [t2Value, hp, hb]
  rw [hvalue]

/-! ### Stable insertion -/

section
variable {α : Type} {le : α → α → Bool}

theorem insertBy_perm (x : α) (l : List α) : (insertBy le x l).Perm (x :: l) := by
  induction l with
  | nil => exact .refl _
  | cons y l ih =>
    unfold insertBy
    split
    · exact (ih.cons y).trans (.swap x y l)
    · exact .refl _

theorem foldl_insertBy_perm (m l : List α) : (m.foldl (fun a x => insertBy le x a) l).Perm (l ++ m) := by
  induction m generalizing l with
  | nil => simp
  | cons x m ih => exact (ih _).trans (((insertBy_perm x l).append_right m).trans List.perm_middle.symm)

theorem sortBy_perm (l : List α) : (sortBy le l).Perm l := foldl_insertBy_perm l []

/-- What comes first after an insertion depends only on what came first before it. -/
theorem take_insertBy_take (n : Nat) (x : α) (l : List α) : (insertBy le x (l.take n)).take n = (insertBy le x l).take n := by
  induction l generalizing n with
  | nil => simp
  | cons y l ih =>
    cases n with
    | zero => rfl
    | succ n =>
      rw [List.take_succ_cons]
      unfold insertBy
      split
      · simp only [List.take_succ_cons, ih]
      · cases n <;> simp [List.take_take]

/-- Keeping the first n at each insertion keeps the first n of all. -/
theorem foldl_take_insertBy (n : Nat) (m l : List α) :
    m.foldl (fun a x => (insertBy le x a).take n) (l.take n) = (m.foldl (fun a x => insertBy le x a) l).take n := by
  induction m generalizing l with
  | nil => rfl
  | cons x m ih => rw [List.foldl_cons, List.foldl_cons, take_insertBy_take, ih]

theorem take_foldl_insertBy_take (n : Nat) (m l : List α) :
    (m.foldl (fun a x => insertBy le x a) (l.take n)).take n = (m.foldl (fun a x => insertBy le x a) l).take n := by
  rw [← foldl_take_insertBy, List.take_take, Nat.min_self, foldl_take_insertBy]

variable (htrans : ∀ a b c, le a b = true → le b c = true → le a c = true) (htotal : ∀ a b, le a b = true ∨ le b a = true)
include htrans htotal

theorem insertBy_pairwise (x : α) {l : List α} (h : l.Pairwise (le · ·)) : (insertBy le x l).Pairwise (le · ·) := by
  induction l with
  | nil => exact List.pairwise_singleton _ _
  | cons y l ih =>
    obtain ⟨hy, hl⟩ := List.pairwise_cons.mp h
    unfold insertBy
    split
    next hyx =>
      refine List.pairwise_cons.mpr ⟨fun z hz => ?_, ih hl⟩
      rcases List.mem_cons.mp ((insertBy_perm x l).mem_iff.mp hz) with rfl | hz
      · exact hyx
      · exact hy z hz
    next hyx =>
      have hxy : le x y = true := (htotal x y).resolve_right hyx
      refine List.pairwise_cons.mpr ⟨fun z hz => ?_, h⟩
      rcases List.mem_cons.mp hz with rfl | hz
      · exact hxy
      · exact htrans x y z hxy (hy z hz)

theorem foldl_insertBy_pairwise (m : List α) {l : List α} (h : l.Pairwise (le · ·)) :
    (m.foldl (fun a x => insertBy le x a) l).Pairwise (le · ·) := by
  induction m generalizing l with
  | nil => exact h
  | cons x m ih => exact ih (insertBy_pairwise htrans htotal x h)

theorem sortBy_pairwise (l : List α) : (sortBy le l).Pairwise (le · ·) := foldl_insertBy_pairwise htrans htotal l .nil

/-- Insertions into an ordered list sort the two lists together, where no two entries tie. -/
theorem foldl_insertBy_eq_sortBy {l m k : List α} (hanti : ∀ a ∈ k, ∀ b ∈ k, le a b = true → le b a = true → a = b)
    (hl : l.Pairwise (le · ·)) (hk : (l ++ m).Perm k) : m.foldl (fun a x => insertBy le x a) l = sortBy le k := by
  have hperm := (foldl_insertBy_perm (le := le) m l).trans hk
  exact (hperm.trans (sortBy_perm k).symm).eq_of_pairwise
    (fun a b ha hb => hanti a (hperm.mem_iff.mp ha) b ((sortBy_perm k).mem_iff.mp hb))
    (foldl_insertBy_pairwise htrans htotal m hl) (sortBy_pairwise htrans htotal k)

/-- Merging the first n of one sorted list into the first n of another gives the first n of all. -/
theorem foldl_take_insertBy_sortBy (n : Nat) (l m : List α)
    (hanti : ∀ a ∈ l ++ m, ∀ b ∈ l ++ m, le a b = true → le b a = true → a = b) :
    ((sortBy le m).take n).foldl (fun a x => (insertBy le x a).take n) ((sortBy le l).take n) = (sortBy le (l ++ m)).take n := by
  have hsorted := sortBy_pairwise htrans htotal (le := le)
  have hmem : ∀ a ∈ sortBy le l ++ (sortBy le m).take n, a ∈ l ++ m := fun a ha =>
    List.mem_append.mpr ((List.mem_append.mp ha).imp (sortBy_perm l).mem_iff.mp
      (fun h => (sortBy_perm m).mem_iff.mp (List.mem_of_mem_take h)))
  -- one ordered list has one sorted form, from whichever side its entries are inserted
  have hswap : ((sortBy le m).take n).foldl (fun a x => insertBy le x a) (sortBy le l)
      = (sortBy le l).foldl (fun a x => insertBy le x a) ((sortBy le m).take n) :=
    (foldl_insertBy_eq_sortBy htrans htotal (fun a ha b hb => hanti a (hmem a ha) b (hmem b hb)) (hsorted l) (.refl _)).trans
      (foldl_insertBy_eq_sortBy htrans htotal (fun a ha b hb => hanti a (hmem a ha) b (hmem b hb))
        ((hsorted m).sublist (List.take_sublist _ _)) List.perm_append_comm).symm
  have hall : (sortBy le l).foldl (fun a x => insertBy le x a) (sortBy le m) = sortBy le (l ++ m) :=
    foldl_insertBy_eq_sortBy htrans htotal hanti (hsorted m)
      (List.perm_append_comm.trans ((sortBy_perm l).append (sortBy_perm m)))
  rw [foldl_take_insertBy, hswap, take_foldl_insertBy_take, hall]

end

/-! ### The survivors of a bucket (R30) -/

theorem Cand.leLidx_iff (a b : Cand) : Cand.leLidx a b = true ↔ a.dist < b.dist ∨ a.dist = b.dist ∧ a.lidx ≤ b.lidx := by
  simp [Cand.leLidx]

theorem Cand.leLidx_trans (a b c : Cand) (hab : Cand.leLidx a b = true) (hbc : Cand.leLidx b c = true) : Cand.leLidx a c = true := by
  rw [Cand.leLidx_iff] at *
  omega

theorem Cand.leLidx_total (a b : Cand) : Cand.leLidx a b = true ∨ Cand.leLidx b a = true := by
  simp only [Cand.leLidx_iff]
  omega

/-- The candidate that an item of a bushel, local index and code, makes for a query. -/
def State.candOf (s : State) (i : Index) (code : List Byte) (x : Nat × List Byte) : Cand :=
  { dist := codeDist i.t2 code x.2, lidx := x.1, ext := s.extOf i x.1 }

/-- The eligible items of one bushel, in slot order. -/
def State.bushelItems (s : State) (i : Index) (v : View) (a : Nat) : List (Nat × List Byte) :=
  ((List.range (s.num (a + 2) 2)).map (s.slot i a)).filter (fun x => s.eligible i v x.1)

/-- Candidates of one index that tie are the same. -/
theorem State.candOf_eq_of_leLidx (s : State) (i : Index) (code : List Byte) {x y : Nat × List Byte}
    (hxy : Cand.leLidx (s.candOf i code x) (s.candOf i code y) = true) (hyx : Cand.leLidx (s.candOf i code y) (s.candOf i code x) = true) :
    s.candOf i code x = s.candOf i code y := by
  simp only [Cand.leLidx_iff, State.candOf] at *
  have hdist : codeDist i.t2 code x.2 = codeDist i.t2 code y.2 := by omega
  have hlidx : x.1 = y.1 := by omega
  rw [hdist, hlidx]

theorem State.scanBushel_eq (s : State) (i : Index) (v : View) (code : List Byte) (a : Nat) :
    s.scanBushel i v code a = (sortBy Cand.leLidx ((s.bushelItems i v a).map (s.candOf i code))).take 32 := by
  rw [sortBy, ← foldl_take_insertBy, List.take_nil, List.foldl_map, State.bushelItems, List.foldl_filter, List.foldl_map]
  rfl

/-- Collecting one more bushel's survivors gives the first 32 with its items among the others. -/
theorem State.collect_scanBushel (s : State) (i : Index) (v : View) (code : List Byte) (seen : List (Nat × List Byte)) (a : Nat) :
    collect ((sortBy Cand.leLidx (seen.map (s.candOf i code))).take 32) (s.scanBushel i v code a)
      = (sortBy Cand.leLidx ((seen ++ s.bushelItems i v a).map (s.candOf i code))).take 32 := by
  rw [State.scanBushel_eq, List.map_append]
  refine foldl_take_insertBy_sortBy Cand.leLidx_trans Cand.leLidx_total 32 _ _ fun p hp q hq => ?_
  rw [← List.map_append] at hp hq
  obtain ⟨x, -, rfl⟩ := List.mem_map.mp hp
  obtain ⟨y, -, rfl⟩ := List.mem_map.mp hq
  exact s.candOf_eq_of_leLidx i code

theorem State.foldl_collect (s : State) (i : Index) (v : View) (code : List Byte) (bushels : List Nat) (seen : List (Nat × List Byte)) :
    bushels.foldl (fun l a => collect l (s.scanBushel i v code a)) ((sortBy Cand.leLidx (seen.map (s.candOf i code))).take 32)
      = (sortBy Cand.leLidx ((seen ++ bushels.flatMap (s.bushelItems i v)).map (s.candOf i code))).take 32 := by
  induction bushels generalizing seen with
  | nil => simp
  | cons a bushels ih => rw [List.foldl_cons, State.collect_scanBushel, ih, List.flatMap_cons, List.append_assoc]

theorem State.survivors_eq (s : State) (i : Index) (v : View) (code : List Byte) (b : Nat) : s.survivors i v code b
    = (sortBy Cand.leLidx (((s.bucketBushels i b).flatMap (s.bushelItems i v)).map (s.candOf i code))).take 32 :=
  s.foldl_collect i v code (s.bucketBushels i b) []

/-- Settles O54, from the distances position by position and the survivors bushel by bushel. -/
theorem codeDistancesAndSurvivors : Obligations.CodeDistancesAndSurvivors := by
  refine ⟨fun L q c hL hq hc => ?_, fun L q c hL hq hc => ?_, fun s i v code b => s.survivors_eq i v code b⟩
  · have h8 : 8 * (L / 8) = L := by
      simp only [List.mem_cons, List.not_mem_nil, or_false] at hL
      omega
    have hdist := codeDist_b1 (by rw [hq, h8]) (by rw [hc, h8])
    rw [hdist, List.countP_eq_length_filter]
    exact ⟨rfl, by simpa using List.length_filter_le (fun j => bitOf q j != bitOf c j) (List.range L)⟩
  · have h8 : 8 ∣ L := by
      simp only [List.mem_cons, List.not_mem_nil, or_false] at hL
      omega
    exact ⟨codeDist_t2 h8 hq hc, codeDist_t2_le h8 hq hc, fun z hz => codeDist_t2_congr h8 hq hz hc⟩

end Sys2Proof.Machine
end

section
/-! Storage that Sosin firmware takes and writes: what a store reads back as, and that a tenant's new granules stand under its
key (R184, R248, R264, R265, R280). -/

namespace Sys2Proof.Machine

/-! ### Changes made one after another -/

/-- What every change keeps, all of them keep. -/
theorem forAll_keeps {α : Type} {P : State → Prop} {l : List α} {f : α → State → State} (hf : ∀ x ∈ l, ∀ s, P s → P (f x s)) {s : State}
    (hs : P s) : P (forAll l f s) := by
  induction l generalizing s with
  | nil => exact hs
  | cons x l ih => exact ih (fun y hy => hf y (List.mem_cons_of_mem x hy)) (hf x List.mem_cons_self s hs)

/-- What one of the changes makes true and every one keeps is true after all. -/
theorem forAll_of_mem {α : Type} {P : State → Prop} {l : List α} {f : α → State → State} (hf : ∀ x ∈ l, ∀ s, P s → P (f x s)) {y : α}
    (hy : y ∈ l) (hmake : ∀ s, P (f y s)) (s : State) : P (forAll l f s) := by
  induction l generalizing s with
  | nil => exact absurd hy (by simp)
  | cons x l ih =>
    have hkeep : ∀ z ∈ l, ∀ s, P s → P (f z s) := fun z hz => hf z (List.mem_cons_of_mem x hz)
    rcases List.mem_cons.mp hy with rfl | hy
    · exact forAll_keeps hkeep (hmake s)
    · exact ih hkeep hy _

/-- What no change touches stays. -/
theorem forAll_frame {α β : Type} {g : State → β} {l : List α} {f : α → State → State} (hf : ∀ x s, g (f x s) = g s) (s : State) :
    g (forAll l f s) = g s :=
  forAll_keeps (P := fun t => g t = g s) (fun x _ t ht => (hf x t).trans ht) rfl

/-! ### Byte strings (R14) -/

theorem length_slice (l : List Byte) (off n : Nat) : (slice l off n).length = n := by
  simp only [slice, List.length_append, List.length_replicate]
  have : ((l.drop off).take n).length ≤ n := List.length_take_le _ _
  omega

theorem slice_append_left (l m : List Byte) : slice (l ++ m) 0 l.length = l := by simp [slice]

theorem slice_all (l : List Byte) : slice l 0 l.length = l := by simp [slice]

theorem slice_slice_self (l : List Byte) (off n : Nat) : slice (slice l off n) 0 n = slice l off n := by
  have h := slice_all (slice l off n)
  rwa [length_slice] at h

@[simp] theorem length_leBytes (n v : Nat) : (leBytes n v).length = n := by
  induction n generalizing v with
  | zero => rfl
  | succ n ih => rw [leBytes, List.length_cons, ih]

theorem leNat_leBytes (n v : Nat) : leNat (leBytes n v) = v % 256 ^ n := by
  induction n generalizing v with
  | zero => simp [leBytes, leNat, Nat.mod_one]
  | succ n ih => simp [leBytes, leNat, ih, Nat.pow_succ', Nat.mod_mul]

/-- A little-endian field at the front of a structure. -/
theorem field_leBytes (n v : Nat) (l : List Byte) : field (leBytes n v ++ l) 0 n = v % 256 ^ n := by
  have h := slice_append_left (leBytes n v) l
  rw [length_leBytes] at h
  rw [field, h, leNat_leBytes]

/-- A little-endian field behind the front of a structure. -/
theorem field_append (l m : List Byte) (n : Nat) : field (l ++ m) l.length n = field m 0 n := by simp [field, slice]

/-- A payload of whole words is answered as it is (Table 13.3). -/
theorem State.payload_replied_words (s : State) (m k : Nat) (r : Reply) (h : 4 ∣ r.payload.length) :
    ((s.replied m k r).slotAt m k).payload = r.payload := by
  have hup : roundUp r.payload.length 4 = r.payload.length := by
    unfold roundUp cdiv
    omega
  rw [State.payload_replied, hup, slice_all]

/-! ### Stores (R264) -/

/-- Does an address read as the memory holds it: outside stacked memory, in the context extensions, or under the key of its
granule's owner (R248, R256)? -/
def State.inClear (s : State) (a : Nat) : Bool := decide (stackedEnd ≤ a) || inExtension a || s.legible (a / 64)

theorem State.dram_of_inClear {s : State} {a : Nat} (h : s.inClear a = true) : s.dram a = Tab.read s.mem 0 a := if_pos h

/-- An entry of the write-combining buffer that covers its whole word hides what lies under it (R258, R260). -/
theorem WcbEntry.over_full {e : WcbEntry} (he : e.mask = 2 ^ 128 - 1) {k : Nat} (hk : k < 64) (b : Byte) : e.over k b = e.data.getD k 0 := by
  have hlo : bit (2 ^ 128 - 1) (2 * k) = true := by
    rw [bit_eq_testBit, Nat.testBit_two_pow_sub_one]
    exact decide_eq_true (by omega)
  have hhi : bit (2 ^ 128 - 1) (2 * k + 1) = true := by
    rw [bit_eq_testBit, Nat.testBit_two_pow_sub_one]
    exact decide_eq_true (by omega)
  simp only [WcbEntry.over, he, hlo, hhi, if_true, Nat.div_add_mod', BitVec.ofNat_toNat, BitVec.setWidth_eq]

/-- The entry that a whole-word write leaves in place of one that covers its word. -/
def WcbEntry.covered (e : WcbEntry) (data : List Byte) : WcbEntry :=
  { e with mask := 2 ^ 128 - 1, data := data, rewritten := e.rewritten || e.drain != 0 }

theorem State.find_coverWcb (s : State) {w n k : Nat} (data : Nat → List Byte) (hlo : w ≤ k) (hhi : k < w + n) :
    Tab.find (s.coverWcb w n data).wcb k = (Tab.find s.wcb k).map (fun e => e.covered (data k)) := by
  unfold State.coverWcb
  dsimp only
  induction s.wcb with
  | nil => rfl
  | cons x t ih =>
    obtain ⟨j, e⟩ := x
    rw [List.map_cons]
    by_cases hj : j = k
    · subst hj
      simp [Tab.find, hlo, hhi, WcbEntry.covered]
    · split <;> simp only [Tab.find, if_neg hj] <;> exact ih

/-- Memory and buffered words once whole words have been written, before their marks and errors go (R278). -/
def State.overwritten (s : State) (a : Nat) (bs : List Byte) : State :=
  (s.setBytes a bs).coverWcb (a / 64) (wordsOf a bs.length).length (fun w => Tab.readList (s.setBytes a bs).mem 0 (64 * w) 64)

/-- Whatever the clearing of marks and errors leaves is after a store as once its words have been written. -/
theorem State.store_frame {β : Type} {g : State → β} (hg : ∀ w t, g (State.cleanWord t w) = g t) (s : State) (a : Nat) (bs : List Byte) :
    g (s.store a bs) = g (s.overwritten a bs) := forAll_frame hg _

/-- A store reads back, where its addresses read as the memory holds them. -/
theorem State.byte_store {s : State} {a j : Nat} {bs : List Byte} (hj : j < bs.length) (h : s.inClear (a + j) = true) :
    (s.store a bs).byte (a + j) = bs[j] := by
  have hmem : Tab.read (s.setBytes a bs).mem 0 (a + j) = bs[j] := Tab.read_writeList_in _ _ _ _ _ hj
  have hwords : (a + j) / 64 < a / 64 + (wordsOf a bs.length).length := by
    have : bs.length ≠ 0 := by omega
    simp only [wordsOf, this, if_false, List.length_map, List.length_range]
    omega
  have hfind := State.find_coverWcb (s.setBytes a bs) (fun w => Tab.readList (s.setBytes a bs).mem 0 (64 * w) 64)
    (show a / 64 ≤ (a + j) / 64 by omega) hwords
  have hdram : (s.overwritten a bs).dram (a + j) = bs[j] := (State.dram_of_inClear (s := s.overwritten a bs) h).trans hmem
  rw [State.store_frame (g := fun t => t.byte (a + j)) (fun _ _ => rfl), State.byte, State.overwritten, hfind]
  cases Tab.find (s.setBytes a bs).wcb ((a + j) / 64) with
  | none => exact hdram
  | some e =>
    have hk : (a + j) % 64 < 64 := Nat.mod_lt _ (by decide)
    change (e.covered _).over ((a + j) % 64) _ = bs[j]
    rw [WcbEntry.over_full rfl hk, ← hmem, WcbEntry.covered, Tab.readList]
    simp [List.getD_eq_getElem?_getD, hk, Nat.div_add_mod]

/-! ### Granules of a tenant (R184, R280) -/

/-- Is a granule a tenant's, and every word of it under the tenant's key? -/
def State.holdsGranule (s : State) (vf g : Nat) : Prop :=
  s.owner g = .vf vf ∧ ∀ w, w / 32768 = g → s.stackInk w = (s.keyOf vf).key

theorem State.inClear_of_holdsGranule {s : State} {vf a : Nat} (h : s.holdsGranule vf (a / 2 ^ 21)) : s.inClear a = true := by
  obtain ⟨howner, hink⟩ := h
  have hgranule : granuleOf (64 * (a / 64)) = a / 2 ^ 21 := by
    unfold granuleOf
    omega
  have hlegible : s.legible (a / 64) = true := by
    rw [State.legible, hink (a / 64) (by omega), State.keySlotAt, hgranule, howner]
    exact beq_self_eq_true _
  simp [State.inClear, hlegible]

theorem State.stackInk_inkGranule (s : State) (g w : Nat) (k : List Byte) :
    (s.inkGranule g k).stackInk w = if w / 32768 = g then k else s.stackInk w := by
  simp only [State.stackInk, State.inkGranule, Tab.find_clear]
  by_cases hw : w / 32768 = g
  · have hin : 32768 * g ≤ w ∧ w < 32768 * g + 32768 := by omega
    have hblock : 4 * g = w / 8192 ∨ 4 * g + 1 = w / 8192 ∨ 4 * g + 2 = w / 8192 ∨ 4 * g + 3 = w / 8192 := by omega
    simp only [hin, and_self, if_true, if_pos hw, List.range_succ, List.range_zero, List.nil_append, List.cons_append, List.foldl_cons,
      List.foldl_nil, Tab.read_write]
    rcases hblock with h | h | h | h <;> simp [h]
  · have hout : ¬ (32768 * g ≤ w ∧ w < 32768 * g + 32768) := by omega
    have hblock : 4 * g ≠ w / 8192 ∧ 4 * g + 1 ≠ w / 8192 ∧ 4 * g + 2 ≠ w / 8192 ∧ 4 * g + 3 ≠ w / 8192 := by omega
    simp [hout, hw, List.range_succ, Tab.read_write, hblock]

/-- A granule that a tenant takes, filled under its key. -/
def State.takeGranule (s : State) (vf g : Nat) : State :=
  ((s.setOwner g (.vf vf)).zeroRange (g * 2 ^ 21) (2 ^ 21)).inkGranule g (s.keyOf vf).key

theorem State.stackInk_takeGranule (s : State) (vf g w : Nat) :
    (s.takeGranule vf g).stackInk w = if w / 32768 = g then (s.keyOf vf).key else s.stackInk w :=
  State.stackInk_inkGranule ((s.setOwner g (.vf vf)).zeroRange (g * 2 ^ 21) (2 ^ 21)) g w _

theorem State.holdsGranule_takeGranule (s : State) (vf g : Nat) : (s.takeGranule vf g).holdsGranule vf g := by
  refine ⟨?_, fun w hw => ?_⟩
  · simp [State.takeGranule, State.inkGranule, State.zeroRange, State.coverWcb, State.setOwner, State.owner]
  · rw [State.stackInk_takeGranule, if_pos hw]
    rfl

theorem State.holdsGranule_takeGranule_of_holds {s : State} {vf g : Nat} (h : s.holdsGranule vf g) (j : Nat) :
    (s.takeGranule vf j).holdsGranule vf g := by
  by_cases hj : j = g
  · exact hj ▸ s.holdsGranule_takeGranule vf j
  · obtain ⟨howner, hink⟩ := h
    refine ⟨?_, fun w hw => ?_⟩
    · rw [← howner]
      simp [State.takeGranule, State.inkGranule, State.zeroRange, State.coverWcb, State.setOwner, State.owner, Tab.find_insert_ne _ _ hj]
    · rw [State.stackInk_takeGranule, if_neg (by omega), hink w hw]
      rfl

theorem State.holdsGranule_takeGranules (s : State) {vf g : Nat} {gs : List Nat} (hg : g ∈ gs) :
    (s.takeGranules vf gs).holdsGranule vf g :=
  forAll_of_mem (P := fun t => t.holdsGranule vf g) (f := fun g s => s.takeGranule vf g) (fun j _ _ h => State.holdsGranule_takeGranule_of_holds h j) hg
    (fun t => t.holdsGranule_takeGranule vf g) s

/-! ### Placement (R58, R265) -/

theorem cdiv_mul_ge (a : Nat) {b : Nat} (hb : 0 < b) : a ≤ cdiv a b * b := by
  have h := Nat.div_add_mod (a + b - 1) b
  have hmod := Nat.mod_lt (a + b - 1) hb
  rw [cdiv, Nat.mul_comm]
  omega

theorem le_roundUp (a : Nat) {b : Nat} (hb : 0 < b) : a ≤ roundUp a b := cdiv_mul_ge a hb

/-- What is placed in stacked memory reads as the memory holds it. -/
theorem State.inClear_placeStacked {s u : State} {vf n a : Nat} (h : s.placeStacked vf n = some (u, a)) {j : Nat} (hj : j < n) :
    u.inClear (a + j) = true := by
  have hn : n ≤ granulesFor n * 2 ^ 21 := cdiv_mul_ge n (by decide)
  have hk : granulesFor n ≠ 0 := by omega
  simp only [State.placeStacked, if_neg hk] at h
  split at h
  next g _ =>
    simp only [Option.some.injEq, Prod.mk.injEq] at h
    obtain ⟨rfl, rfl⟩ := h
    refine State.inClear_of_holdsGranule (vf := vf) (s.drew.holdsGranule_takeGranules ?_)
    exact List.mem_map.mpr ⟨j / 2 ^ 21, List.mem_range.mpr (by omega), by omega⟩
  next => exact absurd h (by simp)

/-- The pool stands under no key. -/
theorem State.inClear_placePool {s u : State} {vf n a : Nat} (h : s.placePool vf n = some (u, a)) (j : Nat) : u.inClear (a + j) = true := by
  unfold State.placePool at h
  split at h
  · exact absurd h (by simp)
  · dsimp only at h
    split at h
    next i _ =>
      simp only [Option.some.injEq, Prod.mk.injEq] at h
      obtain ⟨-, rfl⟩ := h
      have : stackedEnd ≤ poolBase + 64 * (1 * i) + j := by simp only [stackedEnd, poolBase]; omega
      rw [State.inClear, decide_eq_true this]
      rfl
    next => exact absurd h (by simp)

end Sys2Proof.Machine
end

section
/-! Sosin commands on filters, images and switch sets (R470, R471): what each does and answers when its checks pass. -/

namespace Sys2Proof.Machine

/-! ### What leaves which tables alone -/

@[simp] theorem State.images_replied (s : State) (m k : Nat) (r : Reply) : (s.replied m k r).images = s.images := rfl
@[simp] theorem State.filters_replied (s : State) (m k : Nat) (r : Reply) : (s.replied m k r).filters = s.filters := rfl
@[simp] theorem State.byte_replied (s : State) (m k : Nat) (r : Reply) (a : Nat) : (s.replied m k r).byte a = s.byte a := rfl

theorem State.tenants_translate (s : State) (f a : Nat) : (s.translate f a).tenants = s.tenants := by
  unfold State.translate
  dsimp only
  split <;> rfl

theorem State.images_freeGranules (s : State) (gs : List Nat) : (s.freeGranules gs).images = s.images := rfl

/-- A change of a tenant leaves everything but the tenants. -/
theorem State.onTenant_frame {β : Type} {g : State → β} (hg : ∀ s v t, g (State.setTenant s v t) = g s) (s : State) (v : Nat)
    (f : Tenant → Tenant) : g (s.onTenant v f) = g s := by
  unfold State.onTenant
  split
  · exact hg _ _ _
  · rfl

theorem State.filters_charge (s : State) (v stk pool far : Nat) : (s.charge v stk pool far).filters = s.filters :=
  State.onTenant_frame (g := State.filters) (fun _ _ _ => rfl) s v _

theorem State.byte_charge (s : State) (v stk pool far a : Nat) : (s.charge v stk pool far).byte a = s.byte a :=
  State.onTenant_frame (g := fun t => t.byte a) (fun _ _ _ => rfl) s v _

theorem State.images_refund (s : State) (v stk pool far : Nat) : (s.refund v stk pool far).images = s.images :=
  State.onTenant_frame (g := State.images) (fun _ _ _ => rfl) s v _

theorem State.onTenant_of_find {s : State} {v : Nat} {t : Tenant} (h : Tab.find s.tenants v = some t) (f : Tenant → Tenant) :
    s.onTenant v f = s.setTenant v (f t) := by
  simp [State.onTenant, h]

theorem State.onImage_of_find {s : State} {h : Nat} {m : Image} (hm : Tab.find s.images h = some m) (f : Image → Image) :
    s.onImage h f = s.setImage h (f m) := by
  simp [State.onImage, hm]

theorem State.onFilter_of_find {s : State} {h : Nat} {x : Filter} (hx : Tab.find s.filters h = some x) (f : Filter → Filter) :
    s.onFilter h f = s.setFilter h (f x) := by
  simp [State.onFilter, hx]

/-! ### Checks, buffers and names of a command -/

/-- An outcome that answers OK is as it should be. -/
def OkGives (P : State × Reply → Prop) (r : State × Reply) : Prop := r.2.status = sOK → P r

theorem okGives_refuse {P : State × Reply → Prop} {st : Nat} (h : st ≠ sOK) (s : State) (det : Nat) : OkGives P (s, refuse st det) :=
  fun hok => absurd hok h

/-- A command that answers OK has passed its checks (R448). -/
theorem okGives_checked {P : State × Reply → Prop} {s : State} {l : List (Bool × Nat × Nat)} {f : State → State × Reply}
    (hl : ∀ x ∈ l, x.2.1 ≠ sOK) (hf : OkGives P (f s)) : OkGives P (checked s l f) := by
  induction l with
  | nil => exact hf
  | cons x l ih =>
    obtain ⟨fails, st, det⟩ := x
    cases fails with
    | true => exact okGives_refuse (hl _ List.mem_cons_self) s det
    | false => exact ih fun y hy => hl y (List.mem_cons_of_mem _ hy)

/-- A command that answers OK and reads its buffer has read it (R419, R656). -/
theorem okGives_readBuf {P : State × Reply → Prop} {c : Cmd} {s : State} {f : List Byte → State → State × Reply}
    (hf : ∀ b t, OkGives P (f b t)) : OkGives P (c.readBuf s f) := by
  have hdma : sDMA ≠ sOK := by decide
  unfold Cmd.readBuf
  split
  · exact hf _ _
  · split
    · exact okGives_refuse hdma _ _
    · split
      · exact okGives_refuse hdma _ _
      · exact hf _ _

/-- A buffer that DMA may read and brings (R419, R656). -/
structure Cmd.Reads (c : Cmd) (s : State) : Prop where
  part : c.part = false
  bme : (s.fnAt c.fn).bme = true
  dma : c.dma = none

theorem Cmd.readBuf_eq {c : Cmd} {s : State} (h : c.Reads s) (f : List Byte → State → State × Reply) :
    c.readBuf s f = f (slice c.data 0 c.len) (s.translate c.fn c.addr) := by
  simp [Cmd.readBuf, h.part, h.bme, h.dma]

theorem onIndex_of_named {c : Cmd} {s : State} {i : Index} (hi : s.indexNamed c (c.fld 0 8) = some i) (hst : i.st ≠ .destroying)
    (f : Index → State → State × Reply) : onIndex_ c s f = f i s := by
  have hne : (i.st == .destroying) = false := beq_false_of_ne hst
  simp [onIndex_, hi, hne]

theorem withImage_of_named {c : Cmd} {s : State} {m : Image} (h : s.imageFor c.fn (c.fld 0 8) = some m) (f : Image → State × Reply) :
    withImage c s f = f m := by
  simp [withImage, h]

/-- An image that a function names stands under its handle. -/
theorem State.find_of_imageFor {s : State} {vf h : Nat} {m : Image} (hm : s.imageFor vf h = some m) : Tab.find s.images h = some m := by
  unfold State.imageFor at hm
  split at hm
  next x hx =>
    split at hm
    · rwa [← hm]
    · exact absurd hm (by simp)
  next => exact absurd hm (by simp)

theorem State.find_of_filterFor {s : State} {vf h : Nat} {i : Index} {f : Filter} (hf : s.filterFor vf i h = some f) :
    Tab.find s.filters (filterKey i.handle h) = some f := by
  unfold State.filterFor at hf
  split at hf
  next x hx =>
    split at hf
    · rwa [← hf]
    · exact absurd hf (by simp)
  next => exact absurd hf (by simp)

/-- An index that is not sharded has no shard elsewhere. -/
theorem State.remoteShards_of_unsharded (s : State) {i : Index} (h : i.sharded = false) : s.remoteShards i = [] := by
  simp [State.remoteShards, h]

/-! ### FILTER_CREATE (R470) -/

/-- Room for a filter of `g` grains of an index: its tenant's quota allows it, and a place is found. -/
structure State.FilterRoom (s : State) (i : Index) (g : Nat) (pool : Bool) (q : Tenant) (u : State) (a : Nat) : Prop where
  tenant : Tab.find s.tenants i.vf = some q
  quota : (if pool then q.exceeds 0 (roundUp (8 * g) 64) 0 else q.exceeds (roundUp (8 * g) 64) 0 0) = none
  place : (if pool then s.placePool i.vf (roundUp (8 * g) 64) else s.placeStacked i.vf (roundUp (8 * g) 64)) = some (u, a)

/-- The filter that FILTER_CREATE makes. -/
def newFilter (i : Index) (h g a : Nat) (pool : Bool) : Filter :=
  { handle := h, vf := i.vf, index := i.handle, grains := g, base := a, pool := pool }

/-- The state once a new filter stands, its mask at its base and its tenant charged. -/
def State.withFilter (u : State) (i : Index) (h g a : Nat) (pool : Bool) (mask : List Byte) : State :=
  ((u.store a (slice mask 0 (8 * g))).setFilter (filterKey i.handle h) (newFilter i h g a pool)).charge i.vf
    (if pool then 0 else roundUp (8 * g) 64) (if pool then roundUp (8 * g) 64 else 0) 0

theorem State.createFilter_eq {s u : State} {i : Index} {g a : Nat} {pool : Bool} {q : Tenant} (h0 : g ≠ 0) (hmax : g ≤ cdiv i.nmax 64)
    (hroom : s.FilterRoom i g pool q u a) (h : Nat) (mask : List Byte) (shard : Nat) :
    s.createFilter i h g pool mask shard = (u.withFilter i h g a pool mask, { payload := leBytes 4 h }) := by
  have hfirst : firstFail [(g == 0 || decide (cdiv i.nmax 64 < g), sRANGE, 2 ^ 31 + shard), (false, sQUOTA, 0)] = none := by
    simp [firstFail, h0, hmax]
  unfold State.createFilter
  simp only [hroom.tenant, hroom.quota, hroom.place, Option.isSome_none, Option.getD_none, hfirst, State.withFilter, newFilter]

theorem State.find_withFilter (u : State) (i : Index) (h g a : Nat) (pool : Bool) (mask : List Byte) :
    Tab.find (u.withFilter i h g a pool mask).filters (filterKey i.handle h) = some (newFilter i h g a pool) := by
  rw [State.withFilter, State.filters_charge]
  exact State.find_setFilter _ _ _

/-- A filter's place reads as the memory holds it. -/
theorem State.FilterRoom.inClear {s u : State} {i : Index} {g a : Nat} {pool : Bool} {q : Tenant} (h : s.FilterRoom i g pool q u a)
    {j : Nat} (hj : j < 8 * g) : u.inClear (a + j) = true := by
  have hplace := h.place
  cases pool with
  | true =>
    rw [if_pos rfl] at hplace
    exact State.inClear_placePool hplace j
  | false =>
    rw [if_neg Bool.false_ne_true] at hplace
    exact State.inClear_placeStacked hplace (Nat.lt_of_lt_of_le hj (le_roundUp _ (by decide)))

/-- The mask's bytes stand at the new filter's base. -/
theorem State.byte_withFilter {s u : State} {i : Index} {g a : Nat} {pool : Bool} {q : Tenant} (hroom : s.FilterRoom i g pool q u a) (h : Nat)
    (b : List Byte) (off : Nat) {j : Nat} (hj : j < 8 * g) :
    (slice b off (8 * g))[j]? = some ((u.withFilter i h g a pool (slice b off (8 * g))).byte (a + j)) := by
  have hlen : j < (slice b off (8 * g)).length := by rwa [length_slice]
  rw [State.withFilter, State.byte_charge, State.setFilter_byte, slice_slice_self,
    State.byte_store hlen (hroom.inClear hj), List.getElem?_eq_getElem hlen]

/-- A well-formed FILTER_CREATE for an index with one shard, whose buffer `b` names a grain count and a mask inside it. -/
structure Cmd.AsksFilter (c : Cmd) (s : State) (i : Index) (b : List Byte) : Prop where
  named : s.indexNamed c (c.fld 0 8) = some i
  kept : i.st ≠ .destroying
  unsharded : i.sharded = false
  shard : i.myShard = 0
  kind : c.fld 8 1 ≤ 1
  reads : c.Reads s
  buf : slice c.data 0 c.len = b
  len : 16 ≤ c.len
  grains : field b 0 4 ≠ 0
  grainsMax : field b 0 4 ≤ cdiv i.nmax 64
  aligned : field b 8 8 % 64 = 0
  inside : field b 8 8 + 8 * field b 0 4 ≤ c.len

/-- FILTER_CREATE that finds room makes the filter, under a handle of the device's choice. -/
theorem filterCreate_eq {c : Cmd} {s u : State} {i : Index} {b : List Byte} {q : Tenant} {a : Nat} (h : c.AsksFilter s i b)
    (hroom : (s.translate c.fn c.addr).drew.FilterRoom i (field b 0 4) (c.fld 8 1 == 1) q u a) :
    ∃ n, filterCreate c s = (u.withFilter i n (field b 0 4) a (c.fld 8 1 == 1) (slice b (field b 8 8) (8 * field b 0 4)),
      { payload := leBytes 4 n }) := by
  have hone : i.shardCount = 1 := by simp [Index.shardCount, h.unsharded]
  have hlen : ¬ c.len < 16 := Nat.not_lt.mpr h.len
  have hinside : ¬ c.len < field b 8 8 + 8 * field b 0 4 := Nat.not_lt.mpr h.inside
  refine ⟨(s.translate c.fn c.addr).freshNumber ((s.translate c.fn c.addr).filters.map (fun x => x.2.handle)), ?_⟩
  rw [filterCreate, if_neg (Nat.not_lt.mpr h.kind), onIndex_of_named h.named h.kept, ← State.createFilter_eq h.grains h.grainsMax hroom _ _ 0]
  simp [hone, hlen, Cmd.readBuf_eq h.reads, h.buf, h.grains, h.aligned, hinside, State.remoteShards_of_unsharded _ h.unsharded,
    State.unreachable, h.shard]

/-- The handle of a new filter as the response shows it. -/
theorem State.field_replied_handle (t : State) (m k n : Nat) :
    field ((t.replied m k { payload := leBytes 4 n }).slotAt m k).payload 0 4 = n % 2 ^ 32 := by
  rw [State.payload_replied_words _ _ _ _ (by simp)]
  simpa using field_leBytes 4 n []

/-! ### IMAGE_REGISTER (R471) -/

/-- The response of IMAGE_REGISTER. -/
def Image.registered (x : Image) : List Byte :=
  leBytes 8 x.handle ++ leBytes 4 x.size ++ leBytes 1 x.need ++ leBytes 3 0 ++ leBytes 4 x.encsteps

theorem Image.length_registered (x : Image) : x.registered.length = 20 := by simp [Image.registered]

theorem Image.field_registered_handle (x : Image) : field x.registered 0 8 = x.handle % 2 ^ 64 := by
  simpa [Image.registered] using field_leBytes 8 x.handle (leBytes 4 x.size ++ (leBytes 1 x.need ++ (leBytes 3 0 ++ leBytes 4 x.encsteps)))

theorem Image.field_registered_size (x : Image) : field x.registered 8 4 = x.size % 2 ^ 32 := by
  have h := field_append (leBytes 8 x.handle) (leBytes 4 x.size ++ (leBytes 1 x.need ++ (leBytes 3 0 ++ leBytes 4 x.encsteps))) 4
  rw [length_leBytes, field_leBytes] at h
  simpa [Image.registered] using h

/-- The command has made an image of a tenant that is not resident, and answers it. -/
def Registers (vf : Nat) (r : State × Reply) : Prop :=
  ∃ x : Image, r.2 = { payload := x.registered } ∧ Tab.find r.1.images x.handle = some x ∧ x.vf = vf ∧ x.resident = false ∧
    x.deleted = false ∧ x.pinned = false

/-- The image that IMAGE_REGISTER makes from checked bytes. -/
def newImage (vf h base : Nat) (tun : Option Nat) (b : List Byte) : Image :=
  { handle := h, vf := vf, size := (imageHeader b).size, digest := (imageHeader b).digest, tun := tun, base := base,
    infmt := (imageHeader b).infmt, din := (imageHeader b).din, t2 := (imageHeader b).t2, outlen := (imageHeader b).outlen,
    nlayer := (imageHeader b).nlayer, layeroff := (imageHeader b).layeroff,
    encsteps := Numeric.encSteps ((imageLayers (imageHeader b) b).map Numeric.Layer.parse) }

theorem registers_newImage (s : State) (vf h base : Nat) (tun : Option Nat) (b : List Byte) :
    Registers vf (s.setImage h (newImage vf h base tun b), { payload := (newImage vf h base tun b).registered }) :=
  ⟨newImage vf h base tun b, rfl, State.find_setImage _ _ _, rfl, rfl, rfl, rfl⟩

theorem State.placeImage_registers (s : State) (vf : Nat) (b : List Byte) (home : Option (Nat × Tun)) (off : Nat) :
    OkGives (Registers vf) (s.placeImage vf b home off) := by
  -- whichever place is found, none is to be computed
  obtain ⟨find, hfind⟩ : ∃ f, State.placeStacked = f := ⟨_, rfl⟩
  rw [State.placeImage.eq_def, hfind]
  extract_lets -underBinder hdr place
  have hplace : ∀ (t : State) (base : Nat), OkGives (Registers vf) (place t base) := fun t base _ =>
    registers_newImage _ vf t.newImHandle.2 base (home.map (·.1)) b
  split
  · split
    · exact okGives_refuse (by decide) _ _
    · exact hplace _ _
  · split
    · exact okGives_refuse (by decide) _ _
    · split
      · exact hplace _ _
      · exact okGives_refuse (by decide) _ _

/-- A check of R471 that fails answers its own status. -/
theorem imageRefusal_ne_ok {b : List Byte} {r : Reply} (h : imageRefusal b = some r) : r.status ≠ sOK := by
  have himage : sIMAGE ≠ sOK := by decide
  have hsign : sSIGN ≠ sOK := by decide
  unfold imageRefusal at h
  dsimp only at h
  split at h
  · exact Option.some.inj h ▸ himage
  · split at h
    · exact Option.some.inj h ▸ hsign
    · obtain ⟨n, -, rfl⟩ := Option.map_eq_some_iff.mp h
      exact himage

theorem imageRegister_registers (c : Cmd) (s : State) : OkGives (Registers c.fn) (imageRegister c s) := by
  unfold imageRegister
  extract_lets src home off down go
  refine okGives_checked (by simp [sRANGE, sNOOBJ, sSTATE, sOK]) ?_
  have hgo : ∀ (b : List Byte) (t : State), OkGives (Registers c.fn) (go b t) := by
    intro b t
    dsimp only [go]
    split
    next r hr => exact fun hok => absurd hok (imageRefusal_ne_ok hr)
    next => exact t.placeImage_registers c.fn b home off
  clear_value src go
  split
  · exact hgo _ _
  · split
    · exact okGives_readBuf hgo
    · exact okGives_refuse (by decide) _ _

/-! ### IMAGE_DELETE (R471) -/

/-- Is an image deleted, with nothing running on it? -/
def State.imageGone (s : State) (h : Nat) : Prop := ∃ x, Tab.find s.images h = some x ∧ x.deleted = true ∧ x.running = 0

theorem State.images_freeFilter (s : State) (h : Nat) : (s.freeFilter h).images = s.images := by
  unfold State.freeFilter
  split
  · rfl
  · dsimp only
    split
    · rw [State.images_refund]
    · rw [State.images_refund, State.images_freeGranules]

theorem State.imageGone_onImage {s : State} {h : Nat} (hs : s.imageGone h) (k : Nat) {f : Image → Image}
    (hf : ∀ x, (f x).deleted = x.deleted ∧ (f x).running = x.running) : (s.onImage k f).imageGone h := by
  unfold State.onImage
  split
  next m hm =>
    obtain ⟨x, hx, hdel, hrun⟩ := hs
    by_cases hk : h = k
    · subst hk
      obtain rfl : m = x := Option.some.inj (hm.symm.trans hx)
      exact ⟨f m, State.find_setImage _ _ _, (hf m).1.trans hdel, (hf m).2.trans hrun⟩
    · exact ⟨x, (State.find_setImage_other _ _ _ _ hk).trans hx, hdel, hrun⟩
  next => exact hs

theorem State.imageGone_of_images {s t : State} (h : t.images = s.images) {k : Nat} (hs : s.imageGone k) : t.imageGone k := by
  unfold State.imageGone
  rwa [h]

theorem State.imageGone_freeIndex {s : State} {h : Nat} (hs : s.imageGone h) (k : Nat) : (s.freeIndex k).imageGone h := by
  unfold State.freeIndex
  split
  · exact hs
  next i _ =>
    have hfilters : (forAll (s.filters.keys (fun f => f.index == k)) (fun f s => s.freeFilter f) s).imageGone h :=
      State.imageGone_of_images (forAll_frame (g := State.images) (fun f t => t.images_freeFilter f) s) hs
    dsimp only
    rw [State.imageGone, State.images_refund, State.images_freeGranules]
    split
    · exact State.imageGone_onImage hfilters _ fun x => ⟨rfl, rfl⟩
    · exact hfilters

theorem State.find_freeImage (s : State) (h k : Nat) : Tab.find (s.freeImage h).images k = if h = k then none else Tab.find s.images k := by
  unfold State.freeImage
  split
  next hnone =>
    split
    next hk => exact hk ▸ hnone
    next => rfl
  next m _ =>
    dsimp only
    split
    · exact Tab.find_erase _ _ _
    · rw [State.images_refund, State.images_freeGranules]
      exact Tab.find_erase _ _ _

theorem State.images_farWrite (s : State) (ckpt : Bool) (ink : List Byte) (a : Nat) (bs : List Byte) :
    (s.farWrite ckpt ink a bs).images = s.images := rfl

theorem State.images_zeroTunEntry (s : State) (t : Tun) : (s.zeroTunEntry t).images = s.images := by
  unfold State.zeroTunEntry
  refine forAll_frame (g := State.images) (fun x s => ?_) s
  split
  · exact State.images_farWrite _ _ _ _ _
  · rfl

theorem State.images_freeTun (s : State) (h : Nat) : (s.freeTun h).images = s.images := by
  unfold State.freeTun
  split
  · rfl
  next t _ =>
    dsimp only
    rw [State.images_refund]
    refine (forAll_frame (g := State.images) (l := t.extents) (f := fun x s => s.freeGranules (Machine.granules x.2.1 x.2.2)) (fun _ _ => rfl) _).trans ?_
    rw [State.images_zeroTunEntry]

/-- A key is listed where its entry meets the test. -/
theorem Tab.mem_keys_of_find {α : Type} {t : Tab α} {k : Nat} {x : α} (h : Tab.find t k = some x) {p : α → Bool} (hp : p x = true) :
    k ∈ t.keys p := by
  induction t with
  | nil => exact absurd h (by simp)
  | cons e t ih =>
    obtain ⟨j, y⟩ := e
    have hcons : ∀ i, i ∈ Tab.keys t p → i ∈ Tab.keys ((j, y) :: t) p := by
      intro i hi
      simp only [Tab.keys, List.mem_map, List.mem_filter, List.mem_cons] at *
      exact hi.imp fun e he => ⟨⟨.inr he.1.1, he.1.2⟩, he.2⟩
    by_cases hj : j = k
    · simp only [Tab.find, if_pos hj, Option.some.injEq] at h
      simp [Tab.keys, h, hp, hj]
    · simp only [Tab.find, if_neg hj] at h
      exact hcons k (ih h)

/-- A deleted image on which nothing runs is gone once storage has been given back. -/
theorem State.find_reapStores {s : State} {h : Nat} (hs : s.imageGone h) : Tab.find s.reapStores.images h = none := by
  unfold State.reapStores
  extract_lets s1 s2 s3
  have h1 : s1.imageGone h := forAll_keeps (P := fun t => t.imageGone h) (fun k _ t ht => State.imageGone_freeIndex ht k) hs
  have h2 : s2.imageGone h := State.imageGone_of_images (forAll_frame (g := State.images) (fun f t => t.images_freeFilter f) s1) h1
  have h3 : Tab.find s3.images h = none := by
    obtain ⟨x, hx, hdel, hrun⟩ := h2
    refine forAll_of_mem (P := fun t => Tab.find t.images h = none) (fun k _ t ht => ?_)
      (Tab.mem_keys_of_find hx (by simp [hdel, hrun])) (fun t => by rw [State.find_freeImage, if_pos rfl]) s2
    rw [State.find_freeImage, ht, ite_self]
  rw [forAll_frame (g := State.images) (fun x t => ?_) s3]
  · exact h3
  · split
    · rfl
    · exact t.images_freeTun x

/-- IMAGE_DELETE of an image to which nothing is bound and on which nothing runs: its storage is given back at once. -/
theorem imageDelete_eq {c : Cmd} {s : State} {m : Image} (hm : s.imageFor c.fn (c.fld 0 8) = some m) (hbound : m.bound = 0)
    (hset : ∀ q, Tab.find s.tenants c.fn = some q → m.handle ∉ q.swset) (hrun : m.running = 0) :
    ∃ t : State, t.imageGone m.handle ∧ imageDelete c s = (t.reapStores, {}) := by
  refine ⟨s.setImage m.handle { m with resident := false, filling := none, perches := [], deleted := true, pinned := false },
    ⟨_, State.find_setImage _ _ _, rfl, hrun⟩, ?_⟩
  rw [imageDelete, withImage_of_named hm]
  cases hq : Tab.find s.tenants c.fn with
  | none => simp [hbound, hrun]
  | some q => simp [hbound, hrun, hset q hq]

/-! ### Fills and pins (R177 to R179, R471) -/

/-- An image of a size stands under a handle. -/
def State.holdsImage (s : State) (h size : Nat) : Prop := ∃ x, Tab.find s.images h = some x ∧ x.size = size

theorem State.holdsImage_onImage {s : State} {h n : Nat} (hs : s.holdsImage h n) (k : Nat) {f : Image → Image} (hf : ∀ x, (f x).size = x.size) :
    (s.onImage k f).holdsImage h n := by
  obtain ⟨x, hx, hsize⟩ := hs
  by_cases hk : h = k
  · subst hk
    rw [State.onImage_of_find hx]
    exact ⟨f x, State.find_setImage _ _ _, (hf x).trans hsize⟩
  · refine ⟨x, ?_, hsize⟩
    unfold State.onImage
    split
    · rw [State.find_setImage_other _ _ _ _ hk, hx]
    · exact hx

/-- Making room in the perches takes no image away. -/
theorem State.holdsImage_makeRoom {h n vf part cap need : Nat} {quiet : Bool} (l : List Nat) {s : State} (hs : s.holdsImage h n) :
    (s.makeRoom vf part cap need quiet l).holdsImage h n := by
  induction l generalizing s with
  | nil => exact hs
  | cons k l ih =>
    unfold State.makeRoom
    extract_lets used
    split
    · exact hs
    · exact ih (State.holdsImage_onImage hs k fun _ => rfl)

/-- When the fill has started, the image stands; when it was in no perches, it fills from now in all that it needs. -/
def State.Fills (s : State) (m : Image) (r : State × Bool) : Prop :=
  r.2 = true → ∃ x, Tab.find r.1.images m.handle = some x ∧ (m.occupies = false → x.filling = some s.now ∧ x.perches.length = m.need)

/-- An image that takes its perches fills them from now. -/
theorem State.fills_perches {s room : State} {m : Image} (hroom : room.holdsImage m.handle m.size) (hfree : m.need ≤ room.freePerches.length)
    (part : Nat) : s.Fills m (room.onImage m.handle
      (fun x => { x with filling := some s.now, perches := room.freePerches.take x.need, part := part }), true) := by
  obtain ⟨x, hx, hsize⟩ := hroom
  have hneed : x.need = m.need := by rw [Image.need, hsize, Image.need]
  rw [State.onImage_of_find hx, hneed]
  exact fun _ => ⟨_, State.find_setImage _ _ _, fun _ => ⟨rfl, List.length_take_of_le hfree⟩⟩

theorem State.fills_startFill {s : State} {m : Image} (hm : Tab.find s.images m.handle = some m) : s.Fills m (s.startFill m.handle) := by
  have hno : s.Fills m (s, false) := fun h => absurd h Bool.false_ne_true
  unfold State.startFill
  rw [hm]
  refine iteInduction (motive := s.Fills m) (fun hocc => ?_) fun _ => iteInduction (motive := s.Fills m) (fun _ => hno) fun _ => ?_
  · exact fun _ => ⟨m, hm, fun h => absurd hocc (by simp [h])⟩
  · split
    · refine iteInduction (motive := s.Fills m) (fun hfits => ?_) fun _ => hno
      simp only [Bool.and_eq_true, decide_eq_true_eq] at hfits
      obtain ⟨-, hfree⟩ := hfits
      exact State.fills_perches (State.holdsImage_makeRoom _ ⟨m, hm, rfl⟩) hfree _
    · exact hno

/-- A fill that starts, or finds the image in its perches, is waited for. -/
theorem fillFor_eq {m : Image} {s : State} (h : (s.startFill m.handle).2 = true) :
    fillFor m s = ((s.startFill m.handle).1, { wait := .fill m.handle }) := by
  simp [fillFor, h]

theorem imageFill_eq {c : Cmd} {s : State} {m : Image} (hm : s.imageFor c.fn (c.fld 0 8) = some m) (hclass : s.noClass c.fn = false)
    (h : (s.startFill m.handle).2 = true) : imageFill c s = ((s.startFill m.handle).1, { wait := .fill m.handle }) := by
  simp [imageFill, hclass, withImage_of_named hm, fillFor_eq h]

theorem imagePin_eq {c : Cmd} {s : State} {m : Image} (hm : s.imageFor c.fn (c.fld 0 8) = some m) (hclass : s.noClass c.fn = false)
    (h : (s.startFill m.handle).2 = true)
    (hmay : m.pinned = true ∨ ∃ q, Tab.find s.tenants c.fn = some q ∧ s.pinnedPerches c.fn + m.need ≤ q.pinmax) :
    imagePin c s = ((s.startFill m.handle).1.onImage m.handle (fun x => { x with pinned := true }), { wait := .fill m.handle }) := by
  rw [imagePin, if_neg (by simp [hclass]), withImage_of_named hm]
  rcases hmay with hpinned | ⟨q, hq, hle⟩
  · simp [hpinned, fillFor_eq h]
  · simp [hq, hle, fillFor_eq h]

theorem imageUnpin_eq {c : Cmd} {s : State} {m : Image} (hm : s.imageFor c.fn (c.fld 0 8) = some m) :
    imageUnpin c s = (s.setImage m.handle { m with pinned := false }, {}) := by
  rw [imageUnpin, withImage_of_named hm]

/-! ### Filters deleted and switch sets (R25, R471) -/

theorem filterDelete_eq {c : Cmd} {s : State} {i : Index} {f : Filter} (hi : s.indexNamed c (c.fld 0 8) = some i) (hst : i.st ≠ .destroying)
    (hsharded : i.sharded = false) (hf : s.filterFor c.fn i (c.fld 8 4) = some f) :
    filterDelete c s = (s.setFilter (filterKey i.handle (c.fld 8 4)) { f with deleted := true }, {}) := by
  rw [filterDelete, onIndex_of_named hi hst]
  simp [hf, State.remoteShards_of_unsharded s hsharded, State.unreachable, State.deleteFilter, State.onFilter_of_find (State.find_of_filterFor hf)]

/-- The perches that a switch set takes, an image of it once. -/
def State.switchNeed (s : State) (vf : Nat) (hs : List Nat) : Nat :=
  (dedup hs).foldl (fun a h => match s.imageFor vf h with | some x => a + x.need | none => a) 0

/-- The images that SWSET names. -/
def Cmd.switchSet (c : Cmd) : List Nat := (List.range (c.fld 0 1)).map (fun i => c.fld (8 + 8 * i) 8)

theorem swSet_eq {c : Cmd} {s : State} {q : Tenant} (hq : Tab.find s.tenants c.fn = some q) (hn : c.fld 0 1 ≤ 4)
    (hnamed : ∀ h ∈ c.switchSet, (s.imageFor c.fn h).isSome = true) (hperches : s.switchNeed c.fn c.switchSet ≤ q.perchq) :
    swSet c s = (s.setTenant c.fn { q with swset := c.switchSet }, {}) := by
  have hmissing : (List.range (c.fld 0 1)).find? (fun i => (s.imageFor c.fn (c.fld (8 + 8 * i) 8)).isNone) = none := by
    rw [List.find?_eq_none]
    intro i hi
    have hsome := hnamed _ (List.mem_map.mpr ⟨i, hi, rfl⟩)
    simpa [Option.isSome_iff_ne_none] using hsome
  unfold swSet
  rw [checked_of_pass s (by simp [hn, hmissing, hq]; exact hperches), State.onTenant_of_find hq]
  rfl

end Sys2Proof.Machine
end

section
/-! The commands on filters, images and switch sets at their turn (R25, R178, R179, R470, R471). -/

namespace Sys2Proof.Machine

/-- IMAGE_REGISTER at its turn, when it answers OK. -/
theorem exec_imageRegister {s : State} {m : Mbx} {k : MSlot} {data : List Byte} (hadm : s.admits m k 0x0401 = true)
    (hok : (imageRegister (s.cmdAt m k data) s).2.status = sOK) :
    ∃ t h x, exec (.imageRegister m k data) s = .next t ∧ t.answered m k sOK = true ∧ field (t.slotAt m k).payload 0 8 = h % 2 ^ 64 ∧
      field (t.slotAt m k).payload 8 4 = x.size % 2 ^ 32 ∧ Tab.find t.images h = some x ∧ x.handle = h ∧ x.vf = (s.cmdAt m k data).fn ∧
      x.resident = false ∧ x.deleted = false ∧ x.pinned = false := by
  have hreg := imageRegister_registers (s.cmdAt m k data) s hok
  cases heq : imageRegister (s.cmdAt m k data) s with
  | mk t r =>
    rw [heq] at hreg
    obtain ⟨x, rfl, hx, hvf, hres, hdel, hpin⟩ := hreg
    have hrun := State.runCmd_eq_replied hadm heq
    have hpayload := t.payload_replied_words m k { payload := x.registered } (by rw [x.length_registered]; decide)
    refine ⟨_, x.handle, x, congrArg Host.Outcome.next hrun, State.answered_replied _ _ _ _, ?_, ?_, hx, rfl, hvf, hres, hdel, hpin⟩
    · rw [hpayload, x.field_registered_handle]
    · rw [hpayload, x.field_registered_size]

/-- Settles O51, command by command. -/
theorem filterAndImageCommands : Obligations.FilterAndImageCommands := by
  intro s m k data c ok said
  refine ⟨fun i hi hsharded hst => ⟨?_, fun f hadm hf => ?_⟩, fun hadm hok => exec_imageRegister hadm hok,
    fun im him hhandle => ?_, fun q hadm hq hn => ?_⟩
  · intro u a q hadm hkind hlen hbme hdma b g off n pool h0 halign hfit hmax htenant hquota hplace hshard
    have hask : c.AsksFilter s i b := ⟨hi, hst, hsharded, hshard, hkind, ⟨rfl, hbme, hdma⟩, rfl, hlen, h0, hmax, halign, hfit⟩
    have hroom : (s.translate c.fn c.addr).drew.FilterRoom i g pool q u a :=
      ⟨(congrArg (Tab.find · i.vf) (s.tenants_translate c.fn c.addr)).trans htenant, hquota, hplace⟩
    obtain ⟨h, hcreate⟩ := filterCreate_eq hask hroom
    have hrun := State.runCmd_eq_replied hadm hcreate
    refine ⟨_, h, newFilter i h g a pool, congrArg Host.Outcome.next hrun, State.answered_replied _ _ _ _,
      State.field_replied_handle _ _ _ h, ?_, rfl, rfl, rfl, rfl, rfl, rfl, fun j hj => ?_⟩
    · rw [State.filters_replied]
      exact State.find_withFilter _ _ _ _ _ _ _
    · rw [State.byte_replied]
      exact State.byte_withFilter hroom h b off hj
  · have hrun := State.runCmd_eq_replied hadm (filterDelete_eq (c := s.cmdAt m k []) hi hst hsharded hf)
    refine ⟨_, congrArg Host.Outcome.next hrun, State.answered_replied _ _ _ _, fun _ _ => rfl, fun _ => rfl, ?_⟩
    rw [State.filters_replied]
    exact State.find_setFilter _ _ _
  · have hfind : Tab.find s.images im.handle = some im := hhandle ▸ State.find_of_imageFor him
    refine ⟨fun hadm hbound hset hrunning => ?_, fun hadm hclass hfill => ?_, fun hadm hclass hfill hmay => ?_, fun hadm => ?_⟩
    · obtain ⟨t, hgone, heq⟩ := imageDelete_eq (c := s.cmdAt m k []) him hbound hset hrunning
      have hrun := State.runCmd_eq_replied hadm heq
      exact ⟨_, congrArg Host.Outcome.next hrun, State.answered_replied _ _ _ _, by
        rw [State.images_replied, State.find_reapStores hgone]⟩
    · obtain ⟨x, hx, hfills⟩ := State.fills_startFill hfind hfill
      have hrun := State.runCmd_eq_replied hadm (imageFill_eq (c := s.cmdAt m k []) him hclass hfill)
      exact ⟨_, x, congrArg Host.Outcome.next hrun, State.answered_replied _ _ _ _, State.wait_replied _ _ _ _, by
        rw [State.images_replied, hx], hfills⟩
    · obtain ⟨x, hx, -⟩ := State.fills_startFill hfind hfill
      have hrun := State.runCmd_eq_replied hadm (imagePin_eq (c := s.cmdAt m k []) him hclass hfill hmay)
      rw [State.onImage_of_find hx] at hrun
      exact ⟨_, { x with pinned := true }, congrArg Host.Outcome.next hrun, State.answered_replied _ _ _ _, State.wait_replied _ _ _ _,
        by rw [State.images_replied, State.find_setImage], rfl⟩
    · have hrun := State.runCmd_eq_replied hadm (imageUnpin_eq (c := s.cmdAt m k []) him)
      exact ⟨_, congrArg Host.Outcome.next hrun, State.answered_replied _ _ _ _, fun _ _ => rfl, fun _ => rfl, State.find_setImage _ _ _⟩
  · intro hs hnamed hperches
    have hrun := State.runCmd_eq_replied hadm (swSet_eq (c := s.cmdAt m k []) hq hn hnamed hperches)
    exact ⟨_, congrArg Host.Outcome.next hrun, State.answered_replied _ _ _ _, fun _ _ => rfl, fun _ => rfl, State.find_setTenant _ _ _⟩

end Sys2Proof.Machine
end

section
/-! Ring pairs: doorbells and cancels through a window, fetches into staging, and writes to host memory that a translation denies
(R87 to R93, R104, R116, R124). -/

namespace Sys2Proof.Machine

/-! ### Registers of a ring pair -/

/-- The windows of the ring pairs lie below the registers of the error block (Table 20.3). -/
theorem ringReg_not_mem_reportRegs (o : Occ) {a : Nat} (h : a < 0x10000) : a ∉ reportRegs o := by
  simp only [reportRegs, Reg.ERR_NEXTSEQ, Reg.ERR_QSTAT, Reg.ERR_VFOVF, Reg.ERR_FATAL, List.mem_cons, List.not_mem_nil, or_false]
  omega

/-- A report leaves the registers of ring pairs. -/
theorem Reported.ringReg {s t : State} {o : Occ} (h : Reported s t o) {a : Nat} (ha : a < 0x10000) : t.reg a = s.reg a :=
  h.regs a (ringReg_not_mem_reportRegs o ha)

theorem QFE_RSTATE_lt (p : RingPair) : Reg.QFE_RSTATE p < 0x10000 := by
  have := p.isLt
  simp only [Reg.QFE_RSTATE]; omega

theorem QFE_CNCMISS_lt (p : RingPair) : Reg.QFE_CNCMISS p < 0x10000 := by
  have := p.isLt
  simp only [Reg.QFE_CNCMISS]; omega

theorem QFE_CQLOST_lt (p : RingPair) : Reg.QFE_CQLOST p < 0x10000 := by
  have := p.isLt
  simp only [Reg.QFE_CQLOST]; omega

theorem QFE_RSTATE_ne_CQLOST (p q : Nat) : Reg.QFE_RSTATE p ≠ Reg.QFE_CQLOST q := by
  simp only [Reg.QFE_RSTATE, Reg.QFE_CQLOST]; omega

/-! ### Writes through a window (R89, R90, R116) -/

/-- A window that is shown, open and not blocked passes the write on, with the held low half gone. -/
theorem State.ringAccess_of_open {s : State} {v : BarView} {p : Nat} (hshow : barShows v p = true) (hopen : s.memOpen (barFn v) = true)
    (hblock : s.tdiBlocked v p = false) (off : Nat) (f : State → State) : s.ringAccess v p off f = f (s.dropHeld (barFn v)) := by
  simp [State.ringAccess, hshow, hopen, hblock]

@[simp] theorem State.dropHeld_up (s : State) (f : Nat) : (s.dropHeld f).up = s.up := rfl
@[simp] theorem State.dropHeld_rings (s : State) (f : Nat) : (s.dropHeld f).rings = s.rings := rfl
@[simp] theorem State.dropHeld_reg (s : State) (f a : Nat) : (s.dropHeld f).reg a = s.reg a := rfl
@[simp] theorem State.dropHeld_ringState (s : State) (f p : Nat) : (s.dropHeld f).ringState p = s.ringState p := rfl

/-- A doorbell that is stored: what its window's register holds afterwards, and that nothing else of the ring pair changes. -/
theorem doorbellStored (s : State) (f a : Nat) {x : Nat} (hx : x < 2 ^ 16) :
    SameMemory s ((s.dropHeld f).setReg a x) ∧ ((s.dropHeld f).setReg a x).rings = s.rings ∧
      ((s.dropHeld f).setReg a x).reg a = x ∧ SameRegs s ((s.dropHeld f).setReg a x) [a] := by
  refine ⟨((AccessFrame.dropHeld s f).trans (.setReg _ _ _)).sameMemory, rfl, ?_, fun b hb => ?_⟩
  · rw [State.reg_setReg, Nat.mod_eq_of_lt (by omega)]
  · exact State.reg_setReg_other _ _ _ _ (by simpa using hb)

/-- A doorbell that is refused: the report alone. -/
theorem doorbellRecorded (s : State) (f : Nat) (o : Occ) :
    SameMemory s ((s.dropHeld f).record o) ∧ ((s.dropHeld f).record o).rings = s.rings ∧
      ((s.dropHeld f).record o).tells o = true ∧ SameRegs s ((s.dropHeld f).record o) (reportRegs o) := by
  obtain ⟨hframe, hregs, htells⟩ := (s.dropHeld f).occur_reported o
  exact ⟨fun a => hframe.sameMemory a, hframe.rings, htells, hregs⟩

theorem State.badDoorbell_of_active {s : State} {p : Nat} (h : s.ringState p = 1) (val : Nat) :
    s.badDoorbell p val = s.record { cause := Cause.dbRange, func := ringVf p, subject := p, arg0 := val } := by
  simp [State.badDoorbell, h]

theorem State.badDoorbell_of_not_active {s : State} {p : Nat} (h : s.ringState p ≠ 1) (val : Nat) :
    s.badDoorbell p val = s.record { cause := Cause.dbState, func := ringVf p, subject := p, arg0 := s.ringState p } := by
  simp [State.badDoorbell, h]

section
variable {s : State} {v : BarView} {p : RingPair} {r : Ring}

/-- An SQ doorbell of a created ring pair stores TAIL while the pair is ACTIVE and the value keeps to the ring, and is refused
otherwise. -/
theorem exec_qfeSqtail (hshow : barShows v p = true) (hopen : s.memOpen (barFn v) = true) (hblock : s.tdiBlocked v p = false)
    (hup : s.up = true) (hr : Tab.find s.rings p = some r) (x : Word32) : exec (.qfeSqtail v p x) s = .next
      (if s.ringState p = 1 && tailOk r.sqsize (s.reg (Reg.QFE_SQHEAD p) % 2 ^ 16) (s.reg (Reg.QFE_SQTAIL p) % 2 ^ 16) (x.toNat % 2 ^ 16) then
        (s.dropHeld (barFn v)).setReg (Reg.QFE_SQTAIL p) (x.toNat % 2 ^ 16)
      else (s.dropHeld (barFn v)).badDoorbell p (x.toNat % 2 ^ 16)) := by
  change Host.Outcome.next (s.ringAccess _ _ _ _) = _
  rw [State.ringAccess_of_open hshow hopen hblock]
  simp only [State.sqDoorbell, State.dropHeld_up, hup, State.dropHeld_rings, hr]
  rfl

/-- A CQ doorbell, in the same way. -/
theorem exec_qfeCqhead (hshow : barShows v p = true) (hopen : s.memOpen (barFn v) = true) (hblock : s.tdiBlocked v p = false)
    (hup : s.up = true) (hr : Tab.find s.rings p = some r) (x : Word32) : exec (.qfeCqhead v p x) s = .next
      (if s.ringState p = 1 && cqHeadOk r.cqsize r.cqtail (s.reg (Reg.QFE_CQHEAD p) % 2 ^ 16) (x.toNat % 2 ^ 16) then
        (s.dropHeld (barFn v)).setReg (Reg.QFE_CQHEAD p) (x.toNat % 2 ^ 16)
      else (s.dropHeld (barFn v)).badDoorbell p (x.toNat % 2 ^ 16)) := by
  change Host.Outcome.next (s.ringAccess _ _ _ _) = _
  rw [State.ringAccess_of_open hshow hopen hblock]
  simp only [State.cqDoorbell, State.dropHeld_up, hup, State.dropHeld_rings, hr]
  rfl

/-- A cancel is stored while fewer than 16 wait, and is a miss otherwise. -/
theorem exec_qfeCancel (hshow : barShows v p = true) (hopen : s.memOpen (barFn v) = true) (hblock : s.tdiBlocked v p = false)
    (hup : s.up = true) (hr : Tab.find s.rings p = some r) (x : Word32) : exec (.qfeCancel v p x) s = .next
      (if r.cancels.length < 16 then
        (s.dropHeld (barFn v)).setRing p { r with cancels := r.cancels ++ [x.toNat], cancelTick := s.tick }
      else ((s.dropHeld (barFn v)).count (Reg.QFE_CNCMISS p) 1).record
        { cause := Cause.dbRange, func := ringVf p, subject := p, arg0 := x.toNat }) := by
  change Host.Outcome.next (s.ringAccess _ _ _ _) = _
  rw [State.ringAccess_of_open hshow hopen hblock]
  simp only [State.cancelWrite, State.dropHeld_up, hup, State.dropHeld_rings, hr]
  rfl

end

/-- A doorbell of an ACTIVE ring pair: stored when its value keeps to the ring, recorded as DB_RANGE when it does not. -/
theorem doorbellOfActive {s : State} {p : Nat} (hst : s.ringState p = 1) (f a : Nat) {x : Nat} (hx : x < 2 ^ 16) (ok : Bool) :
    ∀ t, t = (if s.ringState p = 1 && ok then (s.dropHeld f).setReg a x else (s.dropHeld f).badDoorbell p x) →
      SameMemory s t ∧ t.rings = s.rings ∧ (ok = true → t.reg a = x ∧ SameRegs s t [a]) ∧
      (ok = false → t.tells { cause := Cause.dbRange, func := ringVf p, subject := p } = true ∧
        SameRegs s t (reportRegs { cause := Cause.dbRange, func := ringVf p })) := by
  rintro t rfl
  cases ok with
  | true =>
    obtain ⟨hmem, hrings, hreg, hregs⟩ := doorbellStored s f a hx
    simp only [hst, decide_true, Bool.and_true, if_true]
    exact ⟨hmem, hrings, fun _ => ⟨hreg, hregs⟩, fun h => absurd h (by decide)⟩
  | false =>
    obtain ⟨hmem, hrings, htells, hregs⟩ :=
      doorbellRecorded s f { cause := Cause.dbRange, func := ringVf p, subject := p, arg0 := x }
    simp only [hst, Bool.and_false, Bool.false_eq_true, if_false, State.badDoorbell_of_active (s := s.dropHeld f) hst]
    exact ⟨hmem, hrings, fun h => absurd h (by decide), fun _ => ⟨htells, hregs⟩⟩

/-- A doorbell of a ring pair that is not ACTIVE is recorded as DB_STATE. -/
theorem doorbellOfOther {s : State} {p : Nat} (hst : s.ringState p ≠ 1) (f a x : Nat) (ok : Bool) :
    ∀ t, t = (if s.ringState p = 1 && ok then (s.dropHeld f).setReg a x else (s.dropHeld f).badDoorbell p x) →
      t.rings = s.rings ∧ t.tells { cause := Cause.dbState, func := ringVf p, subject := p } = true ∧
      SameRegs s t (reportRegs { cause := Cause.dbState, func := ringVf p }) ∧ SameMemory s t := by
  rintro t rfl
  obtain ⟨hmem, hrings, htells, hregs⟩ :=
    doorbellRecorded s f { cause := Cause.dbState, func := ringVf p, subject := p, arg0 := (s.dropHeld f).ringState p }
  simp only [hst, decide_false, Bool.false_and, Bool.false_eq_true, if_false, State.badDoorbell_of_not_active (s := s.dropHeld f) hst]
  exact ⟨hrings, htells, hregs, hmem⟩

/-- Settles O12: each write comes down to a store in the window or to a report. -/
theorem ringDoorbellsAndCancels : Obligations.RingDoorbellsAndCancels := by
  intro s v p r x hshow hopen hblock hup hr
  have hx : x.toNat % 2 ^ 16 < 2 ^ 16 := Nat.mod_lt _ (by decide)
  have hsq := exec_qfeSqtail hshow hopen hblock hup hr x
  have hcq := exec_qfeCqhead hshow hopen hblock hup hr x
  have hcancel := exec_qfeCancel hshow hopen hblock hup hr x
  refine ⟨fun hst => ⟨_, hsq, doorbellOfActive hst _ _ hx _ _ rfl⟩, fun hst => ⟨_, hcq, doorbellOfActive hst _ _ hx _ _ rfl⟩,
    fun hst => ?_, fun hfew => ?_, fun hmany => ?_⟩
  · obtain ⟨hrings, htells, hregs, hmem⟩ := doorbellOfOther hst (barFn v) _ _ _ _ rfl
    exact ⟨_, _, hsq, hcq, hrings, htells, hregs, hmem, doorbellOfOther hst _ _ _ _ _ rfl⟩
  · rw [if_pos hfew] at hcancel
    exact ⟨_, hcancel, fun _ => rfl, fun _ _ => rfl, State.find_setRing _ _ _⟩
  · rw [if_neg (Nat.not_lt.mpr hmany)] at hcancel
    obtain ⟨hframe, hregs, htells⟩ := State.occur_reported ((s.dropHeld (barFn v)).count (Reg.QFE_CNCMISS p) 1)
      { cause := Cause.dbRange, func := ringVf p, subject := p, arg0 := x.toNat }
    refine ⟨_, hcancel, fun a => hframe.sameMemory a, hframe.rings, ?_, htells, fun a ha => ?_⟩
    · refine (hregs _ (ringReg_not_mem_reportRegs _ (QFE_CNCMISS_lt p))).trans ?_
      rw [State.count, State.reg_setReg, State.dropHeld_reg]
    · obtain ⟨hne, hout⟩ := List.ne_and_not_mem_of_not_mem_cons ha
      exact (hregs a hout).trans (State.reg_setReg_other _ _ _ _ hne)

/-! ### Memory and records after changes of registers and ring pairs -/

theorem SameMemory.setReg {s t : State} (h : SameMemory s t) (a x : Nat) : SameMemory s (t.setReg a x) := h
@[simp] theorem State.tells_setReg (s : State) (a x : Nat) (o : Occ) : (s.setReg a x).tells o = s.tells o := rfl
@[simp] theorem State.tells_setRing (s : State) (p : Nat) (r : Ring) (o : Occ) : (s.setRing p r).tells o = s.tells o := rfl
theorem SameMemory.setRing {s t : State} (h : SameMemory s t) (p : Nat) (r : Ring) : SameMemory s (t.setRing p r) := h

/-! ### Staging (R87, R92, R124) -/

/-- `t` differs from `s` in the host's side at most: the translation cache and AER. -/
def HostFrame (s t : State) : Prop := t = { s with host := t.host }

theorem HostFrame.refl (s : State) : HostFrame s s := rfl

theorem HostFrame.trans {s t u : State} (hst : HostFrame s t) (htu : HostFrame t u) : HostFrame s u := by
  unfold HostFrame at *
  rw [htu, hst]

theorem HostFrame.sameMemory {s t : State} (h : HostFrame s t) : SameMemory s t := by
  rw [h]
  exact fun _ => rfl

theorem HostFrame.reg {s t : State} (h : HostFrame s t) (a : Nat) : t.reg a = s.reg a := by rw [h]; rfl
theorem HostFrame.rings {s t : State} (h : HostFrame s t) : t.rings = s.rings := by rw [h]

theorem HostFrame.translate (s : State) (f addr : Nat) : HostFrame s (s.translate f addr) := by
  unfold State.translate
  dsimp only
  split
  · exact .refl s
  · rfl

theorem HostFrame.translateAll (f : Nat) (l : List Nat) (s : State) : HostFrame s (forAll l (fun a s => s.translate f a) s) :=
  forAll_keeps (P := HostFrame s) (fun a _ t ht => ht.trans (.translate t f a)) (.refl s)

theorem HostFrame.aer (s : State) (a : Aer) : HostFrame s (s.aer a) := by
  unfold State.aer
  split
  · exact .refl s
  · rfl

/-- A change of the host's side and of one ring pair leaves memory and registers. -/
theorem HostFrame.setRing {s t : State} (h : HostFrame s t) (p : Nat) (x : Ring) :
    SameRegs s (t.setRing p x) [] ∧ SameMemory s (t.setRing p x) :=
  ⟨fun a _ => h.reg a, h.sameMemory.setRing p x⟩

/-- A DMA request that fails leaves its AER status and its report (R93, R419). -/
theorem State.dmaFailed_reported (s : State) (f addr : Nat) (k : DmaFault) :
    ∃ t, HostFrame s t ∧ Reported t (s.dmaFailed f addr k) (dmaOcc f addr k) := by
  unfold State.dmaFailed
  split
  next a _ => exact ⟨_, .aer s a, State.occur_reported _ _⟩
  next => exact ⟨_, .refl s, State.occur_reported _ _⟩

theorem State.sameMemory_dmaFailed (s : State) (f addr : Nat) (k : DmaFault) : SameMemory s (s.dmaFailed f addr k) := by
  obtain ⟨t, hhost, hrep⟩ := s.dmaFailed_reported f addr k
  rw [hrep.frame, hhost]
  exact fun _ => rfl

theorem State.rings_dmaFailed (s : State) (f addr : Nat) (k : DmaFault) : (s.dmaFailed f addr k).rings = s.rings := by
  obtain ⟨t, hhost, hrep⟩ := s.dmaFailed_reported f addr k
  rw [hrep.frame.rings, hhost.rings]

theorem State.ringReg_dmaFailed (s : State) (f addr : Nat) (k : DmaFault) {a : Nat} (ha : a < 0x10000) :
    (s.dmaFailed f addr k).reg a = s.reg a := by
  obtain ⟨t, hhost, hrep⟩ := s.dmaFailed_reported f addr k
  rw [hrep.ringReg ha, hhost.reg]

/-- What a ring pair may fetch is ACTIVE. -/
theorem State.ringState_of_mayFetch {s : State} {p : Nat} {r : Ring} (h : s.mayFetch p r = true) : s.ringState p = 1 := by
  simp only [State.mayFetch, Bool.and_eq_true, beq_iff_eq] at h
  obtain ⟨⟨⟨⟨_, hactive⟩, _⟩, _⟩, _⟩ := h
  exact hactive

/-- FAULT of a ring pair that is not STOPPED: STATE, the cause, and the signal it asks for (R92, R93, R491). -/
theorem State.ringFault_of_find {s : State} {p : Nat} {r : Ring} (hst : s.ringState p ≠ 2) (hr : Tab.find s.rings p = some r)
    (cause : Nat) : s.ringFault p cause = (s.setReg (Reg.QFE_RSTATE p) (cause * 16 + 3)).setRing p { r with signalNow := true } := by
  rw [State.ringFault, if_neg hst]
  exact State.onRing_of_find (s := s.setReg _ _) hr _

/-- A staged descriptor with the operands that its fetch has brought, and the share they take (R124). -/
def State.withOperands (s : State) (vf : Nat) (d : Staged) (vec code : List Byte) : Staged :=
  { d with
    ready := true, share := operandBytes d.desc (s.codeLen vf d.desc),
    vec := slice vec 0 (match descVec d.desc with | some (_, n) => n | none => 0),
    code := slice code 0 (match descCodeAddr d.desc with | some _ => s.codeLen vf d.desc | none => 0) }

section
variable {s : State} {p : RingPair} {r : Ring}

theorem exec_descriptorFetch (hr : Tab.find s.rings p = some r) (hmay : s.mayFetch p r = true) (data : List Byte) :
    exec (.descriptorFetch p data) s = .next ((s.translate (ringVf p) (r.sqbase + 128 * r.fetched)).setRing p { r with
      staged := r.staged ++ (List.range (min (s.fetchLen r) (data.length / 128))).map (fun k => s.stage (ringVf p) (slice data (128 * k) 128)),
      fetched := (r.fetched + min (s.fetchLen r) (data.length / 128)) % r.sqsize }) := by
  change execDescriptorFetch p data s = _
  simp [execDescriptorFetch, hr, hmay]

theorem exec_sqFetchFault (hr : Tab.find s.rings p = some r) (hmay : s.mayFetch p r = true) (hleft : r.unfetched ≠ 0) (k : DmaFault) :
    exec (.sqFetchFault p k) s = .next ((s.dmaFailed (ringVf p) (r.sqbase + 128 * r.fetched) k).ringFault p 1) := by
  change Host.Outcome.next (s.sqFetchFails p k) = _
  simp [State.sqFetchFails, hr, hmay, hleft]

/-- Good operands of the first waiting descriptor, when they fit the share, make it ready with the share they take. -/
theorem exec_operandStage {k : Nat} {d : Staged} (hr : Tab.find s.rings p = some r) (hmay : s.mayFetch p r = true)
    (hfirst : r.staged.findIdx? (fun x => !x.ready) = some k) (hd : r.staged[k]? = some d)
    (hfits : s.shareUsed (ringVf p) + operandBytes d.desc (s.codeLen (ringVf p) d.desc) ≤ 262144) (vec code : List Byte) :
    exec (.operandStage p (.data vec) (.data code)) s = .next
      ((forAll (((descVec d.desc).map (·.1)).toList ++ (descCodeAddr d.desc).toList) (fun a s => s.translate (ringVf p) a) s).setRing p
        { r with staged := r.staged.set k (s.withOperands (ringVf p) d vec code) }) := by
  change Host.Outcome.next (s.stageOperands p _ _) = _
  simp only [State.stageOperands, hr, hmay, hfirst, hd, if_neg (Nat.not_lt.mpr hfits), State.withOperands]
  cases descVec d.desc <;> cases descCodeAddr d.desc <;> rfl

end

/-- Settles O13, row by row. -/
theorem fetchFillsStagingInRingOrder : Obligations.FetchFillsStagingInRingOrder := by
  intro s p r data hr hmay
  refine ⟨?_, fun vec code k d hfirst hd hfits => ?_, fun k hleft => ?_⟩
  · obtain ⟨hregs, hmem⟩ := (HostFrame.translate s (ringVf p) (r.sqbase + 128 * r.fetched)).setRing p { r with
      staged := r.staged ++ (List.range (min (s.fetchLen r) (data.length / 128))).map (fun k => s.stage (ringVf p) (slice data (128 * k) 128)),
      fetched := (r.fetched + min (s.fetchLen r) (data.length / 128)) % r.sqsize }
    refine ⟨_, exec_descriptorFetch hr hmay data, hregs, hmem, _, State.find_setRing _ _ _, by simp, List.prefix_append _ _, rfl,
      fun k hk => ?_⟩
    simp [List.getElem?_append_right, List.getElem?_range hk, State.stage]
  · obtain ⟨hregs, hmem⟩ := (HostFrame.translateAll (ringVf p) (((descVec d.desc).map (·.1)).toList ++ (descCodeAddr d.desc).toList) s).setRing p
      { r with staged := r.staged.set k (s.withOperands (ringVf p) d vec code) }
    exact ⟨_, exec_operandStage hr hmay hfirst hd hfits vec code, hregs, hmem, _, _, State.find_setRing _ _ _, rfl, rfl, rfl, rfl, rfl⟩
  · have hactive := State.ringState_of_mayFetch hmay
    have hst : (s.dmaFailed (ringVf p) (r.sqbase + 128 * r.fetched) k).ringState p ≠ 2 := by
      rw [State.ringState, State.ringReg_dmaFailed _ _ _ _ (QFE_RSTATE_lt p), ← State.ringState, hactive]
      decide
    have hr' : Tab.find (s.dmaFailed (ringVf p) (r.sqbase + 128 * r.fetched) k).rings p = some r := by rw [State.rings_dmaFailed, hr]
    refine ⟨_, exec_sqFetchFault hr hmay hleft k, ?_, ?_⟩
    · rw [State.ringFault_of_find hst hr']
      exact ((s.sameMemory_dmaFailed _ _ k).setReg _ _).setRing _ _
    · rw [State.ringFault_of_find hst hr', State.setRing_reg, State.reg_setReg]
      decide

/-! ### Denied writes to host memory (R93, R104) -/

theorem State.onSeq_of_find {s : State} {e : Nat} {q : Sequence} (h : Tab.find s.seqs e = some q) (g : Sequence → Sequence) :
    s.onSeq e g = s.setSeq e (g q) := by
  simp [State.onSeq, h]

/-- The state in which a marked ring pair's completion meets the denial: the completion is given up and the report is made. -/
def State.completionDenied (s : State) (p : Nat) (r : Ring) : State :=
  (s.setRing p { r with admitted := r.admitted - 1, cqFault := none }).dmaFailed (ringVf p) (r.cqbase + 64 * r.cqtail) .denied

/-- The completion of a marked ACTIVE ring pair: the report, FAULT with cause 2, and one completion lost. -/
theorem State.complete_of_marked {s : State} {p : RingPair} {r : Ring} (hr : Tab.find s.rings p = some r) (hmark : r.cqFault = some .denied)
    (hgone : s.cqGone p = false) (hactive : s.ringState p = 1) (c : Completion) : s.complete p c
      = (((s.completionDenied p r).setReg (Reg.QFE_RSTATE p) 0x23).setRing p
          { r with admitted := r.admitted - 1, cqFault := none, signalNow := true }).count (Reg.QFE_CQLOST p) 1 := by
  have hst : (s.completionDenied p r).ringState p ≠ 2 := by
    rw [State.ringState, State.completionDenied, State.ringReg_dmaFailed _ _ _ _ (QFE_RSTATE_lt p), State.setRing_reg, ← State.ringState, hactive]
    decide
  have hr' : Tab.find (s.completionDenied p r).rings p = some { r with admitted := r.admitted - 1, cqFault := none } := by
    rw [State.completionDenied, State.rings_dmaFailed, State.find_setRing]
  rw [State.complete, hr]
  simp only [hgone, hmark, Bool.false_eq_true, if_false]
  exact congrArg (fun t => State.count t (Reg.QFE_CQLOST p) 1) (State.ringFault_of_find hst hr' 2)

/-- The report of a denied write stands in the queue, and the ring pair's registers and memory are untouched by it. -/
theorem State.completionDenied_spec (s : State) (p : RingPair) (r : Ring) :
    SameMemory s (s.completionDenied p r) ∧ (∀ a, a < 0x10000 → (s.completionDenied p r).reg a = s.reg a) ∧
      (s.completionDenied p r).tells { cause := Cause.atsDenied, func := ringVf p, subject := ringVf p } = true := by
  refine ⟨fun a => State.sameMemory_dmaFailed (s.setRing p _) _ _ _ a, fun a ha => State.ringReg_dmaFailed (s.setRing p _) _ _ _ ha, ?_⟩
  obtain ⟨t, -, hrep⟩ := (s.setRing p { r with admitted := r.admitted - 1, cqFault := none }).dmaFailed_reported (ringVf p)
    (r.cqbase + 64 * r.cqtail) .denied
  exact hrep.tells

/-- Settles O14: the mark, the completion that meets it, and the mark of a result write. -/
theorem completionAndResultWriteFaults : Obligations.CompletionAndResultWriteFaults := by
  refine ⟨fun s p r hr => ?_, fun s p r c hr hmark hgone hactive => ?_, fun s e q hq hquery hhome hloud => ?_⟩
  · have hexec : exec (.cqWriteFault p .denied) s = .next (s.setRing p { r with cqFault := some .denied }) :=
      congrArg Host.Outcome.next (State.onRing_of_find hr _)
    exact ⟨_, hexec, fun _ => rfl, fun _ _ => rfl, State.find_setRing _ _ _⟩
  · obtain ⟨hmem, hregs, htells⟩ := s.completionDenied_spec p r
    rw [State.complete_of_marked hr hmark hgone hactive]
    refine ⟨((hmem.setReg _ _).setRing _ _).setReg _ _, ?_, ?_, ?_, _, State.find_setRing _ _ _, rfl, rfl, rfl⟩
    · rw [State.count, State.reg_setReg_other _ _ _ _ (QFE_RSTATE_ne_CQLOST _ _), State.setRing_reg, State.reg_setReg]
      decide
    · rw [State.count, State.reg_setReg, State.setRing_reg, State.reg_setReg_other _ _ _ _ (QFE_RSTATE_ne_CQLOST _ _).symm,
        hregs _ (QFE_CQLOST_lt p)]
    · rw [State.count, State.tells_setReg, State.tells_setRing, State.tells_setReg, htells]
  · have hexec : exec (.resultWriteFault e .denied) s = .next (s.setSeq e { q with resFault := some .denied }) := by
      change Host.Outcome.next (s.onSeq _ _) = _
      rw [State.onSeq_of_find hq]
      simp [hquery, hhome, hloud]
    exact ⟨_, hexec, fun _ => rfl, fun _ _ => rfl, State.find_setSeq _ _ _⟩

end Sys2Proof.Machine
end

section
/-! The Sosin commands on tenants: binding, changing, revoking, restoring and removing one (R153, R189, R319, R455 to R458). -/

namespace Sys2Proof.Machine

/-! ### Tables -/

/-- What a table finds is listed in it. -/
theorem Tab.mem_of_find {α : Type} {t : Tab α} {k : Nat} {x : α} (h : Tab.find t k = some x) : (k, x) ∈ t := by
  induction t with
  | nil => exact absurd h (by simp)
  | cons e t ih =>
    obtain ⟨j, y⟩ := e
    by_cases hj : j = k
    · simp only [Tab.find, if_pos hj, Option.some.injEq] at h
      simp [hj, h]
    · simp only [Tab.find, if_neg hj] at h
      exact List.mem_cons_of_mem _ (ih h)

/-! ### What a command on a tenant leaves alone -/

/-- A command on the tenant of a VF leaves the cells of memory and the other tenants; what memory reads as stays too, where no
kept key can come back (R319). -/
structure TenantFrame (s t : State) (vf : Nat) : Prop where
  mem : t.mem = s.mem
  reads : Tab.find s.far.retained vf = none ∨ (Tab.find s.tenants vf).isSome → SameMemory s t
  others : ∀ j, j ≠ vf → Tab.find t.tenants j = Tab.find s.tenants j

/-- The answer of a command keeps the frame of its effect. -/
theorem TenantFrame.replied {s t : State} {vf : Nat} (h : TenantFrame s t vf) (m k : Nat) (r : Reply) :
    (t.replied m k r).answered m k r.status = true ∧ (t.replied m k r).mem = s.mem ∧
      (Tab.find s.far.retained vf = none ∨ (Tab.find s.tenants vf).isSome → SameMemory s (t.replied m k r)) ∧
      ∀ j, j ≠ vf → Tab.find (t.replied m k r).tenants j = Tab.find s.tenants j :=
  ⟨t.answered_replied m k r, h.mem, fun hc => h.reads hc, h.others⟩

/-- A tenant's summary bit is no memory, register, tenant or partition. -/
theorem State.tenantChanged_eq (s : State) (vf : Nat) : ∃ raised, s.tenantChanged vf = { s with raised := raised } := by
  unfold State.tenantChanged
  split <;> exact ⟨_, rfl⟩

theorem firstFail_of_pass {l : List (Bool × Nat × Nat)} (h : ∀ x ∈ l, x.1 = false) : firstFail l = none := by
  induction l with
  | nil => rfl
  | cons x l ih =>
    obtain ⟨fails, st, det⟩ := x
    have hx : fails = false := h _ List.mem_cons_self
    simp [firstFail, hx, ih fun y hy => h y (List.mem_cons_of_mem _ hy)]

/-! ### TENANT_BIND (R153, R319, R455, R456) -/

/-- `t` differs from `s` in the far tier, the meter and the bits to be raised at most: what a binding does besides its tables. -/
def BindFrame (s t : State) : Prop := t = { s with far := t.far, meter := t.meter, raised := t.raised }

theorem BindFrame.trans {s t u : State} (hst : BindFrame s t) (htu : BindFrame t u) : BindFrame s u := by
  unfold BindFrame at *
  rw [htu, hst]

theorem TunFrame.sameMemory {s t : State} (h : TunFrame s t) : SameMemory s t := by
  rw [h]
  exact fun _ => rfl

theorem State.find_tenants_replied {t : State} {v : Nat} {x : Tenant} (h : Tab.find t.tenants v = some x) (m k : Nat) (r : Reply) :
    Tab.find (t.replied m k r).tenants v = some x := h

theorem State.find_parts_replied {t : State} {v : Nat} {x : Partition} (h : Tab.find t.parts v = some x) (m k : Nat) (r : Reply) :
    Tab.find (t.replied m k r).parts v = some x := h

theorem SameRegs.replied {s t : State} (h : ∀ a, t.reg a = s.reg a) (m k : Nat) (r : Reply) : SameRegs s (t.replied m k r) [] := fun a _ => h a

theorem TunFrame.bindFrame {s t : State} (h : TunFrame s t) : BindFrame s t := by
  rw [h]
  rfl

theorem BindFrame.setKey (s : State) (v : Nat) (x : KeySlot) : BindFrame s (s.setKey v x) := rfl
theorem BindFrame.openAccount (s : State) (vf : Nat) : BindFrame s (s.openAccount vf) := rfl

theorem BindFrame.tenantChanged (s : State) (vf : Nat) : BindFrame s (s.tenantChanged vf) := by
  obtain ⟨raised, h⟩ := s.tenantChanged_eq vf
  rw [h]
  rfl

theorem BindFrame.restoreKey (s : State) (vf : Nat) : BindFrame s (s.restoreKey vf) := by
  unfold State.restoreKey State.installKey
  split
  · exact (BindFrame.setKey _ _ _).trans (TunFrame.returnTuns _).bindFrame
  · rfl

theorem State.restoreKey_of_none {s : State} {vf : Nat} (h : Tab.find s.far.retained vf = none) : s.restoreKey vf = s := by
  simp [State.restoreKey, h]

/-- The state that a binding leaves: the tenant, its slot in the table to be installed, its account, and a key that was kept for it. -/
def State.bound (s : State) (vf part : Nat) (t : Tenant) (p : Partition) : State :=
  ((((s.setTenant vf t).setPart part p).openAccount vf).restoreKey vf).returnTuns.tenantChanged vf

theorem State.bound_frame (s : State) (vf part : Nat) (t : Tenant) (p : Partition) :
    BindFrame ((s.setTenant vf t).setPart part p) (s.bound vf part t p) :=
  (((BindFrame.openAccount _ vf).trans (.restoreKey _ vf)).trans (TunFrame.returnTuns _).bindFrame).trans (.tenantChanged _ vf)

/-- Two changes that leave what memory reads as leave it together, where the first takes no free value. -/
theorem SameMemory.trans {s t u : State} (hst : SameMemory s t) (hfree : t.free = s.free) (htu : SameMemory t u) : SameMemory s u := by
  intro a
  have ht : ({ t with free := s.free } : State) = t := by rw [← hfree]
  calc ({ u with free := s.free } : State).byte a
      = ({ u with free := t.free } : State).byte a := by rw [hfree]
    _ = t.byte a := htu a
    _ = ({ t with free := s.free } : State).byte a := by rw [ht]
    _ = s.byte a := hst a

theorem TunFrame.free {s t : State} (h : TunFrame s t) : t.free = s.free := by rw [h]

theorem SameMemory.tenantChanged (s : State) (vf : Nat) : SameMemory s (s.tenantChanged vf) := by
  obtain ⟨raised, h⟩ := s.tenantChanged_eq vf
  rw [h]
  exact fun _ => rfl

/-- Where no key is kept, a binding leaves what memory reads as. -/
theorem State.sameMemory_bound {s : State} {vf : Nat} (h : Tab.find s.far.retained vf = none) (part : Nat) (t : Tenant) (p : Partition) :
    SameMemory s (s.bound vf part t p) := by
  have htables : SameMemory s (((s.setTenant vf t).setPart part p).openAccount vf) :=
    .of_fields rfl rfl rfl rfl rfl
  have htuns := TunFrame.returnTuns (((s.setTenant vf t).setPart part p).openAccount vf)
  rw [State.bound, State.restoreKey_of_none (s := ((s.setTenant vf t).setPart part p).openAccount vf) h]
  exact (htables.trans rfl htuns.sameMemory).trans htuns.free (.tenantChanged _ vf)

theorem State.reg_bound (s : State) (vf part : Nat) (t : Tenant) (p : Partition) (a : Nat) : (s.bound vf part t p).reg a = s.reg a := by
  rw [s.bound_frame]
  rfl

/-- A binding of a VF that has no tenant: the tenant stands in its table, and its partition's new slot table waits. -/
theorem State.bound_spec (s : State) {vf : Nat} (hnew : Tab.find s.tenants vf = none) (part : Nat) (t : Tenant) (p : Partition) :
    TenantFrame s (s.bound vf part t p) vf ∧ Tab.find (s.bound vf part t p).tenants vf = some t ∧
      Tab.find (s.bound vf part t p).parts part = some p := by
  have hframe := s.bound_frame vf part t p
  have htenants : (s.bound vf part t p).tenants = Tab.insert s.tenants vf t := by rw [hframe]; rfl
  have hparts : (s.bound vf part t p).parts = Tab.insert s.parts part p := by rw [hframe]; rfl
  have hmem : (s.bound vf part t p).mem = s.mem := by rw [hframe]; rfl
  refine ⟨⟨hmem, fun hkey => State.sameMemory_bound (by simpa [hnew] using hkey) part t p, fun j hj => ?_⟩, ?_, ?_⟩
  · rw [htenants, Tab.find_insert_ne _ _ (Ne.symm hj)]
  · rw [htenants, Tab.find_insert_self]
  · rw [hparts, Tab.find_insert_self]

/-- The tenant that TENANT_BIND is asked for. -/
def Cmd.newTenant (c : Cmd) : Tenant :=
  { part := c.fld 1 1, lcmax := c.fld 2 1, seqmax := c.fld 4 2, stkq := c.fld 8 4, poolq := c.fld 12 4, farq := c.fld 16 4,
    perchq := c.fld 6 1, pinmax := c.fld 7 1, conf := c.fld 3 1 == 1, phase := 1 }

/-- Are the operands of TENANT_BIND in range, those that the partition decides included (R153, R456)? -/
structure Cmd.BindOperands (c : Cmd) (p : Partition) : Prop where
  vfLo : 1 ≤ c.fld 0 1
  vfHi : c.fld 0 1 ≤ 64
  lcmax : c.fld 2 1 ≤ 4
  conf : c.fld 3 1 ≤ 1
  lenLo : 10 ≤ c.fld 20 4
  lenHi : c.fld 20 4 ≤ 10000
  ranges : (tenantRanges c.newTenant p).all (fun x => !x.1) = true

theorem tenantRanges_pass {t : Tenant} {p : Partition} (h : (tenantRanges t p).all (fun x => !x.1) = true) : ∀ x ∈ tenantRanges t p, x.1 = false := by
  simpa using h

/-- A tenant within its ranges may have sequences. -/
theorem seqmax_ne_zero {t : Tenant} {p : Partition} (h : (tenantRanges t p).all (fun x => !x.1) = true) : t.seqmax ≠ 0 := by
  have := tenantRanges_pass h _ List.mem_cons_self
  simp only [Bool.or_eq_false_iff, beq_eq_false_iff_ne] at this
  exact this.1

theorem tenantBind_eq {c : Cmd} {s : State} {p : Partition} (hc : c.BindOperands p) (hp : Tab.find s.parts (c.fld 1 1) = some p)
    (hfn : s.fnExists (c.fld 0 1) = true) (hdebug : s.debug = false) (hcount : (s.tenantsOf (c.fld 1 1)).length < 16)
    (htable : p.table.length < 16) (hnew : Tab.find s.tenants (c.fld 0 1) = none)
    (hamount : s.overAmount (c.fld 1 1) (c.fld 0 1) p c.newTenant = none) :
    tenantBind c s = (s.bound (c.fld 0 1) (c.fld 1 1) c.newTenant { p with install := some (p.table ++ [(c.fld 0 1, c.fld 20 4)]) },
      { payload := leBytes 8 (s.bound (c.fld 0 1) (c.fld 1 1) c.newTenant
        { p with install := some (p.table ++ [(c.fld 0 1, c.fld 20 4)]) }).clkTime }) := by
  have hseq : c.fld 4 2 ≠ 0 := seqmax_ne_zero hc.ranges
  have hvf : c.fld 0 1 ≠ 0 := Nat.ne_of_gt hc.vfLo
  unfold tenantBind
  dsimp only
  rw [firstFail_of_pass (by simp [hvf, hc.vfHi, hc.lcmax, hc.conf, hseq, hc.lenLo, hc.lenHi, hfn])]
  simp only [hp]
  refine checked_of_pass s (fun x hx => ?_) _
  rcases List.mem_append.mp hx with hx | hx
  · exact tenantRanges_pass hc.ranges x hx
  · have hover : (s.overAmount (c.fld 1 1) (c.fld 0 1) p c.newTenant).isSome = false := by rw [hamount]; rfl
    simp only [List.mem_cons, List.not_mem_nil, or_false] at hx
    rcases hx with rfl | rfl | rfl | rfl
    · exact hdebug
    · simpa using ⟨hcount, htable⟩
    · simp [hnew]
    · exact hover

/-! ### TENANT_MODIFY (R155, R456) -/

/-- What the mask of TENANT_MODIFY names is stored, and the rest kept. -/
def Cmd.changedTenant (c : Cmd) (t : Tenant) : Tenant :=
  { t with
    lcmax := if bit (c.fld 1 1) 0 then c.fld 2 1 else t.lcmax, seqmax := if bit (c.fld 1 1) 1 then c.fld 4 2 else t.seqmax,
    stkq := if bit (c.fld 1 1) 2 then c.fld 8 4 else t.stkq, poolq := if bit (c.fld 1 1) 3 then c.fld 12 4 else t.poolq,
    farq := if bit (c.fld 1 1) 4 then c.fld 16 4 else t.farq, perchq := if bit (c.fld 1 1) 5 then c.fld 6 1 else t.perchq,
    pinmax := if bit (c.fld 1 1) 5 then c.fld 7 1 else t.pinmax }

/-- Does a tenant's use keep within changed settings (R456)? -/
structure State.UseWithin (s : State) (vf : Nat) (old new : Tenant) : Prop where
  stacked : old.stkUsed ≤ new.stkq * 2 ^ 21
  pool : old.poolUsed ≤ new.poolq * 2 ^ 16
  far : old.farUsed ≤ new.farq * 2 ^ 21
  seqs : s.seqsOf vf ≤ new.seqmax
  perches : s.perchesOf [vf] ≤ new.perchq
  pinned : s.pinnedPerches vf ≤ new.pinmax

theorem tenantModify_eq {c : Cmd} {s : State} {old : Tenant} {p : Partition} (hlo : 1 ≤ c.fld 0 1) (hhi : c.fld 0 1 ≤ 64)
    (hold : Tab.find s.tenants (c.fld 0 1) = some old) (hp : Tab.find s.parts old.part = some p) (htdi : s.tdiLocked (c.fld 0 1) = false)
    (hclass : bit (c.fld 1 1) 0 = true → c.fld 2 1 ≤ 4) (hranges : (tenantRanges (c.changedTenant old) p).all (fun x => !x.1) = true)
    (hamount : s.overAmount old.part (c.fld 0 1) p (c.changedTenant old) = none)
    (huse : s.UseWithin (c.fld 0 1) old (c.changedTenant old)) :
    tenantModify c s = (s.setTenant (c.fld 0 1) (c.changedTenant old), {}) := by
  have hvf : c.fld 0 1 ≠ 0 := Nat.ne_of_gt hlo
  have hclass' : (bit (c.fld 1 1) 0 && decide (4 < c.fld 2 1)) = false := by
    cases hb : bit (c.fld 1 1) 0 with
    | false => rfl
    | true => simpa using hclass hb
  unfold tenantModify
  dsimp only
  rw [firstFail_of_pass (by simp [hvf, hhi, hclass'])]
  simp only [hold, hp]
  refine (checked_of_pass s (fun x hx => ?_) _).trans (by simp only [htdi, Bool.false_eq_true, if_false]; rfl)
  rcases List.mem_append.mp hx with hx | hx
  · exact tenantRanges_pass hranges x hx
  · have hover : (s.overAmount old.part (c.fld 0 1) p (c.changedTenant old)).isSome = false := by rw [hamount]; rfl
    simp only [List.mem_cons, List.not_mem_nil, or_false] at hx
    rcases hx with rfl | rfl
    · obtain ⟨hstk, hpool, hfar, hseqs, hperches, hpinned⟩ := huse
      simp only [htdi, Bool.false_and, Bool.or_false, Bool.or_eq_false_iff, decide_eq_false_iff_not, Nat.not_lt, and_assoc]
      exact ⟨hstk, hpool, hfar, hseqs, hperches, hpinned⟩
    · exact hover

/-! ### Revocation (R189) -/

/-- What a revocation does to a ring pair: one that is ACTIVE or in FAULT enters STOPPED, its cause kept, and signals (R88, R491). -/
def stopRing (x : Nat × Ring) (s : State) : State :=
  if s.ringState x.1 = 1 || s.ringState x.1 = 3 then
    (s.setReg (Reg.QFE_RSTATE x.1) (s.reg (Reg.QFE_RSTATE x.1) / 4 * 4 + 2)).setRing x.1 { x.2 with signalNow := true }
  else s

/-- RSTATE of a ring pair that is stopped: STATE 1 and 3 become 2. -/
def stoppedState (v : Nat) : Nat := if v % 4 = 1 ∨ v % 4 = 3 then v / 4 * 4 + 2 else v

theorem stoppedState_idem (v : Nat) : stoppedState (stoppedState v) = stoppedState v := by
  unfold stoppedState
  by_cases h : v % 4 = 1 ∨ v % 4 = 3
  · have hstop : ¬ ((v / 4 * 4 + 2) % 4 = 1 ∨ (v / 4 * 4 + 2) % 4 = 3) := by omega
    rw [if_pos h, if_neg hstop]
  · rw [if_neg h, if_neg h]

theorem State.ringState_eq (s : State) (p : Nat) : s.ringState p = s.reg (Reg.QFE_RSTATE p) % 4 := by simp [State.ringState, bits]

theorem reg_stopRing_other (x : Nat × Ring) (s : State) {a : Nat} (h : a ≠ Reg.QFE_RSTATE x.1) : (stopRing x s).reg a = s.reg a := by
  unfold stopRing
  split
  · exact State.reg_setReg_other _ _ _ _ h
  · rfl

theorem reg_stopRing_same (x : Nat × Ring) (s : State) :
    (stopRing x s).reg (Reg.QFE_RSTATE x.1) = stoppedState (s.reg (Reg.QFE_RSTATE x.1)) := by
  have hlt := s.reg_lt (Reg.QFE_RSTATE x.1)
  unfold stopRing stoppedState
  simp only [State.ringState_eq, Bool.or_eq_true, decide_eq_true_eq]
  split
  · rw [State.setRing_reg, State.reg_setReg, Nat.mod_eq_of_lt (by omega)]
  · rfl

theorem QFE_RSTATE_inj {p q : Nat} : Reg.QFE_RSTATE p = Reg.QFE_RSTATE q ↔ p = q := by
  simp only [Reg.QFE_RSTATE]; omega

/-- Every ring pair of a list is stopped, however often the list names it. -/
theorem reg_stopRings (l : List (Nat × Ring)) (s : State) (p : Nat) : (forAll l stopRing s).reg (Reg.QFE_RSTATE p)
    = if ∃ x ∈ l, x.1 = p then stoppedState (s.reg (Reg.QFE_RSTATE p)) else s.reg (Reg.QFE_RSTATE p) := by
  induction l generalizing s with
  | nil => simp [forAll]
  | cons x l ih =>
    change (forAll l stopRing (stopRing x s)).reg _ = _
    rw [ih]
    by_cases hx : x.1 = p
    · subst hx
      rw [reg_stopRing_same, stoppedState_idem, ite_self, if_pos ⟨x, List.mem_cons_self, rfl⟩]
    · have hne : Reg.QFE_RSTATE p ≠ Reg.QFE_RSTATE x.1 := fun h => hx (QFE_RSTATE_inj.mp h).symm
      simp only [reg_stopRing_other x s hne, List.exists_mem_cons_iff, hx, false_or]

theorem reg_stopRings_other {l : List (Nat × Ring)} {a : Nat} (h : ∀ x ∈ l, a ≠ Reg.QFE_RSTATE x.1) (s : State) :
    (forAll l stopRing s).reg a = s.reg a :=
  forAll_keeps (P := fun t => t.reg a = s.reg a) (fun x hx t ht => (reg_stopRing_other x t (h x hx)).trans ht) rfl

/-- `t` differs from `s` in registers and ring pairs at most. -/
def StopFrame (s t : State) : Prop := t = { s with regs := t.regs, rings := t.rings }

theorem StopFrame.stopRings (l : List (Nat × Ring)) (s : State) : StopFrame s (forAll l stopRing s) := by
  refine forAll_keeps (P := StopFrame s) (fun x _ t ht => ?_) rfl
  have hstep : StopFrame t (stopRing x t) := by
    unfold stopRing
    split <;> rfl
  unfold StopFrame at *
  rw [hstep, ht]

/-- The ring pairs of a VF. -/
def State.ringsOf (s : State) (vf : Nat) : List (Nat × Ring) := s.rings.filter (fun x => ringVf x.1 == vf)

theorem State.revokeTenant_eq {s : State} {vf : Nat} {old : Tenant} (hold : Tab.find s.tenants vf = some old) (hvf : vf ≤ 64) :
    s.revokeTenant vf false = (forAll (s.ringsOf vf) stopRing s).setTenant vf { old with revoked := true, revokeDue := some (s.tick + 1) } := by
  have htick : (forAll (s.ringsOf vf) stopRing s).tick = s.tick := by
    refine reg_stopRings_other (fun x hx => ?_) s
    have hpair : ringVf x.1 = vf := by simpa using (List.mem_filter.mp hx).2
    have hnum : x.1 / 16 + 1 ≤ 64 := Nat.le_trans (Nat.le_of_eq hpair) hvf
    simp only [Reg.STB_TICK, Reg.QFE_RSTATE]
    omega
  have hold' : Tab.find (forAll (s.ringsOf vf) stopRing s).tenants vf = some old := by rw [StopFrame.stopRings]; exact hold
  have hstep : (fun (x : Nat × Ring) (t : State) => if false = true then t.setReg (Reg.QFE_RSTATE x.1) 0 else
      if t.ringState x.1 = 1 || t.ringState x.1 = 3 then
        (t.setReg (Reg.QFE_RSTATE x.1) (t.reg (Reg.QFE_RSTATE x.1) / 4 * 4 + 2)).setRing x.1 { x.2 with signalNow := true }
      else t) = stopRing := rfl
  unfold State.revokeTenant
  rw [hstep]
  change (forAll (s.ringsOf vf) stopRing s).onTenant _ _ = _
  rw [State.onTenant_of_find hold']
  simp only [State.ringsOf] at htick
  simp [State.ringsOf, htick]

/-- The state that TENANT_REVOKE and the first step of TENANT_REMOVE leave: the tenant's ring pairs stopped, and the tenant marked. -/
def State.revoked (s : State) (vf : Nat) (old : Tenant) : State :=
  ((forAll (s.ringsOf vf) stopRing s).setTenant vf { old with revoked := true, revokeDue := some (s.tick + 1) }).tenantChanged vf

theorem State.revoked_frame (s : State) (vf : Nat) (old : Tenant) : TenantFrame s (s.revoked vf old) vf := by
  obtain ⟨raised, h⟩ :=
    ((forAll (s.ringsOf vf) stopRing s).setTenant vf { old with revoked := true, revokeDue := some (s.tick + 1) }).tenantChanged_eq vf
  rw [State.revoked, h, StopFrame.stopRings]
  exact ⟨rfl, fun _ => .of_fields rfl rfl rfl rfl rfl, fun j hj => Tab.find_insert_ne _ _ (Ne.symm hj)⟩

theorem State.reg_revoked (s : State) (vf : Nat) (old : Tenant) (a : Nat) :
    (s.revoked vf old).reg a = (forAll (s.ringsOf vf) stopRing s).reg a := by
  obtain ⟨raised, h⟩ :=
    ((forAll (s.ringsOf vf) stopRing s).setTenant vf { old with revoked := true, revokeDue := some (s.tick + 1) }).tenantChanged_eq vf
  rw [State.revoked, h]
  rfl

theorem State.find_revoked (s : State) (vf : Nat) (old : Tenant) :
    Tab.find (s.revoked vf old).tenants vf = some { old with revoked := true, revokeDue := some (s.tick + 1) } := by
  obtain ⟨raised, h⟩ :=
    ((forAll (s.ringsOf vf) stopRing s).setTenant vf { old with revoked := true, revokeDue := some (s.tick + 1) }).tenantChanged_eq vf
  rw [State.revoked, h]
  exact State.find_setTenant _ _ _

/-- Each ring pair of a VF that was ACTIVE or in FAULT is STOPPED with its cause, and no other register changes. -/
def StopsRings (s t : State) (vf : Nat) : Prop :=
  (∀ p r, Tab.find s.rings p = some r → ringVf p = vf → s.ringState p = 1 ∨ s.ringState p = 3 →
    t.ringState p = 2 ∧ t.reg (Reg.QFE_RSTATE p) / 4 = s.reg (Reg.QFE_RSTATE p) / 4) ∧
  ∀ a, (∀ p, ringVf p = vf → a ≠ Reg.QFE_RSTATE p) → t.reg a = s.reg a

theorem StopsRings.replied {s t : State} {vf : Nat} (h : StopsRings s t vf) (m k : Nat) (r : Reply) : StopsRings s (t.replied m k r) vf := h

theorem State.revoked_stops (s : State) (vf : Nat) (old : Tenant) : StopsRings s (s.revoked vf old) vf := by
  refine ⟨fun p r hr hp hst => ?_, fun a ha => ?_⟩
  · have hlisted : ∃ x ∈ s.ringsOf vf, x.1 = p := ⟨(p, r), List.mem_filter.mpr ⟨Tab.mem_of_find hr, by simp [hp]⟩, rfl⟩
    rw [State.ringState_eq] at hst
    have hreg : (s.revoked vf old).reg (Reg.QFE_RSTATE p) = s.reg (Reg.QFE_RSTATE p) / 4 * 4 + 2 := by
      rw [State.reg_revoked, reg_stopRings, if_pos hlisted, stoppedState, if_pos hst]
    rw [State.ringState_eq, hreg]
    omega
  · rw [State.reg_revoked]
    exact reg_stopRings_other (fun x hx => ha x.1 (by simpa using (List.mem_filter.mp hx).2)) s

/-! ### TENANT_REVOKE, TENANT_RESTORE, TENANT_REMOVE (R458) -/

theorem onTenant_of_bound {c : Cmd} {s : State} {old : Tenant} (hlo : 1 ≤ c.fld 0 1) (hhi : c.fld 0 1 ≤ 64)
    (hold : Tab.find s.tenants (c.fld 0 1) = some old) (f : Nat → Tenant → State → State × Reply) :
    onTenant_ c s f = f (c.fld 0 1) old s := by
  have hrange : ¬ (c.fld 0 1 = 0 ∨ 64 < c.fld 0 1) := by omega
  simp [onTenant_, hrange, hold]

theorem tenantRevoke_eq {c : Cmd} {s : State} {old : Tenant} (hlo : 1 ≤ c.fld 0 1) (hhi : c.fld 0 1 ≤ 64)
    (hold : Tab.find s.tenants (c.fld 0 1) = some old) :
    tenantRevoke c s = (s.revoked (c.fld 0 1) old, { wait := .revoke (c.fld 0 1) false }) := by
  rw [tenantRevoke, onTenant_of_bound hlo hhi hold, State.revokeTenant_eq hold hhi, State.revoked]

theorem tenantRestore_eq {c : Cmd} {s : State} {old : Tenant} (hlo : 1 ≤ c.fld 0 1) (hhi : c.fld 0 1 ≤ 64)
    (hold : Tab.find s.tenants (c.fld 0 1) = some old) :
    tenantRestore c s = ((s.setTenant (c.fld 0 1) { old with revoked := false }).tenantChanged (c.fld 0 1), {}) :=
  onTenant_of_bound hlo hhi hold _

/-- A tenant that is stored with its summary bit raised. -/
theorem State.restored_spec (s : State) (vf : Nat) (t : Tenant) : TenantFrame s ((s.setTenant vf t).tenantChanged vf) vf ∧
    (∀ a, ((s.setTenant vf t).tenantChanged vf).reg a = s.reg a) ∧ ((s.setTenant vf t).tenantChanged vf).rings = s.rings ∧
      Tab.find ((s.setTenant vf t).tenantChanged vf).tenants vf = some t := by
  obtain ⟨raised, h⟩ := (s.setTenant vf t).tenantChanged_eq vf
  rw [h]
  exact ⟨⟨rfl, fun _ => .of_fields rfl rfl rfl rfl rfl, fun j hj => Tab.find_insert_ne _ _ (Ne.symm hj)⟩, fun _ => rfl, rfl, Tab.find_insert_self _ _ _⟩

theorem tenantRemove_eq {c : Cmd} {s : State} {old : Tenant} (hlo : 1 ≤ c.fld 0 1) (hhi : c.fld 0 1 ≤ 64)
    (hold : Tab.find s.tenants (c.fld 0 1) = some old) (htdi : s.tdiLocked (c.fld 0 1) = false) :
    tenantRemove c s = (s.revoked (c.fld 0 1) old, { wait := .revoke (c.fld 0 1) true }) := by
  have hkept : s.tdiError (c.fld 0 1) = s := by simp [State.tdiError, htdi]
  rw [tenantRemove, onTenant_of_bound hlo hhi hold, hkept, State.revokeTenant_eq hold hhi, State.revoked]

/-- Settles O48, command by command. -/
theorem tenantCommands : Obligations.TenantCommands := by
  intro s m k c vf same stopped hlo hhi
  refine ⟨fun p hadm hp => ?_, fun old p hadm hold hp _ htdi => ?_, fun old hadm hold => ?_, fun old hadm hold => ?_,
    fun old hadm hold htdi => ?_⟩
  · intro new hlc hconf hlen hlen' hfn hranges hdebug hcount htable hnew hamount
    have hrun := State.runCmd_eq_replied hadm
      (tenantBind_eq (c := c) ⟨hlo, hhi, hlc, hconf, hlen, hlen', hranges⟩ hp hfn hdebug hcount htable hnew hamount)
    obtain ⟨hframe, htenant, hparts⟩ :=
      s.bound_spec hnew (c.fld 1 1) c.newTenant { p with install := some (p.table ++ [(c.fld 0 1, c.fld 20 4)]) }
    exact ⟨_, congrArg Host.Outcome.next hrun, hframe.replied _ _ _, .replied (s.reg_bound _ _ _ _) _ _ _,
      State.find_tenants_replied htenant _ _ _, State.find_parts_replied hparts _ _ _⟩
  · intro mask new hclass hranges hamount hstk hpool hfar hseqs hperches hpinned
    have hrun := State.runCmd_eq_replied hadm
      (tenantModify_eq (c := c) hlo hhi hold hp htdi hclass hranges hamount ⟨hstk, hpool, hfar, hseqs, hperches, hpinned⟩)
    have hframe : TenantFrame s (s.setTenant vf new) vf :=
      ⟨rfl, fun _ => .of_fields rfl rfl rfl rfl rfl, fun j hj => State.find_setTenant_other _ _ _ _ hj⟩
    exact ⟨_, congrArg Host.Outcome.next hrun, hframe.replied _ _ _, .replied (fun _ => rfl) _ _ _,
      State.find_tenants_replied (State.find_setTenant _ _ _) _ _ _⟩
  · have hrun := State.runCmd_eq_replied hadm (tenantRevoke_eq (c := c) hlo hhi hold)
    exact ⟨_, congrArg Host.Outcome.next hrun, (s.revoked_frame vf old).replied _ _ _, (s.revoked_stops vf old).replied _ _ _,
      State.find_tenants_replied (s.find_revoked vf old) _ _ _⟩
  · have hrun := State.runCmd_eq_replied hadm (tenantRestore_eq (c := c) hlo hhi hold)
    obtain ⟨hframe, hregs, hrings, htenant⟩ := s.restored_spec vf { old with revoked := false }
    exact ⟨_, congrArg Host.Outcome.next hrun, hframe.replied _ _ _, .replied hregs _ _ _, (State.rings_replied _ _ _ _).trans hrings,
      State.find_tenants_replied htenant _ _ _⟩
  · have hrun := State.runCmd_eq_replied hadm (tenantRemove_eq (c := c) hlo hhi hold htdi)
    exact ⟨_, congrArg Host.Outcome.next hrun, (s.revoked_frame vf old).replied _ _ _, (s.revoked_stops vf old).replied _ _ _,
      State.find_tenants_replied (s.find_revoked vf old) _ _ _, State.wait_replied _ _ _ _⟩

end Sys2Proof.Machine
end

section
/-! How cancels, deadlines and revocations end sequences (R116 to R118, R132, R189): what the end of one sequence leaves alone, and
what it leaves of the sequence itself. -/

namespace Sys2Proof.Machine

/-! ### Changes of one sequence -/

/-- `t` differs from `s` in no ring pair, no tenant and no sequence but that of one entry. -/
structure OnlySeq (s t : State) (e : Nat) : Prop where
  rings : t.rings = s.rings
  tenants : t.tenants = s.tenants
  others : ∀ k, k ≠ e → Tab.find t.seqs k = Tab.find s.seqs k

theorem OnlySeq.trans {s t u : State} {e : Nat} (hst : OnlySeq s t e) (htu : OnlySeq t u e) : OnlySeq s u e :=
  ⟨htu.rings.trans hst.rings, htu.tenants.trans hst.tenants, fun k hk => (htu.others k hk).trans (hst.others k hk)⟩

/-- What keeps ring pairs, tenants and sequences. -/
theorem OnlySeq.of_eq {s t : State} (e : Nat) (hr : t.rings = s.rings) (ht : t.tenants = s.tenants) (hq : t.seqs = s.seqs) : OnlySeq s t e :=
  ⟨hr, ht, fun k _ => by rw [hq]⟩

theorem OnlySeq.refl (s : State) (e : Nat) : OnlySeq s s e := .of_eq e rfl rfl rfl

theorem OnlySeq.setSeq (s : State) (e : Nat) (q : Sequence) : OnlySeq s (s.setSeq e q) e :=
  ⟨rfl, rfl, fun k hk => State.find_setSeq_other s e q k hk⟩

theorem OnlySeq.dropSeq (s : State) (e : Nat) : OnlySeq s (s.dropSeq e) e := ⟨rfl, rfl, fun _ hk => Tab.find_erase_ne _ (Ne.symm hk)⟩

theorem OnlySeq.onSeq (s : State) (e : Nat) (f : Sequence → Sequence) : OnlySeq s (s.onSeq e f) e := by
  unfold State.onSeq
  split
  · exact .setSeq _ _ _
  · exact .refl s e

/-- A change of an index is none of a ring pair, tenant or sequence. -/
theorem State.onIndex_frame {β : Type} {g : State → β} (hg : ∀ s h i, g (State.setIndex s h i) = g s) (s : State) (h : Nat)
    (f : Index → Index) : g (s.onIndex h f) = g s := by
  unfold State.onIndex
  split
  · exact hg _ _ _
  · rfl

theorem OnlySeq.onIndex (s : State) (h : Nat) (f : Index → Index) (e : Nat) : OnlySeq s (s.onIndex h f) e :=
  .of_eq e (State.onIndex_frame (g := State.rings) (fun _ _ _ => rfl) s h f)
    (State.onIndex_frame (g := State.tenants) (fun _ _ _ => rfl) s h f) (State.onIndex_frame (g := State.seqs) (fun _ _ _ => rfl) s h f)

theorem OnlySeq.onImage (s : State) (h : Nat) (f : Image → Image) (e : Nat) : OnlySeq s (s.onImage h f) e := by
  unfold State.onImage
  split
  · exact .of_eq e rfl rfl rfl
  · exact .refl s e

theorem OnlySeq.onFilter (s : State) (h : Nat) (f : Filter → Filter) (e : Nat) : OnlySeq s (s.onFilter h f) e := by
  unfold State.onFilter
  split
  · exact .of_eq e rfl rfl rfl
  · exact .refl s e

/-! ### Messages (R383) -/

/-- `t` differs from `s` in the fabric and in the activity that the meter counts at most. -/
def SendFrame (s t : State) : Prop := t = { s with fab := t.fab, meter := t.meter }

theorem SendFrame.refl (s : State) : SendFrame s s := rfl

theorem SendFrame.trans {s t u : State} (hst : SendFrame s t) (htu : SendFrame t u) : SendFrame s u := by
  unfold SendFrame at *
  rw [htu, hst]

theorem SendFrame.act (s : State) (c owner n : Nat) : SendFrame s (s.act c owner n) := by
  unfold State.act
  split
  · exact .refl s
  · unfold State.addModel
    dsimp only
    split
    · rfl
    · exact .refl s

theorem SendFrame.setFabPort (s : State) (n : Nat) (x : FabPort) : SendFrame s (s.setFabPort n x) := rfl

/-- Sending moves flits to a port and counts them. -/
theorem SendFrame.sendOn (s : State) (p lane : Nat) (m : Msg) : SendFrame s (s.sendOn p lane m) := by
  unfold State.sendOn
  extract_lets n x slow q fab aged counted
  split
  · have haged : SendFrame s aged := rfl
    exact (haged.trans (.act aged _ _ _)).trans (.setFabPort counted _ _)
  · exact .refl s

theorem SendFrame.sendDown (s : State) (h : Nat) (box : List (Int × Int)) (m : Msg) : SendFrame s (s.sendDown h box m) :=
  forAll_keeps (P := SendFrame s) (fun _ _ t ht => ht.trans (.sendOn t _ _ _)) (.refl s)

theorem SendFrame.onlySeq {s t : State} (h : SendFrame s t) (e : Nat) : OnlySeq s t e := by
  rw [h]
  exact .of_eq e rfl rfl rfl

theorem SendFrame.seqs {s t : State} (h : SendFrame s t) : t.seqs = s.seqs := by rw [h]

/-! ### What the end of a sequence leaves alone -/

theorem OnlySeq.dropEnc (s : State) (q : Sequence) (e : Nat) : OnlySeq s (s.dropEnc q) e := by
  unfold State.dropEnc
  split
  · split
    · exact .onImage _ _ _ _
    · exact .refl s e
  · exact .refl s e

theorem State.seqs_dropEnc (s : State) (q : Sequence) : (s.dropEnc q).seqs = s.seqs := by
  unfold State.dropEnc State.onImage
  split
  · split
    · split <;> rfl
    · rfl
  · rfl

theorem OnlySeq.dropSems (s : State) (e : Nat) : OnlySeq s (s.dropSems e) e := by
  unfold State.dropSems
  split
  · exact .refl s e
  · exact (OnlySeq.setSeq _ _ _).trans (.onIndex _ _ _ _)

theorem OnlySeq.dropReads (s : State) (e k : Nat) : OnlySeq s (s.dropReads e) k := .of_eq k rfl rfl rfl

theorem OnlySeq.newIssue (s : State) (e : Nat) : OnlySeq s (s.newIssue e) e := by
  unfold State.newIssue
  extract_lets counted
  have hcounted : OnlySeq s counted e := .of_eq e rfl rfl rfl
  exact hcounted.trans (.onSeq counted e _)

theorem OnlySeq.discardReads (s : State) (e : Nat) : OnlySeq s (s.discardReads e) e := (OnlySeq.dropReads s e e).trans (.newIssue _ e)

theorem OnlySeq.endSeq (s : State) (e : Nat) (st : Status) (silent : Bool) : OnlySeq s (s.endSeq e st silent) e := by
  unfold State.endSeq
  split
  · exact .refl s e
  · split
    · exact .refl s e
    · split
      · exact .setSeq _ _ _
      · exact (((OnlySeq.dropEnc s _ e).trans (.dropSems _ e)).trans (.discardReads _ e)).trans (.onSeq _ _ _)

theorem OnlySeq.closeLane (s : State) (e : Nat) : OnlySeq s (s.closeLane e) e := by
  unfold State.closeLane
  split
  · exact .refl s e
  · split
    · extract_lets remote listed dropped
      have hdropped : OnlySeq listed dropped e := .of_eq e rfl rfl rfl
      exact ((OnlySeq.setSeq s e _).trans hdropped).trans ((SendFrame.sendDown dropped _ _ _).onlySeq e)
    · exact .refl s e

theorem OnlySeq.endQuery (s : State) (e : Nat) (st : Status) : OnlySeq s (s.endQuery e st) e := by
  unfold State.endQuery
  split
  · exact .refl s e
  · split
    · exact .endSeq s e st false
    · exact (OnlySeq.closeLane s e).trans (.endSeq _ e st false)

theorem OnlySeq.release (s : State) (e : Nat) : OnlySeq s (s.release e) e := by
  unfold State.release
  split
  · exact .refl s e
  next q _ =>
    have hpins : ∀ t : State, OnlySeq t ((t.unpin q).unpinFilter q) e := fun t => by
      refine OnlySeq.trans (t := t.unpin q) ?_ ?_
      · unfold State.unpin
        split
        · exact .onIndex _ _ _ _
        · exact .refl t e
      · unfold State.unpinFilter
        split
        · exact .onFilter _ _ _ _
        · exact .refl _ e
    exact (((((OnlySeq.dropReads s e e).trans (.dropSems _ e)).trans (.dropEnc _ q e)).trans (hpins _)).trans (.onIndex _ _ _ e)).trans (.dropSeq _ e)

theorem OnlySeq.revokeSeq (s : State) (e : Nat) (silent : Bool) : OnlySeq s (s.revokeSeq e silent) e := by
  unfold State.revokeSeq
  split
  · exact .refl s e
  next q _ =>
    split
    · split
      · exact .refl s e
      · exact (OnlySeq.discardReads s e).trans (.release _ e)
    · split
      · split
        · exact (OnlySeq.closeLane s e).trans (.endSeq _ e _ _)
        · exact .endSeq s e _ _
      · split
        · exact .setSeq _ _ _
        · exact .refl s e

/-! ### What the end of a sequence makes of it -/

/-- What of a sequence does not change as it ends: its ring pair and descriptor, its tenant, its home, and how far it has come. -/
structure SeqWork where
  rp : Option Nat
  opcode : Nat
  tag : Nat
  vf : Nat
  home : Option (Nat × Nat)
  committing : Bool
  stage : Nat

def Sequence.work (q : Sequence) : SeqWork :=
  { rp := q.rp, opcode := q.opcode, tag := q.tag, vf := q.vf, home := q.home, committing := q.committing, stage := q.stage }

/-- The same work has the same kind, and is as far from its commit. -/
theorem Sequence.isQuery_of_work {q r : Sequence} (h : r.work = q.work) : r.isQuery = q.isQuery :=
  congrArg (fun w : SeqWork => w.opcode == 1) h

theorem Sequence.endable_of_work {q r : Sequence} (h : r.work = q.work) : r.endable = q.endable :=
  congrArg (fun w : SeqWork => !w.committing && w.stage != stFIN && w.stage != stCOMMIT && w.stage != stUPSEND) h

/-- A sequence of an entry meets a condition. -/
def State.seqHas (s : State) (e : Nat) (D : Sequence → Prop) : Prop := ∃ q, Tab.find s.seqs e = some q ∧ D q

theorem State.seqHas_setSeq {s : State} {e : Nat} {q : Sequence} {D : Sequence → Prop} (h : D q) : (s.setSeq e q).seqHas e D :=
  ⟨q, State.find_setSeq s e q, h⟩

/-- A change of a sequence that keeps a condition. -/
theorem State.seqHas_onSeq {s : State} {e : Nat} {f : Sequence → Sequence} {C D : Sequence → Prop} (hs : s.seqHas e C)
    (h : ∀ q, C q → D (f q)) : (s.onSeq e f).seqHas e D := by
  obtain ⟨q, hq, hC⟩ := hs
  rw [State.onSeq_of_find hq]
  exact State.seqHas_setSeq (h q hC)

theorem State.seqHas_of_seqs {s t : State} {e : Nat} {D : Sequence → Prop} (h : t.seqs = s.seqs) (hs : s.seqHas e D) : t.seqHas e D := by
  obtain ⟨q, hq, hD⟩ := hs
  exact ⟨q, by rw [h, hq], hD⟩

/-! #### Reads, semaphores and lanes given up -/

/-- A condition that speaks of neither reads nor semaphores nor the lane's list: what the steps of an end keep. -/
structure EndKeeps (D : Sequence → Prop) : Prop where
  sems : ∀ q, D q → D { q with sems := [], waitsOn := [] }
  issue : ∀ q n, D q → D { q with issue := n, pending := 0, lines := [], gotLines := [], landed := [], frames := [], returned := [], nbrs := [], listWait := [] }
  remote : ∀ q r, D q → D { q with remote := r }

section
variable {D : Sequence → Prop} (hD : EndKeeps D) {s : State} {e : Nat}
include hD

theorem EndKeeps.dropSems (hs : s.seqHas e D) : (s.dropSems e).seqHas e D := by
  obtain ⟨q, hq, h⟩ := hs
  unfold State.dropSems
  rw [hq]
  exact State.seqHas_of_seqs (State.onIndex_frame (g := State.seqs) (fun _ _ _ => rfl) _ _ _) (State.seqHas_setSeq (hD.sems q h))

theorem EndKeeps.newIssue (hs : s.seqHas e D) : (s.newIssue e).seqHas e D := by
  unfold State.newIssue
  extract_lets counted
  have hcounted : counted.seqHas e D := State.seqHas_of_seqs rfl hs
  exact State.seqHas_onSeq hcounted fun q h => hD.issue q _ h

theorem EndKeeps.discardReads (hs : s.seqHas e D) : (s.discardReads e).seqHas e D :=
  hD.newIssue (State.seqHas_of_seqs (s := s) rfl hs)

theorem EndKeeps.closeLane (hs : s.seqHas e D) : (s.closeLane e).seqHas e D := by
  obtain ⟨q, hq, h⟩ := hs
  unfold State.closeLane
  rw [hq]
  dsimp only
  split
  · exact State.seqHas_of_seqs (SendFrame.sendDown _ _ _ _).seqs
      (State.seqHas_of_seqs (s := s.setSeq e _) rfl (State.seqHas_setSeq (hD.remote q _ h)))
  · exact ⟨q, hq, h⟩

end

/-- A sequence with given work that has not ended. -/
def Running (w : SeqWork) (q : Sequence) : Prop := q.work = w ∧ q.ending = none

/-- A sequence with given work that has ended, in a phase. -/
def Ended (w : SeqWork) (st : Status) (ph : SeqPhase) (q : Sequence) : Prop := q.work = w ∧ q.ending = some st ∧ q.phase = ph

theorem Running.endKeeps (w : SeqWork) : EndKeeps (Running w) := ⟨fun _ h => h, fun _ _ h => h, fun _ _ h => h⟩
theorem Ended.endKeeps (w : SeqWork) (st : Status) (ph : SeqPhase) : EndKeeps (Ended w st ph) := ⟨fun _ h => h, fun _ _ h => h, fun _ _ h => h⟩

section
variable {s : State} {e : Nat} {w : SeqWork} (hw : w.committing = false)
include hw

/-- An end that meets a running sequence decides its status (R132). -/
theorem State.endSeq_running (hs : s.seqHas e (Running w)) (st : Status) (silent : Bool) :
    (s.endSeq e st silent).seqHas e (Ended w st .done) := by
  obtain ⟨q, hq, hwork, hrun⟩ := hs
  have hcommit : q.committing = false := (congrArg SeqWork.committing hwork).trans hw
  have hgiven : (((s.dropEnc q).dropSems e).discardReads e).seqHas e (Running w) := by
    have henc : (s.dropEnc q).seqHas e (Running w) := State.seqHas_of_seqs (State.seqs_dropEnc s q) ⟨q, hq, hwork, hrun⟩
    exact (Running.endKeeps w).discardReads ((Running.endKeeps w).dropSems henc)
  unfold State.endSeq
  simp only [hq, hcommit, hrun]
  exact State.seqHas_onSeq hgiven fun r h => ⟨h.1, rfl, rfl⟩

/-- An end that meets a sequence already ended: the first row of Table 1.4 that applies decides (R52). -/
theorem State.endSeq_ended {old : Status} {ph : SeqPhase} (hs : s.seqHas e (Ended w old ph)) (st : Status) (silent : Bool) :
    (s.endSeq e st silent).seqHas e (Ended w (if outranked old st then st else old) ph) := by
  obtain ⟨q, hq, hwork, hold, hph⟩ := hs
  have hcommit : q.committing = false := (congrArg SeqWork.committing hwork).trans hw
  unfold State.endSeq
  rw [hq]
  dsimp only
  rw [if_neg (by simp [hcommit]), hold]
  exact State.seqHas_setSeq ⟨hwork, rfl, hph⟩

theorem State.endQuery_running (hs : s.seqHas e (Running w)) (st : Status) : (s.endQuery e st).seqHas e (Ended w st .done) := by
  obtain ⟨q, hq, hwork, hrun⟩ := hs
  have hcommit : q.committing = false := (congrArg SeqWork.committing hwork).trans hw
  unfold State.endQuery
  simp only [hq, hcommit, hrun]
  exact State.endSeq_running hw ((Running.endKeeps w).closeLane ⟨q, hq, hwork, hrun⟩) st false

theorem State.endQuery_ended {old : Status} {ph : SeqPhase} (hs : s.seqHas e (Ended w old ph)) (st : Status) :
    (s.endQuery e st).seqHas e (Ended w (if outranked old st then st else old) ph) := by
  obtain ⟨q, hq, hwork, hold, hph⟩ := hs
  unfold State.endQuery
  simp only [hq, hold]
  exact State.endSeq_ended hw ⟨q, hq, hwork, hold, hph⟩ st false

end

/-! ### Ends made one after another -/

/-- One of the changes turns a condition into another, and every one keeps both. -/
theorem forAll_reaches {α : Type} {P Q : State → Prop} {l : List α} {f : α → State → State} (hP : ∀ x ∈ l, ∀ s, P s → P (f x s))
    (hQ : ∀ x ∈ l, ∀ s, Q s → Q (f x s)) {y : α} (hy : y ∈ l) (hmake : ∀ s, P s → Q (f y s)) {s : State} (hs : P s) : Q (forAll l f s) := by
  induction l generalizing s with
  | nil => exact absurd hy (by simp)
  | cons x l ih =>
    have hP' : ∀ z ∈ l, ∀ s, P s → P (f z s) := fun z hz => hP z (List.mem_cons_of_mem x hz)
    have hQ' : ∀ z ∈ l, ∀ s, Q s → Q (f z s) := fun z hz => hQ z (List.mem_cons_of_mem x hz)
    rcases List.mem_cons.mp hy with rfl | hy
    · exact forAll_keeps hQ' (hmake s hs)
    · exact ih hP' hQ' hy (hP x List.mem_cons_self s hs)

theorem State.seqHas_of_other {s t : State} {e k : Nat} {D : Sequence → Prop} (h : OnlySeq s t k) (hk : e ≠ k) (hs : s.seqHas e D) :
    t.seqHas e D := by
  obtain ⟨q, hq, hD⟩ := hs
  exact ⟨q, (h.others e hk).trans hq, hD⟩

theorem State.seqHas_mono {s : State} {e : Nat} {C D : Sequence → Prop} (hs : s.seqHas e C) (h : ∀ q, C q → D q) : s.seqHas e D :=
  hs.imp fun q hq => ⟨hq.1, h q hq.2⟩

/-- Changes of one sequence each, of which those of entry `e` turn `C` into `D`: `C` is kept, and `D` once it holds. -/
structure EndsSeq (f : Nat × Sequence → State → State) (e : Nat) (C D : Sequence → Prop) : Prop where
  only : ∀ x s, OnlySeq s (f x s) x.1
  weaken : ∀ q, D q → C q
  ends : ∀ x s, x.1 = e → State.seqHas s e C → State.seqHas (f x s) e D

section
variable {f : Nat × Sequence → State → State} {e : Nat} {C D : Sequence → Prop} (hf : EndsSeq f e C D)
include hf

theorem EndsSeq.keeps (x : Nat × Sequence) (s : State) (hs : s.seqHas e C) : (f x s).seqHas e C := by
  by_cases hx : x.1 = e
  · exact State.seqHas_mono (hf.ends x s hx hs) hf.weaken
  · exact State.seqHas_of_other (hf.only x s) (Ne.symm hx) hs

theorem EndsSeq.keepsEnd (x : Nat × Sequence) (s : State) (hs : s.seqHas e D) : (f x s).seqHas e D := by
  by_cases hx : x.1 = e
  · exact hf.ends x s hx (State.seqHas_mono hs hf.weaken)
  · exact State.seqHas_of_other (hf.only x s) (Ne.symm hx) hs

theorem EndsSeq.forAll_keeps (l : List (Nat × Sequence)) {s : State} (hs : s.seqHas e C) : (forAll l f s).seqHas e C :=
  Machine.forAll_keeps (P := fun t => t.seqHas e C) (fun x _ t ht => hf.keeps x t ht) hs

theorem EndsSeq.forAll_keepsEnd (l : List (Nat × Sequence)) {s : State} (hs : s.seqHas e D) : (forAll l f s).seqHas e D :=
  Machine.forAll_keeps (P := fun t => t.seqHas e D) (fun x _ t ht => hf.keepsEnd x t ht) hs

theorem EndsSeq.forAll_ends {l : List (Nat × Sequence)} {x : Nat × Sequence} (hx : x ∈ l) (he : x.1 = e) {s : State} (hs : s.seqHas e C) :
    (forAll l f s).seqHas e D :=
  forAll_reaches (P := fun t => t.seqHas e C) (Q := fun t => t.seqHas e D) (fun y _ t ht => hf.keeps y t ht)
    (fun y _ t ht => hf.keepsEnd y t ht) hx (fun t ht => hf.ends x t he ht) hs

end

/-- Ring pairs and tenants stay through changes of one sequence each. -/
theorem OnlySeq.rings_forAll {f : Nat × Sequence → State → State} (hf : ∀ x s, OnlySeq s (f x s) x.1) (l : List (Nat × Sequence)) (s : State) :
    (forAll l f s).rings = s.rings :=
  forAll_frame (g := State.rings) (fun x t => (hf x t).rings) s

theorem OnlySeq.tenants_forAll {f : Nat × Sequence → State → State} (hf : ∀ x s, OnlySeq s (f x s) x.1) (l : List (Nat × Sequence))
    (s : State) : (forAll l f s).tenants = s.tenants :=
  forAll_frame (g := State.tenants) (fun x t => (hf x t).tenants) s

/-! ### Cancels (R116, R117) -/

/-- May a cancel still decide the status of a sequence with given work, or has one done so (Table 1.4)? -/
def Cancellable (w : SeqWork) (q : Sequence) : Prop :=
  Running w q ∨ ∃ st ph, Ended w st ph q ∧ (st = .deadline ∨ st = .ok ∨ st = .cancelled)

/-- Has a cancel ended it? -/
def Cancelled (w : SeqWork) (q : Sequence) : Prop := ∃ ph, Ended w .cancelled ph q

theorem endsSeq_cancel {w : SeqWork} (hw : w.committing = false) (e : Nat) :
    EndsSeq (fun x s => s.endQuery x.1 .cancelled) e (Cancellable w) (Cancelled w) where
  only x s := .endQuery s x.1 _
  weaken _ h := h.elim fun ph h => .inr ⟨_, ph, h, .inr (.inr rfl)⟩
  ends := by
    rintro ⟨_, _⟩ s rfl ⟨q, hq, hrun | ⟨st, ph, hend, hst⟩⟩
    · exact State.seqHas_mono (State.endQuery_running hw ⟨q, hq, hrun⟩ .cancelled) fun _ h => ⟨_, h⟩
    · have hdecides : (if outranked st .cancelled then .cancelled else st) = Status.cancelled := by
        rcases hst with rfl | rfl | rfl <;> rfl
      have hended := State.endQuery_ended hw ⟨q, hq, hend⟩ .cancelled
      rw [hdecides] at hended
      exact State.seqHas_mono hended fun _ h => ⟨_, h⟩

/-- A cancel that finds nothing changes a counter alone, and one that finds queries ends them. -/
theorem State.actCancel_cases (s : State) (p tag : Nat) :
    (∃ n, s.actCancel p tag = s.count n 1) ∨
      s.actCancel p tag = forAll (s.seqs.filter (fun x => x.2.rp == some p && x.2.isQuery && x.2.tag == tag && !x.2.committing))
        (fun x s => s.endQuery x.1 .cancelled) s := by
  unfold State.actCancel
  extract_lets hit failed
  split
  · exact .inl ⟨_, rfl⟩
  · exact .inr rfl

theorem State.rings_actCancel (s : State) (p tag : Nat) : (s.actCancel p tag).rings = s.rings := by
  rcases s.actCancel_cases p tag with ⟨n, h⟩ | h <;> rw [h]
  · rfl
  · exact OnlySeq.rings_forAll (fun x t => .endQuery t x.1 _) _ s

section
variable {w : SeqWork} (hw : w.committing = false) {s : State} {e : Nat}
include hw

theorem State.actCancel_keeps (p tag : Nat) (hs : s.seqHas e (Cancellable w)) : (s.actCancel p tag).seqHas e (Cancellable w) := by
  rcases s.actCancel_cases p tag with ⟨n, h⟩ | h <;> rw [h]
  · exact State.seqHas_of_seqs rfl hs
  · exact (endsSeq_cancel hw e).forAll_keeps _ hs

theorem State.actCancel_keepsEnd (p tag : Nat) (hs : s.seqHas e (Cancelled w)) : (s.actCancel p tag).seqHas e (Cancelled w) := by
  rcases s.actCancel_cases p tag with ⟨n, h⟩ | h <;> rw [h]
  · exact State.seqHas_of_seqs rfl hs
  · exact (endsSeq_cancel hw e).forAll_keepsEnd _ hs

/-- A cancel of its tag ends an admitted query of the ring pair. -/
theorem State.actCancel_ends {p : Nat} (hrp : w.rp = some p) (hop : w.opcode = 1) (hs : s.seqHas e (Cancellable w)) :
    (s.actCancel p w.tag).seqHas e (Cancelled w) := by
  obtain ⟨q, hq, hC⟩ := hs
  have hwork : q.work = w := hC.elim (fun h => h.1) fun ⟨_, _, h, _⟩ => h.1
  have hhit : (e, q) ∈ s.seqs.filter (fun x => x.2.rp == some p && x.2.isQuery && x.2.tag == w.tag && !x.2.committing) := by
    subst hwork
    refine List.mem_filter.mpr ⟨Tab.mem_of_find hq, ?_⟩
    simp only [Sequence.work] at hrp hop hw ⊢
    simp [hrp, hop, hw, Sequence.isQuery]
  have hact : s.actCancel p w.tag = forAll (s.seqs.filter (fun x => x.2.rp == some p && x.2.isQuery && x.2.tag == w.tag && !x.2.committing))
      (fun x s => s.endQuery x.1 .cancelled) s := by
    unfold State.actCancel
    dsimp only
    rw [if_neg]
    simp only [List.isEmpty_iff, Bool.and_eq_true, not_and]
    exact fun hempty => absurd (hempty ▸ hhit) (by simp)
  rw [hact]
  exact (endsSeq_cancel hw e).forAll_ends hhit rfl ⟨q, hq, hC⟩

end

/-- A cancel that finds neither a query nor a failing descriptor counts a miss (R116). -/
theorem State.actCancel_miss {s : State} {p tag : Nat}
    (hnone : ∀ x ∈ s.seqs, ¬ (x.2.rp = some p ∧ x.2.isQuery = true ∧ x.2.tag = tag ∧ x.2.committing = false))
    (hfail : ∀ f ∈ s.failing, ¬ (f.rp = p ∧ descOp f.desc = 1 ∧ descTag f.desc = tag)) :
    s.actCancel p tag = s.count (Reg.QFE_CNCMISS p) 1 := by
  have hhit : s.seqs.filter (fun x => x.2.rp == some p && x.2.isQuery && x.2.tag == tag && !x.2.committing) = [] :=
    List.filter_eq_nil_iff.mpr fun x hx => by simpa [and_assoc] using hnone x hx
  have hfailed : s.failing.any (fun f => f.rp == p && descOp f.desc == 1 && descTag f.desc == tag) = false :=
    List.any_eq_false.mpr fun f hf => by simpa [and_assoc] using hfail f hf
  unfold State.actCancel
  dsimp only
  rw [hhit, hfailed]
  rfl

theorem exec_cancelAct {s : State} {p : RingPair} {r : Ring} (hup : s.up = true) (hr : Tab.find s.rings p = some r) (hdue : r.cancelTick < s.tick) :
    exec (.cancelAct p) s = .next (forAll r.cancels (fun tag s => s.actCancel p tag) (s.setRing p { r with cancels := [] })) := by
  change Host.Outcome.next _ = _
  simp [hup, State.actCancels, hr, hdue]

/-- CANCEL_ACT ends every admitted query of a cancelled tag. -/
theorem cancelAct_ends {s : State} {p : RingPair} {r : Ring} {e : Nat} {q : Sequence} (hq : Tab.find s.seqs e = some q)
    (hrp : q.rp = some p.val) (hquery : q.isQuery = true) (htag : q.tag ∈ r.cancels) (hcommit : q.committing = false)
    (hend : q.ending = none ∨ q.ending = some .deadline ∨ q.ending = some .ok) :
    (forAll r.cancels (fun tag s => s.actCancel p tag) (s.setRing p { r with cancels := [] })).seqHas e (Cancelled q.work) := by
  have hop : q.opcode = 1 := by simpa [Sequence.isQuery] using hquery
  have hstart : (s.setRing p { r with cancels := [] }).seqHas e (Cancellable q.work) := by
    refine ⟨q, hq, ?_⟩
    rcases hend with h | h | h
    · exact .inl ⟨rfl, h⟩
    · exact .inr ⟨_, _, ⟨rfl, h, rfl⟩, .inl rfl⟩
    · exact .inr ⟨_, _, ⟨rfl, h, rfl⟩, .inr (.inl rfl)⟩
  have hends : ∀ t : State, t.seqHas e (Cancellable q.work) → (t.actCancel p q.tag).seqHas e (Cancelled q.work) :=
    fun t ht => State.actCancel_ends (w := q.work) hcommit hrp hop ht
  exact forAll_reaches (P := fun t => t.seqHas e (Cancellable q.work)) (Q := fun t => t.seqHas e (Cancelled q.work))
    (fun tag _ t ht => State.actCancel_keeps hcommit p tag ht) (fun tag _ t ht => State.actCancel_keepsEnd hcommit p tag ht) htag hends hstart

/-! ### Deadlines (R118) -/

theorem exec_deadlineExpire {s : State} {e : SeqNo} {q : Sequence} {d : Nat} (hup : s.up = true) (hq : Tab.find s.seqs e = some q)
    (hline : q.dline = some d) (hdue : d ≤ s.now) (hquery : q.isQuery = true) (hhome : q.home = none) :
    exec (.deadlineExpire e) s = .next (s.endQuery e .deadline) := by
  change Host.Outcome.next _ = _
  simp [hup, State.actDeadline, hq, hline, hdue, hquery, hhome]

/-! ### Revocations (R189) -/

/-- May a revocation still decide the status of a sequence with given work, or has it done so? One that ran when the revocation came
has then no stage in progress. -/
def Revocable (w : SeqWork) (ran : Prop) (q : Sequence) : Prop :=
  Running w q ∨ ∃ st ph, Ended w st ph q ∧ (st = .cancelled ∨ st = .deadline ∨ st = .ok ∨ st = .revoked) ∧ (ran → ph = .done)

/-- Has a revocation ended it? -/
def Revoked (w : SeqWork) (ran : Prop) (q : Sequence) : Prop := ∃ ph, Ended w .revoked ph q ∧ (ran → ph = .done)

theorem State.revokeSeq_of_own {s : State} {e : Nat} {q : Sequence} (hq : Tab.find s.seqs e = some q) (hhome : q.home = none)
    (hend : q.endable = true) (silent : Bool) :
    s.revokeSeq e silent = (if q.isQuery then s.closeLane e else s).endSeq e .revoked silent := by
  simp [State.revokeSeq, hq, hhome, hend]

theorem endsSeq_revoke {q : Sequence} (hhome : q.home = none) (hend : q.endable = true) (ran : Prop) (silent : Bool) (e : Nat) :
    EndsSeq (fun x s => s.revokeSeq x.1 silent) e (Revocable q.work ran) (Revoked q.work ran) where
  only x s := .revokeSeq s x.1 _
  weaken _ h := h.elim fun ph h => .inr ⟨_, ph, h.1, .inr (.inr (.inr rfl)), h.2⟩
  ends := by
    have hcommit : q.work.committing = false := by
      simp only [Sequence.endable, Bool.and_eq_true, Bool.not_eq_true'] at hend
      exact hend.1.1.1
    have hlane : ∀ {s : State} {e : Nat} {D : Sequence → Prop} (r : Sequence), EndKeeps D → s.seqHas e D →
        (if r.isQuery then s.closeLane e else s).seqHas e D := fun r hD hs => by
      split
      · exact hD.closeLane hs
      · exact hs
    rintro ⟨k, _⟩ s rfl ⟨r, hr, hC⟩
    have hwork : r.work = q.work := hC.elim (fun h => h.1) fun ⟨_, _, h, _⟩ => h.1
    have hhome' : r.home = none := (congrArg SeqWork.home hwork).trans hhome
    dsimp only
    rw [State.revokeSeq_of_own hr hhome' ((Sequence.endable_of_work hwork).trans hend)]
    rcases hC with hrun | ⟨st, ph, hended, hst, hran⟩
    · exact State.seqHas_mono (State.endSeq_running hcommit (hlane r (Running.endKeeps _) ⟨r, hr, hrun⟩) .revoked silent)
        fun _ h => ⟨_, h, fun _ => rfl⟩
    · have hdecides : (if outranked st .revoked then .revoked else st) = Status.revoked := by
        rcases hst with rfl | rfl | rfl | rfl <;> rfl
      have hafter := State.endSeq_ended hcommit (hlane r (Ended.endKeeps _ _ _) ⟨r, hr, hended⟩) .revoked silent
      rw [hdecides] at hafter
      exact State.seqHas_mono hafter fun _ h => ⟨_, h, hran⟩

/-- Every endable sequence of the tenant ends with REVOKED, in place of a cancel, a deadline or a commit's result. -/
theorem revokeSequences_ends {s t : State} {e : Nat} {q : Sequence} {vf : Nat} (hst : t.seqs = s.seqs) (silent : Bool)
    (hq : Tab.find s.seqs e = some q) (hvf : q.vf = vf) (hhome : q.home = none) (hendable : q.endable = true)
    (hend : q.ending = none ∨ q.ending = some .cancelled ∨ q.ending = some .deadline ∨ q.ending = some .ok) :
    (forAll (s.seqs.filter (fun y => y.2.vf == vf)) (fun y s => s.revokeSeq y.1 silent) t).seqHas e (Revoked q.work (q.ending = none)) := by
  have hstart : t.seqHas e (Revocable q.work (q.ending = none)) := by
    refine ⟨q, hst ▸ hq, ?_⟩
    rcases hend with h | h | h | h
    · exact .inl ⟨rfl, h⟩
    · exact .inr ⟨_, _, ⟨rfl, h, rfl⟩, .inl rfl, fun hrun => nomatch h.symm.trans hrun⟩
    · exact .inr ⟨_, _, ⟨rfl, h, rfl⟩, .inr (.inl rfl), fun hrun => nomatch h.symm.trans hrun⟩
    · exact .inr ⟨_, _, ⟨rfl, h, rfl⟩, .inr (.inr (.inl rfl)), fun hrun => nomatch h.symm.trans hrun⟩
  have hlisted : (e, q) ∈ s.seqs.filter (fun y => y.2.vf == vf) := List.mem_filter.mpr ⟨Tab.mem_of_find hq, by simp [hvf]⟩
  exact (endsSeq_revoke hhome hendable (q.ending = none) silent e).forAll_ends hlisted rfl hstart

/-- What a revocation that is due leaves once the tenant's sequences have ended: after an FLR its ring pairs and the descriptors that
failed go too (R190). -/
def State.revokedAway (s : State) (vf : Nat) (silent : Bool) : State :=
  if silent then ({ s with failing := s.failing.filter (fun (f : Failing) => ringVf f.rp != vf) } : State).dropRings vf else s

/-- A ring pair that goes, and its window's registers, are no tenant and no sequence. -/
theorem State.dropRing_frame (s : State) (r : Tab Ring) (lo n : Nat) : (({ s with rings := r } : State).resetRegs lo n).tenants = s.tenants ∧
    (({ s with rings := r } : State).resetRegs lo n).seqs = s.seqs := ⟨rfl, rfl⟩

theorem State.dropRings_frame (s : State) (vf : Nat) : (s.dropRings vf).tenants = s.tenants ∧ (s.dropRings vf).seqs = s.seqs := by
  unfold State.dropRings
  exact ⟨forAll_frame (g := State.tenants) (fun _ t => (t.dropRing_frame _ _ _).1) s,
    forAll_frame (g := State.seqs) (fun _ t => (t.dropRing_frame _ _ _).2) s⟩

theorem State.revokedAway_frame (s : State) (vf : Nat) (silent : Bool) :
    (s.revokedAway vf silent).tenants = s.tenants ∧ (s.revokedAway vf silent).seqs = s.seqs := by
  unfold State.revokedAway
  split
  · exact State.dropRings_frame _ vf
  · exact ⟨rfl, rfl⟩

theorem exec_revokeSequences {s : State} {v : Vf} {x : Tenant} {d : Nat} (hup : s.up = true) (hx : Tab.find s.tenants (v.val + 1) = some x)
    (hdue : x.revokeDue = some d) (hd : d ≤ s.tick) : exec (.revokeSequences v) s = .next
      ((forAll (s.seqs.filter (fun y => y.2.vf == v.val + 1)) (fun y s => s.revokeSeq y.1 x.silent)
        (s.setTenant (v.val + 1) { x with revokeDue := none, silent := false })).revokedAway (v.val + 1) x.silent) := by
  change Host.Outcome.next (if s.up then s.actRevoke (v.val + 1) else s) = _
  rw [if_pos hup, State.actRevoke]
  simp only [hx, hdue, if_pos hd]
  rfl

/-- Settles O16: cancels, deadlines and revocations each come down to ends of single sequences. -/
theorem cancelsDeadlinesAndRevocationsEndWork : Obligations.CancelsDeadlinesAndRevocationsEndWork := by
  refine ⟨fun s p r hup hr hdue => ?_, fun s e q d hup hq hline hdue hquery hhome hcommit hend => ?_, fun s v x d hup hx hdue hd => ?_⟩
  · refine ⟨_, exec_cancelAct hup hr hdue, ?_, fun e q hq hrp hquery htag hcommit hend => ?_, fun tag htag hnone hfail => ?_⟩
    · rw [forAll_frame (g := State.rings) (fun tag t => t.rings_actCancel p tag), State.find_setRing]
      rfl
    · obtain ⟨q', hq', ph, hended⟩ := cancelAct_ends hq hrp hquery htag hcommit hend
      exact ⟨q', hq', hended.2.1⟩
    · rw [htag]
      change State.reg (State.actCancel _ p tag) _ = _
      rw [State.actCancel_miss (s := s.setRing p _) hnone hfail, State.count, State.reg_setReg, State.setRing_reg]
  · obtain ⟨q', hq', hended⟩ := State.endQuery_running (w := q.work) hcommit ⟨q, hq, rfl, hend⟩ .deadline
    exact ⟨_, q', exec_deadlineExpire hup hq hline hdue hquery hhome, hq', hended.2⟩
  · refine ⟨_, exec_revokeSequences hup hx hdue hd, ?_, fun e q hq hvf hhome hendable hend => ?_⟩
    · rw [(State.revokedAway_frame _ _ _).1, OnlySeq.tenants_forAll (fun y t => .revokeSeq t y.1 _), State.find_setTenant]
      rfl
    · obtain ⟨q', hq', ph, hended, hran⟩ := revokeSequences_ends (s := s) (t := s.setTenant (v.val + 1) { x with revokeDue := none, silent := false })
        rfl x.silent hq hvf hhome hendable hend
      exact ⟨q', by rw [(State.revokedAway_frame _ _ _).2]; exact hq', hended.2.1, fun h => hended.2.2.trans (hran h)⟩

end Sys2Proof.Machine
end

section
/-! A descriptor run whole (R87, R94, R108, R124, R134, log entry 15): the stages of a sequence and what they read, write and report
leave every ring pair as it was, and a completion moves no ring pair's fetch index. -/

namespace Sys2Proof.Machine

/-! ### Ring pairs through the operations of the state -/

theorem rings_forAll {α : Type} {l : List α} {f : α → State → State} (hf : ∀ x s, (f x s).rings = s.rings) (s : State) :
    (forAll l f s).rings = s.rings :=
  forAll_frame (g := State.rings) hf s

@[simp] theorem State.rings_count (s : State) (a n : Nat) : (s.count a n).rings = s.rings := rfl
@[simp] theorem State.rings_count64 (s : State) (a n : Nat) : (s.count64 a n).rings = s.rings := rfl

@[simp] theorem State.rings_onSeq (s : State) (e : Nat) (f : Sequence → Sequence) : (s.onSeq e f).rings = s.rings := (OnlySeq.onSeq s e f).rings
@[simp] theorem State.rings_onIndex (s : State) (h : Nat) (f : Index → Index) : (s.onIndex h f).rings = s.rings := (OnlySeq.onIndex s h f 0).rings
@[simp] theorem State.rings_onImage (s : State) (h : Nat) (f : Image → Image) : (s.onImage h f).rings = s.rings := (OnlySeq.onImage s h f 0).rings
@[simp] theorem State.rings_onFilter (s : State) (h : Nat) (f : Filter → Filter) : (s.onFilter h f).rings = s.rings :=
  (OnlySeq.onFilter s h f 0).rings
@[simp] theorem State.rings_act (s : State) (c owner n : Nat) : (s.act c owner n).rings = s.rings := ((SendFrame.act s c owner n).onlySeq 0).rings
@[simp] theorem State.rings_actMatrix (s : State) (owner rate products : Nat) : (s.actMatrix owner rate products).rings = s.rings :=
  State.rings_act _ _ _ _
@[simp] theorem State.rings_translate (s : State) (f a : Nat) : (s.translate f a).rings = s.rings := (HostFrame.translate s f a).rings
@[simp] theorem State.rings_occur (s : State) (o : Occ) : (s.occur o).1.rings = s.rings := (s.occur_reported o).frame.rings
@[simp] theorem State.rings_record (s : State) (o : Occ) : (s.record o).rings = s.rings := s.rings_occur o

/-! ### Writes to memory (R258 to R264, R315) -/

theorem State.rings_touchWord (s : State) (w mask : Nat) (data : List Byte) (rood : Option Nat) : (s.touchWord w mask data rood).rings = s.rings := by
  unfold State.touchWord
  split <;> rfl

@[simp] theorem State.rings_wput (s : State) (rood : Option Nat) (a : Nat) (bs : List Byte) : (s.wput rood a bs).rings = s.rings := by
  unfold State.wput
  split
  · exact rings_forAll (fun w t => t.rings_touchWord _ _ _ _) s
  · rfl

@[simp] theorem State.rings_wtag (s : State) (rood : Option Nat) (i : Index) (x t : Nat) : (s.wtag rood i x t).rings = s.rings :=
  s.rings_touchWord _ _ _ _

theorem State.rings_farWrite (s : State) (ckpt : Bool) (ink : List Byte) (a : Nat) (bs : List Byte) :
    (s.farWrite ckpt ink a bs).rings = s.rings := by
  unfold State.farWrite
  simp

@[simp] theorem State.rings_tunWrite (s : State) (ckpt : Bool) (h o : Nat) (bs : List Byte) : (s.tunWrite ckpt h o bs).rings = s.rings := by
  unfold State.tunWrite
  split
  · rfl
  · exact rings_forAll (f := fun k s => s.farWrite _ _ _ _) (fun k t => t.rings_farWrite _ _ _ _) s

/-! ### What decoding a word counts (R252, R279 to R281, R290) -/

@[simp] theorem State.rings_requestRemap (s : State) (p row : Nat) : (s.requestRemap p row).rings = s.rings := by
  unfold State.requestRemap
  extract_lets c
  split_ifs
  · rfl
  · exact s.rings_record _
  · rfl

@[simp] theorem State.rings_trackCe (s : State) (p row : Nat) : (s.trackCe p row).rings = s.rings := by
  unfold State.trackCe
  extract_lets c n rest known
  split
  · exact State.rings_requestRemap _ _ _
  · split
    · rfl
    · split
      · rfl
      · split <;> rfl

@[simp] theorem State.rings_countWord (s : State) (track : Bool) (w : Nat) : (s.countWord track w).rings = s.rings := by
  unfold State.countWord
  extract_lets p row fn ce ue
  have hce : (ce s).rings = s.rings := by
    dsimp only [ce]
    split <;> simp
  split
  · rfl
  · exact hce
  · split
    · exact hce
    · rfl
  · dsimp only [ue]
    split <;> simp

@[simp] theorem State.rings_countWords (s : State) (ws : List Nat) : (s.countWords ws).rings = s.rings :=
  rings_forAll (fun w t => t.rings_countWord true w) s

@[simp] theorem State.rings_voidSeq (s : State) (e reason : Nat) : (s.voidSeq e reason).rings = s.rings := by
  unfold State.voidSeq
  split
  · split <;> rfl
  · rfl

@[simp] theorem State.rings_settlePool (s : State) (w : Nat) : (s.settlePool w).rings = s.rings := by
  unfold State.settlePool
  split <;> rfl

@[simp] theorem State.rings_useBad (s : State) (q : Sequence) (w : Nat) : (s.useBad q w).1.rings = s.rings := by
  unfold State.useBad
  split
  · rfl
  · simp

@[simp] theorem State.rings_markPoison (s : State) (e n : Nat) : (s.markPoison e n).rings = s.rings := s.rings_onSeq _ _

@[simp] theorem State.rings_seqUses (s : State) (e : Nat) (ws : List Nat) : (s.seqUses e ws).rings = s.rings := by
  unfold State.seqUses
  refine rings_forAll (fun w t => ?_) s
  split
  · split <;> simp
  · rfl

@[simp] theorem State.rings_usesHeld (s : State) (e : Nat) (ls : List Landed) (ws : List Nat) : (s.usesHeld e ls ws).rings = s.rings := by
  unfold State.usesHeld
  refine rings_forAll (fun w t => ?_) s
  split <;> simp

@[simp] theorem State.rings_tunBad (s : State) (q : Sequence) (tun : Option Nat) : (s.tunBad q tun).1.rings = s.rings := by
  unfold State.tunBad
  split
  · rfl
  · exact s.rings_occur _

@[simp] theorem State.rings_headerFault (s : State) (e a : Nat) : (s.headerFault e a).rings = s.rings := by
  unfold State.headerFault
  split
  · rfl
  · split
    next t n hoccur =>
      rw [State.rings_markPoison, ← s.rings_occur, hoccur]

/-! ### Reads and the sequence cache (R122, R123, R251, R264) -/

@[simp] theorem State.rings_newIssue (s : State) (e : Nat) : (s.newIssue e).rings = s.rings := (OnlySeq.newIssue s e).rings
@[simp] theorem State.rings_beginStage (s : State) (e st : Nat) (ph : SeqPhase) : (s.beginStage e st ph).rings = s.rings := by
  simp [State.beginStage]
@[simp] theorem State.rings_endStage (s : State) (e : Nat) : (s.endStage e).rings = s.rings := s.rings_onSeq _ _

theorem State.rings_queueStream (s : State) (slot a : Nat) (bs : List Byte) : (s.queueStream slot a bs).rings = s.rings :=
  rings_forAll (fun _ _ => State.setPch_rings _ _ _) _

theorem State.rings_spill (s : State) (e n : Nat) : (s.spill e n).rings = s.rings := by
  unfold State.spill
  split
  · rfl
  · exact State.rings_queueStream _ _ _ _

theorem State.rings_evictLine (s : State) (vf : Nat) : (s.evictLine vf).rings = s.rings := by
  unfold State.evictLine
  dsimp only
  split
  · exact State.rings_spill _ _ _
  · rfl

@[simp] theorem State.rings_evictTo (s : State) (vf n : Nat) : (s.evictTo vf n).rings = s.rings := by
  induction n generalizing s with
  | zero => rfl
  | succ n ih =>
    unfold State.evictTo
    split
    · rw [ih, State.rings_evictLine]
    · rfl

@[simp] theorem State.rings_writeLines (s : State) (e : Nat) (ls : List Nat) : (s.writeLines e ls).rings = s.rings := by
  unfold State.writeLines
  split
  · rfl
  · simp

@[simp] theorem State.rings_writeLists (s : State) (e : Nat) : (s.writeLists e).rings = s.rings := by
  unfold State.writeLists
  split
  · simp
  · rfl

@[simp] theorem State.rings_fetchLines (s : State) (e : Nat) (ws : List Nat) : (s.fetchLines e ws).rings = s.rings := by
  unfold State.fetchLines
  refine rings_forAll (fun w t => ?_) s
  split
  · split <;> simp
  · rfl

@[simp] theorem State.rings_readFrame (s : State) (kind : Nat) (q : Sequence) (a expect : Nat) : (s.readFrame kind q a expect).1.rings = s.rings :=
  s.rings_countWords _

/-! ### ENC (R22, R177 to R180, R227) -/

@[simp] theorem State.rings_makeRoom (s : State) (vf part cap need : Nat) (quiet : Bool) (hs : List Nat) :
    (s.makeRoom vf part cap need quiet hs).rings = s.rings := by
  induction hs generalizing s with
  | nil => rfl
  | cons h hs ih =>
    unfold State.makeRoom
    extract_lets used
    split_ifs
    · rfl
    · rw [ih, State.evict, State.rings_onImage]

@[simp] theorem State.rings_startFill (s : State) (h : Nat) : (s.startFill h).1.rings = s.rings := by
  unfold State.startFill
  split
  · rfl
  · split_ifs
    · rfl
    · rfl
    · split
      · extract_lets cap made used
        have hmade : made.rings = s.rings := s.rings_makeRoom _ _ _ _ _ _
        split_ifs
        · exact (made.rings_onImage _ _).trans hmade
        · rfl
      · rfl

@[simp] theorem State.rings_countTile (s : State) (flags : Nat) : (s.countTile flags).rings = s.rings := rfl

@[simp] theorem State.rings_useTile (s : State) (t : Option (Nat × Nat)) : (s.useTile t).rings = s.rings := by
  unfold State.useTile
  split <;> rfl

@[simp] theorem State.rings_encEffect (s : State) (e : Nat) : (s.encEffect e).rings = s.rings := by
  unfold State.encEffect
  split
  · rfl
  · split
    · simp
    next q m =>
      extract_lets tree seed run absent
      have hrun : ∀ t, (run t).rings = t.rings := fun t => by
        dsimp only [run]
        simp [rings_forAll]
      split
      · rfl
      · split
        · exact hrun s
        · split
          · split
            · simp [hrun]
            · simp [absent]
          · simp

/-! ### The stages of a query (R31 to R34, R63, R250 to R255) -/

@[simp] theorem State.rings_cqEffect (s : State) (e : Nat) : (s.cqEffect e).rings = s.rings := by
  unfold State.cqEffect
  split
  · rfl
  · split <;> rfl

@[simp] theorem State.rings_collectInto (s : State) (e c : Nat) (l : List Cand) : (s.collectInto e c l).rings = s.rings := s.rings_onSeq _ _

@[simp] theorem State.rings_scanFrame (s : State) (e : Nat) (l : Landed) : (s.scanFrame e l).1.rings = s.rings := by
  unfold State.scanFrame
  split
  · rfl
  · dsimp only
    split
    · rfl
    · split
      · simp
      · split
        · simp
        · split <;> simp

@[simp] theorem State.rings_scanBucket (s : State) (e c : Nat) : (s.scanBucket e c).rings = s.rings := by
  unfold State.scanBucket
  split
  · rfl
  · split
    · rfl
    · dsimp only
      rw [rings_forAll fun a t => by simp, State.rings_seqUses]
      split <;> simp

@[simp] theorem State.rings_scanEffect (s : State) (e : Nat) : (s.scanEffect e).rings = s.rings := by
  unfold State.scanEffect
  dsimp only
  split
  · simp
  · rw [State.rings_writeLists, rings_forAll fun c t => t.rings_scanBucket e c]
    simp

@[simp] theorem State.rings_mergeEffect (s : State) (e : Nat) : (s.mergeEffect e).rings = s.rings := by
  unfold State.mergeEffect
  split
  · rfl
  · split
    · rfl
    · simp

@[simp] theorem State.rings_walkDone (s : State) (e : Nat) : (s.walkDone e).rings = s.rings := by
  unfold State.walkDone
  split
  · rfl
  · split
    · rfl
    · simp

@[simp] theorem State.rings_entryEffect (s : State) (e : Nat) : (s.entryEffect e).rings = s.rings := by
  unfold State.entryEffect
  split
  · rfl
  · split
    · rfl
    · extract_lets v entered
      have hentered : entered.rings = s.rings := by simp [entered]
      split
      · split
        · rw [State.rings_walkDone, hentered]
        · exact hentered
      · exact hentered

@[simp] theorem State.rings_hopFrame (s : State) (e : Nat) (l : Landed) : (s.hopFrame e l).1.rings = s.rings := by
  unfold State.hopFrame
  split
  · rfl
  · dsimp only
    split
    · rfl
    · split
      · simp
      · split
        · simp
        · split <;> simp

@[simp] theorem State.rings_hopEffect (s : State) (e : Nat) (ms : List Nbr) : (s.hopEffect e ms).rings = s.rings := by
  unfold State.hopEffect
  split
  · rfl
  · split
    · simp
    · dsimp only
      split <;> simp

@[simp] theorem State.rings_hopsWhole (s : State) (e n : Nat) : (s.hopsWhole e n).rings = s.rings := by
  induction n generalizing s with
  | zero => rfl
  | succ n ih =>
    unfold State.hopsWhole
    split
    · rfl
    · split
      · rfl
      · split
        · simp [ih]
        · rfl

@[simp] theorem State.rings_rerankEffect (s : State) (e : Nat) : (s.rerankEffect e).rings = s.rings := by
  unfold State.rerankEffect
  split
  · rfl
  · split
    · rfl
    · simp

/-! ### Far reads of a sequence (R314 to R316, R327) -/

@[simp] theorem State.rings_stageReadsOver (s : State) (e : Nat) : (s.stageReadsOver e).rings = s.rings := by
  unfold State.stageReadsOver
  split
  · rfl
  · split
    · rfl
    · split
      · simp
      · split
        · split <;> simp
        · split
          · split
            · simp
            · split <;> simp
          · simp

@[simp] theorem State.rings_readTaken (s : State) (e : Nat) : (s.readTaken e).rings = s.rings := by
  unfold State.readTaken
  split
  · rfl
  · dsimp only
    split <;> simp

@[simp] theorem State.rings_farTaken (s : State) (r : FarReq) : (s.farTaken r).rings = s.rings := by
  unfold State.farTaken
  split
  · split
    · split <;> simp
    · rfl
  · rfl

@[simp] theorem State.rings_farBad (s : State) (r : FarReq) (c : Cause) : (s.farBad r c).rings = s.rings := by
  unfold State.farBad
  dsimp only
  split
  · simp
  · split
    · split <;> simp
    · simp

@[simp] theorem State.rings_farQueue (s : State) (r : FarReq) : (s.farQueue r).rings = s.rings := by
  unfold State.farQueue
  dsimp only
  split <;> simp

@[simp] theorem State.rings_issueFar (s : State) (e tun o n start bound : Nat) : (s.issueFar e tun o n start bound).rings = s.rings := by
  unfold State.issueFar
  split
  · split
    · exact rings_forAll (fun w t => t.rings_farQueue _) _
    · simp
  · rfl

/-! ### The stages of a write (R74, R78, R80, R139, R169, R283) -/

@[simp] theorem State.rings_takeSems (s : State) (e : Nat) (q : Sequence) : (s.takeSems e q).rings = s.rings := by simp [State.takeSems]

@[simp] theorem State.rings_heldRecord (s : State) (q : Sequence) (w : Nat) : (s.heldRecord q w).1.rings = s.rings := by
  unfold State.heldRecord
  split
  · rfl
  · exact s.rings_useBad q w

@[simp] theorem State.rings_heldRecords (s : State) (q : Sequence) (ws : List Nat) : (s.heldRecords q ws).1.rings = s.rings := by
  unfold State.heldRecords
  generalize (none : Option Nat) = first
  induction ws generalizing s first with
  | nil => rfl
  | cons w ws ih =>
    rw [List.foldl_cons, ih, State.rings_heldRecord]

@[simp] theorem State.rings_placeEffect (s : State) (e : Nat) : (s.placeEffect e).rings = s.rings := by
  unfold State.placeEffect
  split
  · rfl
  · split
    · rfl
    · dsimp only
      split
      · simp
      · split <;> simp

@[simp] theorem State.rings_chooseEffect (s : State) (e : Nat) : (s.chooseEffect e).rings = s.rings := by
  unfold State.chooseEffect
  split
  · rfl
  · split
    · rfl
    · split
      · rfl
      · split
        · rfl
        · split <;> rfl

@[simp] theorem State.rings_markUnsound (s : State) (ws : List Nat) : (s.markUnsound ws).rings = s.rings := rfl

theorem State.rings_foldEntry (s : State) (bad : Nat → Bool) (rood : Option Nat) (i : Index) (t n : Nat) :
    (s.foldEntry bad rood i t n).rings = s.rings := by
  unfold State.foldEntry
  dsimp only
  split
  · exact s.rings_wtag _ _ _ _
  · rfl

@[simp] theorem State.rings_foldStep (s : State) (bad : Nat → Bool) (rood : Option Nat) (h : Nat) : (s.foldStep bad rood h).1.rings = s.rings := by
  unfold State.foldStep
  split
  · rfl
  · split
    · rfl
    · dsimp only
      split
      · rfl
      · rw [State.rings_onIndex]
        exact rings_forAll (fun k t => t.rings_foldEntry _ _ _ _ _) s

@[simp] theorem State.rings_foldEffect (s : State) (e : Nat) : (s.foldEffect e).1.rings = s.rings := by
  unfold State.foldEffect
  split
  · rfl
  · dsimp only
    split <;> simp

@[simp] theorem State.rings_foldWhole (s : State) (e n : Nat) : (s.foldWhole e n).rings = s.rings := by
  induction n generalizing s with
  | zero => rfl
  | succ n ih =>
    unfold State.foldWhole
    split
    · rfl
    · split
      · rfl
      · dsimp only
        split <;> simp [ih]

@[simp] theorem State.rings_appendLog (s : State) (rood : Option Nat) (h x bucket op : Nat) : (s.appendLog rood h x bucket op).rings = s.rings := by
  unfold State.appendLog
  split
  · rfl
  · split
    · rfl
    · simp

@[simp] theorem State.rings_tagItem (s : State) (rood : Option Nat) (h x : Nat) : (s.tagItem rood h x).rings = s.rings := by
  unfold State.tagItem
  split
  · rfl
  · split
    · rfl
    · simp

@[simp] theorem State.rings_pinLine (s : State) (h c p : Nat) : (s.pinLine h c p).rings = s.rings := by
  unfold State.pinLine
  split
  · rfl
  · split
    · rfl
    · split <;> rfl

@[simp] theorem State.rings_takeBushel (s : State) (rood : Option Nat) (h c : Nat) : (s.takeBushel rood h c).rings = s.rings := by
  unfold State.takeBushel
  split
  · rfl
  · split
    · rfl
    · simp

@[simp] theorem State.rings_fillSlot (s : State) (rood : Option Nat) (h c x : Nat) (code : List Byte) :
    (s.fillSlot rood h c x code).rings = s.rings := by
  unfold State.fillSlot
  split
  · rfl
  · split
    · rfl
    · simp

/-! ### COMMIT of a write (R74, R78, R80) -/

theorem State.rings_applyInsert {s t : State} {rood : Option Nat} {h c ext : Nat} {code vec : List Byte} {r : Nat × Nat}
    (hfits : s.applyInsert rood h c ext code vec = some (t, r)) : t.rings = s.rings := by
  unfold State.applyInsert at hfits
  split at hfits
  · exact nomatch hfits
  · split at hfits
    · exact nomatch hfits
    · split at hfits
      · extract_lets x l taken filled item vector dir tagged logged counted at hfits
        have htaken : taken.rings = s.rings := by
          dsimp only [taken]
          split
          · rfl
          · exact s.rings_takeBushel _ _ _
        have hvector : vector.rings = item.rings := by
          dsimp only [vector]
          split
          · split
            · exact item.rings_tunWrite _ _ _ _
            · exact item.rings_wput _ _ _
          · rfl
        have htagged : tagged.rings = dir.rings := by
          dsimp only [tagged]
          split
          · split
            · exact dir.rings_tagItem _ _ _
            · rfl
          · rfl
        obtain ⟨ht, -⟩ := Prod.mk.inj (Option.some.inj hfits)
        calc t.rings = tagged.rings := by simp [← ht, counted, logged]
          _ = vector.rings := by simp [htagged, dir]
          _ = s.rings := by simp [hvector, item, filled, htaken]
      · exact nomatch hfits

theorem State.rings_applyDelete {s t : State} {rood : Option Nat} {h ext : Nat} {r : Nat × Nat}
    (hfits : s.applyDelete rood h ext = some (t, r)) : t.rings = s.rings := by
  unfold State.applyDelete at hfits
  split at hfits
  · exact nomatch hfits
  · split at hfits
    · exact nomatch hfits
    · dsimp only at hfits
      split at hfits
      · cases hfits
        rfl
      · split_ifs at hfits
        · cases hfits
          rfl
        · cases hfits
          exact s.rings_tagItem _ _ _

theorem State.rings_applyPublish {s t : State} {h : Nat} {r : Nat × Nat} (hpub : s.applyPublish h = some (t, r)) : t.rings = s.rings := by
  unfold State.applyPublish at hpub
  split at hpub
  · exact nomatch hpub
  · split at hpub
    · exact nomatch hpub
    · cases hpub
      rfl

@[simp] theorem State.rings_writeEffect (s : State) (e : Nat) : (s.writeEffect e).rings = s.rings := by
  unfold State.writeEffect
  split
  · rfl
  · extract_lets rood tile done
    have hdone : ∀ r : Option (State × Nat × Nat), (∀ t x, r = some (t, x) → t.rings = s.rings) → (done r).rings = s.rings := fun r hr => by
      dsimp only [done]
      split
      next t aux ep => 
        rw [State.rings_onSeq, State.rings_countTile, State.rings_markUnsound, hr t _ rfl]
      · exact s.rings_onSeq _ _
    split_ifs
    · exact s.rings_onSeq _ _
    · rfl
    · split
      · exact hdone _ fun t x h => State.rings_applyInsert h
      · exact hdone _ fun t x h => State.rings_applyDelete h
      · refine hdone _ fun t x h => ?_
        obtain ⟨r, hpub, hr⟩ := Option.map_eq_some_iff.mp h
        cases hr
        exact State.rings_applyPublish hpub

/-! ### What a commit gives back and writes to host memory (R39, R103, R393) -/

@[simp] theorem State.rings_remotePoison (s : State) (q : Sequence) : (s.remotePoison q).1.rings = s.rings := by
  unfold State.remotePoison
  split
  · split_ifs <;> simp
  · rfl

theorem State.rings_dmaWrite (s : State) (f a : Nat) (bs : List Byte) : (s.dmaWrite f a bs).rings = s.rings := by
  unfold State.dmaWrite
  extract_lets x counted
  split
  · simp [counted]
  · simp [counted]

@[simp] theorem State.rings_writeResults (s : State) (q : Sequence) (c : Completion) : (s.writeResults q c).rings = s.rings := by
  unfold State.writeResults
  split
  · exact s.rings_dmaWrite _ _ _
  · rfl

@[simp] theorem State.rings_release (s : State) (e : Nat) : (s.release e).rings = s.rings := (OnlySeq.release s e).rings

/-! ### A completion (R93, R101 to R105) -/

/-- What a run takes from a ring pair: how far the ring has been fetched, of which size and where. -/
def Ring.taken (r : Ring) : Nat × Nat × Nat := (r.fetched, r.sqsize, r.sqbase)

/-- What is taken of a ring pair, where it is created. -/
def State.taken (s : State) (p : Nat) : Option (Nat × Nat × Nat) := (Tab.find s.rings p).map Ring.taken

theorem State.taken_of_rings {s t : State} (h : t.rings = s.rings) (p : Nat) : t.taken p = s.taken p := by rw [State.taken, h, State.taken]

theorem State.taken_count (s : State) (a n p : Nat) : (s.count a n).taken p = s.taken p := rfl

/-- A change of a ring pair that moves nothing of it. -/
theorem State.taken_setRing {s : State} {p : Nat} {r x : Ring} (hr : Tab.find s.rings p = some r) (k : Nat) (hx : x.taken = r.taken) :
    (s.setRing p x).taken k = s.taken k := by
  unfold State.taken
  by_cases hk : k = p
  · rw [hk, State.find_setRing, hr, Option.map_some, Option.map_some, hx]
  · rw [State.find_setRing_other _ _ _ _ hk]

theorem State.taken_ringFault (s : State) (p cause k : Nat) : (s.ringFault p cause).taken k = s.taken k := by
  unfold State.ringFault State.onRing
  split
  · rfl
  · split
    next r hr =>
      refine (State.taken_setRing (s := s.setReg _ _) hr k ?_).trans (State.taken_of_rings rfl k)
      rfl
    · rfl

/-- A completion moves the tail of the CQ, and nothing of the SQ's fetch. -/
theorem State.taken_complete (s : State) (p : Nat) (c : Completion) (k : Nat) : (s.complete p c).taken k = s.taken k := by
  unfold State.complete
  split
  · rfl
  next r hr =>
    extract_lets gone written wrap
    have hgone : gone.taken = r.taken := rfl
    split
    · rw [State.taken_count, State.taken_setRing hr k hgone]
    · split
      · rw [State.taken_count, State.taken_ringFault, State.taken_of_rings (State.rings_dmaFailed _ _ _ _), State.taken_setRing hr k hgone]
      · have hwritten : written.rings = s.rings := s.rings_dmaWrite _ _ _
        rw [State.taken_setRing (r := r) (by rw [hwritten, hr]) k, State.taken_of_rings hwritten]
        rfl

/-- The commit of a sequence takes nothing of a ring pair (R105). -/
theorem State.taken_commitSeq (s : State) (e steps k : Nat) : (s.commitSeq e steps).taken k = s.taken k := by
  unfold State.commitSeq
  split
  · rfl
  · extract_lets written
    have hwritten : written.rings = s.rings := by
      dsimp only [written]
      split
      · exact s.rings_writeEffect e
      · rfl
    split
    · exact State.taken_of_rings hwritten k
    · split
      next t q hpoison =>
        have ht : t.rings = s.rings := by
          split at hpoison
          · rw [← hwritten, ← written.rings_remotePoison, hpoison]
          · cases hpoison
            exact hwritten
        extract_lets c faulted ended
        have hfaulted : faulted.rings = s.rings := by
          dsimp only [faulted]
          split
          · split
            · rw [State.rings_dmaFailed, ht]
            · exact ht
          · exact ht
        have hended : ended.taken k = s.taken k := by
          dsimp only [ended]
          split
          · split
            · exact State.taken_of_rings ht k
            · rw [State.taken_complete, State.taken_of_rings (State.rings_writeResults _ _ _), State.taken_of_rings hfaulted]
          · exact State.taken_of_rings ht k
        rw [State.taken_of_rings (State.rings_release _ _), State.taken_of_rings (State.setSeq_rings _ _ _), hended]

theorem State.taken_commitFailing (s : State) (x : Failing) (k : Nat) : (s.commitFailing x).taken k = s.taken k := State.taken_complete _ _ _ _

/-! ### Ticks and stages of a whole run (R125, R143, R521, log entry 15) -/

@[simp] theorem State.rings_markFailing (s : State) : s.markFailing.rings = s.rings := rfl

@[simp] theorem State.rings_markTick (s : State) : s.markTick.rings = s.rings := by
  unfold State.markTick
  extract_lets marked
  have hmarked : marked.rings = s.rings := by
    dsimp only [marked]
    split <;> rfl
  split
  · rw [State.rings_markFailing, rings_forAll fun x t => t.rings_voidSeq _ _, hmarked]
  · exact hmarked

@[simp] theorem State.rings_passSteps (s : State) (n : Nat) : (s.passSteps n).rings = s.rings := rfl

@[simp] theorem State.rings_wholeEnc (s : State) (e : Nat) (q : Sequence) : (s.wholeEnc e q).rings = s.rings := by
  unfold State.wholeEnc
  split
  · extract_lets started
    have hstarted : started.rings = s.rings := by
      dsimp only [started]
      split
      · exact s.rings_onImage _ _
      · rfl
    simp [hstarted]
  · rfl

@[simp] theorem State.rings_wholeRerank (s : State) (e : Nat) (i : Index) (q : Sequence) : (s.wholeRerank e i q).rings = s.rings := by
  unfold State.wholeRerank
  extract_lets begun ws fetched read
  have hbegun : begun.rings = s.rings := by simp [begun]
  have hread : read.rings = s.rings := by
    dsimp only [read]
    split
    · split
      · exact hbegun
      · simp [hbegun]
    · split <;> simp [fetched, hbegun]
  split
  · split <;> simp [hread]
  · exact hread

@[simp] theorem State.rings_wholeWalk (s : State) (e : Nat) (i : Index) (q : Sequence) : (s.wholeWalk e i q).rings = s.rings := by
  unfold State.wholeWalk
  extract_lets ls fetched
  have hfetched : fetched.rings = s.rings := by simp [fetched]
  split
  · extract_lets used
    have hused : used.rings = s.rings := by simp [used, hfetched]
    split
    · split
      · exact hused
      · simp [hused]
    · exact hused
  · exact hfetched

@[simp] theorem State.rings_runQuery (s : State) (e : Nat) : (s.runQuery e).rings = s.rings := by
  unfold State.runQuery
  split
  · rfl
  · extract_lets encoded
    have hencoded : encoded.rings = s.rings := s.rings_wholeEnc _ _
    split
    · split
      · exact hencoded
      · extract_lets searched
        have hsearched : searched.rings = s.rings := by
          dsimp only [searched]
          split <;> simp [hencoded]
        split
        · split
          · exact hsearched
          · simp [hsearched]
        · exact hsearched
    · exact hencoded

@[simp] theorem State.rings_runWrite (s : State) (e : Nat) : (s.runWrite e).rings = s.rings := by
  unfold State.runWrite
  split
  · rfl
  · extract_lets encoded chosen
    have hencoded : encoded.rings = s.rings := s.rings_wholeEnc _ _
    split
    · exact hencoded
    · split
      · exact hencoded
      · split
        · have hchosen : chosen.rings = s.rings := by simp [chosen, hencoded]
          split
          · split
            · exact hchosen
            · simp [hchosen]
          · exact hchosen
        · simp [hencoded]

/-- A descriptor that has been admitted takes nothing more of its ring pair. -/
theorem State.taken_runAdmitted (s : State) (e k : Nat) : (s.runAdmitted e).taken k = s.taken k := by
  unfold State.runAdmitted
  split
  · rfl
  · split
    · rfl
    · extract_lets n ran
      have hran : ran.rings = s.rings := by
        dsimp only [ran]
        rw [State.rings_markTick]
        split <;> simp
      split
      · rw [State.taken_commitSeq, State.taken_of_rings (State.rings_passSteps _ _), State.taken_of_rings hran]
      · exact State.taken_of_rings hran k

/-! ### Admission (R108, R109, R180) -/

@[simp] theorem State.rings_enter (s : State) (e : Nat) (q : Sequence) : (s.enter e q).rings = s.rings := by
  unfold State.enter
  extract_lets g numbered entered pinned filtered
  have hpinned : pinned.rings = s.rings := by
    dsimp only [pinned]
    split
    · exact entered.rings_onIndex _ _
    · rfl
  have hfiltered : filtered.rings = s.rings := by
    dsimp only [filtered]
    split
    · rw [State.rings_onFilter, hpinned]
    · exact hpinned
  rw [State.rings_onIndex, hfiltered]

@[simp] theorem State.rings_absentFill (s : State) (vf : Nat) (d : List Byte) : (s.absentFill vf d).rings = s.rings := by
  unfold State.absentFill
  split
  · split
    · exact s.rings_startFill _
    · rfl
  · rfl

/-- Admission of the staged descriptor of a ring pair takes nothing more of the ring. -/
theorem State.taken_admitOne {s : State} {p : Nat} {r : Ring} (hr : Tab.find s.rings p = some r) (x : Staged) (st : Option Status) (k : Nat) :
    (s.admitOne p r x st).1.taken k = s.taken k := by
  unfold State.admitOne
  extract_lets a moved r' failed
  have hset : (moved.setRing p r').taken k = s.taken k := State.taken_setRing (s := moved) hr k rfl
  split
  · extract_lets noted
    have hnoted : noted.rings = failed.rings := rfl
    dsimp only
    split
    · rw [State.taken_of_rings (State.rings_absentFill _ _ _), State.taken_of_rings hnoted, hset]
    · rw [State.taken_of_rings hnoted, hset]
  · split
    · rfl
    · rw [State.taken_of_rings (State.rings_enter _ _ _), hset]

/-! ### The whole run -/

@[simp] theorem State.bad_stageWhole (s : State) (vf : Nat) (d vec code : List Byte) : (s.stageWhole vf d vec code).bad = (s.stage vf d).bad := by
  unfold State.stageWhole
  dsimp only
  split <;> rfl

/-- A run whose conditions hold takes one descriptor of the ring (R87, R94). -/
theorem State.taken_runWhole {s : State} {p op : Nat} {r : Ring} {desc vec code : List Byte} (hr : Tab.find s.rings p = some r)
    (hready : s.wholeReady p r = true) (hop : descOp (slice desc 0 128) = op)
    (hmissing : s.missing s.headroom p r (slice desc 0 128)
      (s.admitStatus (ringVf p) r.stream (s.stage (ringVf p) (slice desc 0 128)).bad (slice desc 0 128)).isSome = 0)
    (hshare : s.shareUsed (ringVf p) + (s.stageWhole (ringVf p) (slice desc 0 128) vec code).share ≤ 262144) :
    (s.runWhole p op desc vec code).taken p = some ((r.fetched + 1) % r.sqsize, r.sqsize, r.sqbase) := by
  unfold State.runWhole
  rw [hr]
  dsimp -zeta only
  extract_lets d vf x st translated r' admitted src served marked
  have hruns : ¬ (!s.wholeReady p r || descOp d != op || decide (262144 < s.shareUsed vf + x.share)) = true := by
    simp [d, vf, x, hready, hop, hshare]
  have hadmits : ¬ (s.missing s.headroom p r d st.isSome != 0) = true := by simp [st, x, d, vf, hmissing]
  rw [if_neg hruns, if_neg hadmits]
  have htaken : served.taken p = some ((r.fetched + 1) % r.sqsize, r.sqsize, r.sqbase) := by
    have hserved : served.rings = admitted.1.rings := rfl
    rw [State.taken_of_rings hserved, State.taken_admitOne (State.find_setRing _ _ _), State.taken, State.find_setRing]
    rfl
  split
  · split
    · rw [State.taken_commitFailing, State.taken_of_rings (State.rings_passSteps _ _)]
      exact (State.taken_of_rings served.rings_markTick p).trans htaken
    · exact htaken
  · rw [State.taken_runAdmitted, htaken]
  · exact htaken

/-- Settles O15: the four runs are one run, and it takes one descriptor whatever becomes of it. -/
theorem descriptorRunsWhole : Obligations.DescriptorRunsWhole := by
  intro s p r desc vec code hr hready d st hmissing hshare taken
  refine ⟨fun hop => ⟨_, rfl, State.taken_runWhole hr hready hop hmissing hshare⟩,
    fun hop => ⟨_, rfl, State.taken_runWhole hr hready hop hmissing hshare⟩, fun hop hvec hcode => ⟨_, rfl, ?_⟩,
    fun hop hvec hcode => ⟨_, rfl, ?_⟩⟩
  · subst hvec hcode
    exact State.taken_runWhole hr hready hop hmissing hshare
  · subst hvec hcode
    exact State.taken_runWhole hr hready hop hmissing hshare

end Sys2Proof.Machine
end

section
/-! The queue of commands, and that a command completes from every state (log entries 50, 60, 108 and 110). -/

namespace Sys2Proof.Machine

/-- Does an answer give a next state? -/
def Completes (o : Host.Outcome State Fault Refusal) : Prop := ∃ t, o = .next t

theorem Completes.next (t : State) : Completes (.next t) := ⟨t, rfl⟩

theorem Completes.ite {c : Prop} [Decidable c] {a b : Host.Outcome State Fault Refusal} (ha : Completes a) (hb : Completes b) :
    Completes (if c then a else b) := by
  split
  · exact ha
  · exact hb

/-- What is completed on one condition. -/
theorem Completes.cond {c : Prop} [Decidable c] (s t : State) : Completes (if c then .next s else .next t) := .ite (.next s) (.next t)

/-! ### Commands that look further than one entry -/

theorem completes_burstStart (p : Pch) (s : State) : Completes (execBurstStart p s) := by
  refine .ite (.next _) ?_
  dsimp only
  split
  · exact .next _
  · refine .ite (.next _) (.ite (.next _) (.ite (.next _) ?_))
    split
    · exact .cond _ _
    · exact .next _

theorem completes_farReadIssue (n : FarPort) (s : State) : Completes (execFarReadIssue n s) := by
  unfold execFarReadIssue
  dsimp only
  refine .ite (.next _) ?_
  split
  · exact .next _
  · split
    · exact .next _
    · refine .ite (.next _) ?_
      split
      · exact .next _
      · split
        · exact .next _
        · exact .next _

theorem completes_wreq (n : Port) (s : State) : Completes (execWreq n s) := by
  unfold execWreq
  split
  · exact .next _
  · refine .ite (.next _) ?_
    split
    · exact .next _
    · refine .ite (.next _) (.ite ?_ (.ite (.next _) ?_))
      · split
        · exact .next _
        · exact .next _
      · split
        · exact .next _
        · exact .next _

theorem completes_pprep (n : Port) (s : State) : Completes (execPprep n s) := by
  unfold execPprep
  split
  · exact .next _
  · dsimp only
    split
    · exact .next _
    · split
      · exact .next _
      · split
        · exact .next _
        · exact .next _

theorem completes_copyRead (p : Pch) (errs : List WordErr) (s : State) : Completes (execCopyRead p errs s) := by
  refine .ite (.next _) ?_
  split
  · exact .next _
  · split
    · exact .next _
    · exact .cond _ _

theorem completes_drainMerge (word : Nat) (errs : List (Nat × Byte)) (s : State) : Completes (execDrainMerge word errs s) := by
  unfold execDrainMerge
  split
  · exact .next _
  · refine .ite (.next _) ?_
    extract_lets met merged outcome counted
    split
    exact .next _

theorem completes_voltageSettle (mvs : List Nat) (s : State) : Completes (execVoltageSettle mvs s) := by
  unfold execVoltageSettle
  split
  · exact .next _
  · refine .ite (.next _) ?_
    split
    · exact .cond _ _
    · exact .next _

/-- The JTAG instruction `privateOne` outside debug mode, or with DBGOFF blown, has no effect (R618, log entry 110). -/
theorem completes_jtagInstruction {j : JtagInstr} {s : State}
    (h : j = .privateOne → s.debug = false ∨ s.fld Reg.MGT_FUSE F.MGT_FUSE_DBGOFF ≠ 0) : Completes (execJtagInstruction j s) := by
  cases j with
  | privateOne =>
    have hshut : (s.debug && decide (s.fld Reg.MGT_FUSE F.MGT_FUSE_DBGOFF = 0)) = false := by
      rcases h rfl with hdebug | hfuse
      · rw [hdebug, Bool.false_and]
      · rw [decide_eq_false hfuse, Bool.and_false]
    rw [execJtagInstruction, hshut]
    exact .next _
  | idcode => exact .next _
  | drivesPins => exact .next _
  | other => exact .next _

/-- Every command completes but the JTAG instruction that debug mode would let through. -/
theorem exec_completes (c : Instr) (s : State)
    (h : c = .jtagInstruction .privateOne → s.debug = false ∨ s.fld Reg.MGT_FUSE F.MGT_FUSE_DBGOFF ≠ 0) : Completes (exec c s) := by
  cases c
  case jtagInstruction j => exact completes_jtagInstruction fun hj => h (by rw [hj])
  case burstStart p => exact completes_burstStart p s
  case farReadIssue n => exact completes_farReadIssue n s
  case wreq n => exact completes_wreq n s
  case pprep n => exact completes_pprep n s
  case copyRead p errs => exact completes_copyRead p errs s
  case drainMerge word errs => exact completes_drainMerge word errs s
  case voltageSettle mvs => exact completes_voltageSettle mvs s
  -- on a condition
  case wholeWordStream | ceDecay | scrubLate | farPortTrained | farLinkDown | devEventPoll | ldownPeriod | numvfsWrite | systemPageSizeWrite |
      hostProto | hostDegraded | ideFail | ideKm | install | spdmRequest | getMeasurements | flrComplete | mctpMessage | pmbusPoll |
      windowEnd | thmSample | opTransition | getSensorReading | pldmPdrRequest | hardRepairDone => exact .cond _ _
  -- on two conditions
  case scrubRead | vfEnable | busMasterEnable | commandComplete | mcWatchdog => exact .ite (.next _) (.cond _ _)
  case stackTrained => exact .ite (.cond _ _) (.next _)
  -- on more
  case farLinkRetrain | hostUr => exact .ite (.next _) (.ite (.next _) (.cond _ _))
  case bmcProbe => exact .ite (.next _) (.ite (.next _) (.ite (.next _) (.ite (.next _) (.cond _ _))))
  -- on an entry being there
  case rawRequest | tgcRunDone | farReadReturn | fullSet | laneEmit | subtreeTimerExpire | cancelMsg | pprdy | pdone | lstate | ldown |
      memberLost | mgt | coalesceTimer | meterSign | logSearchDone | pldmUpdateTimeout | mioHoldEnd =>
    dsimp only [exec, execRawRequest, execTgcRunDone, execFarReadReturn, execFullSet, execLaneEmit, execSubtreeTimerExpire, execCancelMsg,
      execPprdy, execPdone, execLstate, execLdown, execMemberLost, execMgt, execCoalesceTimer, execMeterSign, execLogSearchDone,
      execPldmUpdateTimeout, execMioHoldEnd]
    split
    · exact .next _
    · exact .next _
  -- on an entry, and then a condition
  case descriptorFetch | contextMiss | switchEnd | drainEligible | refreshDue | copyWrite | readTimeout | lup =>
    dsimp only [exec, execDescriptorFetch, execContextMiss, execSwitchEnd, execDrainEligible, execRefreshDue, execCopyWrite, execReadTimeout,
      execLup]
    split
    · exact .next _
    · exact .cond _ _
  case farWriteComplete | lockInterfaceRequest | sosinStall | regLost | hostProtoRecoveryTimeout =>
    dsimp only [exec, execFarWriteComplete, execLockInterfaceRequest, execSosinStall, execRegLost, execHostProtoRecoveryTimeout]
    split
    · exact .cond _ _
    · exact .next _
  case drainComplete =>
    dsimp only [exec, execDrainComplete]
    split
    · exact .next _
    · exact .ite (.next _) (.cond _ _)
  -- on a condition, and then an entry
  case farAbsentRetry | commandAccept | pldmUpdateCommand =>
    refine .ite (.next _) ?_
    split
    · exact .next _
    · exact .next _
  case poolAtomic =>
    refine .ite (.next _) ?_
    split
    · exact .next _
    · exact .cond _ _
  case configRequest =>
    refine .ite (.next _) (.ite (.next _) ?_)
    split
    · exact .next _
    · exact .next _
  -- on two entries
  case listLineReturn | lineReadReturn | survivorCollect =>
    dsimp only [exec, execListLineReturn, execLineReadReturn, execSurvivorCollect]
    split
    · exact .next _
    · split
      · exact .next _
      · exact .next _
  case publishRetry =>
    dsimp only [exec, execPublishRetry]
    split
    · split
      · exact .next _
      · exact .next _
    · exact .next _
  case streamEnc | pcommit =>
    dsimp only [exec, execStreamEnc, execPcommit]
    split
    · exact .next _
    · split
      · exact .next _
      · exact .cond _ _
  case qlist =>
    dsimp only [exec, execQlist]
    split
    · exact .next _
    · split
      · exact .cond _ _
      · exact .next _
  case displace | qreq =>
    dsimp only [exec, execDisplace, execQreq]
    split
    · exact .next _
    · refine .ite (.next _) ?_
      split
      · exact .next _
      · exact .next _
  case wrep =>
    dsimp only [exec, execWrep]
    split
    · exact .next _
    · refine .ite (.next _) ?_
      split
      · exact .cond _ _
      · exact .next _
  -- whatever the state
  all_goals exact .next _

/-- Settles O1: the queue by what a step is, and that every command completes. -/
theorem stepRunsFrontCommand : Obligations.StepRunsFrontCommand :=
  ⟨fun _ _ _ => rfl, fun s h => by simp only [step, h], fun c s h => exec_completes c s h⟩

end Sys2Proof.Machine
end

section
/-! Time (R125, R583): `now` moves in STEP_TICK, in the steps of a descriptor run whole, in OP_TRANSITION and at a cold reset alone; what a
tick does leaves it, operation by operation. -/

namespace Sys2Proof.Machine

/-! ### Changes made one after another -/

/-- What no step of a fold touches stays. -/
theorem foldl_frame {α β γ : Type} {g : β → γ} {f : β → α → β} (hf : ∀ b x, g (f b x) = g b) (l : List α) (b : β) :
    g (l.foldl f b) = g b := by
  induction l generalizing b with
  | nil => rfl
  | cons x l ih => exact (ih _).trans (hf b x)

@[simp] theorem now_foldl {α : Type} {l : List α} {f : State → α → State} (hf : ∀ s x, (f s x).now = s.now) (s : State) :
    (l.foldl f s).now = s.now :=
  foldl_frame hf l s

@[simp] theorem now_forAll {α : Type} {l : List α} {f : α → State → State} (hf : ∀ x s, (f x s).now = s.now) (s : State) :
    (forAll l f s).now = s.now :=
  forAll_frame hf s

/-- No time passes between two states. A kernel that compares two sides of `SameTime` compares the states before it evaluates either:
the lemmas whose states are costly to evaluate go through it. -/
def SameTime (s t : State) : Prop := t.now = s.now

theorem SameTime.of {s t : State} (h : t.now = s.now) : SameTime s t := h

theorem SameTime.forAll {α : Type} {l : List α} {f : α → State → State} (hf : ∀ x s, SameTime s (f x s)) (s : State) :
    (forAll l f s).now = s.now :=
  now_forAll hf s

@[simp] theorem State.now_ite {c : Prop} [Decidable c] (s t : State) : (if c then s else t).now = if c then s.now else t.now :=
  apply_ite State.now c s t

/-! ### The state that the start of a stage leaves -/

@[simp] theorem Begin.state_started (s : State) : (Begin.started s).state = s := rfl
@[simp] theorem Begin.state_withheld (s : State) : (Begin.withheld s).state = s := rfl
@[simp] theorem Begin.state_notReady (s : State) : (Begin.notReady s).state = s := rfl
@[simp] theorem Begin.state_ite {c : Prop} [Decidable c] (a b : Begin) : (if c then a else b).state = if c then a.state else b.state :=
  apply_ite Begin.state c a b

/-- Whichever start is made, time stands where it stood. -/
theorem Begin.now_ite {c : Prop} [Decidable c] {a b : Begin} {n : Nat} (ha : a.state.now = n) (hb : b.state.now = n) :
    (if c then a else b).state.now = n := by
  split
  · exact ha
  · exact hb

end Sys2Proof.Machine
end

section
/-! No time passes in what a sequence reads, writes, reports and ends with. -/

namespace Sys2Proof.Machine

variable (s : State)

/-! ### Registers, tables, energy and the flash queue -/

@[simp] theorem State.now_setFld (off : Nat) (f : Nat × Nat) (v : Nat) : (s.setFld off f v).now = s.now := by simp [State.setFld]
@[simp] theorem State.now_count (off n : Nat) : (s.count off n).now = s.now := by simp [State.count]
@[simp] theorem State.now_count64 (off n : Nat) : (s.count64 off n).now = s.now := by simp [State.count64]
@[simp] theorem State.now_resetRegs (lo n : Nat) : (s.resetRegs lo n).now = s.now := by simp [State.resetRegs]
@[simp] theorem State.now_coverWcb (w n : Nat) (data : Nat → List Byte) : (s.coverWcb w n data).now = s.now := by simp [State.coverWcb]

@[simp] theorem State.now_farWrite (ckpt : Bool) (ink : List Byte) (a : Nat) (bs : List Byte) : (s.farWrite ckpt ink a bs).now = s.now := by
  simp [State.farWrite]

@[simp] theorem State.now_tunWrite (ckpt : Bool) (h o : Nat) (bs : List Byte) : (s.tunWrite ckpt h o bs).now = s.now := by
  unfold State.tunWrite
  split <;> simp

@[simp] theorem State.now_onSeq (e : Nat) (f : Sequence → Sequence) : (s.onSeq e f).now = s.now := by
  unfold State.onSeq
  split <;> simp

@[simp] theorem State.now_onIndex (h : Nat) (f : Index → Index) : (s.onIndex h f).now = s.now := by
  unfold State.onIndex
  split <;> simp

@[simp] theorem State.now_onRing (p : Nat) (f : Ring → Ring) : (s.onRing p f).now = s.now := by
  unfold State.onRing
  split <;> simp

@[simp] theorem State.now_onImage (h : Nat) (f : Image → Image) : (s.onImage h f).now = s.now := by
  unfold State.onImage
  split <;> simp

@[simp] theorem State.now_onFilter (h : Nat) (f : Filter → Filter) : (s.onFilter h f).now = s.now := by
  unfold State.onFilter
  split <;> simp

@[simp] theorem State.now_onTenant (v : Nat) (f : Tenant → Tenant) : (s.onTenant v f).now = s.now := by
  unfold State.onTenant
  split <;> simp

@[simp] theorem State.now_onPart (p : Nat) (f : Partition → Partition) : (s.onPart p f).now = s.now := by
  unfold State.onPart
  split <;> simp

@[simp] theorem State.now_addModel (d owner n : Nat) : (s.addModel d owner n).now = s.now := by simp [State.addModel]
@[simp] theorem State.now_act (c owner n : Nat) : (s.act c owner n).now = s.now := by simp [State.act]

@[simp] theorem State.now_config (area kind : Nat) (payload : List Byte) : (s.config area kind payload).now = s.now := by
  simp [State.config]

/-! ### Records, summary bits and interrupts (R486, R487, R494 to R499, R505) -/

@[simp] theorem State.now_setSummary (f lo v : Nat) : (s.setSummary f lo v).now = s.now := by simp [State.setSummary]
@[simp] theorem State.now_applyRaised : s.applyRaised.now = s.now := now_forAll (fun _ _ => State.setReg_now _ _ _) _
@[simp] theorem State.now_occur (o : Occ) : (s.occur o).1.now = s.now := by rw [(s.occur_reported o).frame]
@[simp] theorem State.now_record (o : Occ) : (s.record o).now = s.now := by simp [State.record]
@[simp] theorem State.now_releaseRecords (d : Nat) : (s.releaseRecords d).now = s.now := by simp [State.releaseRecords]
@[simp] theorem State.now_sendMsi (f : Nat) : (s.sendMsi f).now = s.now := by simp [State.sendMsi]

@[simp] theorem State.now_requestIrq (f : Nat) : (s.requestIrq f).now = s.now := by
  unfold State.requestIrq
  dsimp only
  split
  · rw [State.now_sendMsi, State.setReg_now]
  · rfl

@[simp] theorem State.now_requestIrqs : s.requestIrqs.now = s.now := by simp [State.requestIrqs]

@[simp] theorem State.now_fatalRequests : s.fatalRequests.now = s.now := by
  refine now_forAll (fun f s => ?_) s
  split
  · rw [State.now_sendMsi, State.setReg_now]
  · rfl

@[simp] theorem State.now_enterFatal (p : FatalPend) : (s.enterFatal p).now = s.now := by
  unfold State.enterFatal
  dsimp only
  rw [State.now_fatalRequests, State.setReg_now]

/-! ### Writes to memory and what a commit changes of an index (R74, R78, R80, R258 to R264) -/

@[simp] theorem State.now_touchWord (w mask : Nat) (data : List Byte) (rood : Option Nat) : (s.touchWord w mask data rood).now = s.now := by
  unfold State.touchWord
  split <;> rfl

@[simp] theorem State.now_wput (rood : Option Nat) (a : Nat) (bs : List Byte) : (s.wput rood a bs).now = s.now := by simp [State.wput]
@[simp] theorem State.now_wtag (rood : Option Nat) (i : Index) (x t : Nat) : (s.wtag rood i x t).now = s.now := by simp [State.wtag]

@[simp] theorem State.now_appendLog (rood : Option Nat) (h x bucket op : Nat) : (s.appendLog rood h x bucket op).now = s.now := by
  unfold State.appendLog
  split
  · rfl
  · split <;> simp

@[simp] theorem State.now_tagItem (rood : Option Nat) (h x : Nat) : (s.tagItem rood h x).now = s.now := by
  unfold State.tagItem
  split
  · rfl
  · split <;> simp

@[simp] theorem State.now_pinLine (h c p : Nat) : (s.pinLine h c p).now = s.now := by
  unfold State.pinLine
  split
  · rfl
  · split <;> simp

@[simp] theorem State.now_takeBushel (rood : Option Nat) (h c : Nat) : (s.takeBushel rood h c).now = s.now := by
  unfold State.takeBushel
  split
  · rfl
  · split <;> simp

@[simp] theorem State.now_fillSlot (rood : Option Nat) (h c x : Nat) (code : List Byte) : (s.fillSlot rood h c x code).now = s.now := by
  unfold State.fillSlot
  split
  · rfl
  · split <;> simp

theorem State.now_applyInsert {s t : State} {rood : Option Nat} {h c ext : Nat} {code vec : List Byte} {r : Nat × Nat}
    (hfits : s.applyInsert rood h c ext code vec = some (t, r)) : t.now = s.now := by
  unfold State.applyInsert at hfits
  split at hfits
  · exact nomatch hfits
  · split at hfits
    · exact nomatch hfits
    · split at hfits
      · extract_lets x l taken filled item vector dir tagged logged counted at hfits
        have hvector : vector.now = item.now := by
          dsimp only [vector]
          split
          · split <;> simp
          · rfl
        have htagged : tagged.now = dir.now := by
          dsimp only [tagged]
          split
          · simp
          · rfl
        obtain ⟨rfl, -⟩ := Prod.mk.inj (Option.some.inj hfits)
        simp [counted, logged, htagged, dir, hvector, item, filled, taken]
      · exact nomatch hfits

theorem State.now_applyDelete {s t : State} {rood : Option Nat} {h ext : Nat} {r : Nat × Nat}
    (hfits : s.applyDelete rood h ext = some (t, r)) : t.now = s.now := by
  unfold State.applyDelete at hfits
  split at hfits
  · exact nomatch hfits
  · split at hfits
    · exact nomatch hfits
    · dsimp only at hfits
      split at hfits
      · cases hfits
        rfl
      · split_ifs at hfits
        · cases hfits
          rfl
        · cases hfits
          simp

@[simp] theorem State.now_foldEntry (bad : Nat → Bool) (rood : Option Nat) (i : Index) (t n : Nat) :
    (s.foldEntry bad rood i t n).now = s.now := by
  simp [State.foldEntry]

@[simp] theorem State.now_foldStep (bad : Nat → Bool) (rood : Option Nat) (h : Nat) : (s.foldStep bad rood h).1.now = s.now := by
  unfold State.foldStep
  split
  · rfl
  · split
    · rfl
    · dsimp only
      split <;> simp

theorem State.now_applyPublish {s t : State} {h : Nat} {r : Nat × Nat} (hpub : s.applyPublish h = some (t, r)) : t.now = s.now := by
  unfold State.applyPublish at hpub
  split at hpub
  · exact nomatch hpub
  · split at hpub
    · exact nomatch hpub
    · cases hpub
      rfl

/-! ### Pool words (R280) -/

@[simp] theorem State.now_settlePool (w : Nat) : (s.settlePool w).now = s.now := by simp [State.settlePool]

/-! ### Reads of a sequence (R251, R279, R281) -/

@[simp] theorem State.now_voidSeq (e reason : Nat) : (s.voidSeq e reason).now = s.now := by
  unfold State.voidSeq
  split <;> simp

@[simp] theorem State.now_useBad (q : Sequence) (w : Nat) : (s.useBad q w).1.now = s.now := by
  unfold State.useBad
  split <;> simp

@[simp] theorem State.now_tunBad (q : Sequence) (tun : Option Nat) : (s.tunBad q tun).1.now = s.now := by
  unfold State.tunBad
  split <;> simp

@[simp] theorem State.now_arrive (p : Nat) (r : Req) : (s.arrive p r).now = s.now := by
  unfold State.arrive
  dsimp only
  split
  · simp
  · split
    · split <;> simp
    · simp

@[simp] theorem State.now_ownerFault (vf a : Nat) : (s.ownerFault vf a).now = s.now := by simp [State.ownerFault]

@[simp] theorem State.now_issueRead (e : Nat) (client : Client) (a words : Nat) (expect : Nat) (src : Option Landed) :
    (s.issueRead e client a words expect src).now = s.now := by
  unfold State.issueRead
  split <;> simp

@[simp] theorem State.now_issueLines (e : Nat) (client : Client) (ws : List Nat) (src : Option Landed) :
    (s.issueLines e client ws src).now = s.now := by
  refine now_forAll (fun w t => ?_) s
  split <;> simp

@[simp] theorem State.now_queueStream (slot a : Nat) (bs : List Byte) : (s.queueStream slot a bs).now = s.now :=
  (now_forAll (fun _ _ => State.setPch_now _ _ _) _).trans rfl

@[simp] theorem State.now_newIssue (e : Nat) : (s.newIssue e).now = s.now := by simp [State.newIssue]
@[simp] theorem State.now_dropReads (e : Nat) : (s.dropReads e).now = s.now := by simp [State.dropReads]
@[simp] theorem State.now_discardReads (e : Nat) : (s.discardReads e).now = s.now := by simp [State.discardReads]

/-! ### The sequence cache (R122, R123) -/

@[simp] theorem State.now_spill (e n : Nat) : (s.spill e n).now = s.now := by
  unfold State.spill
  split <;> simp

@[simp] theorem State.now_evictLine (vf : Nat) : (s.evictLine vf).now = s.now := by
  unfold State.evictLine
  dsimp only
  split <;> simp

@[simp] theorem State.now_evictTo (vf n : Nat) : (s.evictTo vf n).now = s.now := by
  induction n generalizing s with
  | zero => rfl
  | succ n ih => simp [State.evictTo, ih]

@[simp] theorem State.now_writeLines (e : Nat) (ls : List Nat) : (s.writeLines e ls).now = s.now := by
  unfold State.writeLines
  split <;> simp

@[simp] theorem State.now_writeLists (e : Nat) : (s.writeLists e).now = s.now := by
  unfold State.writeLists
  split <;> simp

@[simp] theorem State.now_writeBack (vf : Nat) (all_ : Bool) : (s.writeBack vf all_).now = s.now := by simp [State.writeBack]

/-! ### Encoder images and the effects of stages (R31 to R34, R63, R139, R177 to R180) -/

@[simp] theorem State.now_evict (h : Nat) : (s.evict h).now = s.now := by simp [State.evict]

@[simp] theorem State.now_makeRoom (vf part cap need : Nat) (quiet : Bool) (hs : List Nat) :
    (s.makeRoom vf part cap need quiet hs).now = s.now := by
  induction hs generalizing s with
  | nil => rfl
  | cons h hs ih => simp [State.makeRoom, ih]

@[simp] theorem State.now_startFill (h : Nat) : (s.startFill h).1.now = s.now := by
  unfold State.startFill
  split
  · rfl
  · split_ifs
    · rfl
    · rfl
    · split
      · extract_lets cap made used
        have hmade : made.now = s.now := s.now_makeRoom _ _ _ _ _ _
        split_ifs
        · rw [State.now_onImage, hmade]
        · rfl
      · rfl

@[simp] theorem State.now_countTile (flags : Nat) : (s.countTile flags).now = s.now := by simp [State.countTile]
@[simp] theorem State.now_encStarts (h : Nat) : (s.encStarts h).now = s.now := by simp [State.encStarts]

@[simp] theorem State.now_cqEffect (e : Nat) : (s.cqEffect e).now = s.now := by
  unfold State.cqEffect
  split
  · rfl
  · split <;> simp

@[simp] theorem State.now_walkDone (e : Nat) : (s.walkDone e).now = s.now := by
  unfold State.walkDone
  split
  · rfl
  · split <;> simp

@[simp] theorem State.now_entryEffect (e : Nat) : (s.entryEffect e).now = s.now := by
  unfold State.entryEffect
  split
  · rfl
  · split
    · rfl
    · dsimp only
      split <;> simp

@[simp] theorem State.now_hopEffect (e : Nat) (ms : List Nbr) : (s.hopEffect e ms).now = s.now := by
  unfold State.hopEffect
  split
  · rfl
  · split <;> simp

@[simp] theorem State.now_heldRecord (q : Sequence) (w : Nat) : (s.heldRecord q w).1.now = s.now := by
  unfold State.heldRecord
  split <;> simp

@[simp] theorem State.now_heldRecords (q : Sequence) (ws : List Nat) : (s.heldRecords q ws).1.now = s.now :=
  foldl_frame (g := fun r : State × Option Nat => r.1.now) (fun r w => r.1.now_heldRecord q w) ws (s, none)

@[simp] theorem State.now_chooseEffect (e : Nat) : (s.chooseEffect e).now = s.now := by
  unfold State.chooseEffect
  split
  · rfl
  · split
    · rfl
    · split
      · rfl
      · split
        · simp
        · split <;> simp

@[simp] theorem State.now_markUnsound (ws : List Nat) : (s.markUnsound ws).now = s.now := by simp [State.markUnsound]

@[simp] theorem State.now_foldEffect (e : Nat) : (s.foldEffect e).1.now = s.now := by
  unfold State.foldEffect
  split
  · rfl
  · dsimp only
    split <;> simp

@[simp] theorem State.now_writeEffect (e : Nat) : (s.writeEffect e).now = s.now := by
  unfold State.writeEffect
  split
  · rfl
  · extract_lets rood tile done
    have hdone : ∀ r : Option (State × Nat × Nat), (∀ t x, r = some (t, x) → t.now = s.now) → (done r).now = s.now := fun r hr => by
      dsimp only [done]
      split
      next t aux ep => simp [hr t _ rfl]
      · simp
    split_ifs
    · simp
    · rfl
    · split
      · exact hdone _ fun t x h => State.now_applyInsert h
      · exact hdone _ fun t x h => State.now_applyDelete h
      · refine hdone _ fun t x h => ?_
        obtain ⟨r, hpub, hr⟩ := Option.map_eq_some_iff.mp h
        cases hr
        exact State.now_applyPublish hpub

@[simp] theorem State.now_endStage (e : Nat) : (s.endStage e).now = s.now := by simp [State.endStage]

/-! ### Results, completions and the end of a sequence (R39, R93, R101 to R105, R116) -/

@[simp] theorem State.now_translate (f addr : Nat) : (s.translate f addr).now = s.now := by simp [State.translate]
@[simp] theorem State.now_dmaWrite (f addr : Nat) (bs : List Byte) : (s.dmaWrite f addr bs).now = s.now := by simp [State.dmaWrite]
@[simp] theorem State.now_aer (a : Aer) : (s.aer a).now = s.now := by simp [State.aer]

@[simp] theorem State.now_dmaFailed (f addr : Nat) (k : DmaFault) : (s.dmaFailed f addr k).now = s.now := by
  unfold State.dmaFailed
  rw [State.now_record]
  split <;> simp

@[simp] theorem State.now_ringFault (p cause : Nat) : (s.ringFault p cause).now = s.now := by simp [State.ringFault]

@[simp] theorem State.now_complete (p : Nat) (c : Completion) : (s.complete p c).now = s.now := by
  unfold State.complete
  split
  · rfl
  · dsimp only
    split
    · simp
    · split <;> simp

@[simp] theorem State.now_signal (p : Nat) : (s.signal p).now = s.now := by simp [State.signal]

@[simp] theorem State.now_unpin (q : Sequence) : (s.unpin q).now = s.now := by
  unfold State.unpin
  split <;> simp

@[simp] theorem State.now_unpinFilter (q : Sequence) : (s.unpinFilter q).now = s.now := by
  unfold State.unpinFilter
  split <;> simp

@[simp] theorem State.now_dropSems (e : Nat) : (s.dropSems e).now = s.now := by
  unfold State.dropSems
  split <;> simp

@[simp] theorem State.now_dropEnc (q : Sequence) : (s.dropEnc q).now = s.now := by
  unfold State.dropEnc
  split
  · split <;> simp
  · rfl

@[simp] theorem State.now_release (e : Nat) : (s.release e).now = s.now := by
  unfold State.release
  split <;> simp

@[simp] theorem State.now_writeResults (q : Sequence) (c : Completion) : (s.writeResults q c).now = s.now := by simp [State.writeResults]

@[simp] theorem State.now_remotePoison (q : Sequence) : (s.remotePoison q).1.now = s.now := by
  unfold State.remotePoison
  split
  · split <;> simp
  · rfl

@[simp] theorem State.now_commitSeq (e steps : Nat) : (s.commitSeq e steps).now = s.now := by
  unfold State.commitSeq
  split
  · rfl
  · extract_lets written
    have hwritten : written.now = s.now := by simp [written]
    split
    · exact hwritten
    · split
      next t q hpoison =>
        have ht : t.now = s.now := by
          rw [← hwritten]
          split at hpoison
          · rw [← written.now_remotePoison, hpoison]
          · cases hpoison
            rfl
        extract_lets c faulted ended
        have hfaulted : faulted.now = t.now := by
          dsimp only [faulted]
          split
          · simp
          · rfl
        have hended : ended.now = t.now := by
          dsimp only [ended]
          split
          · simp [hfaulted]
          · rfl
        simp [hended, ht]

@[simp] theorem State.now_commitFailing (x : Failing) : (s.commitFailing x).now = s.now := by simp [State.commitFailing]

@[simp] theorem State.now_killSeq (e : Nat) : (s.killSeq e).now = s.now := by
  unfold State.killSeq
  split <;> simp

@[simp] theorem State.now_endSeq (e : Nat) (st : Status) (silent : Bool) : (s.endSeq e st silent).now = s.now := by
  unfold State.endSeq
  split
  · rfl
  · split
    · rfl
    · split <;> simp

end Sys2Proof.Machine
end

section
/-! No time passes on the ports of the device: admission from the rings, the fabric, the Lenlink ports and the far tier. -/

namespace Sys2Proof.Machine

variable (s : State)

/-! ### Messages sent (R383) -/

@[simp] theorem State.now_sendOn (p lane : Nat) (m : Msg) : (s.sendOn p lane m).now = s.now := by simp [State.sendOn]
@[simp] theorem State.now_sendPort (p : Nat) (m : Msg) : (s.sendPort p m).now = s.now := by simp [State.sendPort]

@[simp] theorem State.now_sendTo (m : Msg) : (s.sendTo m).now = s.now := by
  unfold State.sendTo
  split <;> simp

@[simp] theorem State.now_sendDown (h : Nat) (box : List (Int × Int)) (m : Msg) : (s.sendDown h box m).now = s.now := by
  simp [State.sendDown]

@[simp] theorem State.now_sendUp (h : Nat) (m : Msg) : (s.sendUp h m).now = s.now := by
  unfold State.sendUp
  split <;> simp

/-! ### Admission (R108, R109, R113, R114) -/

@[simp] theorem State.now_enter (e : Nat) (q : Sequence) : (s.enter e q).now = s.now := by
  unfold State.enter
  dsimp only
  rw [State.now_onIndex]
  split
  · rw [State.now_onFilter]
    split <;> simp
  · split <;> simp

@[simp] theorem State.now_absentFill (vf : Nat) (d : List Byte) : (s.absentFill vf d).now = s.now := by
  unfold State.absentFill
  split
  · split <;> simp
  · rfl

@[simp] theorem State.now_admitOne (p : Nat) (r : Ring) (x : Staged) (st : Option Status) : (s.admitOne p r x st).1.now = s.now := by
  unfold State.admitOne
  split
  · simp
  · dsimp only
    split <;> simp

theorem Admitting.now_try (h : Headroom) (limit p : Nat) (a : Admitting) : (a.try_ h limit p).s.now = a.s.now := by
  unfold Admitting.try_
  extract_lets kill
  split
  · rfl
  · split
    · rfl
    · extract_lets vf room
      split
      · rfl
      · split
        · rfl
        · split
          · rfl
          · exact a.s.now_admitOne _ _ _ _

theorem Admitting.now_pass (h : Headroom) (limit cls : Nat) (ps : List Nat) (a : Admitting) : (a.pass h limit cls ps).s.now = a.s.now := by
  refine foldl_frame (g := fun a : Admitting => a.s.now) (fun a p => ?_) _ _
  split
  · rfl
  · extract_lets b
    split
    · exact Admitting.now_try h limit p a
    · exact Admitting.now_try h limit p a

theorem Admitting.now_passes (h : Headroom) (limit cls : Nat) (ps : List Nat) (n : Nat) (a : Admitting) :
    (a.passes h limit cls ps n).s.now = a.s.now := by
  induction n generalizing a with
  | zero => rfl
  | succ n ih =>
    unfold Admitting.passes
    dsimp only
    split
    · rw [ih, Admitting.now_pass]
    · exact Admitting.now_pass h limit cls ps a

@[simp] theorem State.now_admitTick (h : Headroom) (limit : Nat) : (s.admitTick h limit).s.now = s.now := by
  unfold State.admitTick
  generalize List.range 5 = classes
  refine foldl_frame (g := fun a : Admitting => a.s.now) (fun a cls => ?_) classes { s := s }
  exact Admitting.now_passes h limit cls _ _ a

@[simp] theorem State.now_countHeld (held : Tab Nat) : (s.countHeld held).now = s.now := by simp [State.countHeld]

/-! ### Lanes, shard parts and remote writes (R389 to R400) -/

@[simp] theorem State.now_dropLane (home hent gen : Nat) : (s.dropLane home hent gen).now = s.now := by simp [State.dropLane]
@[simp] theorem State.now_putLane (l : Lane) : (s.putLane l).now = s.now := by simp [State.putLane]

@[simp] theorem State.now_multicast (e : Nat) : (s.multicast e).now = s.now := by
  unfold State.multicast
  split
  · rfl
  · split <;> simp

@[simp] theorem State.now_closeLane (e : Nat) : (s.closeLane e).now = s.now := by
  unfold State.closeLane
  split
  · rfl
  · split <;> simp

@[simp] theorem State.now_emitLane (l : Lane) (subtmo : Bool) : (s.emitLane l subtmo).now = s.now := by
  unfold State.emitLane
  split
  · split <;> simp
  · simp

theorem State.now_startPart {s t : State} {m : Msg} {waited : Bool} (h : s.startPart m waited = some t) : t.now = s.now := by
  unfold State.startPart at h
  split at h
  · cases h
    rfl
  · dsimp only at h
    split at h
    · cases h
      rfl
    · split at h
      · cases h
        simp
      · split at h
        · exact nomatch h
        · cases h
          simp

theorem State.now_startWrite {s t : State} {m : Msg} (h : s.startWrite m = some t) : t.now = s.now := by
  unfold State.startWrite at h
  split at h
  · cases h
    rfl
  · dsimp only at h
    split_ifs at h
    · cases h
      rfl
    · split at h
      · exact nomatch h
      · cases h
        simp

@[simp] theorem State.now_setPub (p : ShardPub) : (s.setPub p).now = s.now := by simp [State.setPub]

theorem State.now_startPrep {s t : State} {m : Msg} (h : s.startPrep m = some t) : t.now = s.now := by
  unfold State.startPrep at h
  split at h
  · cases h
    rfl
  · split_ifs at h
    · cases h
      rfl
    · split at h
      · exact nomatch h
      · cases h
        simp

theorem State.now_startRequest {s t : State} {m : Msg} (h : s.startRequest m = some t) : t.now = s.now := by
  unfold State.startRequest at h
  split_ifs at h
  · exact State.now_startPart h
  · exact State.now_startWrite h
  · exact State.now_startPrep h

@[simp] theorem State.now_retryWaiting : s.retryWaiting.now = s.now := by
  refine (now_forAll (fun w t => ?_) _).trans rfl
  split
  next u hstart => exact State.now_startRequest hstart
  · rfl

@[simp] theorem State.now_upsendQuery (q : Sequence) : (s.upsendQuery q).now = s.now := by
  unfold State.upsendQuery
  split
  · rfl
  · split <;> simp

@[simp] theorem State.now_homeTimeout (e : Nat) : (s.homeTimeout e).now = s.now := by
  unfold State.homeTimeout
  split
  · rfl
  · split <;> simp

@[simp] theorem State.now_subtreeTimeout (l : Lane) : (s.subtreeTimeout l).now = s.now := by
  unfold State.subtreeTimeout
  split <;> simp

@[simp] theorem State.now_sendWreq (e : Nat) : (s.sendWreq e).now = s.now := by
  unfold State.sendWreq
  split
  · rfl
  · split <;> simp

@[simp] theorem State.now_startRemoteWrite (e : Nat) : (s.startRemoteWrite e).now = s.now := by
  unfold State.startRemoteWrite
  split <;> simp

@[simp] theorem State.now_sendWrep (m : Msg) (r : Report) : (s.sendWrep m r).now = s.now := by simp [State.sendWrep]

@[simp] theorem State.now_upsendWrite (q : Sequence) : (s.upsendWrite q).now = s.now := by
  unfold State.upsendWrite
  split <;> simp

@[simp] theorem State.now_sendPub (e mtype : Nat) : (s.sendPub e mtype).now = s.now := by
  unfold State.sendPub
  split
  · rfl
  · split <;> simp

@[simp] theorem State.now_reportUp (m : Msg) : (s.reportUp m).now = s.now := by
  unfold State.reportUp
  split <;> simp

@[simp] theorem State.now_pubReport (p : ShardPub) (mtype : Nat) : (s.pubReport p mtype).now = s.now := by simp [State.pubReport]

/-! ### Ports of the fabric (R373, R381, R385, R403) -/

@[simp] theorem State.now_updateReach : s.updateReach.now = s.now := by simp [State.updateReach]
@[simp] theorem State.now_sendLstate : s.sendLstate.now = s.now := by simp [State.sendLstate]
@[simp] theorem State.now_showPort (n : Nat) : (s.showPort n).now = s.now := by simp [State.showPort]
@[simp] theorem State.now_showPorts : s.showPorts.now = s.now := by simp [State.showPorts]
@[simp] theorem State.now_changePort (n : Nat) (x : FabPort) : (s.changePort n x).now = s.now := by simp [State.changePort]
@[simp] theorem State.now_flitsLost (n : Nat) : (s.flitsLost n).now = s.now := by simp [State.flitsLost]
@[simp] theorem State.now_holdPort (n : Nat) : (s.holdPort n).now = s.now := by simp [State.holdPort]

/-! ### Lenlink ports (R337 to R367) -/

@[simp] theorem State.now_setLnkFld (n : Nat) (f : Nat × Nat) (v : Nat) : (s.setLnkFld n f v).now = s.now := by simp [State.setLnkFld]
@[simp] theorem State.now_setLnkLane (n l : Nat) (x : LnkLane) : (s.setLnkLane n l x).now = s.now := by simp [State.setLnkLane]
@[simp] theorem State.now_portRecord (c : Cause) (n a0 a1 a2 : Nat) : (s.portRecord c n a0 a1 a2).now = s.now := by simp [State.portRecord]
@[simp] theorem State.now_sendSyncAt (n rate : Nat) : (s.sendSyncAt n rate).now = s.now := by simp [State.sendSyncAt]
@[simp] theorem State.now_sendSync (n : Nat) : (s.sendSync n).now = s.now := by simp [State.sendSync]

@[simp] theorem State.now_grantRamps : s.grantRamps.now = s.now := by
  refine now_forAll (fun n t => ?_) s
  dsimp only
  split
  · rfl
  · split <;> simp

@[simp] theorem State.now_drive (n : Nat) (on : Bool) : (s.drive n on).now = s.now := by simp [State.drive]
@[simp] theorem State.now_ceilToMax (n : Nat) : (s.ceilToMax n).now = s.now := by simp [State.ceilToMax]
@[simp] theorem State.now_idlePort (n st : Nat) : (s.idlePort n st).now = s.now := by simp [State.idlePort]

@[simp] theorem State.now_enterDisabled (n : Nat) : (s.enterDisabled n).now = s.now := by
  unfold State.enterDisabled
  dsimp only
  rw [State.now_drive, State.setLnk_now, State.now_ceilToMax, State.now_idlePort]

@[simp] theorem State.now_enterFault (n reason : Nat) : (s.enterFault n reason).now = s.now := by simp [State.enterFault]
@[simp] theorem State.now_enterSearch (n : Nat) (restart : Bool) : (s.enterSearch n restart).now = s.now := by simp [State.enterSearch]
@[simp] theorem State.now_enterLock (n rate : Nat) : (s.enterLock n rate).now = s.now := by simp [State.enterLock]
@[simp] theorem State.now_quickAttempt (n : Nat) : (s.quickAttempt n).now = s.now := by simp [State.quickAttempt]
@[simp] theorem State.now_startQuick (n : Nat) : (s.startQuick n).now = s.now := by simp [State.startQuick]
@[simp] theorem State.now_codeTimeout (n : Nat) : (s.codeTimeout n).now = s.now := by simp [State.codeTimeout]

@[simp] theorem State.now_actRetrain (n : Nat) : (s.actRetrain n).now = s.now := by
  unfold State.actRetrain
  dsimp only
  split <;> simp

/-! ### The flash log (R556, R559) -/

@[simp] theorem State.now_log (kind : Nat) (data : List Byte) : (s.log kind data).now = s.now := by simp [State.log]
@[simp] theorem State.now_platRecord (code sev a0 a1 : Nat) : (s.platRecord code sev a0 a1).now = s.now := by simp [State.platRecord]

@[simp] theorem State.now_flashStep (ok : Bool) : (s.flashStep ok).now = s.now := by
  unfold State.flashStep
  split
  · rfl
  · split <;> simp

/-! ### Far reads and flushes (R314 to R320) -/

@[simp] theorem State.now_stageReadsOver (e : Nat) : (s.stageReadsOver e).now = s.now := by
  unfold State.stageReadsOver
  split <;> simp

@[simp] theorem State.now_readTaken (e : Nat) : (s.readTaken e).now = s.now := by
  unfold State.readTaken
  split <;> simp

@[simp] theorem State.now_zeroTunEntry (t : Tun) : (s.zeroTunEntry t).now = s.now := by
  refine now_foldl (fun s x => ?_) s
  split
  · simp
  · rfl

@[simp] theorem State.now_farBad (r : FarReq) (c : Cause) : (s.farBad r c).now = s.now := by
  unfold State.farBad
  dsimp only
  split
  · simp
  · split <;> simp

@[simp] theorem State.now_farTaken (r : FarReq) : (s.farTaken r).now = s.now := by
  unfold State.farTaken
  split
  · split <;> simp
  · rfl

@[simp] theorem State.now_farQueue (r : FarReq) : (s.farQueue r).now = s.now := by simp [State.farQueue]

@[simp] theorem State.now_issueFar (e tun o n start bound : Nat) : (s.issueFar e tun o n start bound).now = s.now := by
  unfold State.issueFar
  split <;> simp

@[simp] theorem State.now_gpfPhase (n : Nat) : (s.gpfPhase n).now = s.now := by simp [State.gpfPhase]
@[simp] theorem State.now_startGpf (notice : Bool) : (s.startGpf notice).now = s.now := by simp [State.startGpf]

end Sys2Proof.Machine
end

section
/-! No time passes in the work of a tick: starts of stages, tenancy, commands, power and metering. -/

namespace Sys2Proof.Machine

variable (s : State)

/-! ### Starts of stages, ends of sequences and marks (R116, R118, R129, R130, R134, R143, R172, R267) -/

@[simp] theorem State.now_beginStage (e st : Nat) (ph : SeqPhase) : (s.beginStage e st ph).now = s.now := by simp [State.beginStage]

@[simp] theorem State.now_awaitReads (e : Nat) : (s.awaitReads e).now = s.now := by
  unfold State.awaitReads
  split <;> simp

@[simp] theorem State.now_startEnc (e : Nat) (q : Sequence) : (s.startEnc e q).now = s.now := by
  unfold State.startEnc
  split <;> simp

@[simp] theorem State.now_endPass (g : Nat) : (s.endPass g).now = s.now := by
  unfold State.endPass
  split <;> simp

@[simp] theorem State.now_startCq (e : Nat) (i : Index) : (s.startCq e i).state.now = s.now := by
  unfold State.startCq
  dsimp only
  split <;> simp

@[simp] theorem State.now_startProbe (e : Nat) (i : Index) : (s.startProbe e i).now = s.now := by
  unfold State.startProbe
  dsimp only
  split
  · simp
  · rw [now_forAll]
    · simp
    · simp

@[simp] theorem State.now_probeEnds (e : Nat) : (s.probeEnds e).now = s.now := by
  unfold State.probeEnds
  split <;> simp

@[simp] theorem State.now_startRerank (e : Nat) (i : Index) (q : Sequence) : (s.startRerank e i q).now = s.now := by
  unfold State.startRerank
  dsimp only
  rw [State.now_awaitReads]
  split <;> simp

@[simp] theorem State.now_takeSems (e : Nat) (q : Sequence) : (s.takeSems e q).now = s.now := by simp [State.takeSems]

@[simp] theorem State.now_startPlace (e : Nat) (i : Index) (q : Sequence) : (s.startPlace e i q).state.now = s.now := by
  simp [State.startPlace]

@[simp] theorem State.now_startLocalCommit (e : Nat) (q : Sequence) : (s.startLocalCommit e q).state.now = s.now := by
  simp [State.startLocalCommit]

@[simp] theorem State.now_startHomePublish (e : Nat) (q : Sequence) : (s.startHomePublish e q).state.now = s.now := by
  simp [State.startHomePublish]

@[simp] theorem State.now_startRemote (e : Nat) (q : Sequence) : (s.startRemote e q).state.now = s.now := by simp [State.startRemote]

@[simp] theorem State.now_startUpsend (e : Nat) (q : Sequence) : (s.startUpsend e q).state.now = s.now := by
  unfold State.startUpsend
  split
  · split
    · simp
    · split <;> simp
  · simp

@[simp] theorem State.now_startStage (e : Nat) : (s.startStage e).state.now = s.now := by
  unfold State.startStage
  split
  · rfl
  next q hq =>
    extract_lets st hopping folding
    have hbegin : ∀ t ph, (s.beginStage e t ph).now = s.now := s.now_beginStage e
    have hcommit : (s.startLocalCommit e q).state.now = s.now := s.now_startLocalCommit e q
    refine Begin.now_ite (Begin.now_ite ?fin rfl) <| Begin.now_ite ?enc <| Begin.now_ite (s.now_startUpsend e q) ?ofIndex
    case fin => exact (State.now_onSeq _ _ _).trans (hbegin _ _)
    case enc =>
      split
      · exact (State.now_onSeq _ _ _).trans (s.now_startEnc e q)
      · rfl
    case ofIndex =>
      split
      · exact hbegin _ _
      next i hi =>
        refine Begin.now_ite (s.now_startCq e i) <| Begin.now_ite (s.now_startProbe e i) <| Begin.now_ite (hbegin _ _) <|
          Begin.now_ite ?rerank <| Begin.now_ite ?entry <| Begin.now_ite ?hop <|
          Begin.now_ite (Begin.now_ite (hbegin _ _) (s.now_startPlace e i q)) <| Begin.now_ite ?fold <|
          Begin.now_ite (s.now_startHomePublish e q) <| Begin.now_ite hcommit (s.now_startRemote e q)
        case rerank =>
          split
          · exact (State.now_onSeq _ _ _).trans (s.now_startRerank e i q)
          · rfl
        case entry => rw [Begin.state_started, State.now_awaitReads, State.now_issueLines, hbegin]
        case hop =>
          split
          · rw [Begin.state_started, State.now_awaitReads, State.now_issueRead, hbegin]
          · rw [Begin.state_started, State.now_awaitReads, hbegin]
        case fold => rw [Begin.state_started, State.now_ite, State.now_sendPub, ite_self, hbegin]

@[simp] theorem State.now_shardChoose (e : Nat) (q : Sequence) : (s.shardChoose e q).now = s.now := by
  unfold State.shardChoose
  split
  · split
    · rfl
    · split
      · simp
      · split <;> simp
  · rfl

@[simp] theorem State.now_chooseRetirees : s.chooseRetirees.now = s.now := by simp [State.chooseRetirees]
@[simp] theorem State.now_foldEnds (e : Nat) : (s.foldEnds e).now = s.now := by simp [State.foldEnds]

@[simp] theorem State.now_endQuery (e : Nat) (st : Status) : (s.endQuery e st).now = s.now := by
  unfold State.endQuery
  split <;> simp

@[simp] theorem State.now_actCancel (p tag : Nat) : (s.actCancel p tag).now = s.now := by simp [State.actCancel]

@[simp] theorem State.now_actCancels (p : Nat) : (s.actCancels p).now = s.now := by
  unfold State.actCancels
  split <;> simp

@[simp] theorem State.now_actStrays : s.actStrays.now = s.now := by simp [State.actStrays]

@[simp] theorem State.now_actDeadline (e : Nat) : (s.actDeadline e).now = s.now := by
  unfold State.actDeadline
  split
  · split <;> simp
  · rfl

@[simp] theorem State.now_rerun (e : Nat) : (s.rerun e).now = s.now := by
  unfold State.rerun
  split <;> simp

@[simp] theorem State.now_markFailing : s.markFailing.now = s.now := by simp [State.markFailing]
@[simp] theorem State.now_markTick : s.markTick.now = s.now := by simp [State.markTick]

/-! ### Stores given back (R313) -/

@[simp] theorem State.now_freeGranules (gs : List Nat) : (s.freeGranules gs).now = s.now := by simp [State.freeGranules]
@[simp] theorem State.now_refund (vf stk pool far : Nat) : (s.refund vf stk pool far).now = s.now := by simp [State.refund]

@[simp] theorem State.now_freeFilter (h : Nat) : (s.freeFilter h).now = s.now := by
  unfold State.freeFilter
  split <;> simp

@[simp] theorem State.now_freeIndex (h : Nat) : (s.freeIndex h).now = s.now := by
  unfold State.freeIndex
  split
  · rfl
  · dsimp only
    rw [State.now_refund, State.now_freeGranules]
    split <;> simp

@[simp] theorem State.now_freeImage (h : Nat) : (s.freeImage h).now = s.now := by
  unfold State.freeImage
  split
  · rfl
  · dsimp only
    split <;> simp

@[simp] theorem State.now_freeTun (h : Nat) : (s.freeTun h).now = s.now := by
  unfold State.freeTun
  split <;> simp

@[simp] theorem State.now_reapStores : s.reapStores.now = s.now := by simp [State.reapStores]

@[simp] theorem State.now_tunOffline (h : Nat) : (s.tunOffline h).now = s.now := by
  unfold State.tunOffline
  split <;> simp

@[simp] theorem State.now_dropTenantStores (vf : Nat) (all_ : Bool) : (s.dropTenantStores vf all_).now = s.now := by
  simp [State.dropTenantStores]

@[simp] theorem State.now_zeroKey (vf : Nat) : (s.zeroKey vf).now = s.now := by simp [State.zeroKey]

/-! ### Slots, hand-over and revocation (R156, R159, R164, R189) -/

@[simp] theorem State.now_fillSet (vf : Nat) : (s.fillSet vf).now = s.now := by
  unfold State.fillSet
  split <;> simp

@[simp] theorem State.now_startSlot (k j slotEnd : Nat) (kill : Bool) : (s.startSlot k j slotEnd kill).now = s.now := by
  unfold State.startSlot
  split <;> simp

@[simp] theorem State.now_slotBoundary (k : Nat) : (s.slotBoundary k).now = s.now := by
  unfold State.slotBoundary
  split <;> simp

@[simp] theorem State.now_installSlices (k : Nat) : (s.installSlices k).now = s.now := by
  unfold State.installSlices
  split
  · rfl
  · split
    · rfl
    · dsimp only
      split <;> simp

@[simp] theorem State.now_earlyHandover (k : Nat) : (s.earlyHandover k).now = s.now := by
  unfold State.earlyHandover
  split
  · rfl
  · dsimp only
    split
    · rfl
    · split <;> simp

@[simp] theorem State.now_revokeSeq (e : Nat) (silent : Bool) : (s.revokeSeq e silent).now = s.now := by
  unfold State.revokeSeq
  split <;> simp

@[simp] theorem State.now_dropRings (vf : Nat) : (s.dropRings vf).now = s.now := by simp [State.dropRings]

@[simp] theorem State.now_actRevoke (vf : Nat) : (s.actRevoke vf).now = s.now := by
  unfold State.actRevoke
  split
  · rfl
  · split <;> simp

@[simp] theorem State.now_rungEnds : s.rungEnds.now = s.now := by simp [State.rungEnds]

/-! ### Function resets (R426) -/

@[simp] theorem State.now_tenantChanged (vf : Nat) : (s.tenantChanged vf).now = s.now := by simp [State.tenantChanged]
@[simp] theorem State.now_setTdi (vf st : Nat) : (s.setTdi vf st).now = s.now := by simp [State.setTdi]
@[simp] theorem State.now_wipeTenant (vf : Nat) : (s.wipeTenant vf).now = s.now := by simp [State.wipeTenant]
@[simp] theorem State.now_flrConfig (f : Nat) : (s.flrConfig f).now = s.now := by simp [State.flrConfig]

@[simp] theorem State.now_flrWipe (f : Nat) : (s.flrWipe f).now = s.now := by
  unfold State.flrWipe
  split
  · rfl
  · dsimp only
    split <;> simp

@[simp] theorem State.now_flrStart : s.flrStart.now = s.now := by simp [State.flrStart]
@[simp] theorem State.now_flrEnd : s.flrEnd.now = s.now := by simp [State.flrEnd]

/-! ### Responses (R445, R450) -/

@[simp] theorem State.now_malformedDone (m : Nat) (x : MbxSlot) : (s.malformedDone m x).1.now = s.now := by
  unfold State.malformedDone
  split <;> simp

theorem State.now_bufFails {s t : State} {m off : Nat} {x : MbxSlot} (h : s.bufFails m x = some (t, off)) : t.now = s.now := by
  unfold State.bufFails at h
  split_ifs at h
  · cases h
    rfl
  · split at h
    · cases h
      simp
    · exact nomatch h

@[simp] theorem State.now_respond (m k : Nat) (x : MbxSlot) : (s.respond m k x).now = s.now := by
  unfold State.respond
  extract_lets sx sent y r told header answered
  have hsent : sent.now = s.now := by
    dsimp only [sent, sx]
    split
    next t off hfails => exact State.now_bufFails hfails
    · simp
  have htold : told.now = s.now := (sent.now_malformedDone m y).trans hsent
  simp [answered, htold]

/-! ### Tenants that leave (R319) -/

@[simp] theorem State.now_closeAccount (vf : Nat) : (s.closeAccount vf).now = s.now := by simp [State.closeAccount]

@[simp] theorem State.now_dropRetained (vf : Nat) : (s.dropRetained vf).now = s.now := by
  unfold State.dropRetained
  split <;> simp

@[simp] theorem State.now_removeTenant (vf : Nat) : (s.removeTenant vf).now = s.now := by
  unfold State.removeTenant
  split <;> simp

/-! ### Starved queues of a pseudo-channel (R243) -/

@[simp] theorem State.now_openStarve : s.openStarve.now = s.now := by simp [State.openStarve]
@[simp] theorem State.now_countStarve : s.countStarve.now = s.now := by simp [State.countStarve]

/-! ### Messages between devices, and indexes destroyed (R464; log entry 12) -/

@[simp] theorem State.now_mgtSend (dest kind serial : Nat) (bs : List Byte) : (s.mgtSend dest kind serial bs).now = s.now := by
  simp [State.mgtSend]

@[simp] theorem State.now_destroyIndex (h : Nat) : (s.destroyIndex h).now = s.now := by simp [State.destroyIndex]

/-! ### Filters deleted (R470) -/

@[simp] theorem State.now_deleteFilter (i h : Nat) : (s.deleteFilter i h).now = s.now := by simp [State.deleteFilter]

/-! ### Commands on shards (R462) -/

@[simp] theorem State.now_tellShards (i : Index) (op : Nat) (p : List Byte) : (s.tellShards i op p).now = s.now :=
  SameTime.forAll (fun _ s => .of (s.now_mgtSend _ _ _ _)) s

@[simp] theorem State.now_undoShards (h op : Nat) (x : MbxSlot) : (s.undoShards h op x).now = s.now := by
  unfold State.undoShards
  split <;> simp

@[simp] theorem State.now_shardsDone (h op : Nat) (x : MbxSlot) (e : Exchange) : (s.shardsDone h op x e).1.now = s.now := by
  unfold State.shardsDone
  split
  · simp
  · split
    · split
      · dsimp only
        split <;> rfl
      · dsimp only
        split <;> rfl
    · split <;> rfl

/-! ### Operating points, sensors and power (R520, R526 to R533) -/

@[simp] theorem State.now_onRegulator (k : Nat) (f : Regulator → Regulator) : (s.onRegulator k f).now = s.now := by simp [State.onRegulator]
@[simp] theorem State.now_commandVolts (op : Nat) : (s.commandVolts op).now = s.now := by simp [State.commandVolts]
@[simp] theorem State.now_seekOp : s.seekOp.now = s.now := by simp [State.seekOp]
@[simp] theorem State.now_thermalLimit (hot : Int) : (s.thermalLimit hot).now = s.now := by simp [State.thermalLimit]

theorem State.now_withPwr (p : PwrState) : ({ s with pwr := p } : State).now = s.now := rfl

theorem SameTime.thmReport : SameTime s s.thmReport := by
  unfold State.thmReport
  split
  · exact rfl
  next x _ =>
    extract_lets hotS hotC pwr taken stks cores hot rates lim pwr' derated limited
    have hstks : stks.now = s.now := SameTime.forAll (fun _ _ => .of (State.setReg_now _ _ _)) taken
    have hcores : cores.now = s.now := (SameTime.forAll (fun _ _ => .of (State.setReg_now _ _ _)) stks).trans hstks
    have hhot : hot.now = s.now := (State.setReg_now _ _ _).trans hcores
    have hrates : rates.now = s.now := by
      refine (SameTime.forAll (fun t s => ?_) hot).trans hhot
      extract_lets was c set pwr
      have hset : set.now = s.now := State.setReg_now _ _ _
      split
      · exact .of ((State.now_record _ _).trans hset)
      · exact .of hset
    have hlimited : SameTime s limited := by
      refine .of (t := (derated.thermalLimit hotC).seekOp) ?_
      rw [State.now_seekOp, State.now_thermalLimit, State.now_withPwr, hrates]
    split
    next t j _ =>
      have htold : SameTime s (limited.platRecord 0x0524 3 j (temp16 t)) := .of ((limited.now_platRecord _ _ _ _).trans hlimited)
      dsimp only
      split
      · exact htold
      · exact .of ((State.now_commandVolts _ _).trans ((State.now_count _ _ _).trans ((State.now_setFld _ _ _ _).trans htold)))
    · exact hlimited

@[simp] theorem State.now_thmReport : s.thmReport.now = s.now := SameTime.thmReport s

@[simp] theorem State.now_countReasons (mask n : Nat) : (s.countReasons mask n).now = s.now := by simp [State.countReasons]
@[simp] theorem State.now_powerTick : s.powerTick.now = s.now := by simp [State.powerTick]
@[simp] theorem State.now_slewRatio : s.slewRatio.now = s.now := by simp [State.slewRatio]

/-! ### Metering (R538 to R545) -/

@[simp] theorem State.now_writeMeter (a : Account) : (s.writeMeter a).now = s.now := by simp [State.writeMeter]
@[simp] theorem State.now_minuteEnd : s.minuteEnd.now = s.now := by simp [State.minuteEnd]
@[simp] theorem State.now_signMeter (r : MeterRec) : (s.signMeter r).now = s.now := by simp [State.signMeter]
@[simp] theorem State.now_signAll : s.signAll.now = s.now := by simp [State.signAll]

/-! ### The league (R402) -/

@[simp] theorem State.now_setLeague (l : League) : (s.setLeague l).now = s.now := by simp [State.setLeague]

@[simp] theorem State.now_leagueLost : s.leagueLost.now = s.now := by
  unfold State.leagueLost
  split <;> simp

/-! ### Reset entry (R588) -/

@[simp] theorem State.now_flashDrain : s.flashDrain.now = s.now := by simp [State.flashDrain]
@[simp] theorem State.now_startReset (cold : Bool) (trigger : Nat) : (s.startReset cold trigger).now = s.now := by simp [State.startReset]
@[simp] theorem State.now_commandReset (trigger : Nat) : (s.commandReset trigger).now = s.now := by simp [State.commandReset]

/-! ### The fatal state (R505) -/

@[simp] theorem State.now_fatalLog : s.fatalLog.now = s.now := by
  unfold State.fatalLog
  dsimp only
  split <;> simp

@[simp] theorem State.now_fatalStop : s.fatalStop.now = s.now := by simp [State.fatalStop]

/-! ### Commands that complete (R445) -/

@[simp] theorem State.now_finish (x : MbxSlot) : (s.finish x).1.now = s.now := by
  unfold State.finish
  split
  · simp
  · simp
  · split <;> simp
  · rfl

@[simp] theorem State.now_resetAfter (w : Wait) : (s.resetAfter w).now = s.now := by
  unfold State.resetAfter
  split <;> simp

@[simp] theorem State.now_completeCmd (m k : Nat) (x : MbxSlot) : (s.completeCmd m k x).now = s.now := by simp [State.completeCmd]

end Sys2Proof.Machine
end

section
/-! No time passes in the rungs of a tick (R126); STEP_TICK adds it between two ticks. -/

namespace Sys2Proof.Machine

variable (s : State)

/-! ### The rungs of a tick (R126, R129, R139, R627 to R631) -/

@[simp] theorem State.now_openRing (x : Nat × Ring) : (s.openRing x).now = s.now := by simp [State.openRing]
@[simp] theorem State.now_warmSems : s.warmSems.now = s.now := by simp [State.warmSems]
@[simp] theorem State.now_seeDoorbells : s.seeDoorbells.now = s.now := by simp [State.seeDoorbells]
@[simp] theorem State.now_rungSee : s.rungSee.now = s.now := by simp [State.rungSee]
@[simp] theorem State.now_rungEnd : s.rungEnd.now = s.now := by simp [State.rungEnd]
@[simp] theorem State.now_lendLevels : s.lendLevels.now = s.now := by simp [State.lendLevels]
@[simp] theorem State.now_countLive : s.countLive.now = s.now := SameTime.forAll (fun _ _ => .of (State.setReg_now _ _ _)) s
@[simp] theorem State.now_rungReady : s.rungReady.now = s.now := by simp [State.rungReady]
@[simp] theorem State.now_voidAway : s.voidAway.now = s.now := by simp [State.voidAway]
@[simp] theorem State.now_withheld (e level reason : Nat) : (s.withheld e level reason).now = s.now := by simp [State.withheld]

/-- Trying one ready sequence of a group starts it, withholds it or finds it not ready. -/
theorem Starting.now_try (a : Starting) (c b e : Nat) : (a.try_ c b e).s.now = a.s.now := by
  unfold Starting.try_
  split
  · rfl
  · have hstage := a.s.now_startStage e
    dsimp only
    split
    next t h => exact (congrArg (·.state.now) h).symm.trans hstage
    next t h => simpa [h] using hstage
    next t h =>
      split
      · simpa [h] using hstage
      · simp

@[simp] theorem State.now_startGroup (ready : List Nat) (g : List Nat × Nat × Bool) : (s.startGroup ready g).now = s.now :=
  foldl_frame (g := fun a : Starting => a.s.now) (fun a e => a.now_try _ _ e) _ _

@[simp] theorem State.now_multicasts : s.multicasts.now = s.now := by simp [State.multicasts]
@[simp] theorem State.now_startEnds : s.startEnds.now = s.now := by simp [State.startEnds]
@[simp] theorem State.now_rungStart (ready : List Nat) : (s.rungStart ready).now = s.now := by simp [State.rungStart]

@[simp] theorem State.now_commitPart (e : Nat) : (s.commitPart e).now = s.now := by
  unfold State.commitPart
  split
  · rfl
  · dsimp only
    split
    · simp
    · rw [State.now_release]
      split
      · simp
      · split
        · split <;> simp
        · simp

@[simp] theorem State.now_commits : s.commits.now = s.now := by simp [State.commits]
@[simp] theorem State.now_tickEnergy : s.tickEnergy.now = s.now := by simp [State.tickEnergy]
@[simp] theorem State.now_signals : s.signals.now = s.now := by simp [State.signals]

@[simp] theorem State.now_ledgerBreach (check sub inst right left : Nat) : (s.ledgerBreach check sub inst right left).now = s.now := by
  simp [State.ledgerBreach]

@[simp] theorem State.now_ledger : s.ledger.now = s.now := by simp [State.ledger]

@[simp] theorem State.now_dropShardFilters : s.dropShardFilters.now = s.now := by
  refine now_forAll (fun x t => ?_) s
  split <;> simp

@[simp] theorem State.now_respondDue : s.respondDue.now = s.now := by
  unfold State.respondDue
  split
  · rfl
  · refine now_forAll (fun x t => ?_) s
    dsimp only
    split <;> simp

@[simp] theorem State.now_rungCommit : s.rungCommit.now = s.now := by simp [State.rungCommit]

@[simp] theorem State.now_closeTick : s.closeTick.now = s.now := by
  unfold State.closeTick
  dsimp only
  split <;> simp

@[simp] theorem State.now_runTick : s.runTick.now = s.now := by simp [State.runTick]
@[simp] theorem State.now_fatalTickRun : s.fatalTickRun.now = s.now := by simp [State.fatalTickRun]
@[simp] theorem State.now_finishTick : s.finishTick.now = s.now := by simp [State.finishTick]

end Sys2Proof.Machine
end

section
/-! Where the clock of the step builder stands, nothing of the data plane moves (R125, R505, R587). -/

namespace Sys2Proof.Machine

/-! ### Where the clock of the step builder stands (R125, R505, R587) -/

/-- What passes without a tick leaves alone: the time, the count of steps, the operating point, ring pairs, sequences and memory. -/
structure NoTick (s t : State) : Prop where
  now : t.now = s.now
  tick : t.tick = s.tick
  op : t.op = s.op
  free : t.free = s.free
  rings : t.rings = s.rings
  seqs : t.seqs = s.seqs
  memory : SameMemory s t

namespace NoTick

theorem refl (s : State) : NoTick s s := ⟨rfl, rfl, rfl, rfl, rfl, rfl, fun _ => rfl⟩

theorem trans {s t u : State} (hst : NoTick s t) (htu : NoTick t u) : NoTick s u where
  now := htu.now.trans hst.now
  tick := htu.tick.trans hst.tick
  op := htu.op.trans hst.op
  free := htu.free.trans hst.free
  rings := htu.rings.trans hst.rings
  seqs := htu.seqs.trans hst.seqs
  memory := hst.memory.trans hst.free htu.memory

theorem forAll {α : Type} {l : List α} {f : α → State → State} (hf : ∀ x ∈ l, ∀ s, NoTick s (f x s)) (s : State) :
    NoTick s (forAll l f s) :=
  forAll_keeps (P := NoTick s) (fun x hx t ht => ht.trans (hf x hx t)) (.refl s)

/-! #### The operations of the state -/

/-- Any register but the count of steps and the one that holds the operating point. -/
theorem setReg (s : State) {a : Nat} (v : Nat) (htick : a ≠ Reg.STB_TICK) (hop : a ≠ Reg.PWR_STATE) : NoTick s (s.setReg a v) where
  now := rfl
  tick := s.reg_setReg_other a v _ htick.symm
  op := congrArg (bits · 31 29) (s.reg_setReg_other a v _ hop.symm)
  free := rfl
  rings := rfl
  seqs := rfl
  memory _ := rfl

theorem setFn (s : State) (f : Nat) (x : FnState) : NoTick s (s.setFn f x) := ⟨rfl, rfl, rfl, rfl, rfl, rfl, fun _ => rfl⟩
theorem emit (s : State) (o : Output) : NoTick s (s.emit o) := ⟨rfl, rfl, rfl, rfl, rfl, rfl, fun _ => rfl⟩
theorem setLnk (s : State) (n : Nat) (x : LnkPort) : NoTick s (s.setLnk n x) := ⟨rfl, rfl, rfl, rfl, rfl, rfl, fun _ => rfl⟩
theorem setFar (s : State) (n : Nat) (x : FarPortState) : NoTick s (s.setFar n x) := ⟨rfl, rfl, rfl, rfl, rfl, rfl, fun _ => rfl⟩
theorem flashJob (s : State) (j : FlashJob) : NoTick s (s.flashJob j) := ⟨rfl, rfl, rfl, rfl, rfl, rfl, fun _ => rfl⟩

theorem ofSend {s t : State} (h : SendFrame s t) : NoTick s t := by
  rw [h]
  exact ⟨rfl, rfl, rfl, rfl, rfl, rfl, fun _ => rfl⟩

/-- A report writes registers of the record alone (R494, R498, R506). -/
theorem record (s : State) (o : Occ) (htick : Reg.STB_TICK ∉ reportRegs o) (hop : Reg.PWR_STATE ∉ reportRegs o) :
    NoTick s (s.record o) := by
  obtain ⟨hframe, hregs, -⟩ := s.occur_reported o
  exact ⟨by rw [State.now_record], hregs _ htick, congrArg (bits · 31 29) (hregs _ hop), by rw [State.record, hframe],
    hframe.rings, by rw [State.record, hframe], hframe.sameMemory⟩

/-! #### Summary bits and interrupts (R486, R487, R505) -/

theorem summary_ne (f : Nat) : summary f ≠ Reg.STB_TICK ∧ summary f ≠ Reg.PWR_STATE := by
  unfold summary Reg.SUMMARY_PF Reg.SUMMARY_VF Reg.STB_TICK Reg.PWR_STATE
  split <;> omega

theorem setSummaryReg (s : State) (f v : Nat) : NoTick s (s.setReg (summary f) v) := setReg s v (summary_ne f).1 (summary_ne f).2

theorem applyRaised (s : State) : NoTick s s.applyRaised := by
  have htaken : NoTick s { s with raised := [] } := ⟨rfl, rfl, rfl, rfl, rfl, rfl, fun _ => rfl⟩
  exact htaken.trans (forAll (fun x _ t => setSummaryReg t x.1 _) _)

theorem sendMsi (s : State) {f : Nat} (hf : f < 65) : NoTick s (s.sendMsi f) := by
  have hcount : NoTick s (s.count (Reg.IRQ_SENT f) 1) := by
    refine setReg s _ ?_ ?_
    · unfold Reg.IRQ_SENT Reg.STB_TICK
      omega
    · unfold Reg.IRQ_SENT Reg.PWR_STATE
      omega
  unfold State.sendMsi
  dsimp only
  split
  · exact hcount.trans (emit _ _)
  · exact hcount.trans (setFn _ _ _)

/-- Every function of the device is asked, and each has a summary register and a count of its own. -/
theorem fatalRequests (s : State) (hwait : ∀ f ∈ s.fatalWait, f < 65) : NoTick s s.fatalRequests := by
  refine forAll (fun f hf t => ?_) s
  split
  · extract_lets left
    have hleft : NoTick t left := ⟨rfl, rfl, rfl, rfl, rfl, rfl, fun _ => rfl⟩
    exact hleft.trans ((setSummaryReg left f _).trans (sendMsi _ (hwait f hf)))
  · exact refl t

theorem fatalEntry (s : State) (t : Option Nat) (l : List Nat) :
    NoTick s { s with fatalPend := none, fatalLater := 0, fatalTick := t, fatalWait := l } :=
  ⟨rfl, rfl, rfl, rfl, rfl, rfl, fun _ => rfl⟩

theorem enterFatal (s : State) (p : FatalPend) : NoTick s (s.enterFatal p) :=
  (setReg s _ (by decide) (by decide)).trans ((fatalEntry _ _ _).trans (fatalRequests _ fun _ hf => List.mem_range.mp hf))

/-! #### Ports that ramp down (R337, R365, R381, R403) -/

theorem setLnkFld (s : State) (n : Nat) (f : Nat × Nat) (v : Nat) : NoTick s (s.setLnkFld n f v) := by
  refine setReg s _ ?_ ?_
  · unfold Reg.LNK_PSTAT Reg.STB_TICK
    omega
  · unfold Reg.LNK_PSTAT Reg.PWR_STATE
    omega

theorem showPort (s : State) (n : Nat) : NoTick s (s.showPort n) := by
  have hport : ∀ (t : State) (v : Nat), NoTick t (t.setReg (Reg.FAB_PSTATE n) v) := fun t v => by
    refine setReg t v ?_ ?_
    · unfold Reg.FAB_PSTATE Reg.STB_TICK
      omega
    · unfold Reg.FAB_PSTATE Reg.PWR_STATE
      omega
  exact (hport s _).trans (hport _ _)

theorem changePort (s : State) (n : Nat) (x : FabPort) : NoTick s (s.changePort n x) := by
  unfold State.changePort
  extract_lets before shown
  have hshown : NoTick s shown := (ofSend (.setFabPort s n x)).trans (forAll (fun k _ t => showPort t k) _)
  split
  · have hreach : ∀ t : State, SendFrame t t.updateReach := fun _ => rfl
    exact hshown.trans (ofSend ((SendFrame.sendDown shown _ _ _).trans (hreach _)))
  · exact hshown

theorem flitsLost (s : State) (n : Nat) : NoTick s (s.flitsLost n) := by
  unfold State.flitsLost
  extract_lets x lost changed
  have hchanged : NoTick s changed := changePort s n _
  split
  · exact hchanged
  · have hcount : NoTick changed (changed.count (Reg.FAB_FLITLOST n) lost) := by
      refine setReg changed _ ?_ ?_
      · unfold Reg.FAB_FLITLOST Reg.STB_TICK
        omega
      · unfold Reg.FAB_FLITLOST Reg.PWR_STATE
        omega
    have hrecord : ∀ t : State, NoTick t (t.record { cause := Cause.flitsLost, subject := n, arg0 := lost }) := fun t =>
      record t _ (by simp only [reportRegs]; decide) (by simp only [reportRegs]; decide)
    exact hchanged.trans (hcount.trans (hrecord _))

theorem idlePort (s : State) (n st : Nat) : NoTick s (s.idlePort n st) :=
  (setLnk s n _).trans ((setLnkFld _ n _ st).trans (flitsLost _ n))

theorem grantRamps (s : State) : NoTick s s.grantRamps := by
  refine forAll (fun n _ t => ?_) s
  extract_lets busy x
  split
  · exact refl t
  · split
    · exact setLnk t n _
    · split
      · exact setLnk t n _
      · exact refl t
    · exact refl t

theorem drive (s : State) (n : Nat) (on : Bool) : NoTick s (s.drive n on) := (setLnk s n _).trans (grantRamps _)

theorem enterDisabled (s : State) (n : Nat) : NoTick s (s.enterDisabled n) :=
  (idlePort s n 0).trans ((setLnkFld _ n _ _).trans ((setLnk _ n _).trans (drive _ n false)))

/-! #### The fatal state without a tick (R505, R587) -/

theorem gpfPhase (s : State) (n : Nat) : NoTick s (s.gpfPhase n) := by
  unfold State.gpfPhase
  dsimp only
  split
  · exact setFar s n _
  · exact refl s

theorem startGpf (s : State) (notice : Bool) : NoTick s (s.startGpf notice) := by
  refine forAll (fun n _ t => ?_) s
  dsimp only
  split
  · exact (setFar t n _).trans (gpfPhase _ n)
  · exact refl t

theorem fatalLog (s : State) : NoTick s s.fatalLog := by
  unfold State.fatalLog
  dsimp only
  split
  · exact flashJob s _
  · exact flashJob s _

theorem fatalStop (s : State) : NoTick s s.fatalStop := by
  have hports : ∀ n ∈ List.range 16, ∀ t : State, NoTick t (if t.lnkState n = 0 then t else t.enterDisabled n) := fun n _ t => by
    split
    · exact refl t
    · exact enterDisabled t n
  exact (forAll hports s).trans ((startGpf _ false).trans (fatalLog _))

theorem fatalNow (s : State) : NoTick s s.fatalNow := by
  unfold State.fatalNow
  split
  next p _ =>
    have hnote : ∀ t : State, NoTick t { t with fatalTick := none } := fun _ => ⟨rfl, rfl, rfl, rfl, rfl, rfl, fun _ => rfl⟩
    exact (enterFatal s p).trans ((hnote _).trans (fatalStop _))
  · exact refl s

end NoTick

end Sys2Proof.Machine
end

section
/-! STEP_TICK takes the time of its step (R125, R522). -/

namespace Sys2Proof.Machine

/-! ### STEP_TICK (R125, R126, R522) -/

/-- Where the clock runs, the time of a tick is the step's at the operating point in force when the open tick has ended. -/
theorem State.now_stepTick_of_ticking {s : State} (h : s.ticking = true) : s.stepTick.now = s.now + stepUnits s.finishTick.op := by
  unfold State.stepTick
  rw [if_pos h]
  dsimp only
  split
  · rw [State.now_fatalTickRun, State.now_finishTick]
  · rw [State.now_runTick, State.now_finishTick]

/-- Where the clock stands, a step of time passes over a state that no tick has touched. -/
theorem State.stepTick_of_not_ticking {s : State} (h : s.ticking = false) :
    ∃ t, NoTick s t ∧ s.stepTick = { t with now := t.now + stepUnits t.op } := by
  refine ⟨({ s with far := { s.far with zeroising := [] } } : State).applyRaised.fatalNow, ?_, ?_⟩
  · have hzeroed : NoTick s { s with far := { s.far with zeroising := [] } } := ⟨rfl, rfl, rfl, rfl, rfl, rfl, fun _ => rfl⟩
    exact hzeroed.trans ((NoTick.applyRaised _).trans (.fatalNow _))
  · unfold State.stepTick
    rw [h]
    rfl

/-- Settles O11: a running clock adds a step at the point in force, and where it stands only time passes. -/
theorem stepTickTakesItsStep : Obligations.StepTickTakesItsStep := by
  intro s
  refine ⟨s.stepTick, rfl, ?_⟩
  cases hrun : s.ticking with
  | true => exact ⟨State.now_stepTick_of_ticking hrun, nofun⟩
  | false =>
    obtain ⟨t, hstill, hstep⟩ := State.stepTick_of_not_ticking hrun
    rw [hstep]
    refine ⟨?_, fun _ => ⟨hstill.tick, hstill.rings, hstill.seqs, hstill.memory⟩⟩
    exact congrArg₂ (· + stepUnits ·) hstill.now hstill.op

end Sys2Proof.Machine
end

section
/-! The Sosin commands on partitions: making one, changing it, giving it its slices and destroying it (R152, R182, R455, R457). -/

namespace Sys2Proof.Machine

/-! ### What a command on a partition leaves alone -/

/-- `t` differs from `s` in the partitions at most. -/
def PartFrame (s t : State) : Prop := t = { s with parts := t.parts }

/-- The state without a partition. -/
def State.withoutPart (s : State) (k : Nat) : State := { s with parts := Tab.erase s.parts k }

theorem State.find_withoutPart_self (s : State) (k : Nat) : Tab.find (s.withoutPart k).parts k = none := Tab.find_erase_self _ _

theorem State.find_withoutPart_other (s : State) {j k : Nat} (h : j ≠ k) : Tab.find (s.withoutPart k).parts j = Tab.find s.parts j :=
  Tab.find_erase_ne _ (Ne.symm h)

theorem PartFrame.setPart (s : State) (k : Nat) (p : Partition) : PartFrame s (s.setPart k p) := rfl
theorem PartFrame.withoutPart (s : State) (k : Nat) : PartFrame s (s.withoutPart k) := rfl
theorem PartFrame.movePart (s : State) (j k : Nat) (p : Partition) : PartFrame s ((s.withoutPart j).setPart k p) := rfl

/-- The answer of a command on a partition keeps registers, memory, tenants and ring pairs. -/
theorem PartFrame.replied {s t : State} (h : PartFrame s t) (m k : Nat) (r : Reply) :
    (t.replied m k r).answered m k r.status = true ∧ SameRegs s (t.replied m k r) [] ∧ SameMemory s (t.replied m k r) ∧
      (t.replied m k r).tenants = s.tenants ∧ (t.replied m k r).rings = s.rings := by
  refine ⟨t.answered_replied m k r, ?_⟩
  simp only [SameRegs, State.reg_replied, State.tenants_replied, State.rings_replied]
  rw [h]
  exact ⟨fun _ _ => rfl, fun _ => rfl, rfl, rfl⟩

theorem State.onPart_of_find {s : State} {k : Nat} {p : Partition} (h : Tab.find s.parts k = some p) (f : Partition → Partition) :
    s.onPart k f = s.setPart k (f p) := by
  simp [State.onPart, h]

/-! ### Roods (R151, R152, R182) -/

/-- Roods that no other partition holds and that have not all failed may become a partition's own. -/
theorem roodsFree {s : State} {k : Option Nat} {roods : List Nat} (hfree : roods.all (fun r => !s.roodTaken k r) = true)
    (hworks : roods.all s.roodFailed = false) : (roods.any (s.roodTaken k) || roods.all s.roodFailed) = false := by
  rw [hworks, Bool.or_false, List.any_eq_not_all_not, hfree]
  rfl

/-- A table written at each rood of a list holds what was written there. -/
theorem read_foldl_write {l : List Nat} (f : Nat → Nat) {r : Nat} (t : Tab Nat) (h : r ∈ l ∨ Tab.read t 0 r = f r) :
    Tab.read (l.foldl (fun t r => Tab.write t 0 r (f r)) t) 0 r = f r := by
  induction l generalizing t with
  | nil => exact h.resolve_left List.not_mem_nil
  | cons x l ih =>
    refine ih _ ?_
    rw [Tab.read_write]
    by_cases hx : x = r
    · simp [hx]
    · rw [if_neg hx]
      exact h.imp_left fun hr => (List.mem_cons.mp hr).resolve_left (Ne.symm hx)

theorem read_lcresOf (c : Cmd) {roods : List Nat} {r : Nat} (h : r ∈ roods) : Tab.read (lcresOf c roods) 0 r = c.fld (8 + 2 * r) 2 :=
  read_foldl_write (fun r => c.fld (8 + 2 * r) 2) [] (.inl h)

theorem headD_bitList_lt (v : Nat) {n : Nat} (h : bitList v n ≠ []) : (bitList v n).headD 0 < n := by
  rw [List.headD_eq_head?_getD, List.head?_eq_some_head h, Option.getD_some]
  have hmem := List.head_mem h
  exact List.mem_range.mp (List.mem_filter.mp hmem).1

/-- The byte of a partition's number, padded to a whole word, reads back as the number (Table 13.10). -/
theorem field_paddedByte {p : Nat} (h : p < 2 ^ 8) : field (slice (leBytes 1 p) 0 (roundUp (leBytes 1 p).length 4)) 0 1 = p := by
  simp [field, slice, leBytes, leNat, roundUp, cdiv]
  omega

/-! ### PART_CREATE (R152, R182) -/

/-- The partition that PART_CREATE is asked for. -/
def Cmd.newPart (c : Cmd) : Partition :=
  { roods := bitList (c.fld 0 2) 16, perches := c.fld 2 1, quiet := c.fld 3 1 == 1, lcres := lcresOf c (bitList (c.fld 0 2) 16) }

theorem partCreate_eq {c : Cmd} {s : State} (hsome : bitList (c.fld 0 2) 16 ≠ []) (hperches : c.fld 2 1 ≤ 16) (hquiet : c.fld 3 1 ≤ 1)
    (hlc : lcresFault c = none) (hfree : (bitList (c.fld 0 2) 16).all (fun r => !s.roodTaken none r) = true)
    (hworks : (bitList (c.fld 0 2) 16).all s.roodFailed = false)
    (halone : c.fld 3 1 = 1 → s.strangers none (bitList (c.fld 0 2) 16) = false) (hsum : s.perchesElsewhere none + c.fld 2 1 ≤ 16) :
    partCreate c s = (s.setPart ((bitList (c.fld 0 2) 16).headD 0) c.newPart, { payload := leBytes 1 ((bitList (c.fld 0 2) 16).headD 0) }) := by
  have hquietAlone : (c.fld 3 1 == 1 && s.strangers none (bitList (c.fld 0 2) 16)) = false := by
    cases hq : c.fld 3 1 == 1 with
    | false => rfl
    | true => exact halone (beq_iff_eq.mp hq)
  unfold partCreate
  dsimp only
  refine checked_of_pass s ?_ _
  simp [hsome, hperches, hquiet, hlc, roodsFree hfree hworks, hquietAlone, hsum]

/-! ### PART_MODIFY (R152, R182) -/

/-- What the mask of PART_MODIFY names is given, and the rest kept. -/
def Cmd.changedPart (c : Cmd) (p : Partition) : Partition :=
  let roods := if bit (c.fld 1 1) 0 then bitList (c.fld 2 2) 16 else p.roods
  { p with
    roods := roods, perches := if bit (c.fld 1 1) 1 then c.fld 4 1 else p.perches
    quiet := if bit (c.fld 1 1) 2 then c.fld 5 1 == 1 else p.quiet
    lcres := if bit (c.fld 1 1) 3 then lcresOf c roods else roods.foldl (fun t r => Tab.write t 0 r (Tab.read p.lcres 0 r)) [] }

/-- Are the operands that the mask of PART_MODIFY names in range (R152)? -/
structure Cmd.ModifyOperands (c : Cmd) : Prop where
  roods : bit (c.fld 1 1) 0 = true → bitList (c.fld 2 2) 16 ≠ []
  perches : bit (c.fld 1 1) 1 = true → c.fld 4 1 ≤ 16
  quiet : bit (c.fld 1 1) 2 = true → c.fld 5 1 ≤ 1
  lcres : bit (c.fld 1 1) 3 = true → lcresFault c = none

/-- A check that a mask bit asks for passes where the bit is clear or the check does. -/
theorem masked_pass {b x : Bool} (h : b = true → x = false) : (b && x) = false := by
  cases b with
  | false => rfl
  | true => exact h rfl

theorem partModify_eq {c : Cmd} {s : State} {p : Partition} (hc : c.ModifyOperands) (hp : Tab.find s.parts (c.fld 0 1) = some p)
    (hempty : s.tenantsOf (c.fld 0 1) = [])
    (hroods : bit (c.fld 1 1) 0 = true → (c.changedPart p).roods.all (fun r => !s.roodTaken (some (c.fld 0 1)) r) = true ∧
      (c.changedPart p).roods.all s.roodFailed = false)
    (halone : (c.changedPart p).quiet = true → s.strangers (some (c.fld 0 1)) (c.changedPart p).roods = false)
    (hsum : s.perchesElsewhere (some (c.fld 0 1)) + (c.changedPart p).perches ≤ 16) :
    partModify c s = ((s.withoutPart (c.fld 0 1)).setPart ((c.changedPart p).roods.headD 0) (c.changedPart p),
      { payload := leBytes 1 ((c.changedPart p).roods.headD 0) }) := by
  unfold partModify
  dsimp only
  rw [firstFail_of_pass ?operands]
  case operands =>
    simp only [List.mem_cons, List.not_mem_nil, or_false, forall_eq_or_imp, forall_eq]
    exact ⟨masked_pass fun h => by simpa using hc.roods h, masked_pass fun h => by simpa using hc.perches h,
      masked_pass fun h => by simpa using hc.quiet h, masked_pass fun h => by simp [hc.lcres h]⟩
  simp only [hp]
  refine checked_of_pass s ?_ _
  simp only [List.mem_cons, List.not_mem_nil, or_false, forall_eq_or_imp, forall_eq]
  refine ⟨by simp [hempty], masked_pass fun h => roodsFree (hroods h).1 (hroods h).2, ?_, decide_eq_false (Nat.not_lt.mpr hsum)⟩
  rw [Bool.and_right_comm]
  exact congrArg (· && _) (masked_pass halone)

/-! ### PART_SLICES and PART_DESTROY (R455, R457) -/

/-- A search below the length of a slot table that finds a bad slot would find it in the table. -/
theorem noBadSlot {l : List (Nat × Nat)} {n : Nat} (hlen : l.length = n) {bad : Nat × Nat → Bool} (h : ∀ x ∈ l, bad x = false) :
    (List.range n).find? (fun j => bad (l.getD j (0, 0))) = none := by
  refine List.find?_eq_none.mpr fun j hj => ?_
  have hj' : j < l.length := hlen ▸ List.mem_range.mp hj
  rw [List.getD_eq_getElem _ _ hj', h _ (List.getElem_mem hj')]
  exact Bool.false_ne_true

theorem partSlices_eq {c : Cmd} {s : State} {p : Partition} (hp : Tab.find s.parts (c.fld 0 1) = some p) (hlo : c.fld 1 1 ≠ 0)
    (hhi : c.fld 1 1 ≤ 16)
    (hslots : ∀ x ∈ sliceTable c, 1 ≤ x.1 ∧ x.1 ≤ 64 ∧ 10 ≤ x.2 ∧ x.2 ≤ 10000 ∧ x.1 ∈ s.tenantsOf (c.fld 0 1))
    (htenants : ∀ v ∈ s.tenantsOf (c.fld 0 1), ∃ x ∈ sliceTable c, x.1 = v) :
    partSlices c s = (s.setPart (c.fld 0 1) { p with install := some (sliceTable c) }, { payload := leBytes 8 s.clkTime }) := by
  have hlen : (sliceTable c).length = c.fld 1 1 := by simp [sliceTable]
  have hvf := noBadSlot hlen (bad := fun x => x.1 == 0 || decide (64 < x.1)) fun x hx => by
    obtain ⟨hv1, hv64, -⟩ := hslots x hx
    simp only [Bool.or_eq_false_iff, beq_eq_false_iff_ne, decide_eq_false_iff_not]
    omega
  have hus := noBadSlot hlen (bad := fun x => decide (x.2 < 10) || decide (10000 < x.2)) fun x hx => by
    obtain ⟨-, -, hl10, hl10000, -⟩ := hslots x hx
    simp only [Bool.or_eq_false_iff, decide_eq_false_iff_not]
    omega
  have hbound : (sliceTable c).all (fun x => (s.tenantsOf (c.fld 0 1)).contains x.1) = true := by
    simpa using fun a b hx => (hslots (a, b) hx).2.2.2.2
  have hall : (s.tenantsOf (c.fld 0 1)).all (fun v => (sliceTable c).any (fun x => x.1 == v)) = true := by
    simpa using htenants
  unfold partSlices
  dsimp only at hvf hus ⊢
  rw [hvf, hus, hbound, hall, checked_of_pass s (by simp [hlo, hhi, hp]), State.onPart_of_find hp]

theorem partDestroy_eq {c : Cmd} {s : State} {p : Partition} (hp : Tab.find s.parts (c.fld 0 1) = some p)
    (hempty : s.tenantsOf (c.fld 0 1) = []) : partDestroy c s = (s.withoutPart (c.fld 0 1), {}) := by
  unfold partDestroy
  dsimp only
  refine checked_of_pass s ?_ _
  simp [hp, hempty]

/-- Settles O47, command by command. -/
theorem partitionCommands : Obligations.PartitionCommands := by
  intro s m k c done asked
  refine ⟨fun hadm hsome hperches hquiet hlc hfree hworks halone hsum => ?_, fun p hadm hp hempty _ => ?_,
    fun p hadm hp hlo hhi hslots htenants => ?_, fun p hadm hp hempty => ?_⟩
  · have hrun := State.runCmd_eq_replied hadm (partCreate_eq (c := c) hsome hperches hquiet hlc hfree hworks halone hsum)
    have hhead : asked.headD 0 < 2 ^ 8 := Nat.lt_trans (headD_bitList_lt _ hsome) (by decide)
    exact ⟨_, c.newPart, congrArg Host.Outcome.next hrun, (PartFrame.setPart _ _ _).replied _ _ _,
      State.find_parts_replied (State.find_setPart _ _ _) _ _ _, rfl, rfl, rfl, fun _ hr => read_lcresOf c hr,
      by rw [State.payload_replied]; exact field_paddedByte hhead, fun j hj => State.find_setPart_other _ _ _ _ hj⟩
  · intro mask roods perches quiet hroods hperches hquiet hlc halone hsum
    have hops : c.ModifyOperands := ⟨fun h => by simpa [roods, mask, h] using (hroods h).1,
      fun h => by simpa [perches, mask, h] using hperches h, hquiet, hlc⟩
    have hrun := State.runCmd_eq_replied hadm (partModify_eq (c := c) hops hp hempty (fun h => (hroods h).2) halone hsum)
    refine ⟨_, c.changedPart p, congrArg Host.Outcome.next hrun, (PartFrame.movePart _ _ _ _).replied _ _ _,
      State.find_parts_replied (State.find_setPart _ _ _) _ _ _, rfl, rfl, rfl, rfl, fun hmoved => ?_⟩
    exact (State.find_setPart_other _ _ _ _ (Ne.symm hmoved)).trans (s.find_withoutPart_self _)
  · have hrun := State.runCmd_eq_replied hadm (partSlices_eq (c := c) hp hlo hhi hslots htenants)
    exact ⟨_, congrArg Host.Outcome.next hrun, (PartFrame.setPart _ _ _).replied _ _ _,
      State.find_parts_replied (State.find_setPart _ _ _) _ _ _⟩
  · have hrun := State.runCmd_eq_replied hadm (partDestroy_eq (c := c) hp hempty)
    exact ⟨_, congrArg Host.Outcome.next hrun, (PartFrame.withoutPart _ _).replied _ _ _, s.find_withoutPart_self _,
      fun j hj => s.find_withoutPart_other hj⟩

end Sys2Proof.Machine
end

section
/-! Killed sequences run again, slots follow each other, a switch and a fill end (R156, R159, R164, R176): nothing that ends, kills or
moves work changes a partition but its own step. -/

namespace Sys2Proof.Machine

variable (s : State)

/-! ### Partitions through the operations of the state -/

@[simp] theorem parts_forAll {α : Type} {l : List α} {f : α → State → State} (hf : ∀ x s, (f x s).parts = s.parts) (s : State) :
    (forAll l f s).parts = s.parts :=
  forAll_frame (g := State.parts) hf s

@[simp] theorem State.parts_ite {c : Prop} [Decidable c] (s t : State) : (if c then s else t).parts = if c then s.parts else t.parts :=
  apply_ite State.parts c s t

@[simp] theorem State.parts_count (off n : Nat) : (s.count off n).parts = s.parts := by simp [State.count]
@[simp] theorem State.parts_count64 (off n : Nat) : (s.count64 off n).parts = s.parts := by simp [State.count64]
@[simp] theorem State.parts_resetRegs (lo n : Nat) : (s.resetRegs lo n).parts = s.parts := by simp [State.resetRegs]

@[simp] theorem State.parts_onSeq (e : Nat) (f : Sequence → Sequence) : (s.onSeq e f).parts = s.parts := by
  unfold State.onSeq
  split <;> rfl

@[simp] theorem State.parts_onIndex (h : Nat) (f : Index → Index) : (s.onIndex h f).parts = s.parts :=
  State.onIndex_frame (g := State.parts) (fun _ _ _ => rfl) s h f

@[simp] theorem State.parts_onImage (h : Nat) (f : Image → Image) : (s.onImage h f).parts = s.parts := by
  unfold State.onImage
  split <;> rfl

@[simp] theorem State.parts_onFilter (h : Nat) (f : Filter → Filter) : (s.onFilter h f).parts = s.parts := by
  unfold State.onFilter
  split <;> rfl

theorem SendFrame.parts {s t : State} (h : SendFrame s t) : t.parts = s.parts := by rw [h]

@[simp] theorem State.parts_sendDown (h : Nat) (box : List (Int × Int)) (m : Msg) : (s.sendDown h box m).parts = s.parts :=
  (SendFrame.sendDown s h box m).parts

@[simp] theorem State.parts_sendUp (h : Nat) (m : Msg) : (s.sendUp h m).parts = s.parts := by
  unfold State.sendUp
  split
  · exact (SendFrame.sendOn _ _ _ _).parts
  · rfl

/-! ### What a sequence gives back when it ends or is killed (R163, R170, R257) -/

@[simp] theorem State.parts_newIssue (e : Nat) : (s.newIssue e).parts = s.parts := by simp [State.newIssue]
@[simp] theorem State.parts_discardReads (e : Nat) : (s.discardReads e).parts = s.parts := by simp [State.discardReads, State.dropReads]

@[simp] theorem State.parts_dropEnc (q : Sequence) : (s.dropEnc q).parts = s.parts := by
  unfold State.dropEnc
  split
  · split <;> simp
  · rfl

@[simp] theorem State.parts_dropSems (e : Nat) : (s.dropSems e).parts = s.parts := by
  unfold State.dropSems
  split <;> simp

@[simp] theorem State.parts_endSeq (e : Nat) (st : Status) (silent : Bool) : (s.endSeq e st silent).parts = s.parts := by
  unfold State.endSeq
  split
  · rfl
  · split
    · rfl
    · split <;> simp

@[simp] theorem State.parts_unpin (q : Sequence) : (s.unpin q).parts = s.parts := by
  unfold State.unpin
  split <;> simp

@[simp] theorem State.parts_unpinFilter (q : Sequence) : (s.unpinFilter q).parts = s.parts := by
  unfold State.unpinFilter
  split <;> simp

@[simp] theorem State.parts_release (e : Nat) : (s.release e).parts = s.parts := by
  unfold State.release
  split
  · rfl
  · simp [State.dropReads]

@[simp] theorem State.parts_killSeq (e : Nat) : (s.killSeq e).parts = s.parts := by
  unfold State.killSeq
  split <;> simp

/-! ### Lanes, cancels, deadlines and revocations (R116 to R118, R189, R391 to R394) -/

@[simp] theorem State.parts_dropLane (home hent gen : Nat) : (s.dropLane home hent gen).parts = s.parts := rfl

@[simp] theorem State.parts_closeLane (e : Nat) : (s.closeLane e).parts = s.parts := by
  unfold State.closeLane
  split
  · rfl
  · split <;> simp

@[simp] theorem State.parts_emitLane (l : Lane) (subtmo : Bool) : (s.emitLane l subtmo).parts = s.parts := by
  unfold State.emitLane
  split
  · split <;> simp
  · simp

@[simp] theorem State.parts_endQuery (e : Nat) (st : Status) : (s.endQuery e st).parts = s.parts := by
  unfold State.endQuery
  split <;> simp

@[simp] theorem State.parts_actCancels (p : Nat) : (s.actCancels p).parts = s.parts := by
  unfold State.actCancels
  split
  · rfl
  · simp [State.actCancel]

@[simp] theorem State.parts_actStrays : s.actStrays.parts = s.parts := by simp [State.actStrays]

@[simp] theorem State.parts_actDeadline (e : Nat) : (s.actDeadline e).parts = s.parts := by
  unfold State.actDeadline
  split
  · split <;> simp
  · rfl

@[simp] theorem State.parts_homeTimeout (e : Nat) : (s.homeTimeout e).parts = s.parts := by
  unfold State.homeTimeout
  split
  · rfl
  · split <;> simp

@[simp] theorem State.parts_subtreeTimeout (l : Lane) : (s.subtreeTimeout l).parts = s.parts := by
  unfold State.subtreeTimeout
  split <;> simp

@[simp] theorem State.parts_revokeSeq (e : Nat) (silent : Bool) : (s.revokeSeq e silent).parts = s.parts := by
  unfold State.revokeSeq
  split <;> simp

@[simp] theorem State.parts_actRevoke (vf : Nat) : (s.actRevoke vf).parts = s.parts := by
  unfold State.actRevoke
  split
  · rfl
  · split <;> simp [State.dropRings]

/-- What ends sequences in a tick changes no partition. -/
@[simp] theorem State.parts_rungEnds : s.rungEnds.parts = s.parts := by simp [State.rungEnds]

/-! ### A slot that starts (R156, R159, R174, R175) -/

@[simp] theorem State.parts_spill (e n : Nat) : (s.spill e n).parts = s.parts := by
  unfold State.spill
  split
  · rfl
  · exact parts_forAll (fun _ t => State.setPch_parts t _ _) _

@[simp] theorem State.parts_writeBack (vf : Nat) (all_ : Bool) : (s.writeBack vf all_).parts = s.parts := by simp [State.writeBack]

@[simp] theorem State.parts_evict (h : Nat) : (s.evict h).parts = s.parts := s.parts_onImage h _

@[simp] theorem State.parts_makeRoom (vf part cap need : Nat) (quiet : Bool) (hs : List Nat) :
    (s.makeRoom vf part cap need quiet hs).parts = s.parts := by
  induction hs generalizing s with
  | nil => rfl
  | cons h hs ih => simp [State.makeRoom, ih]

@[simp] theorem State.parts_startFill (h : Nat) : (s.startFill h).1.parts = s.parts := by
  unfold State.startFill
  split
  · rfl
  · split_ifs
    · rfl
    · rfl
    · split
      · extract_lets cap made used
        have hmade : made.parts = s.parts := s.parts_makeRoom _ _ _ _ _ _
        split_ifs
        · rw [State.parts_onImage, hmade]
        · rfl
      · rfl

@[simp] theorem State.parts_fillSet (vf : Nat) : (s.fillSet vf).parts = s.parts := by
  unfold State.fillSet
  split <;> simp

variable {s}

/-- A partition after slot j of its cycle has started, up to a boundary. -/
def Partition.inSlot (p : Partition) (j slotEnd : Nat) : Partition :=
  { p with slot := j, slotEnd := slotEnd, holder := (p.slotOf j).1, switching := p.holder != (p.slotOf j).1 || p.switching }

/-- The start of a slot changes its partition alone among the partitions. -/
theorem State.parts_startSlot {k : Nat} {p : Partition} (hp : Tab.find s.parts k = some p) (j slotEnd : Nat) (kill : Bool) :
    (s.startSlot k j slotEnd kill).parts = Tab.insert s.parts k (p.inSlot j slotEnd) := by
  unfold State.startSlot
  simp only [hp, State.parts_ite, State.parts_fillSet, State.parts_writeBack, parts_forAll fun _ _ => State.parts_killSeq _ _, ite_self]
  rfl

/-- At the end of a slot that no switch holds up, the next slot of the cycle runs up to its own boundary (R156). -/
theorem State.parts_slotBoundary {k : Nat} {p : Partition} (hp : Tab.find s.parts k = some p) (hslices : p.slices ≠ [])
    (hswitch : p.switching = false) (hdue : p.slotEnd ≤ s.now) :
    (s.slotBoundary k).parts = Tab.insert s.parts k
      (p.inSlot ((p.slot + 1) % p.slices.length) (p.slotEnd + usec (p.slotOf ((p.slot + 1) % p.slices.length)).2)) := by
  unfold State.slotBoundary
  simp only [hp]
  rw [if_neg (by simp [hslices, hswitch, hdue])]
  exact State.parts_startSlot hp _ _ _

theorem exec_slotBoundary {k : Rood} {p : Partition} (hup : s.up = true) (hp : Tab.find s.parts k = some p) (hslices : p.slices ≠ [])
    (hswitch : p.switching = false) (hdue : p.slotEnd ≤ s.now) : exec (.slotBoundary k) s = .next (s.rungEnds.slotBoundary k) := by
  have hcome : s.boundaryDue k = true := by simp [State.boundaryDue, hp, hslices, hswitch, hdue]
  change Host.Outcome.next (if s.up then (if s.boundaryDue k then s.rungEnds.slotBoundary k else s) else s) = _
  rw [if_pos hup, if_pos hcome]

/-! ### Reruns, switches and fills (R159, R164, R176) -/

theorem exec_killRerun {e : SeqNo} {q : Sequence} (hup : s.up = true) (hq : Tab.find s.seqs e = some q) (hphase : q.phase = .again)
    (hholds : s.holds q.vf q.elevel = true) :
    exec (.killRerun e) s = .next (s.setSeq e { q with phase := .done, redo := true, seed := q.seedAtStage }) := by
  change Host.Outcome.next (if s.up then s.rerun e else s) = _
  simp [hup, State.rerun, hq, hphase, hholds]

theorem exec_switchEnd {k : Rood} {p : Partition} (hup : s.up = true) (hp : Tab.find s.parts k = some p) (hswitch : p.switching = true)
    (hfills : s.switchFilling p.holder = false) :
    exec (.switchEnd k) s = .next (s.setPart k { p with switching := false, slotEnd := max p.slotEnd (s.now + usec 10) }) := by
  change execSwitchEnd k s = _
  simp [execSwitchEnd, hp, hup, hswitch, hfills]

theorem exec_fillDone {h : Nat} {m : Image} {d : Nat} (hm : Tab.find s.images h = some m) (hfill : m.filling = some d) :
    exec (.fillDone h) s = .next (s.setImage h { m with resident := true, filling := none, loaded := s.homeBytes m.tun m.base m.size }) := by
  change execFillDone h s = _
  rw [execFillDone, State.onImage_of_find hm, hfill]
  rfl

/-- Settles O17, row by row. -/
theorem rerunAndSlicesMoveOn : Obligations.RerunAndSlicesMoveOn := by
  refine ⟨fun s e q hup hq hphase hholds => ?_, fun s k p hup hp hslices hswitch hdue => ?_, fun s k p hup hp hswitch hfills => ?_,
    fun s h m d hm hfill => ?_⟩
  · exact ⟨_, exec_killRerun hup hq hphase hholds, State.find_setSeq _ _ _, fun k hk => State.find_setSeq_other _ _ _ _ hk,
      fun _ _ => rfl, fun _ => rfl⟩
  · intro j
    have hp' : Tab.find s.rungEnds.parts k = some p := by rw [State.parts_rungEnds]; exact hp
    have hdue' : p.slotEnd ≤ s.rungEnds.now := by rw [State.now_rungEnds]; exact hdue
    refine ⟨_, p.inSlot j (p.slotEnd + usec (p.slotOf j).2), exec_slotBoundary hup hp hslices hswitch hdue, ?_, rfl, rfl, rfl, ?_, rfl⟩
    · rw [State.parts_slotBoundary hp' hslices hswitch hdue']
      exact Tab.find_insert_self _ _ _
    · change (p.holder != (p.slotOf j).1 || p.switching) = decide (p.holder ≠ (p.slotOf j).1)
      rw [hswitch, Bool.or_false, bne, beq_eq_decide, decide_not]
  · exact ⟨_, exec_switchEnd hup hp hswitch hfills, State.find_setPart _ _ _, fun _ _ => rfl, fun _ => rfl⟩
  · exact ⟨_, exec_fillDone hm hfill, State.find_setImage _ _ _, fun k hk => State.find_setImage_other _ _ _ _ hk, fun _ _ => rfl,
      fun _ => rfl⟩

end Sys2Proof.Machine
end

section
/-! Device interfaces and their keys (R185, R186, R189 to R191, R423 to R425): what a revocation and the end of a tenant's stores leave
alone, and what becomes of a TDI that is locked, started, stopped, that errs or that takes its key. -/

namespace Sys2Proof.Machine

/-! ### Tenants that meet a condition -/

/-- The tenant of a VF meets a condition. -/
def State.tenantHas (s : State) (f : Nat) (D : Tenant → Prop) : Prop := ∃ y, Tab.find s.tenants f = some y ∧ D y

theorem State.tenantHas_of_tenants {s t : State} {f : Nat} {D : Tenant → Prop} (h : t.tenants = s.tenants) (hs : s.tenantHas f D) :
    t.tenantHas f D := by
  obtain ⟨y, hy, hD⟩ := hs
  exact ⟨y, by rw [h, hy], hD⟩

/-- A change of a tenant that keeps a condition. -/
theorem State.tenantHas_onTenant {s : State} {f : Nat} {D : Tenant → Prop} (hs : s.tenantHas f D) (k : Nat) {g : Tenant → Tenant}
    (hg : ∀ y, D y → D (g y)) : (s.onTenant k g).tenantHas f D := by
  obtain ⟨y, hy, hD⟩ := hs
  by_cases hk : k = f
  · subst hk
    rw [State.onTenant_of_find hy]
    exact ⟨g y, State.find_setTenant _ _ _, hg y hD⟩
  · refine ⟨y, ?_, hD⟩
    unfold State.onTenant
    split
    · rw [State.find_setTenant_other _ _ _ _ (Ne.symm hk), hy]
    · exact hy

/-- A change of a tenant that makes a condition true of it. -/
theorem State.tenantHas_onTenant_self {s : State} {f : Nat} {C D : Tenant → Prop} (hs : s.tenantHas f C) {g : Tenant → Tenant}
    (hg : ∀ y, D (g y)) : (s.onTenant f g).tenantHas f D := by
  obtain ⟨y, hy, -⟩ := hs
  rw [State.onTenant_of_find hy]
  exact ⟨g y, State.find_setTenant _ _ _, hg y⟩

/-! ### Revocations, those of an FLR included (R189, R190) -/

/-- What a revocation does to a ring pair: it is STOPPED as R88 says, or DISABLED under an FLR. -/
def revokeRing (flr : Bool) (x : Nat × Ring) (s : State) : State := if flr then s.setReg (Reg.QFE_RSTATE x.1) 0 else stopRing x s

/-- What a revocation in a tick does to the tenant. -/
def Tenant.revoke (flr : Bool) (tick : Nat) (y : Tenant) : Tenant :=
  { y with revoked := y.revoked || !flr, revokeDue := some (tick + 1), silent := y.silent || flr }

theorem reg_revokeRing_other (flr : Bool) (x : Nat × Ring) (s : State) {a : Nat} (h : a ≠ Reg.QFE_RSTATE x.1) :
    (revokeRing flr x s).reg a = s.reg a := by
  cases flr with
  | true => exact State.reg_setReg_other _ _ _ _ h
  | false => exact reg_stopRing_other x s h

theorem reg_revokeRings_other (flr : Bool) {l : List (Nat × Ring)} {a : Nat} (h : ∀ x ∈ l, a ≠ Reg.QFE_RSTATE x.1) (s : State) :
    (forAll l (revokeRing flr) s).reg a = s.reg a :=
  forAll_keeps (P := fun t => t.reg a = s.reg a) (fun x hx t ht => (reg_revokeRing_other flr x t (h x hx)).trans ht) rfl

theorem StopFrame.revokeRings (flr : Bool) (l : List (Nat × Ring)) (s : State) : StopFrame s (forAll l (revokeRing flr) s) := by
  refine forAll_keeps (P := StopFrame s) (fun x _ t ht => ?_) rfl
  have hstep : StopFrame t (revokeRing flr x t) := by
    unfold revokeRing stopRing
    split
    · rfl
    · split <;> rfl
  unfold StopFrame at *
  rw [hstep, ht]

theorem STB_TICK_ne_RSTATE (p : Nat) : Reg.STB_TICK ≠ Reg.QFE_RSTATE p := by
  simp only [Reg.STB_TICK, Reg.QFE_RSTATE]
  omega

/-- A revocation marks the tenant over the state in which its ring pairs have gone. -/
theorem State.revokeTenant_eq_onTenant (s : State) (vf : Nat) (flr : Bool) :
    s.revokeTenant vf flr = (forAll (s.ringsOf vf) (revokeRing flr) s).onTenant vf (Tenant.revoke flr s.tick) := by
  have htick : (forAll (s.ringsOf vf) (revokeRing flr) s).tick = s.tick :=
    reg_revokeRings_other flr (fun x _ => STB_TICK_ne_RSTATE x.1) s
  rw [← htick]
  rfl

/-- `t` differs from `s` in registers, ring pairs and tenants at most. -/
def RevokeFrame (s t : State) : Prop := t = { s with regs := t.regs, rings := t.rings, tenants := t.tenants }

theorem RevokeFrame.onTenant (s : State) (v : Nat) (g : Tenant → Tenant) : RevokeFrame s (s.onTenant v g) := by
  unfold State.onTenant
  split <;> rfl

theorem RevokeFrame.revokeTenant (s : State) (vf : Nat) (flr : Bool) : RevokeFrame s (s.revokeTenant vf flr) := by
  have hrings := StopFrame.revokeRings flr (s.ringsOf vf) s
  rw [State.revokeTenant_eq_onTenant]
  unfold RevokeFrame
  rw [RevokeFrame.onTenant, hrings]

theorem RevokeFrame.sameMemory {s t : State} (h : RevokeFrame s t) : SameMemory s t := by
  rw [h]
  exact fun _ => rfl

section
variable (s : State) (vf : Nat) (flr : Bool)

@[simp] theorem State.fnAt_revokeTenant (f : Nat) : (s.revokeTenant vf flr).fnAt f = s.fnAt f := by
  rw [RevokeFrame.revokeTenant]
  rfl

@[simp] theorem State.host_revokeTenant : (s.revokeTenant vf flr).host = s.host := by rw [RevokeFrame.revokeTenant]

@[simp] theorem State.mbxAt_revokeTenant (m : Nat) : (s.revokeTenant vf flr).mbxAt m = s.mbxAt m := by
  rw [RevokeFrame.revokeTenant]
  rfl

/-- A revocation writes RSTATE of the VF's ring pairs alone. -/
theorem State.reg_revokeTenant_other {a : Nat} (h : ∀ p, ringVf p = vf → a ≠ Reg.QFE_RSTATE p) :
    (s.revokeTenant vf flr).reg a = s.reg a := by
  rw [State.revokeTenant_eq_onTenant, State.onTenant_frame (g := fun t => t.reg a) (fun _ _ _ => rfl)]
  exact reg_revokeRings_other flr (fun x hx => h x.1 (by simpa using (List.mem_filter.mp hx).2)) s

@[simp] theorem State.tick_revokeTenant : (s.revokeTenant vf flr).tick = s.tick :=
  State.reg_revokeTenant_other s vf flr fun p _ => STB_TICK_ne_RSTATE p

end

/-- A VF's TDI state is no RSTATE of its ring pairs. -/
theorem TDISTATE_ne_RSTATE (v : Vf) {p : Nat} (h : ringVf p = v.val + 1) : Reg.HIF_TDISTATE v ≠ Reg.QFE_RSTATE p := by
  have hv := v.isLt
  simp only [ringVf, Reg.HIF_TDISTATE, Reg.QFE_RSTATE] at *
  omega

/-! ### Stores and keys that go (R186, R191) -/

/-- `t` differs from `s` in indexes, filters, images, tenants, tuns and summary bits at most. -/
def StoreFrame (s t : State) : Prop :=
  t = { s with indexes := t.indexes, filters := t.filters, images := t.images, tenants := t.tenants, raised := t.raised
               far := { s.far with tuns := t.far.tuns } }

theorem StoreFrame.refl (s : State) : StoreFrame s s := rfl

theorem StoreFrame.trans {s t u : State} (hst : StoreFrame s t) (htu : StoreFrame t u) : StoreFrame s u := by
  unfold StoreFrame at *
  rw [htu, hst]

theorem StoreFrame.forAll {α : Type} {l : List α} {f : α → State → State} (hf : ∀ x s, StoreFrame s (f x s)) (s : State) :
    StoreFrame s (forAll l f s) :=
  forAll_keeps (P := StoreFrame s) (fun x _ t ht => ht.trans (hf x t)) (.refl s)

theorem StoreFrame.onIndex (s : State) (h : Nat) (f : Index → Index) : StoreFrame s (s.onIndex h f) := by
  unfold State.onIndex
  split <;> rfl

theorem StoreFrame.onFilter (s : State) (h : Nat) (f : Filter → Filter) : StoreFrame s (s.onFilter h f) := by
  unfold State.onFilter
  split <;> rfl

theorem StoreFrame.onImage (s : State) (h : Nat) (f : Image → Image) : StoreFrame s (s.onImage h f) := by
  unfold State.onImage
  split <;> rfl

theorem StoreFrame.onTenant (s : State) (v : Nat) (f : Tenant → Tenant) : StoreFrame s (s.onTenant v f) := by
  unfold State.onTenant
  split <;> rfl

theorem StoreFrame.setTun (s : State) (h : Nat) (t : Tun) : StoreFrame s (s.setTun h t) := rfl

theorem StoreFrame.tunOffline (s : State) (h : Nat) : StoreFrame s (s.tunOffline h) := by
  unfold State.tunOffline
  split
  · exact .refl s
  · split
    · exact .setTun s _ _
    · exact .refl s

theorem StoreFrame.tenantChanged (s : State) (vf : Nat) : StoreFrame s (s.tenantChanged vf) := by
  obtain ⟨raised, h⟩ := s.tenantChanged_eq vf
  rw [h]
  rfl

/-- The change of a tun whose tenant's stores are dropped (R191, R458). -/
def dropTun (vf : Nat) (all_ : Bool) (x : Nat × Tun) (s : State) : State :=
  if x.2.vf != vf then s else if x.2.persist && !all_ then s.tunOffline x.1 else s.setTun x.1 { x.2 with doomed := true }

theorem StoreFrame.dropTun (vf : Nat) (all_ : Bool) (x : Nat × Tun) (s : State) : StoreFrame s (dropTun vf all_ x s) := by
  unfold Machine.dropTun
  split_ifs
  · exact .refl s
  · exact .tunOffline s _
  · exact .setTun s _ _

theorem State.tenants_dropTun (vf : Nat) (all_ : Bool) (x : Nat × Tun) (s : State) : (Machine.dropTun vf all_ x s).tenants = s.tenants := by
  unfold Machine.dropTun State.tunOffline
  split_ifs
  · rfl
  · split
    · rfl
    · split <;> rfl
  · rfl

theorem StoreFrame.dropTenantStores (s : State) (vf : Nat) (all_ : Bool) : StoreFrame s (s.dropTenantStores vf all_) := by
  unfold State.dropTenantStores
  extract_lets s1 s2 s3 s4
  have h1 : StoreFrame s s1 := .forAll (fun _ t => .onIndex t _ _) s
  have h2 : StoreFrame s1 s2 := .forAll (fun _ t => .onFilter t _ _) s1
  have h3 : StoreFrame s2 s3 := .forAll (fun _ t => .onImage t _ _) s2
  have h4 : StoreFrame s3 s4 := .onTenant s3 _ _
  exact (((h1.trans h2).trans h3).trans h4).trans (.forAll (fun x t => .dropTun vf all_ x t) s4)

/-- Dropping a tenant's stores empties its switch set and changes no tenant besides. -/
theorem State.tenantHas_dropTenantStores {s : State} {f : Nat} {D : Tenant → Prop} (hs : s.tenantHas f D) (vf : Nat) (all_ : Bool)
    (hD : ∀ y, D y → D { y with swset := [] }) : (s.dropTenantStores vf all_).tenantHas f D := by
  unfold State.dropTenantStores
  extract_lets s1 s2 s3 s4
  have h1 : s1.tenants = s.tenants := forAll_frame (g := State.tenants) (fun _ t => (OnlySeq.onIndex t _ _ 0).tenants) s
  have h2 : s2.tenants = s1.tenants := forAll_frame (g := State.tenants) (fun _ t => (OnlySeq.onFilter t _ _ 0).tenants) s1
  have h3 : s3.tenants = s2.tenants := forAll_frame (g := State.tenants) (fun _ t => (OnlySeq.onImage t _ _ 0).tenants) s2
  have h4 : s4.tenantHas f D := State.tenantHas_onTenant (State.tenantHas_of_tenants (h3.trans (h2.trans h1)) hs) vf hD
  exact State.tenantHas_of_tenants (forAll_frame (g := State.tenants) (fun x t => State.tenants_dropTun vf all_ x t) s4) h4

section
variable (s : State) (vf : Nat)

/-- A wiped tenant's key goes, and of its stores nothing but tables changes. -/
theorem StoreFrame.wipeTenant : StoreFrame (s.zeroKey vf) (s.wipeTenant vf) :=
  (StoreFrame.dropTenantStores _ vf true).trans (.tenantChanged _ vf)

@[simp] theorem State.fnAt_wipeTenant (f : Nat) : (s.wipeTenant vf).fnAt f = s.fnAt f := by
  rw [StoreFrame.wipeTenant]
  rfl

@[simp] theorem State.reg_wipeTenant (a : Nat) : (s.wipeTenant vf).reg a = s.reg a := by
  rw [StoreFrame.wipeTenant]
  rfl

/-- The key of a wiped tenant has gone (R186). -/
theorem State.keyOf_wipeTenant : (s.wipeTenant vf).keyOf vf = {} := by
  rw [StoreFrame.wipeTenant]
  exact s.keyOf_setKey vf {}

end

theorem State.tenantHas_wipeTenant {s : State} {f : Nat} {D : Tenant → Prop} (hs : s.tenantHas f D) (vf : Nat)
    (hD : ∀ y, D y → D { y with swset := [] }) : (s.wipeTenant vf).tenantHas f D := by
  obtain ⟨raised, h⟩ := ((s.zeroKey vf).dropTenantStores vf true).tenantChanged_eq vf
  rw [State.wipeTenant, h]
  exact State.tenantHas_dropTenantStores (s := s.zeroKey vf) hs vf true hD

/-! ### Device interfaces (R423, R424) -/

theorem State.fnAt_setTdi (s : State) (k st : Nat) : (s.setTdi k st).fnAt k = { s.fnAt k with tdi := st } := State.fnAt_setFn s k _

theorem State.fnAt_setTdi_other (s : State) {f k : Nat} (st : Nat) (h : f ≠ k) : (s.setTdi k st).fnAt f = s.fnAt f :=
  State.fnAt_setFn_other s k _ f h

/-- Moving a TDI shows its state in the function and in its register. -/
theorem State.setTdi_spec (s : State) (v : Vf) {st : Nat} (hst : st < 2 ^ 64) : (s.setTdi (v.val + 1) st).tdi (v.val + 1) = st ∧
    (s.setTdi (v.val + 1) st).reg (Reg.HIF_TDISTATE v) = st ∧ SameRegs s (s.setTdi (v.val + 1) st) [Reg.HIF_TDISTATE v] ∧
    SameMemory s (s.setTdi (v.val + 1) st) := by
  refine ⟨?_, ?_, fun a ha => ?_, fun _ => rfl⟩
  · rw [State.tdi, State.fnAt_setTdi]
  · exact (State.reg_setReg _ _ _).trans (Nat.mod_eq_of_lt hst)
  · exact State.reg_setReg_other _ _ _ _ (List.ne_of_not_mem_cons ha)

theorem exec_lockInterfaceRequest {s : State} {v : Vf} {tn : Tenant} {pasid : Nat} (hsec : s.secured 0 = true)
    (htn : Tab.find s.tenants (v.val + 1) = some tn) (hpasid : (s.fnAt (v.val + 1)).pasid = some pasid) (hconf : tn.conf = true)
    (htdi : s.tdi (v.val + 1) = 0) (hcov : s.covered (v.val + 1) = true) (hflr : (s.fnAt (v.val + 1)).flr = false) :
    ∃ r, exec (.lockInterfaceRequest v) s = .next ((s.setFn (v.val + 1) { s.fnAt (v.val + 1) with report := r }).setTdi (v.val + 1) 1) := by
  refine ⟨[s.host.bars.getD 2 0 + 65536 * v.val, pasid, tn.part, tn.lcmax, tn.seqmax, tn.stkq, tn.poolq, tn.farq, tn.perchq, tn.pinmax], ?_⟩
  change execLockInterfaceRequest v s = _
  unfold execLockInterfaceRequest
  simp only [htn, hpasid]
  rw [if_pos (by simp [hsec, htdi, hconf, hcov, hflr])]

theorem exec_startInterfaceRequest {s : State} {v : Vf} (hsec : s.secured 0 = true) (htdi : s.tdi (v.val + 1) = 1) :
    exec (.startInterfaceRequest v) s = .next (s.setTdi (v.val + 1) 2) := by
  change execStartInterfaceRequest v s = _
  rw [execStartInterfaceRequest, hsec, htdi]
  rfl

theorem exec_stopInterfaceRequest {s : State} {v : Vf} (hsec : s.secured 0 = true) :
    exec (.stopInterfaceRequest v) s = .next (s.setTdi (v.val + 1) 0) := by
  change execStopInterfaceRequest v s = _
  rw [execStopInterfaceRequest, if_pos hsec]

theorem ReportFrame.fnAt {s t : State} (h : ReportFrame s t) (f : Nat) : t.fnAt f = s.fnAt f := by
  rw [h]
  rfl

theorem TDISTATE_not_mem_reportRegs (o : Occ) (v : Vf) : Reg.HIF_TDISTATE v ∉ reportRegs o := by
  have hv := v.isLt
  simp only [reportRegs, List.mem_cons, List.not_mem_nil, or_false, Reg.HIF_TDISTATE, Reg.ERR_NEXTSEQ, Reg.ERR_QSTAT, Reg.ERR_VFOVF,
    Reg.ERR_FATAL]
  omega

/-- A locked TDI that errs is in ERROR, shown in its register, and its tenant's key has gone (R424). -/
theorem State.tdiError_spec {s : State} {v : Vf} (h : s.tdiLocked (v.val + 1) = true) : (s.tdiError (v.val + 1)).tdi (v.val + 1) = 3 ∧
    ((s.tdiError (v.val + 1)).keyOf (v.val + 1)).st = 0 ∧ (s.tdiError (v.val + 1)).reg (Reg.HIF_TDISTATE v) = 3 := by
  obtain ⟨htdi, hreg, -, -⟩ := s.setTdi_spec v (st := 3) (by decide)
  unfold State.tdiError
  rw [if_pos h]
  extract_lets moved told
  have hrep : Reported moved.drew told _ := State.occur_reported _ _
  refine ⟨?_, congrArg KeySlot.st (State.keyOf_wipeTenant _ _), ?_⟩
  · rw [State.tdi, State.fnAt_wipeTenant, State.fnAt_revokeTenant, hrep.frame.fnAt]
    exact htdi
  · rw [State.reg_wipeTenant, State.reg_revokeTenant_other _ _ _ fun p hp => TDISTATE_ne_RSTATE v hp,
      hrep.regs _ (TDISTATE_not_mem_reportRegs _ v)]
    exact hreg

theorem exec_tdiError_of_unlocked {s : State} {v : Vf} (h : s.tdiLocked (v.val + 1) = false) : exec (.tdiError v) s = .next s := by
  change Host.Outcome.next (s.tdiError (v.val + 1)) = _
  simp [State.tdiError, h]

/-! ### INSTALL (R185, R425) -/

/-- The state after an INSTALL that is taken has put its key in the slot. -/
def State.withHostKey (s : State) (f : Nat) (p : List Byte) : State :=
  (s.installKey f { st := 2, keyid := field p 8 8, key := slice p 16 64 }).tenantChanged f

/-- A key that is put in moves only the slot, the tuns that wait for it and the tenant's summary bit. -/
theorem State.withHostKey_spec (s : State) (f : Nat) (p : List Byte) : (s.withHostKey f p).out = s.out ∧
    (s.withHostKey f p).keyOf f = { st := 2, keyid := field p 8 8, key := slice p 16 64 } ∧ (s.withHostKey f p).mem = s.mem ∧
    ∀ a, (s.withHostKey f p).reg a = s.reg a := by
  unfold State.withHostKey State.installKey
  obtain ⟨raised, h⟩ := (s.setKey f { st := 2, keyid := field p 8 8, key := slice p 16 64 }).returnTuns.tenantChanged_eq f
  rw [h, TunFrame.returnTuns]
  exact ⟨rfl, s.keyOf_setKey f { st := 2, keyid := field p 8 8, key := slice p 16 64 }, rfl, fun _ => rfl⟩

theorem exec_install {s : State} {v : Vf} {p : List Byte} (hsec : s.secured (v.val + 1) = true) : exec (.install v p) s = .next
    ((if s.installStatus (v.val + 1) p = 0 then s.withHostKey (v.val + 1) p else s).emit
      (.doe (v.val + 1) (leBytes 1 (s.installStatus (v.val + 1) p)))) := by
  change execInstall v p s = _
  rw [execInstall, hsec]
  rfl

end Sys2Proof.Machine
end

section
/-! Function-level resets (R190, R192, R426, R427): a function that enters its FLR, the tenants that an FLR of the PF revokes, and the
mailbox that an FLR leaves. -/

namespace Sys2Proof.Machine

/-! ### The start of an FLR (R426) -/

/-- The state in which a function has entered its FLR, before its tenant's revocation (R426 rung 1). -/
def State.enterFlr (s : State) (f : Nat) : State :=
  (s.setFn f { s.fnAt f with flr := true, flrAt := s.now, flrTick := s.tick }).setMbx f { s.mbxAt f with resetting := true }

theorem State.startFlr_of_flr {s : State} {f : Nat} (h : (s.fnAt f).flr = true) : s.startFlr f = s := by
  rw [State.startFlr]
  exact if_pos h

theorem State.startFlr_of_not_flr {s : State} {f : Nat} (h : (s.fnAt f).flr = false) :
    s.startFlr f = if f = 0 then s.enterFlr f else (s.enterFlr f).revokeTenant f true := by
  rw [State.startFlr]
  exact if_neg (by simp [h])

theorem State.fnAt_enterFlr (s : State) (f : Nat) :
    (s.enterFlr f).fnAt f = { s.fnAt f with flr := true, flrAt := s.now, flrTick := s.tick } :=
  State.fnAt_setFn s f _

theorem State.fnAt_enterFlr_other (s : State) {f k : Nat} (h : k ≠ f) : (s.enterFlr f).fnAt k = s.fnAt k :=
  State.fnAt_setFn_other s f _ k h

/-- The FLR of a function that is not in one: its function and mailbox are in reset, and memory stays. -/
theorem State.startFlr_spec {s : State} {f : Nat} (h : (s.fnAt f).flr = false) :
    (s.startFlr f).fnAt f = { s.fnAt f with flr := true, flrAt := s.now, flrTick := s.tick } ∧
    ((s.startFlr f).mbxAt f).resetting = true ∧ SameMemory s (s.startFlr f) := by
  have hbox : ((s.enterFlr f).mbxAt f).resetting = true := congrArg Mailbox.resetting (State.mbxAt_setMbx _ f _)
  rw [State.startFlr_of_not_flr h]
  split
  · exact ⟨s.fnAt_enterFlr f, hbox, fun _ => rfl⟩
  · rw [State.fnAt_revokeTenant, State.mbxAt_revokeTenant]
    exact ⟨s.fnAt_enterFlr f, hbox, (RevokeFrame.revokeTenant _ _ _).sameMemory⟩

theorem State.flr_startFlr (s : State) (f : Nat) : ((s.startFlr f).fnAt f).flr = true := by
  cases h : (s.fnAt f).flr with
  | true => rw [State.startFlr_of_flr h, h]
  | false => rw [(State.startFlr_spec h).1]

theorem State.fnAt_startFlr_other (s : State) {f k : Nat} (hk : k ≠ f) : (s.startFlr f).fnAt k = s.fnAt k := by
  cases h : (s.fnAt f).flr with
  | true => rw [State.startFlr_of_flr h]
  | false =>
    rw [State.startFlr_of_not_flr h]
    split
    · exact s.fnAt_enterFlr_other hk
    · rw [State.fnAt_revokeTenant, s.fnAt_enterFlr_other hk]

/-- A function in its FLR stays in it when another one's starts. -/
theorem State.flr_startFlr_of_flr {s : State} {f : Nat} (h : (s.fnAt f).flr = true) (k : Nat) : ((s.startFlr k).fnAt f).flr = true := by
  by_cases hk : f = k
  · rw [hk, State.flr_startFlr]
  · rw [State.fnAt_startFlr_other _ hk, h]

theorem State.flr_setTdi (s : State) (f k st : Nat) : ((s.setTdi k st).fnAt f).flr = (s.fnAt f).flr := by
  by_cases hk : f = k
  · rw [hk, State.fnAt_setTdi]
  · rw [State.fnAt_setTdi_other s st hk]

/-- The streams that go are of no function and no tenant (R427). -/
theorem State.fnAt_dropStreams (s : State) (f : Nat) : s.dropStreams.fnAt f = s.fnAt f :=
  forAll_frame (g := fun t => t.fnAt f) (l := List.range 4) (f := fun k t => t.setReg (Reg.HIF_IDESTATE k) 0) (fun _ _ => rfl) s

theorem State.tenants_dropStreams (s : State) : s.dropStreams.tenants = s.tenants :=
  forAll_frame (g := State.tenants) (l := List.range 4) (f := fun k t => t.setReg (Reg.HIF_IDESTATE k) 0) (fun _ _ => rfl) s

/-! ### The tenants that an FLR of the PF revokes (R192, R427) -/

/-- In a tick with a number and under a configuration space, the tenant of a VF meets a condition. -/
def State.revoking (s : State) (n : Nat) (h : HostState) (f : Nat) (D : Tenant → Prop) : Prop := s.tick = n ∧ s.host = h ∧ s.tenantHas f D

/-- The tenant ends in the next tick, without completions (R190). -/
def Tenant.dueAfter (n : Nat) (y : Tenant) : Prop := y.revokeDue = some (n + 1) ∧ y.silent = true

/-- Before its own FLR starts a VF is in none, and after it its tenant is due. -/
def State.revokingByFlr (s : State) (n : Nat) (h : HostState) (f : Nat) (D : Tenant → Prop) : Prop :=
  (s.revoking n h f D ∧ (s.fnAt f).flr = false) ∨ s.revoking n h f (Tenant.dueAfter n)

theorem Tenant.dueAfter_revoke (n : Nat) (y : Tenant) : (y.revoke true n).dueAfter n := ⟨rfl, by simp [Tenant.revoke]⟩

section
variable {s : State} {n f : Nat} {h : HostState} {D : Tenant → Prop}

theorem State.revoking.revokeTenant (hs : s.revoking n h f D) (hD : ∀ y, D y → D (y.revoke true n)) (k : Nat) :
    (s.revokeTenant k true).revoking n h f D := by
  obtain ⟨htick, hhost, hten⟩ := hs
  refine ⟨(s.tick_revokeTenant k true).trans htick, (s.host_revokeTenant k true).trans hhost, ?_⟩
  rw [State.revokeTenant_eq_onTenant, htick]
  refine State.tenantHas_onTenant (State.tenantHas_of_tenants ?_ hten) k hD
  rw [StopFrame.revokeRings]

/-- A revocation under an FLR makes its tenant due. -/
theorem State.revoking.due (hs : s.revoking n h f D) : (s.revokeTenant f true).revoking n h f (Tenant.dueAfter n) := by
  obtain ⟨htick, hhost, hten⟩ := hs
  refine ⟨(s.tick_revokeTenant f true).trans htick, (s.host_revokeTenant f true).trans hhost, ?_⟩
  rw [State.revokeTenant_eq_onTenant, htick]
  refine State.tenantHas_onTenant_self (State.tenantHas_of_tenants ?_ hten) (Tenant.dueAfter_revoke n)
  rw [StopFrame.revokeRings]

theorem State.revoking.enterFlr (hs : s.revoking n h f D) (k : Nat) : (s.enterFlr k).revoking n h f D := hs

theorem State.revoking.startFlr (hs : s.revoking n h f D) (hD : ∀ y, D y → D (y.revoke true n)) (k : Nat) :
    (s.startFlr k).revoking n h f D := by
  cases hk : (s.fnAt k).flr with
  | true => rwa [State.startFlr_of_flr hk]
  | false =>
    rw [State.startFlr_of_not_flr hk]
    split
    · exact hs.enterFlr k
    · exact (hs.enterFlr k).revokeTenant hD k

/-- The start of its FLR makes a VF's tenant due, where none of its own is under way. -/
theorem State.revoking.due_startFlr (hs : s.revoking n h f D) (hf : f ≠ 0) (hflr : (s.fnAt f).flr = false) :
    (s.startFlr f).revoking n h f (Tenant.dueAfter n) := by
  rw [State.startFlr_of_not_flr hflr, if_neg hf]
  exact (hs.enterFlr f).due

theorem Tenant.dueAfter.revoke {n : Nat} (y : Tenant) (_ : y.dueAfter n) : (y.revoke true n).dueAfter n := y.dueAfter_revoke n

/-- Where the FLRs of several functions start, what a revocation keeps of a tenant stays. -/
theorem State.revoking.startFlrs (hs : s.revoking n h f D) (hD : ∀ y, D y → D (y.revoke true n)) (l : List Nat) :
    (forAll l (fun k s => s.startFlr k) s).revoking n h f D :=
  forAll_keeps (P := fun t => t.revoking n h f D) (fun k _ _ ht => ht.startFlr hD k) hs

theorem State.revokingByFlr.startFlr (hs : s.revokingByFlr n h f D) (hD : ∀ y, D y → D (y.revoke true n)) (hf : f ≠ 0) (k : Nat) :
    (s.startFlr k).revokingByFlr n h f D := by
  rcases hs with ⟨hs, hidle⟩ | hs
  · by_cases hk : k = f
    · exact .inr (hk ▸ hs.due_startFlr hf hidle)
    · exact .inl ⟨hs.startFlr hD k, by rwa [State.fnAt_startFlr_other _ (Ne.symm hk)]⟩
  · exact .inr (hs.startFlr Tenant.dueAfter.revoke k)

theorem State.revokingByFlr.due (hs : s.revokingByFlr n h f D) (hf : f ≠ 0) : (s.startFlr f).revoking n h f (Tenant.dueAfter n) := by
  rcases hs with ⟨hs, hidle⟩ | hs
  · exact hs.due_startFlr hf hidle
  · exact hs.startFlr Tenant.dueAfter.revoke f

/-- The FLRs that start make the tenant of one of their VFs due. -/
theorem State.revoking.due_startFlrs {l : List Nat} (hs : s.revoking n h f D) (hD : ∀ y, D y → D (y.revoke true n)) (hmem : f ∈ l)
    (hf : f ≠ 0) (hflr : (s.fnAt f).flr = false) : (forAll l (fun k s => s.startFlr k) s).revoking n h f (Tenant.dueAfter n) :=
  forAll_reaches (P := fun t => t.revokingByFlr n h f D) (Q := fun t => t.revoking n h f (Tenant.dueAfter n))
    (fun k _ _ ht => ht.startFlr hD hf k) (fun k _ _ ht => ht.startFlr Tenant.dueAfter.revoke k) hmem (fun _ ht => ht.due hf) (.inl ⟨hs, hflr⟩)

end

/-- The revocation that an FLR of the PF makes of the tenant of a VF that does not exist now (R192). -/
def revokeAbsent (f : Nat) (s : State) : State := if s.vfs.contains f then s else s.revokeTenant f true

section
variable {s : State} {n f : Nat} {h : HostState} {D : Tenant → Prop}

theorem State.revoking.revokeAbsent (hs : s.revoking n h f D) (hD : ∀ y, D y → D (y.revoke true n)) (k : Nat) :
    (revokeAbsent k s).revoking n h f D := by
  unfold Machine.revokeAbsent
  split
  · exact hs
  · exact hs.revokeTenant hD k

theorem State.revoking.due_revokeAbsent (hs : s.revoking n h f D) (hf : f ∉ s.vfs) :
    (Machine.revokeAbsent f s).revoking n h f (Tenant.dueAfter n) := by
  rw [Machine.revokeAbsent, if_neg (by simpa using hf)]
  exact hs.due

end

theorem ne_zero_of_mem_vfs {s : State} {f : Nat} (h : f ∈ s.vfs) : f ≠ 0 := by
  unfold State.vfs at h
  split at h
  · obtain ⟨v, -, rfl⟩ := List.mem_map.mp h
    exact Nat.succ_ne_zero v
  · exact absurd h List.not_mem_nil

theorem State.vfs_of_host {s t : State} (h : t.host = s.host) : t.vfs = s.vfs := by rw [State.vfs, h, State.vfs]

/-- Once the VFs that exist have entered their FLRs, and the other tenants have been revoked, each tenant is due (R192). -/
theorem State.dueAfter_revokeAll {s : State} {f : Nat} {x : Tenant} (hx : Tab.find s.tenants f = some x)
    (hflr : f ∈ s.vfs → (s.fnAt f).flr = false) {t : State} (ht : t = forAll s.vfs (fun f s => s.startFlr f) s) :
    (forAll (t.tenants.keys (fun _ => true)) revokeAbsent t).revoking s.tick s.host f (Tenant.dueAfter s.tick) := by
  have hstart : s.revoking s.tick s.host f (fun _ => True) := ⟨rfl, rfl, x, hx, trivial⟩
  by_cases hf : f ∈ s.vfs
  · have hdue : t.revoking s.tick s.host f (Tenant.dueAfter s.tick) :=
      ht ▸ hstart.due_startFlrs (fun _ h => h) hf (ne_zero_of_mem_vfs hf) (hflr hf)
    exact forAll_keeps (P := fun t => t.revoking s.tick s.host f (Tenant.dueAfter s.tick))
      (fun k _ _ ht => ht.revokeAbsent Tenant.dueAfter.revoke k) hdue
  · have hkept : t.revoking s.tick s.host f (fun _ => True) := ht ▸ hstart.startFlrs (fun _ h => h) s.vfs
    have hkey : f ∈ t.tenants.keys (fun _ => true) := by
      obtain ⟨-, -, y, hy, -⟩ := hkept
      exact Tab.mem_keys_of_find hy rfl
    exact forAll_reaches (P := fun t => t.revoking s.tick s.host f (fun _ => True))
      (Q := fun t => t.revoking s.tick s.host f (Tenant.dueAfter s.tick)) (fun k _ _ ht => ht.revokeAbsent (fun _ h => h) k)
      (fun k _ _ ht => ht.revokeAbsent Tenant.dueAfter.revoke k) hkey
      (fun t ht => ht.due_revokeAbsent (by rwa [State.vfs_of_host ht.2.1])) hkept

/-- An FLR of the PF alone revokes no tenant. -/
theorem State.tenants_startFlr_zero (s : State) : (s.startFlr 0).tenants = s.tenants := by
  unfold State.startFlr
  dsimp only
  split <;> rfl

/-- An FLR of the PF makes every tenant due that no FLR of its own has under way (R192). -/
theorem State.dueAfter_pfFlr {s : State} {f : Nat} {x : Tenant} (hx : Tab.find s.tenants f = some x)
    (hflr : f ∈ s.vfs → (s.fnAt f).flr = false) : s.pfFlr.tenantHas f (Tenant.dueAfter s.tick) := by
  unfold State.pfFlr
  extract_lets s1 s2 s3 s4 s5
  obtain ⟨-, -, h2⟩ : s2.revoking s.tick s.host f (Tenant.dueAfter s.tick) := State.dueAfter_revokeAll hx hflr (t := s1) rfl
  have h3 : s3.tenantHas f (Tenant.dueAfter s.tick) :=
    State.tenantHas_of_tenants (forAll_frame (g := State.tenants) (fun k t => by split <;> rfl) s2) h2
  have h4 : s4.tenantHas f (Tenant.dueAfter s.tick) :=
    forAll_keeps (P := fun t => t.tenantHas f (Tenant.dueAfter s.tick)) (fun k _ t ht => State.tenantHas_wipeTenant ht k fun _ h => h) h3
  have h5 : s5.tenantHas f (Tenant.dueAfter s.tick) := by
    refine State.tenantHas_of_tenants ?_ h4
    rw [State.tenants_startFlr_zero, State.tenants_dropStreams]
  clear_value s5
  exact h5

/-- Is a function in its FLR? -/
def State.flrRuns (s : State) (f : Nat) : Prop := (s.fnAt f).flr = true

/-- In an FLR of the PF every VF is in its own. -/
theorem State.flr_pfFlr {s : State} {f : Nat} (hf : f ∈ s.vfs) : (s.pfFlr.fnAt f).flr = true := by
  unfold State.pfFlr
  extract_lets s1 s2 s3 s4 s5
  have h1 : s1.flrRuns f :=
    forAll_of_mem (P := fun t => t.flrRuns f) (fun k _ _ ht => State.flr_startFlr_of_flr ht k) hf (fun t => t.flr_startFlr f) s
  have h2 : s2.flrRuns f := forAll_keeps (P := fun t => t.flrRuns f) (fun k _ t ht => by
    split
    · exact ht
    · exact (congrArg FnState.flr (t.fnAt_revokeTenant k true f)).trans ht) h1
  have h3 : s3.flrRuns f := forAll_keeps (P := fun t => t.flrRuns f) (fun k _ t ht => by
    split
    · exact ht
    · exact (t.flr_setTdi f k 0).trans ht) h2
  have h4 : s4.flrRuns f :=
    forAll_keeps (P := fun t => t.flrRuns f) (fun k _ t ht => (congrArg FnState.flr (t.fnAt_wipeTenant k f)).trans ht) h3
  have h5 : s5.flrRuns f := State.flr_startFlr_of_flr ((congrArg FnState.flr (s4.fnAt_dropStreams f)).trans h4) 0
  clear_value s5
  exact h5

/-- An FLR of the PF is its own FLR too, with VF Enable cleared (R427). -/
theorem State.pfFlr_spec (s : State) : (s.pfFlr.fnAt 0).flr = true ∧ s.pfFlr.host.vfEnable = false := by
  unfold State.pfFlr
  extract_lets s1 s2 s3 s4 s5
  have h5 : (s5.fnAt 0).flr = true := s4.dropStreams.flr_startFlr 0
  clear_value s5
  exact ⟨h5, rfl⟩

theorem exec_vfFlr {s : State} {v : Vf} (hready : s.configReady = true) (hfn : s.fnExists (v.val + 1) = true) :
    exec (.vfFlr v) s = .next (s.startFlr (v.val + 1)) := by
  change Host.Outcome.next (if s.fnExists (v.val + 1) && s.configReady then s.startFlr (v.val + 1) else s) = _
  rw [hfn, hready]
  rfl

theorem exec_pfFlr {s : State} (hready : s.configReady = true) : exec .pfFlr s = .next s.pfFlr := by
  change Host.Outcome.next (if s.configReady then s.pfFlr else s) = _
  rw [if_pos hready]

/-! ### The end of an FLR (R426 rung 6, R440) -/

theorem Tab.find_eq_none {α : Type} {t : Tab α} {k : Nat} (h : ∀ e ∈ t, e.1 ≠ k) : Tab.find t k = none := by
  cases hk : Tab.find t k with
  | none => rfl
  | some x => exact absurd rfl (h _ (Tab.mem_of_find hk))

/-- A mailbox that is reset has its slots free: what still runs stands above them, its response discarded (R440). -/
theorem Mailbox.find_reset (x : Mailbox) {k : Nat} (hk : k < 4) : Tab.find x.reset.slots k = none := by
  have habove : ∀ e ∈ x.reset.slots, 4 ≤ e.1 := by
    refine List.foldlRecOn (motive := fun t : Tab MbxSlot => ∀ e ∈ t, 4 ≤ e.1) _ _ (fun e he => ?_) (fun t ht c _ e he => ?_)
    · simpa using (List.mem_filter.mp he).2
    · rcases Tab.mem_insert he with rfl | he
      · exact Nat.le_add_left 4 c.1
      · exact ht e he
  exact Tab.find_eq_none fun e he => Nat.ne_of_gt (Nat.lt_of_lt_of_le hk (habove e he))

theorem exec_flrComplete {s : State} {f : Fn} (hflr : (s.fnAt f).flr = true) (htick : (s.fnAt f).flrTick < s.tick)
    (hseqs : s.seqs.any (fun (q : Nat × Sequence) => q.2.vf == f.val && f.val != 0) = false) (hfar : s.farReadsOf f = false)
    (htdi : s.tdi f = 0) (hkey : s.flrKeyGone f = true) (hbox : (s.mbxAt f).canReset = true) :
    exec (.flrComplete f) s = .next ((s.setFn f { s.fnAt f with flr := false }).setMbx f (s.mbxAt f).reset) := by
  change execFlrComplete f s = _
  unfold execFlrComplete
  dsimp only
  rw [hseqs, if_pos (by simp [hflr, htick, hfar, htdi, hkey, hbox])]

/-- Settles O42, row by row. -/
theorem interfacesAndFunctionResets : Obligations.InterfacesAndFunctionResets := by
  refine ⟨fun s v hsec => ⟨fun tn pasid htn hpasid hconf htdi hcov hflr => ?_, fun htdi => ?_, ?_⟩,
    fun s v => ⟨fun hlocked => ?_, fun hopen => exec_tdiError_of_unlocked hopen⟩, fun s v p hsec => ⟨fun hst => ?_, fun hst => ?_⟩,
    fun s v hready hfn hflr => ?_, fun s hready => ?_, fun s f hflr htick hseqs hfar htdi hkey hbox => ?_⟩
  · obtain ⟨r, hexec⟩ := exec_lockInterfaceRequest hsec htn hpasid hconf htdi hcov hflr
    exact ⟨_, hexec, State.setTdi_spec _ v (by decide)⟩
  · exact ⟨_, exec_startInterfaceRequest hsec htdi, s.setTdi_spec v (by decide)⟩
  · exact ⟨_, exec_stopInterfaceRequest hsec, s.setTdi_spec v (by decide)⟩
  · exact ⟨_, rfl, State.tdiError_spec hlocked⟩
  · have hexec := exec_install (p := p) hsec
    rw [if_pos hst, hst] at hexec
    obtain ⟨hout, hkey, hmem, hregs⟩ := s.withHostKey_spec (v.val + 1) p
    exact ⟨_, hexec, congrArg (· ++ _) hout, hkey, hmem, fun a _ => hregs a⟩
  · have hexec := exec_install (p := p) hsec
    rw [if_neg hst] at hexec
    exact ⟨_, hexec, rfl, fun _ => rfl, fun _ _ => rfl, rfl⟩
  · obtain ⟨hfnAt, hbox, hmem⟩ := State.startFlr_spec hflr
    exact ⟨_, exec_vfFlr hready hfn, by rw [hfnAt], by rw [hfnAt], hbox, hmem⟩
  · obtain ⟨hpf, henable⟩ := s.pfFlr_spec
    refine ⟨_, exec_pfFlr hready, hpf, henable, fun f hf => State.flr_pfFlr hf, fun _ _ f x hx hidle => ?_⟩
    exact State.dueAfter_pfFlr hx hidle
  · refine ⟨_, exec_flrComplete hflr htick hseqs hfar htdi hkey hbox, ?_, fun k hk => ?_, fun _ _ => rfl, fun _ => rfl⟩
    · exact congrArg FnState.flr (State.fnAt_setFn s f { s.fnAt f with flr := false })
    · rw [State.mbxAt_setMbx]
      exact Mailbox.find_reset _ hk

end Sys2Proof.Machine
end

section
/-! Power-fail notices (R320, R479, R616): what the far reads that a notice ends, and the flushes it starts, leave of the power
terms. -/

namespace Sys2Proof.Machine

theorem pwr_forAll {α : Type} {l : List α} {f : α → State → State} (hf : ∀ x s, (f x s).pwr = s.pwr) (s : State) :
    (forAll l f s).pwr = s.pwr :=
  forAll_frame (g := State.pwr) hf s

variable (s : State)

/-! ### Reports and changes of one sequence -/

@[simp] theorem State.pwr_occur (o : Occ) : (s.occur o).1.pwr = s.pwr := by rw [(s.occur_reported o).frame]
@[simp] theorem State.pwr_record (o : Occ) : (s.record o).pwr = s.pwr := s.pwr_occur o
@[simp] theorem State.pwr_count (a n : Nat) : (s.count a n).pwr = s.pwr := rfl

@[simp] theorem State.pwr_onSeq (e : Nat) (f : Sequence → Sequence) : (s.onSeq e f).pwr = s.pwr := by
  unfold State.onSeq
  split <;> rfl

@[simp] theorem State.pwr_endStage (e : Nat) : (s.endStage e).pwr = s.pwr := s.pwr_onSeq e _

/-! ### The sequence cache (R122, R123, R264) -/

theorem State.pwr_queueStream (slot a : Nat) (bs : List Byte) : (s.queueStream slot a bs).pwr = s.pwr :=
  pwr_forAll (fun _ _ => State.setPch_pwr _ _ _) _

theorem State.pwr_spill (e n : Nat) : (s.spill e n).pwr = s.pwr := by
  unfold State.spill
  split
  · rfl
  · exact State.pwr_queueStream _ _ _ _

theorem State.pwr_evictLine (vf : Nat) : (s.evictLine vf).pwr = s.pwr := by
  unfold State.evictLine
  dsimp only
  split
  · exact State.pwr_spill _ _ _
  · rfl

theorem State.pwr_evictTo (vf n : Nat) : (s.evictTo vf n).pwr = s.pwr := by
  induction n generalizing s with
  | zero => rfl
  | succ n ih =>
    unfold State.evictTo
    split
    · rw [ih, State.pwr_evictLine]
    · rfl

@[simp] theorem State.pwr_writeLists (e : Nat) : (s.writeLists e).pwr = s.pwr := by
  have hlines : ∀ ls, (s.writeLines e ls).pwr = s.pwr := fun ls => by
    unfold State.writeLines
    split
    · rfl
    · exact State.pwr_evictTo _ _ _
  unfold State.writeLists
  split
  · exact hlines _
  · rfl

/-! ### The end of a far read (R33, R314, R316) -/

@[simp] theorem State.pwr_walkDone (e : Nat) : (s.walkDone e).pwr = s.pwr := by
  unfold State.walkDone
  split
  · rfl
  · split
    · rfl
    · exact State.pwr_writeLists _ _

@[simp] theorem State.pwr_entryEffect (e : Nat) : (s.entryEffect e).pwr = s.pwr := by
  unfold State.entryEffect
  split
  · rfl
  · split
    · rfl
    · dsimp only
      split
      · split <;> simp
      · simp

@[simp] theorem State.pwr_hopEffect (e : Nat) (ms : List Nbr) : (s.hopEffect e ms).pwr = s.pwr := by
  unfold State.hopEffect
  split
  · rfl
  · split
    · exact s.pwr_walkDone e
    · dsimp only
      split <;> simp

@[simp] theorem State.pwr_stageReadsOver (e : Nat) : (s.stageReadsOver e).pwr = s.pwr := by
  unfold State.stageReadsOver
  split
  · rfl
  · split_ifs <;> simp

@[simp] theorem State.pwr_readTaken (e : Nat) : (s.readTaken e).pwr = s.pwr := by
  unfold State.readTaken
  split
  · rfl
  · dsimp only
    split
    · exact State.pwr_stageReadsOver _ e
    · rfl

@[simp] theorem State.pwr_farTaken (r : FarReq) : (s.farTaken r).pwr = s.pwr := by
  unfold State.farTaken
  split
  · split
    · split
      · exact State.pwr_readTaken _ _
      · rfl
    · rfl
  · rfl

@[simp] theorem State.pwr_farBad (r : FarReq) (c : Cause) : (s.farBad r c).pwr = s.pwr := by
  unfold State.farBad
  dsimp only
  split
  · simp
  · split
    · split <;> simp
    · simp

/-! ### Notices (R320, R479, R616) -/

theorem State.pwr_startGpf (notice : Bool) : (s.startGpf notice).pwr = s.pwr := by
  have hphase : ∀ (t : State) (n : Nat), (t.gpfPhase n).pwr = t.pwr := fun t n => by
    unfold State.gpfPhase
    dsimp only
    split <;> rfl
  refine pwr_forAll (fun n t => ?_) s
  dsimp only
  split
  · exact hphase _ n
  · rfl

theorem State.pwr_endQueued : s.endQueued.pwr = s.pwr := by
  have hreads : ∀ (l : List FarReq) (t : State), (forAll l (fun r s => (s.farBad r Cause.readTimeout).farTaken r) t).pwr = t.pwr :=
    fun _ => pwr_forAll fun r t => by rw [State.pwr_farTaken, State.pwr_farBad]
  exact pwr_forAll (fun n t => hreads _ (t.setFar n _)) s

theorem State.pwr_resumeFar : s.resumeFar.pwr = s.pwr := by
  refine pwr_forAll (fun n t => ?_) s
  dsimp only
  split <;> rfl

/-- A notice that comes into force or is withdrawn moves far traffic, and of the power terms the levels it was given alone. -/
theorem State.pwr_notices (pin cmd : Bool) : (s.notices pin cmd).pwr = { s.pwr with pfailPin := pin, pfailCmd := cmd } := by
  unfold State.notices
  dsimp only
  split
  · rw [State.pwr_endQueued, State.pwr_startGpf]
  · split
    · exact State.pwr_resumeFar _
    · rfl

end Sys2Proof.Machine
end

section
/-! Firmware slots and boot control (R565, R566, R570, R571): what staging an image and activating a slot leave. -/

namespace Sys2Proof.Machine

/-! ### One-byte fields of a structure -/

theorem leNat_lt (l : List Byte) : leNat l < 256 ^ l.length := by
  induction l with
  | nil => exact Nat.one_pos
  | cons b l ih =>
    have hb := b.isLt
    rw [leNat, List.length_cons, Nat.pow_succ]
    omega

theorem field_byte_lt (bs : List Byte) (off : Nat) : field bs off 1 < 256 := by
  have h := leNat_lt (slice bs off 1)
  rwa [length_slice] at h

/-! ### Slots of the firmware (R570) -/

@[simp] theorem State.fwSlot_setFw (s : State) (k : Nat) (x : FwSlot) : (s.setFw k x).fwSlot k = x := Tab.read_write_self _ _ _ _

theorem State.fwSlot_setFw_other (s : State) {j k : Nat} (x : FwSlot) (h : j ≠ k) : (s.setFw k x).fwSlot j = s.fwSlot j :=
  Tab.read_write_ne _ _ _ (Ne.symm h)

theorem State.inactiveSlot_le (s : State) : s.inactiveSlot ≤ 1 := Nat.sub_le _ _

/-- The slots are 0 and 1, so the one beside the inactive slot is another. -/
theorem State.otherSlot_ne (s : State) : 1 - s.inactiveSlot ≠ s.inactiveSlot := by
  unfold State.inactiveSlot
  omega

/-- The state in which a good image has filled a slot: the slot, the report of it and its log record (R570). -/
def State.staged (s : State) (k : Nat) (b : List Byte) (src : Nat) : State :=
  ((((s.setFw k {}).setFw k { bytes := slice b 0 (fwSize b), committed := true }).platRecord 0x0546 0 k (fwVersion b)).logUpdate k
    (fwVersion b) sOK src)

theorem State.stageImage_good {s : State} {b : List Byte} (hhead : s.headerCheck b = none) (hsect : badSections b 0 = []) (src : Nat) :
    s.stageImage b src = (s.staged s.inactiveSlot b src, sOK) := by
  have hslot : (s.setFw s.inactiveSlot {}).headerCheck b = none := hhead
  simp [State.stageImage, hslot, hsect, State.staged]

/-- A staged image: memory stays, the slot holds it, the other slot is as it was, and the error queue tells of it. -/
theorem State.staged_spec (s : State) (k : Nat) (b : List Byte) (src : Nat) : SameMemory s (s.staged k b src) ∧
    (s.staged k b src).fwSlot k = { bytes := slice b 0 (fwSize b), committed := true } ∧
    (∀ j, j ≠ k → (s.staged k b src).fwSlot j = s.fwSlot j) ∧ (s.staged k b src).tells { cause := plat 0x0546 0 } = true := by
  let filled := (s.setFw k {}).setFw k { bytes := slice b 0 (fwSize b), committed := true }
  obtain ⟨hframe, -, htells⟩ := filled.occur_reported { cause := plat 0x0546 0, arg0 := k, arg1 := fwVersion b }
  have hmc : (filled.occur { cause := plat 0x0546 0, arg0 := k, arg1 := fwVersion b }).1.mc = filled.mc := by rw [hframe]
  have hslots : ∀ j, (s.staged k b src).fwSlot j = filled.fwSlot j := fun j => by
    change Tab.read (filled.occur { cause := plat 0x0546 0, arg0 := k, arg1 := fwVersion b }).1.mc.fw {} j = filled.fwSlot j
    rw [hmc]
    rfl
  refine ⟨hframe.sameMemory, ?_, fun j hj => ?_, htells⟩
  · rw [hslots, State.fwSlot_setFw]
  · rw [hslots, State.fwSlot_setFw_other _ _ hj, State.fwSlot_setFw_other _ _ hj]

/-! ### Boot control (R566, R571) -/

theorem bootCtlOf_active_lt (p : List Byte) : (bootCtlOf p).active < 256 := field_byte_lt p 0

theorem State.bootCtl_active_lt (s : State) : s.bootCtl.active < 256 := by
  unfold State.bootCtl
  split
  · exact bootCtlOf_active_lt _
  · split
    · exact bootCtlOf_active_lt _
    · decide

theorem bootCtlOf_bytes_active (r : BootCtl) : (bootCtlOf r.bytes).active = r.active % 256 := by
  simp [bootCtlOf, BootCtl.bytes, field_leBytes]

theorem bootCtlOf_bytes_next (r : BootCtl) : (bootCtlOf r.bytes).next = r.next % 256 := by
  simp [bootCtlOf, BootCtl.bytes, field, slice, leBytes, leNat]

/-- A record that waits for the flash is the newest one. -/
theorem State.bootCtl_writeBoot (s : State) (r : BootCtl) : (s.writeBoot r).bootCtl = bootCtlOf r.bytes := by
  have hjobs : (s.writeBoot r).mc.jobs = s.mc.jobs ++ [{ prio := 3, area := 1, kind := 0x0101, payload := r.bytes }] := rfl
  simp [State.bootCtl, hjobs, List.filter_append]

theorem State.reg_writeBoot (s : State) (r : BootCtl) {a : Nat} (h : a ≠ Reg.MGT_BOOT) : (s.writeBoot r).reg a = s.reg a := by
  unfold State.writeBoot State.showBoot State.setFld
  rw [State.reg_setReg_other _ _ _ _ h, State.reg_setReg_other _ _ _ _ h, State.reg_setReg_other _ _ _ _ h]
  rfl

theorem State.sameMemory_writeBoot (s : State) (r : BootCtl) : SameMemory s (s.writeBoot r) := by
  have hqueued : SameMemory s (s.config 1 0x0101 r.bytes) := fun _ => rfl
  exact ((hqueued.setReg _ _).setReg _ _).setReg _ _

theorem BootCtl.setFails_active (r : BootCtl) (k n : Nat) : (r.setFails k n).active = r.active := by
  unfold BootCtl.setFails
  split <;> rfl

theorem BootCtl.setFails_next (r : BootCtl) (k n : Nat) : (r.setFails k n).next = r.next := by
  unfold BootCtl.setFails
  split <;> rfl

/-- Activating a slot leaves memory and every register but MGT_BOOT. -/
theorem State.activate_frame (s : State) (k : Nat) : SameMemory s (s.activate k) ∧ SameRegs s (s.activate k) [Reg.MGT_BOOT] := by
  unfold State.activate
  dsimp only
  split
  · exact ⟨fun _ => rfl, fun _ _ => rfl⟩
  · exact ⟨s.sameMemory_writeBoot _, fun a ha => s.reg_writeBoot _ (by simpa using ha)⟩

/-- Activating a slot that is not ACTIVE makes it NEXT. -/
theorem State.bootCtl_activate {s : State} {k : Nat} (hk : k < 256) (hne : k ≠ s.bootCtl.active) :
    (s.activate k).bootCtl.next = k ∧ (s.activate k).bootCtl.active = s.bootCtl.active := by
  unfold State.activate
  dsimp only
  rw [if_neg hne, State.bootCtl_writeBoot, bootCtlOf_bytes_next, bootCtlOf_bytes_active, BootCtl.setFails_next, BootCtl.setFails_active]
  exact ⟨Nat.mod_eq_of_lt hk, Nat.mod_eq_of_lt s.bootCtl_active_lt⟩

end Sys2Proof.Machine
end

section
/-! The Sosin commands on memory, power, error records, updates and debug mode (R231, R271, R297, R478 to R482, R499, R523, R565,
R571, R616): what each does and answers when its checks pass. -/

namespace Sys2Proof.Machine

/-! ### Commands of places -/

theorem SameMemory.replied {s t : State} (h : SameMemory s t) (m k : Nat) (r : Reply) : SameMemory s (t.replied m k r) := h

/-- The answer of a command whose effect leaves registers and memory. -/
theorem State.replied_still {s t : State} (hregs : ∀ a, t.reg a = s.reg a) (hmem : SameMemory s t) (m k : Nat) (r : Reply) :
    (t.replied m k r).answered m k r.status = true ∧ SameRegs s (t.replied m k r) [] ∧ SameMemory s (t.replied m k r) :=
  ⟨t.answered_replied m k r, .replied hregs m k r, hmem.replied m k r⟩

@[simp] theorem State.owner_replied (s : State) (m k : Nat) (r : Reply) (g : Nat) : (s.replied m k r).owner g = s.owner g := rfl
@[simp] theorem State.pchAt_replied (s : State) (m k : Nat) (r : Reply) (p : Nat) : (s.replied m k r).pchAt p = s.pchAt p := rfl
@[simp] theorem State.errQueue_replied (s : State) (m k : Nat) (r : Reply) (d : Nat) : (s.replied m k r).errQueue d = s.errQueue d := rfl
@[simp] theorem State.tells_replied (s : State) (m k : Nat) (r : Reply) (o : Occ) : (s.replied m k r).tells o = s.tells o := rfl
@[simp] theorem State.fwSlot_replied (s : State) (m k : Nat) (r : Reply) (j : Nat) : (s.replied m k r).fwSlot j = s.fwSlot j := rfl
@[simp] theorem State.bootCtl_replied (s : State) (m k : Nat) (r : Reply) : (s.replied m k r).bootCtl = s.bootCtl := rfl

/-! ### PAGE_RETIRE (R297) -/

/-- The state after a page has taken the next replacement page of its pseudo-channel. -/
def State.withRetired (s : State) (a : Nat) : State :=
  s.setPch (pchOf a) { s.pchAt (pchOf a) with
    retired := (s.pchAt (pchOf a)).retired ++ [{ page := a / 4096, repl := (s.pchAt (pchOf a)).retired.length }] }

theorem pageRetire_eq {c : Cmd} {s : State} {a : Nat} (ha : c.fld 0 8 = a) (hend : a < stackedEnd) (halign : a % 4096 = 0)
    (hrepl : inReplacement a = false) (hnew : ∀ r ∈ (s.pchAt (pchOf a)).retired, r.page ≠ a / 4096)
    (hroom : (s.pchAt (pchOf a)).retired.length < 256) :
    pageRetire c s = (s.withRetired a,
      { payload := leBytes 2 (pchOf a) ++ leBytes 2 (255 - (s.pchAt (pchOf a)).retired.length), wait := .page (pchOf a) (a / 4096) }) := by
  have hnone : (s.pchAt (pchOf a)).retired.any (fun r => r.page == a / 4096) = false := by
    rw [List.any_eq_false]
    exact fun r hr => by simpa using hnew r hr
  have hpass : firstFail [(decide (stackedEnd ≤ a) || a % 4096 != 0, sRANGE, at_ 0),
      ((s.pchAt (pchOf a)).retired.any (fun r => r.page == a / 4096) || inReplacement a, sSTATE, at_ 0)] = none :=
    firstFail_of_pass (by simp [hend, halign, hrepl, hnone])
  unfold pageRetire
  dsimp only
  rw [ha, hpass]
  exact if_neg (Nat.not_le.mpr hroom)

/-- Two numbers of two bytes each, answered in one word. -/
theorem fields_repliedPair (s : State) (m k : Nat) {x y : Nat} (hx : x < 2 ^ 16) (hy : y < 2 ^ 16) (w : Wait) :
    field ((s.replied m k { payload := leBytes 2 x ++ leBytes 2 y, wait := w }).slotAt m k).payload 0 2 = x ∧
    field ((s.replied m k { payload := leBytes 2 x ++ leBytes 2 y, wait := w }).slotAt m k).payload 2 2 = y := by
  rw [State.payload_replied_words _ _ _ _ (by simp)]
  refine ⟨(field_leBytes 2 x _).trans (Nat.mod_eq_of_lt hx), ?_⟩
  have hsecond := field_append (leBytes 2 x) (leBytes 2 y) 2
  rw [length_leBytes] at hsecond
  have hfield := field_leBytes 2 y []
  rw [List.append_nil] at hfield
  exact hsecond.trans (hfield.trans (Nat.mod_eq_of_lt hy))

/-! ### GRANULE_TEST (R271) -/

/-- `t` is `s` with the granules of a list given to one owner. -/
structure OwnersGiven (s t : State) (gs : List Nat) (o : Owner) : Prop where
  frame : t = { s with owners := t.owners }
  owner : ∀ a, t.owner a = if a ∈ gs then o else s.owner a

/-- What a table holds after one change made for each key of a list. -/
theorem Tab.find_foldl_keys {α : Type} {f : Tab α → Nat → Tab α} {y : Option α}
    (hf : ∀ t j k, Tab.find (f t j) k = if j = k then y else Tab.find t k) (gs : List Nat) (t : Tab α) (k : Nat) :
    Tab.find (gs.foldl f t) k = if k ∈ gs then y else Tab.find t k := by
  induction gs generalizing t with
  | nil => simp
  | cons g gs ih =>
    rw [List.foldl_cons, ih, hf]
    by_cases hk : k ∈ gs
    · simp [hk]
    · by_cases hg : g = k
      · simp [hg]
      · simp [hk, hg, Ne.symm hg]

theorem State.forAll_setOwner (gs : List Nat) (o : Owner) (s : State) :
    forAll gs (fun g s => s.setOwner g o) s = { s with owners := gs.foldl (fun t g => Tab.insert t g o) s.owners } := by
  induction gs generalizing s with
  | nil => rfl
  | cons g gs ih => exact ih (s.setOwner g o)

theorem OwnersGiven.setOwner (s : State) (gs : List Nat) (o : Owner) : OwnersGiven s (forAll gs (fun g s => s.setOwner g o) s) gs o where
  frame := by rw [State.forAll_setOwner]
  owner a := by
    rw [State.forAll_setOwner]
    simp only [State.owner, Tab.find_foldl_keys (fun t j k => Tab.find_insert t j k o)]
    by_cases ha : a ∈ gs
    · simp only [if_pos ha]
    · simp only [if_neg ha]

/-- Granules that the owner table does not keep for the device go back to FREE (R235). -/
theorem OwnersGiven.freeGranules (s : State) {gs : List Nat} (h : ∀ g ∈ gs, g / 256 < 736) : OwnersGiven s (s.freeGranules gs) gs .free where
  frame := rfl
  owner a := by
    simp only [State.owner, State.freeGranules, Tab.find_foldl_keys (fun t j k => Tab.find_erase t j k)]
    by_cases ha : a ∈ gs
    · simp [ha, h a ha]
    · simp only [if_neg ha]

/-- Memory reads the same under owners of the same key slots (R256). -/
theorem OwnersGiven.sameMemory {s t : State} {gs : List Nat} {o : Owner} (h : OwnersGiven s t gs o)
    (hkey : ∀ g ∈ gs, (s.owner g).keySlot = o.keySlot) : SameMemory s t := by
  obtain ⟨hframe, howner⟩ := h
  have hslot : ∀ a, t.keySlotAt a = s.keySlotAt a := fun a => by
    rw [State.keySlotAt, howner, State.keySlotAt]
    split
    next ha => exact (hkey _ ha).symm
    · rfl
  intro a
  have hlegible : ({ t with free := s.free } : State).legible (a / 64) = s.legible (a / 64) := by
    have hkeys : (t.stackInk (a / 64) == (t.keyOf (t.keySlotAt (64 * (a / 64)))).key) = s.legible (a / 64) := by
      rw [hslot, hframe]
      rfl
    exact hkeys
  have hdram : ({ t with free := s.free } : State).dram a = s.dram a := by
    rw [State.dram, hlegible, hframe]
    rfl
  rw [State.byte, hdram, hframe]
  rfl

/-- The granules that GRANULE_TEST names: of one pseudo-channel, in a row. -/
def Cmd.granules (c : Cmd) : List Nat := (List.range (c.fld 8 4)).map (fun j => granuleOf (c.fld 0 8) + 256 * j)

/-- The granules that GRANULE_TEST asks for stand in the state that its operation starts from. -/
structure Cmd.TestsGranules (c : Cmd) (s : State) : Prop where
  stacked : c.fld 0 8 < stackedEnd
  aligned : c.fld 0 8 % 2 ^ 21 = 0
  inside : granuleOf (c.fld 0 8) + 256 * (c.fld 8 4 - 1) < 768 * 256
  op : c.fld 12 1 ≤ 1
  owned : ∀ g ∈ c.granules, s.owner g = if c.fld 12 1 = 1 then .free else .test

theorem granuleTest_eq {c : Cmd} {s : State} (h : c.TestsGranules s) : granuleTest c s =
    if c.fld 12 1 = 1 then (forAll c.granules (fun g s => s.setOwner g .test) s, {}) else (s.freeGranules c.granules, {}) := by
  have haligned : c.fld 0 8 % 2097152 = 0 := h.aligned
  have hpass : firstFail [(decide (stackedEnd ≤ c.fld 0 8) || c.fld 0 8 % 2 ^ 21 != 0, sRANGE, at_ 0),
      (decide (768 * 256 ≤ granuleOf (c.fld 0 8) + 256 * (c.fld 8 4 - 1)), sRANGE, at_ 8), (decide (1 < c.fld 12 1), sRANGE, at_ 12)] = none :=
    firstFail_of_pass (by simp [h.stacked, haligned, h.inside, h.op])
  have howned : c.granules.any (fun g => s.owner g != if c.fld 12 1 = 1 then .free else .test) = false := by
    rw [List.any_eq_false]
    exact fun g hg => by simp [h.owned g hg]
  unfold granuleTest
  dsimp only
  rw [hpass]
  exact if_neg (Bool.not_eq_true _ ▸ howned)

/-- GRANULE_TEST that gives its granules to an owner leaves registers and memory, and the other granules. -/
theorem OwnersGiven.replied {c : Cmd} {s t : State} {o : Owner} (h : OwnersGiven s t c.granules o)
    (hkey : ∀ g ∈ c.granules, (s.owner g).keySlot = o.keySlot) (m k : Nat) :
    ((t.replied m k {}).answered m k sOK = true ∧ SameRegs s (t.replied m k {}) [] ∧ SameMemory s (t.replied m k {})) ∧
    (∀ j, j < c.fld 8 4 → (t.replied m k {}).owner (granuleOf (c.fld 0 8) + 256 * j) = o) ∧
    ∀ a, (∀ j, j < c.fld 8 4 → a ≠ granuleOf (c.fld 0 8) + 256 * j) → (t.replied m k {}).owner a = s.owner a := by
  have hregs : ∀ a, t.reg a = s.reg a := fun a => by rw [h.frame]; rfl
  refine ⟨State.replied_still hregs (h.sameMemory hkey) m k {}, fun j hj => ?_, fun a ha => ?_⟩
  · exact (h.owner _).trans (if_pos (List.mem_map.mpr ⟨j, List.mem_range.mpr hj, rfl⟩))
  · refine (h.owner a).trans (if_neg fun hmem => ?_)
    obtain ⟨j, hj, rfl⟩ := List.mem_map.mp hmem
    exact ha j (List.mem_range.mp hj) rfl

/-! ### POWER_POLICY, PHASE_SET and PFAIL_NOTICE (R478, R479, R523) -/

/-- The policy that POWER_POLICY is given. -/
def Cmd.policy (c : Cmd) : Policy :=
  { pla := c.fld 0 2, plb := c.fld 2 2, gain := c.fld 4 1, opmax := c.fld 5 1, phaseop := (List.range 4).map (fun i => c.fld (6 + i) 1) }

theorem powerPolicy_eq {c : Cmd} (s : State) (hpla : 1 ≤ c.fld 0 2) (hle : c.fld 0 2 ≤ c.fld 2 2) (hplb : c.fld 2 2 ≤ 1100)
    (hgainLo : 1 ≤ c.fld 4 1) (hgainHi : c.fld 4 1 ≤ 16) (hopmax : c.fld 5 1 ≤ 5) (hphases : ∀ i, i < 4 → c.fld (6 + i) 1 ≤ 5) :
    powerPolicy c s = ({ s with pwr := { s.pwr with nextPolicy := some c.policy } }, {}) := by
  have hbad : (List.range 4).find? (fun i => decide (5 < c.fld (6 + i) 1)) = none := by
    rw [List.find?_eq_none]
    exact fun i hi => by simpa using hphases i (List.mem_range.mp hi)
  have hplb0 : c.fld 2 2 ≠ 0 := by omega
  have hpla1100 : c.fld 0 2 ≤ 1100 := by omega
  unfold powerPolicy
  dsimp only
  rw [hbad]
  refine checked_of_pass s ?_ _
  simp [Nat.ne_of_gt hpla, Nat.ne_of_gt hgainLo, hplb0, hpla1100, hplb, hle, hgainHi, hopmax]

theorem phaseSet_eq {c : Cmd} {s : State} {q : Tenant} (hphase : c.fld 0 1 ≤ 3) (hq : Tab.find s.tenants c.fn = some q) :
    phaseSet c s = (s.setTenant c.fn { q with phase := c.fld 0 1 }, {}) := by
  unfold phaseSet
  rw [checked_of_pass s (by simp [hphase]), State.onTenant_of_find hq]

/-- PFAIL_NOTICE sets the command's level of the notice, and waits for the flushes that a notice starts. -/
theorem pfailNotice_eq {c : Cmd} (s : State) (h : c.fld 0 1 ≤ 1) :
    pfailNotice c s = (s.notices s.pwr.pfailPin (c.fld 0 1 == 1), { wait := if c.fld 0 1 = 1 then .gpf else .none }) := by
  unfold pfailNotice
  rw [checked_of_pass s (by simp [h])]
  split
  next hone => rw [hone]; rfl
  next hone => rw [beq_false_of_ne hone]

/-! ### ERR_ACK and ERR_INJECT (R480, R499) -/

theorem errAck_eq {c : Cmd} (s : State) (h : c.fld 0 1 ≤ 5) : errAck c s = (s.ackRecords (c.fld 0 1) (c.fld 8 8), {}) :=
  checked_of_pass s (by simp [h]) _

theorem errInject_eq {c : Cmd} {s : State} {x : Cause} (hfind : injectable.find? (fun x => x.code == c.fld 2 2) = some x)
    (hdomain : c.fld 2 2 / 256 = c.fld 0 1) (hdebug : s.debug = true) :
    errInject c s = ((s.occur { cause := x, injected := true }).1, { payload := leBytes 8 (s.occur { cause := x, injected := true }).2 }) := by
  unfold errInject
  dsimp only
  rw [hfind]
  exact checked_of_pass s (by simp [hdomain, hdebug]) _

/-! ### UPD_STAGE and UPD_ACTIVATE (R481, R570, R571) -/

theorem updStage_eq {c : Cmd} {s : State} (hreads : c.Reads s) (hpldm : s.sosin.pldm = none) (hhead : 4096 ≤ (slice c.data 0 c.len).length)
    (hsize : fwSize (slice c.data 0 c.len) ≤ (slice c.data 0 c.len).length) (hcheck : s.headerCheck (slice c.data 0 c.len) = none)
    (hsect : badSections (slice c.data 0 c.len) 0 = []) :
    ∃ rest, rest.length = 15 ∧ updStage c s = ((s.translate c.fn c.addr).staged s.inactiveSlot (slice c.data 0 c.len) 0,
      { payload := leBytes 1 s.inactiveSlot ++ rest }) := by
  have hframe := HostFrame.translate s c.fn c.addr
  have hcheck' : (s.translate c.fn c.addr).headerCheck (slice c.data 0 c.len) = none := by
    rw [hframe]
    exact hcheck
  have hslot : (s.translate c.fn c.addr).inactiveSlot = s.inactiveSlot := by
    rw [hframe]
    rfl
  have hwhole : ¬ ((slice c.data 0 c.len).length < 4096 ∨ (slice c.data 0 c.len).length < fwSize (slice c.data 0 c.len)) := by omega
  refine ⟨leBytes 7 0 ++ leBytes 8 (fwVersion (slice c.data 0 c.len)), rfl, ?_⟩
  unfold updStage
  rw [checked_of_pass s (by simp [hpldm]), Cmd.readBuf_eq hreads, State.stageImage_good hcheck' hsect, hslot]
  simp [hwhole]

/-- A slot's number, answered in the first byte of whole words. -/
theorem field_repliedSlot (s : State) (m k : Nat) {n : Nat} {rest : List Byte} (hn : n ≤ 1) (hrest : rest.length = 15) :
    field ((s.replied m k { payload := leBytes 1 n ++ rest }).slotAt m k).payload 0 1 = n := by
  rw [State.payload_replied_words _ _ _ _ (by simp [hrest])]
  exact (field_leBytes 1 n rest).trans (Nat.mod_eq_of_lt (Nat.lt_of_le_of_lt hn (by decide)))

theorem updActivate_eq {c : Cmd} {s : State} (hslot : c.fld 0 1 ≤ 1) (hreset : c.fld 1 1 ≤ 1) (hpldm : s.sosin.pldm = none)
    (hvalid : s.slotValid (c.fld 0 1) = true) :
    updActivate c s = (s.activate (c.fld 0 1), { wait := if c.fld 1 1 = 1 then .reset trigUpdate else .none }) := by
  unfold updActivate
  dsimp only
  rw [checked_of_pass s (by simp [hslot, hreset, hpldm, hvalid])]
  split <;> rfl

/-! ### DBG_ENTER and DBG_EXIT (R231, R482) -/

theorem dbgEnter_eq {c : Cmd} {s : State} (hnone : s.tenants = []) (hfuse : s.fld Reg.MGT_FUSE (6, 6) ≠ 1) :
    dbgEnter c s = (({ s with debug := true } : State).zeroCore, {}) :=
  checked_of_pass s (by simp [hnone, hfuse]) _

theorem dbgExit_eq (c : Cmd) (s : State) : dbgExit c s = (({ s with debug := false } : State).zeroCore, {}) := rfl

/-- A change of mode leaves registers and memory, and empties the core: sequences, accumulator registers and perches. -/
theorem State.zeroCore_replied (s : State) (on : Bool) (m k : Nat) :
    let t := (({ s with debug := on } : State).zeroCore).replied m k {}
    (t.answered m k sOK = true ∧ SameRegs s t [] ∧ SameMemory s t) ∧ t.debug = on ∧ t.seqs = [] ∧ t.accs = [] ∧
      ∀ x ∈ t.images, x.2.resident = false := by
  refine ⟨State.replied_still (fun _ => rfl) (fun _ => rfl) m k {}, rfl, rfl, rfl, fun x hx => ?_⟩
  obtain ⟨y, -, rfl⟩ := List.mem_map.mp hx
  rfl

end Sys2Proof.Machine
end

section
/-! The commands on memory, power, error records, updates and debug mode at their turn (R442, R448). -/

namespace Sys2Proof.Machine

/-- UPD_STAGE is not aborted where it stands at its turn. -/
theorem exec_updStage {s : State} {m : Mbx} {k : MSlot} {data : List Byte} (hadm : s.admits m k 0x0C01 = true) :
    exec (.updStage m k data) s = .next (s.runCmd m k 0x0C01 data updStage) := by
  have hkept : (s.turnOf m k 0x0C01 && (s.slotAt m k).abort) = false := by
    simp only [State.admits, Bool.and_eq_true, Bool.not_eq_true'] at hadm
    obtain ⟨⟨-, habort⟩, -⟩ := hadm
    rw [habort, Bool.and_false]
  change execUpdStage m k data s = _
  unfold execUpdStage
  rw [hkept]
  rfl

/-- Settles O53, command by command: each takes its effect from its equation, and its answer leaves that effect as it is. -/
theorem memoryPowerAndDebugCommands : Obligations.MemoryPowerAndDebugCommands := by
  intro s m k data c ok still said
  refine ⟨fun hadm hend halign hrepl hnew hroom => ?_, fun hadm hend halign hin => ⟨fun hop howned => ?_, fun hop howned => ?_⟩,
    fun hadm hpla hle hplb hgainLo hgainHi hopmax hphases => ?_, fun q hadm hphase hq => ?_, fun hadm hlevel => ?_,
    fun hadm hdom => ?_, fun x hadm hfind hdomain hdebug => ?_, fun hadm hpldm hbme hdma hhead hsize hcheck hsect => ?_,
    fun hadm hslot hreset hpldm hvalid => ?_, fun hadm hnone hfuse => ?_, fun hadm => ?_⟩
  · have hrun := State.runCmd_eq_replied hadm (pageRetire_eq (c := s.cmdAt m k []) rfl hend halign hrepl hnew hroom)
    have hpch : pchOf (c.fld 0 8) < 2 ^ 16 := Nat.lt_trans (Nat.mod_lt _ (by decide)) (by decide : 256 < 2 ^ 16)
    have hleft : 255 - (s.pchAt (pchOf (c.fld 0 8))).retired.length < 2 ^ 16 := by omega
    obtain ⟨hfst, hsnd⟩ := fields_repliedPair (s.withRetired (c.fld 0 8)) m k hpch hleft (.page (pchOf (c.fld 0 8)) (c.fld 0 8 / 4096))
    refine ⟨_, congrArg Host.Outcome.next hrun, State.replied_still (fun _ => rfl) (fun _ => rfl) _ _ _, State.wait_replied _ _ _ _,
      hfst, hsnd, ?_, fun j hj => State.pchAt_setPch_other s _ _ j hj⟩
    exact congrArg PchState.retired (s.pchAt_setPch _ _)
  · have hfree : ∀ g ∈ (s.cmdAt m k []).granules, s.owner g = .free := List.forall_mem_map.mpr fun j hj => howned j (List.mem_range.mp hj)
    have heq := granuleTest_eq ⟨hend, halign, hin, Nat.le_of_eq hop, fun g hg => (hfree g hg).trans (if_pos hop).symm⟩
    have hrun := State.runCmd_eq_replied hadm (heq.trans (if_pos hop))
    exact ⟨_, congrArg Host.Outcome.next hrun, (OwnersGiven.setOwner s _ .test).replied (fun g hg => by rw [hfree g hg]; rfl) m k⟩
  · have htest : ∀ g ∈ (s.cmdAt m k []).granules, s.owner g = .test ∧ g / 256 < 736 :=
      List.forall_mem_map.mpr fun j hj => howned j (List.mem_range.mp hj)
    have hne : (s.cmdAt m k []).fld 12 1 ≠ 1 := fun hone => absurd (hop.symm.trans hone) (by decide)
    have heq := granuleTest_eq ⟨hend, halign, hin, Nat.le_trans (Nat.le_of_eq hop) (Nat.zero_le 1),
      fun g hg => (htest g hg).1.trans (if_neg hne).symm⟩
    have hrun := State.runCmd_eq_replied hadm (heq.trans (if_neg hne))
    exact ⟨_, congrArg Host.Outcome.next hrun, (OwnersGiven.freeGranules s fun g hg => (htest g hg).2).replied
      (fun g hg => by rw [(htest g hg).1]; rfl) m k⟩
  · have hrun := State.runCmd_eq_replied hadm (powerPolicy_eq (c := s.cmdAt m k []) s hpla hle hplb hgainLo hgainHi hopmax hphases)
    exact ⟨_, congrArg Host.Outcome.next hrun, State.replied_still (fun _ => rfl) (fun _ => rfl) _ _ _, rfl⟩
  · have hrun := State.runCmd_eq_replied hadm (phaseSet_eq (c := s.cmdAt m k []) hphase hq)
    exact ⟨_, congrArg Host.Outcome.next hrun, State.replied_still (fun _ => rfl) (fun _ => rfl) _ _ _, State.find_setTenant _ _ _⟩
  · have hrun := State.runCmd_eq_replied hadm (pfailNotice_eq (c := s.cmdAt m k []) s hlevel)
    have hpwr := s.pwr_notices s.pwr.pfailPin (c.fld 0 1 == 1)
    have hcmd : (s.notices s.pwr.pfailPin (c.fld 0 1 == 1)).pwr.pfailCmd = (c.fld 0 1 == 1) := by rw [hpwr]
    have hpin : (s.notices s.pwr.pfailPin (c.fld 0 1 == 1)).pwr.pfailPin = s.pwr.pfailPin := by rw [hpwr]
    refine ⟨_, congrArg Host.Outcome.next hrun, State.answered_replied _ _ _ _, hcmd, hpin, fun hone => ?_⟩
    exact (State.wait_replied _ _ _ _).trans (if_pos hone)
  · have hrun := State.runCmd_eq_replied hadm (errAck_eq (c := s.cmdAt m k []) s hdom)
    exact ⟨_, congrArg Host.Outcome.next hrun, State.replied_still (fun _ => rfl) (fun _ => rfl) _ _ _,
      congrArg ErrQueue.recs (s.errQueue_setErrQueue _ _), fun d hd => State.errQueue_setErrQueue_other s _ _ d hd⟩
  · have hrun := State.runCmd_eq_replied hadm (errInject_eq (c := s.cmdAt m k []) hfind hdomain hdebug)
    obtain ⟨hframe, hregs, htells⟩ := s.occur_reported { cause := x, injected := true }
    exact ⟨_, congrArg Host.Outcome.next hrun, State.answered_replied _ _ _ _, hframe.sameMemory, hregs, htells⟩
  · obtain ⟨rest, hrest, heq⟩ := updStage_eq (c := c) ⟨rfl, hbme, hdma⟩ hpldm hhead hsize hcheck hsect
    have hrun := State.runCmd_eq_replied hadm heq
    have hframe := HostFrame.translate s c.fn c.addr
    have hfree : (s.translate c.fn c.addr).free = s.free := by rw [hframe]
    have hslots : ∀ j, (s.translate c.fn c.addr).fwSlot j = s.fwSlot j := fun j => by rw [hframe]; rfl
    obtain ⟨hmem, hfilled, hothers, htells⟩ := (s.translate c.fn c.addr).staged_spec s.inactiveSlot (slice c.data 0 c.len) 0
    refine ⟨_, (exec_updStage hadm).trans (congrArg Host.Outcome.next hrun), State.answered_replied _ _ _ _,
      hframe.sameMemory.trans hfree hmem, field_repliedSlot _ m k s.inactiveSlot_le hrest, ?_⟩
    rw [State.fwSlot_replied, State.fwSlot_replied, State.tells_replied]
    exact ⟨hfilled, (hothers _ s.otherSlot_ne).trans (hslots _), htells⟩
  · have hrun := State.runCmd_eq_replied hadm (updActivate_eq (c := s.cmdAt m k []) hslot hreset hpldm hvalid)
    obtain ⟨hmem, hregs⟩ := s.activate_frame (c.fld 0 1)
    refine ⟨_, congrArg Host.Outcome.next hrun, State.answered_replied _ _ _ _, hmem.replied _ _ _, fun a ha => ?_, fun hne => ?_, fun hone => ?_⟩
    · rw [State.reg_replied]
      exact hregs a ha
    · rw [State.bootCtl_replied]
      exact State.bootCtl_activate (Nat.lt_of_le_of_lt hslot (by decide)) hne
    · exact (State.wait_replied _ _ _ _).trans (if_pos hone)
  · have hrun := State.runCmd_eq_replied hadm (dbgEnter_eq (c := s.cmdAt m k []) hnone hfuse)
    exact ⟨_, congrArg Host.Outcome.next hrun, s.zeroCore_replied true m k⟩
  · have hrun := State.runCmd_eq_replied hadm (dbgExit_eq (s.cmdAt m k []) s)
    exact ⟨_, congrArg Host.Outcome.next hrun, s.zeroCore_replied false m k⟩

end Sys2Proof.Machine
end

section
/-! What the engines, the pseudo-channels and the counters of stacked memory change of the device (R238 to R302): registers, records,
symbol errors and marks, sequences, queues and tokens, and never what a byte of memory reads as. -/

namespace Sys2Proof.Machine

/-! ### Work that leaves memory -/

/-- `t` differs from `s` in no cell, key, owner or entry of the write-combining buffer: what reads, their counts and their returns
may change. -/
def ReadFrame (s t : State) : Prop :=
  t = { s with regs := t.regs, upsets := t.upsets, poison := t.poison, errq := t.errq, raised := t.raised, fatalPend := t.fatalPend,
               fatalLater := t.fatalLater, seqs := t.seqs, pch := t.pch, tokens := t.tokens, tokenDue := t.tokenDue, meter := t.meter,
               mc := t.mc, hardList := t.hardList, decayDue := t.decayDue }

namespace ReadFrame

theorem refl (s : State) : ReadFrame s s := rfl

theorem trans {s t u : State} (hst : ReadFrame s t) (htu : ReadFrame t u) : ReadFrame s u := by
  unfold ReadFrame at *
  rw [htu, hst]

theorem sameMemory {s t : State} (h : ReadFrame s t) : SameMemory s t := by
  rw [h]
  exact fun _ => rfl

theorem byte {s t : State} (h : ReadFrame s t) (a : Nat) : t.byte a = s.byte a := by
  rw [h]
  rfl

theorem ofReport {s t : State} (h : ReportFrame s t) : ReadFrame s t := by
  rw [h]
  rfl

theorem forAll {α : Type} {l : List α} {f : α → State → State} (hf : ∀ x s, ReadFrame s (f x s)) (s : State) :
    ReadFrame s (forAll l f s) :=
  forAll_keeps (P := ReadFrame s) (fun x _ t ht => ht.trans (hf x t)) (.refl s)

theorem setReg (s : State) (a v : Nat) : ReadFrame s (s.setReg a v) := rfl
theorem count (s : State) (a n : Nat) : ReadFrame s (s.count a n) := rfl
theorem count64 (s : State) (a n : Nat) : ReadFrame s (s.count64 a n) := rfl
theorem setPch (s : State) (p : Nat) (c : PchState) : ReadFrame s (s.setPch p c) := rfl
theorem setSeq (s : State) (e : Nat) (q : Sequence) : ReadFrame s (s.setSeq e q) := rfl
theorem config (s : State) (area kind : Nat) (l : List Byte) : ReadFrame s (s.config area kind l) := rfl
theorem occur (s : State) (o : Occ) : ReadFrame s (s.occur o).1 := .ofReport (s.occur_reported o).frame
theorem record (s : State) (o : Occ) : ReadFrame s (s.record o) := occur s o

theorem onSeq (s : State) (e : Nat) (f : Sequence → Sequence) : ReadFrame s (s.onSeq e f) := by
  unfold State.onSeq
  split
  · exact .setSeq _ _ _
  · exact .refl s

theorem act (s : State) (c owner n : Nat) : ReadFrame s (s.act c owner n) := by
  unfold State.act State.addModel
  split
  · exact .refl s
  · dsimp only
    split
    · rfl
    · exact .refl s

theorem voidSeq (s : State) (e reason : Nat) : ReadFrame s (s.voidSeq e reason) := by
  unfold State.voidSeq
  split
  · split
    · rfl
    · exact .refl s
  · exact .refl s

end ReadFrame

/-! ### Decoded words (R277, R290, R291) -/

/-- Counting errors leaves a pseudo-channel's queues, service and copies: it moves the tracker and the remap queue. -/
def PchState.SameWork (c d : PchState) : Prop := d = { c with tracker := d.tracker, remapQ := d.remapQ, starving := d.starving }

theorem PchState.SameWork.trans {c d e : PchState} (hcd : c.SameWork d) (hde : d.SameWork e) : c.SameWork e := by
  unfold PchState.SameWork at *
  rw [hde, hcd]

theorem State.sameWork_setPch (s : State) {p : Nat} {c : PchState} (h : (s.pchAt p).SameWork c) (k : Nat) :
    (s.pchAt k).SameWork ((s.setPch p c).pchAt k) := by
  by_cases hk : k = p
  · subst hk
    rw [State.pchAt_setPch]
    exact h.trans rfl
  · rw [State.pchAt_setPch_other _ _ _ _ hk]
    rfl

/-- What decoding and counting words changes: registers, records, errors and marks, and what pseudo-channels know of their rows. -/
structure CountFrame (s t : State) : Prop where
  frame : t = { s with regs := t.regs, upsets := t.upsets, poison := t.poison, errq := t.errq, raised := t.raised,
                       fatalPend := t.fatalPend, fatalLater := t.fatalLater, pch := t.pch }
  pchs : ∀ k, (s.pchAt k).SameWork (t.pchAt k)

namespace CountFrame

theorem refl (s : State) : CountFrame s s := ⟨rfl, fun _ => rfl⟩

theorem trans {s t u : State} (hst : CountFrame s t) (htu : CountFrame t u) : CountFrame s u :=
  ⟨by rw [htu.frame, hst.frame], fun k => (hst.pchs k).trans (htu.pchs k)⟩

theorem forAll {α : Type} {l : List α} {f : α → State → State} (hf : ∀ x s, CountFrame s (f x s)) (s : State) :
    CountFrame s (forAll l f s) :=
  forAll_keeps (P := CountFrame s) (fun x _ t ht => ht.trans (hf x t)) (.refl s)

theorem reads {s t : State} (h : CountFrame s t) : ReadFrame s t := by
  rw [h.frame]
  rfl

theorem seqs {s t : State} (h : CountFrame s t) : t.seqs = s.seqs := by rw [h.frame]
theorem service {s t : State} (h : CountFrame s t) (k : Nat) : (t.pchAt k).service = (s.pchAt k).service := by rw [h.pchs k]
theorem copy {s t : State} (h : CountFrame s t) (k : Nat) : (t.pchAt k).copy = (s.pchAt k).copy := by rw [h.pchs k]

theorem ofReport {s t : State} (h : ReportFrame s t) : CountFrame s t := by
  rw [h]
  exact ⟨rfl, fun _ => rfl⟩

theorem setPch (s : State) {p : Nat} {c : PchState} (h : (s.pchAt p).SameWork c) : CountFrame s (s.setPch p c) :=
  ⟨rfl, s.sameWork_setPch h⟩

theorem setReg (s : State) (a v : Nat) : CountFrame s (s.setReg a v) := ⟨rfl, fun _ => rfl⟩
theorem count (s : State) (a n : Nat) : CountFrame s (s.count a n) := .setReg _ _ _
theorem record (s : State) (o : Occ) : CountFrame s (s.record o) := .ofReport (s.occur_reported o).frame

theorem requestRemap (s : State) (p row : Nat) : CountFrame s (s.requestRemap p row) := by
  unfold State.requestRemap
  extract_lets c
  split_ifs
  · exact .refl s
  · exact .record s _
  · exact .setPch s rfl

theorem trackCe (s : State) (p row : Nat) : CountFrame s (s.trackCe p row) := by
  unfold State.trackCe
  extract_lets c n rest known
  split_ifs
  · have hfreed : CountFrame s (s.setPch p { c with tracker := rest }) := .setPch s rfl
    exact hfreed.trans (.requestRemap _ _ _)
  · exact .setPch s rfl
  · exact .setPch s rfl
  · split
    · exact .setPch s rfl
    · exact .refl s

theorem countWord (s : State) (track : Bool) (w : Nat) : CountFrame s (s.countWord track w) := by
  unfold State.countWord
  extract_lets p row fn ce ue
  have hce : CountFrame s (ce s) := by
    dsimp only [ce]
    have hcounted := (CountFrame.count s (Reg.HMC_CECNT p) 1).trans (.record _ (wordOcc Cause.eccCe w fn))
    split
    · exact hcounted.trans (.trackCe _ _ _)
    · exact hcounted
  have hue : CountFrame s ue := (CountFrame.count s (Reg.HMC_UECNT p) 1).trans (.record _ _)
  split
  · exact .refl s
  · exact hce
  · split
    · exact hce
    · exact .refl s
  · split
    · exact hue.trans (.requestRemap _ _ _)
    · exact hue

theorem countWords (s : State) (ws : List Nat) : CountFrame s (s.countWords ws) := .forAll (fun w t => .countWord t true w) s

theorem meetErrors (s : State) (errs : List WordErr) : CountFrame s (s.meetErrors errs) := by
  refine CountFrame.forAll (fun e t => ?_) s
  exact ⟨rfl, fun _ => rfl⟩

theorem makePoison (s : State) (c : Cause) (w : Nat) : CountFrame s (s.makePoison c w) := by
  unfold State.makePoison
  extract_lets marked
  have hmarked : CountFrame s marked := ⟨rfl, fun _ => rfl⟩
  exact (hmarked.trans (.count _ _ _)).trans (.record _ _)

theorem settlePool (s : State) (w : Nat) : CountFrame s (s.settlePool w) := by
  unfold State.settlePool
  split
  · exact ⟨rfl, fun _ => rfl⟩
  · exact .refl s

end CountFrame

end Sys2Proof.Machine
end

section
/-! Patrol scrub, decay of the CE counts, and half-frame copies of a pseudo-channel (R290, R293, R302). -/

namespace Sys2Proof.Machine

variable {s : State} {p : Pch}

/-! ### Occupancy (R238) -/

theorem ReadFrame.occupy (s : State) (p st dur : Nat) (k : Service) : ReadFrame s (s.occupy p st dur k) := rfl

/-- A pseudo-channel that is occupied shows the service and its end. -/
theorem State.pchAt_occupy (s : State) (p st dur : Nat) (k : Service) : (s.occupy p st dur k).pchAt p =
    { s.pchAt p with service := some k, serviceEnd := st + dur, starving := (s.pchAt p).starving && !(s.pchAt p).lcr.isEmpty } :=
  s.pchAt_setPch p _

/-! ### Scrub (R302) -/

theorem State.scrubDone_spec (s : State) (p n : Nat) : ReadFrame s (s.scrubDone p n) ∧
    ((s.scrubDone p n).pchAt p).scrubPos = if 786432 ≤ n + 1 then 0 else n + 1 := by
  unfold State.scrubDone
  extract_lets counted c last
  have hcounted : ReadFrame s counted := by
    dsimp only [counted]
    split
    · exact (CountFrame.countWords s _).reads
    · exact .refl s
  refine ⟨hcounted.trans (.setPch _ _ _), ?_⟩
  rw [State.pchAt_setPch]
  simp [last]

theorem exec_scrubRead (h : s.scrubMay p = true) (errs : List WordErr) : exec (.scrubRead p errs) s = .next
    (if s.scrubbed p (s.pchAt p).scrubPos then
      ((s.meetErrors errs).scrubDone p (s.pchAt p).scrubPos).occupy p (s.freeFrom (s.pchAt p)) (nsec 41)
        (.burst { client := .scrub, addr := frameAddr p (s.pchAt p).scrubPos, words := 32, level := 4, place := [s.tick],
                  arrived := s.freeFrom (s.pchAt p) } [] [])
    else s.scrubDone p (s.pchAt p).scrubPos) := by
  change execScrubRead p errs s = _
  unfold execScrubRead
  rw [h, if_neg (by decide)]
  dsimp only
  split <;> rfl

theorem exec_scrubLate (hperiod : s.fld Reg.HMC_SCRUB (7, 0) ≠ 0) (htrained : (s.pchAt p).trained = true)
    (hlate : (s.pchAt p).scrubLate = false) (hdue : (s.pchAt p).scrubStart + s.fld Reg.HMC_SCRUB (7, 0) * msec 3600000 ≤ s.now) :
    exec (.scrubLate p) s =
      .next ((s.setPch p { s.pchAt p with scrubLate := true }).record { cause := Cause.scrubLate, subject := p.val }) := by
  change execScrubLate p s = _
  exact if_pos (by simp [hperiod, htrained, hlate, hdue])

/-! ### Decay of the CE counts (R290) -/

/-- The tracker after a decay: every count drops by one, and rows at zero leave it. -/
def PchState.decayed (c : PchState) : PchState :=
  { c with tracker := (c.tracker.map (fun x => { x with count := x.count - 1 })).filter (fun x => x.count != 0) }

/-- What a change of each pseudo-channel of a list leaves of one of them. -/
theorem State.pchAt_forAll_setPch {f : PchState → PchState} {g : PchState → List Tracked} {k : Nat}
    (hkeep : ∀ c b, g { c with starving := b } = g c) : ∀ (l : List Nat), l.Nodup → ∀ s : State,
    g ((forAll l (fun p s => s.setPch p (f (s.pchAt p))) s).pchAt k) = if k ∈ l then g (f (s.pchAt k)) else g (s.pchAt k)
  | [], _, _ => by simp [forAll]
  | j :: l, hl, s => by
    obtain ⟨hj, hl⟩ := List.nodup_cons.mp hl
    refine (State.pchAt_forAll_setPch hkeep l hl (s.setPch j (f (s.pchAt j)))).trans ?_
    by_cases hk : k = j
    · subst hk
      rw [if_neg hj, if_pos List.mem_cons_self, State.pchAt_setPch, hkeep]
    · rw [State.pchAt_setPch_other _ _ _ _ hk]
      simp [hk]

/-- The state after a decay of the pseudo-channels of a list, with the time of the next one. -/
def State.decayed (s : State) (due : Nat) (ps : List Nat) : State :=
  forAll ps (fun p s => s.setPch p (s.pchAt p).decayed) { s with decayDue := due }

theorem State.decayed_spec (s : State) (due : Nat) {ps : List Nat} (hps : ps.Nodup) : SameMemory s (s.decayed due ps) ∧
    SameRegs s (s.decayed due ps) [] ∧ (s.decayed due ps).decayDue = due ∧
    ∀ k ∈ ps, ((s.decayed due ps).pchAt k).tracker = (s.pchAt k).decayed.tracker := by
  have hdue : ReadFrame s { s with decayDue := due } := rfl
  have hstep : ∀ p (t : State), ReadFrame t (t.setPch p (t.pchAt p).decayed) ∧ (t.setPch p (t.pchAt p).decayed).regs = t.regs ∧
      (t.setPch p (t.pchAt p).decayed).decayDue = t.decayDue := fun _ _ => ⟨rfl, rfl, rfl⟩
  have hregs : (s.decayed due ps).regs = s.regs := forAll_frame (g := State.regs) (fun p t => (hstep p t).2.1) _
  refine ⟨(hdue.trans (.forAll (fun p t => (hstep p t).1) _)).sameMemory, fun a _ => ?_,
    forAll_frame (g := State.decayDue) (fun p t => (hstep p t).2.2) _, fun k hk => ?_⟩
  · rw [State.reg, hregs, State.reg]
  · refine (State.pchAt_forAll_setPch (f := PchState.decayed) (g := PchState.tracker) (fun _ _ => rfl) ps hps _).trans ?_
    rw [if_pos hk]
    rfl

theorem exec_ceDecay (hdue : s.decayDue ≤ s.now) :
    exec .ceDecay s = .next (s.decayed (s.now + s.fld Reg.HMC_CETHRESH (23, 16) * msec 60000) (List.range 256)) := by
  change execCeDecay s = _
  unfold execCeDecay
  rw [if_pos hdue]
  rfl

/-! ### Copies (R293) -/

theorem exec_copyRead {k : Copy} (hmay : s.copyMay p = true) (hcopy : (s.pchAt p).copy = none)
    (hnext : (s.pchAt p).nextCopy = some k) (hroom : k.retire = true ∨ (s.pchAt p).spares < 64) (errs : List WordErr) :
    ∃ u held, CountFrame s u ∧ exec (.copyRead p errs) s = .next
      ((u.setPch p { u.pchAt p with copy := some { k with held := some held } }).occupy p (s.freeFrom (s.pchAt p)) (nsec 23) .copyRead) := by
  have hspare : (!k.retire && decide (64 ≤ (s.pchAt p).spares)) = false := by
    rcases hroom with h | h
    · simp [h]
    · simp [h]
  have hexec : exec (.copyRead p errs) s = execCopyRead p errs s := rfl
  simp only [execCopyRead, hmay, hcopy, hnext, hspare, Bool.not_true, Bool.false_eq_true, if_false] at hexec
  exact ⟨_, _, (CountFrame.meetErrors s errs).trans (.forAll (fun w t => .countWord t false w) _), hexec⟩

theorem exec_copyWrite {k : Copy} (hcopy : (s.pchAt p).copy = some k) (hheld : k.held.isSome = true) (hmay : s.copyMay p = true) :
    exec (.copyWrite p) s = .next (s.occupy p (s.freeFrom (s.pchAt p)) (nsec 27) .copyWrite) := by
  change execCopyWrite p s = _
  simp [execCopyWrite, hcopy, hheld, hmay]

/-- Memory reads as before, and a pseudo-channel has nothing in service and no copy under way. -/
structure ComesToRest (s t : State) (p : Nat) : Prop where
  reads : ReadFrame s t
  service : (t.pchAt p).service = none
  copy : (t.pchAt p).copy = none

theorem ComesToRest.setPch {s t : State} {p : Nat} {c : PchState} (h : ReadFrame s t) (hservice : c.service = none) (rs : List Retired)
    (rows : List Nat) (n : Nat) (remaps : Tab Nat) :
    ComesToRest s (t.setPch p { c with copy := none, retired := rs, remapQ := rows, spares := n, remaps := remaps }) p := by
  refine ⟨h.trans (.setPch _ _ _), ?_, ?_⟩ <;> rw [State.pchAt_setPch]
  exact hservice

theorem ComesToRest.count {s t u : State} {p : Nat} (h : ComesToRest s t p) (htu : CountFrame t u) : ComesToRest s u p :=
  ⟨h.reads.trans htu.reads, (htu.service p).trans h.service, (htu.copy p).trans h.copy⟩

theorem ComesToRest.listRepair {s t : State} {p : Nat} (h : ComesToRest s t p) (j row spare : Nat) :
    ComesToRest s (t.listRepair j row spare) p := by
  unfold State.listRepair
  split
  · exact h
  · exact ⟨h.reads.trans rfl, h.service, h.copy⟩

theorem ComesToRest.retireRecord {s t : State} {p : Nat} (h : ComesToRest s t p) (j row : Nat) (rs : List Retired) :
    ComesToRest s (t.retireRecord j row rs) p := by
  unfold State.retireRecord
  split
  · exact ⟨h.reads.trans rfl, h.service, h.copy⟩
  · exact h

theorem forAll_nil {α : Type} (f : α → State → State) (s : State) : forAll [] f s = s := by
  rw [forAll, List.foldl_nil]

/-- A copy that no write burst has joined is over: its row has moved, and the pseudo-channel is at rest. -/
theorem ComesToRest.copyDone (s : State) (p : Nat) {k : Copy} (hmerged : k.merged = []) (hservice : (s.pchAt p).service = none) :
    ComesToRest s (s.copyDone p k) p := by
  simp only [State.copyDone, hmerged, forAll_nil]
  generalize hwords : forAll (rowWords p k.row) _ s = u
  have hcount : CountFrame s u := by
    rw [← hwords]
    refine .forAll (fun w t => ?_) s
    split
    · exact .makePoison _ _ _
    · exact ⟨rfl, fun _ => rfl⟩
  have hidle : (u.pchAt p).service = none := (hcount.service p).trans hservice
  have hmoved (rs rows n remaps) : ComesToRest s (u.setPch p { u.pchAt p with
      copy := none, retired := rs, remapQ := rows, spares := n, remaps := remaps }) p := .setPch hcount.reads hidle rs rows n remaps
  split_ifs
  · exact ((hmoved _ _ _ _).count (.setReg _ _ _)).retireRecord _ _ _
  · exact hmoved _ _ _ _
  · exact (((hmoved _ _ _ _).count (.record _ _)).listRepair _ _ _).count (.record _ _)
  · exact ((hmoved _ _ _ _).count (.record _ _)).listRepair _ _ _

theorem exec_burstComplete_copyWrite {k : Copy} (hservice : (s.pchAt p).service = some .copyWrite) (hcopy : (s.pchAt p).copy = some k)
    (hend : (s.pchAt p).serviceEnd ≤ s.tickEnd) (errs : List WordErr) :
    exec (.burstComplete p errs) s = .next ((s.setPch p { s.pchAt p with service := none }).copyDone p k) := by
  change Host.Outcome.next (s.serviceEnds p errs) = _
  simp [State.serviceEnds, hservice, hcopy, Nat.not_lt.mpr hend]

/-- Settles O23, row by row. -/
theorem scrubDecayAndCopies : Obligations.ScrubDecayAndCopies := by
  refine ⟨fun s p errs hmay => ?_, fun s p hperiod htrained hlate hdue => ?_, fun s hdue => ?_, fun s p errs k hmay hcopy hnext hroom => ?_,
    fun s p k hcopy hheld hmay => ?_, fun s p errs k hservice hcopy hmerged hend => ?_⟩
  · rw [exec_scrubRead hmay]
    split
    next hscrub =>
      obtain ⟨hframe, hpos⟩ := (s.meetErrors errs).scrubDone_spec p (s.pchAt p).scrubPos
      refine ⟨_, rfl, (((CountFrame.meetErrors s errs).reads.trans hframe).trans (.occupy _ _ _ _ _)).sameMemory, ?_, fun _ => ?_⟩
      · rw [State.pchAt_occupy]
        exact hpos
      · rw [State.pchAt_occupy]
        exact ⟨Option.some_ne_none _, rfl⟩
    next hskip =>
      obtain ⟨hframe, hpos⟩ := s.scrubDone_spec p (s.pchAt p).scrubPos
      exact ⟨_, rfl, hframe.sameMemory, hpos, fun h => absurd h hskip⟩
  · obtain ⟨hframe, hregs, htells⟩ := (s.setPch p { s.pchAt p with scrubLate := true }).occur_reported
      { cause := Cause.scrubLate, subject := p.val }
    have hpch := (CountFrame.record (s.setPch p { s.pchAt p with scrubLate := true }) { cause := Cause.scrubLate, subject := p.val }).pchs p
    refine ⟨_, exec_scrubLate hperiod htrained hlate hdue, hframe.sameMemory, ?_, htells, hregs⟩
    rw [hpch, State.pchAt_setPch]
  · obtain ⟨hmem, hregs, hnext, htracker⟩ := s.decayed_spec _ (ps := List.range 256) List.nodup_range
    exact ⟨_, exec_ceDecay hdue, hmem, hregs, hnext, fun k hk => htracker k (List.mem_range.mpr hk)⟩
  · obtain ⟨u, held, hcount, hexec⟩ := exec_copyRead hmay hcopy hnext hroom errs
    refine ⟨_, hexec, (hcount.reads.trans ((ReadFrame.setPch _ _ _).trans (.occupy _ _ _ _ _))).sameMemory, ?_⟩
    rw [State.pchAt_occupy, State.pchAt_setPch]
    exact ⟨rfl, rfl, rfl⟩
  · refine ⟨_, exec_copyWrite hcopy hheld hmay, (ReadFrame.occupy _ _ _ _ _).sameMemory, ?_⟩
    rw [State.pchAt_occupy]
    exact ⟨hcopy, rfl, rfl⟩
  · have hidle : ((s.setPch p { s.pchAt p with service := none }).pchAt p).service = none := by rw [State.pchAt_setPch]
    obtain ⟨hframe, hfree, hover⟩ := ComesToRest.copyDone _ p hmerged hidle
    exact ⟨_, exec_burstComplete_copyWrite hservice hcopy hend errs, ((ReadFrame.setPch _ _ _).trans hframe).sameMemory, hover, hfree⟩

end Sys2Proof.Machine
end

section
/-! Bursts of a pseudo-channel (R238, R242, R244, R247, R260, R287): what a start, an end, a refresh and a displacement leave of its
queues and its service, and that the write-combining buffer shows the same bytes. -/

namespace Sys2Proof.Machine

variable {s : State} {p : Pch}

/-! ### Entries of the write-combining buffer (R258, R260) -/

/-- What of an entry the overlay of a read shows. -/
def WcbEntry.shown (e : WcbEntry) : Nat × List Byte := (e.mask, e.data)

/-- A change of each entry of a table, key by key. -/
theorem Tab.find_mapVal {α : Type} (t : Tab α) (g : Nat → α → α) (k : Nat) :
    Tab.find (t.map (fun x => (x.1, g x.1 x.2))) k = (Tab.find t k).map (g k) := by
  induction t with
  | nil => rfl
  | cons x t ih =>
    obtain ⟨j, v⟩ := x
    by_cases hj : j = k
    · simp [Tab.find, hj]
    · simp only [List.map_cons, Tab.find, if_neg hj, ih]

/-- A byte reads the same over the same cells under an entry that shows the same. -/
theorem State.byte_congr {s t : State} {a : Nat} (hdram : t.dram a = s.dram a)
    (hshown : (Tab.find t.wcb (a / 64)).map WcbEntry.shown = (Tab.find s.wcb (a / 64)).map WcbEntry.shown) : t.byte a = s.byte a := by
  unfold State.byte
  rw [hdram]
  revert hshown
  cases Tab.find t.wcb (a / 64) with
  | none =>
    cases Tab.find s.wcb (a / 64) with
    | none => intro _; rfl
    | some e => intro hw; exact absurd hw (by simp)
  | some x =>
    cases Tab.find s.wcb (a / 64) with
    | none => intro hw; exact absurd hw (by simp)
    | some e =>
      intro hw
      simp only [Option.map_some, Option.some.injEq, WcbEntry.shown, Prod.mk.injEq] at hw
      simp only [WcbEntry.over, hw.1, hw.2]

/-- Memory reads the same under entries that show the same. -/
theorem State.byte_wcb {s : State} {b : Tab WcbEntry}
    (h : ∀ w, (Tab.find b w).map WcbEntry.shown = (Tab.find s.wcb w).map WcbEntry.shown) (a : Nat) : ({ s with wcb := b } : State).byte a = s.byte a :=
  State.byte_congr rfl (h (a / 64))

theorem ReadFrame.bytes {t : State} (h : ReadFrame s t) (a n : Nat) : t.bytes a n = s.bytes a n :=
  List.map_congr_left fun _ _ => h.byte _

/-- Reads and entries that show the same leave what memory reads as. -/
theorem ReadFrame.sameMemory_wcb {t : State} (h : ReadFrame s t) {b : Tab WcbEntry}
    (hb : ∀ w, (Tab.find b w).map WcbEntry.shown = (Tab.find s.wcb w).map WcbEntry.shown) : SameMemory s { t with wcb := b } := by
  intro a
  have hfree : t.free = s.free := by rw [h]
  have hwcb : t.wcb = s.wcb := by rw [h]
  have hsame : ({ ({ t with wcb := b } : State) with free := s.free } : State) = { t with wcb := b } := by rw [← hfree]
  rw [hsame, State.byte_wcb (by rw [hwcb]; exact hb), h.byte]

/-! ### Queues (R240, R241, R244) -/

/-- What arrives, waits or takes a slot moves between the queues of a pseudo-channel, and leaves the rest of it. -/
def PchState.SameBank (c d : PchState) : Prop :=
  d = { c with lcr := d.lcr, ber := d.ber, wr := d.wr, mnt := d.mnt, backlog := d.backlog, starving := d.starving }

theorem PchState.SameBank.trans {c d e : PchState} (hcd : c.SameBank d) (hde : d.SameBank e) : c.SameBank e := by
  unfold PchState.SameBank at *
  rw [hde, hcd]

theorem PchState.sameBank_enqueue (c : PchState) (r : Req) : c.SameBank (c.enqueue r) := by
  unfold PchState.enqueue
  split <;> rfl

theorem PchState.sameBank_promote (c : PchState) (n : Nat) : c.SameBank (c.promote n) := by
  induction n generalizing c with
  | zero => rfl
  | succ n ih =>
    unfold PchState.promote
    split
    next r _ =>
      have htaken : c.SameBank { c with backlog := c.backlog.erase r } := rfl
      exact (htaken.trans (PchState.sameBank_enqueue _ r)).trans (ih _)
    · rfl

theorem PchState.service_promote (c : PchState) (n : Nat) : (c.promote n).service = c.service := by rw [c.sameBank_promote n]

theorem PchState.sameBank_displace (c : PchState) (v r : Req) : c.SameBank (c.displace v r) := by
  unfold PchState.displace
  have hmoved : c.SameBank { c with ber := dropLast1 v c.ber, backlog := c.backlog.filter (·.lc) ++ v :: c.backlog.filter (fun x => !x.lc) } := rfl
  exact hmoved.trans (PchState.sameBank_enqueue _ r)

theorem State.sameBank_setPch (s : State) {p : Nat} {c d : PchState} (h : d.SameBank c) : d.SameBank ((s.setPch p c).pchAt p) := by
  rw [State.pchAt_setPch]
  exact h.trans rfl

theorem State.pchAt_voidSeq (s : State) (e reason k : Nat) : (s.voidSeq e reason).pchAt k = s.pchAt k := by
  unfold State.voidSeq
  split
  · split <;> rfl
  · rfl

theorem State.pchAt_onSeq (s : State) (e : Nat) (f : Sequence → Sequence) (k : Nat) : (s.onSeq e f).pchAt k = s.pchAt k := by
  unfold State.onSeq
  split <;> rfl

/-! ### A burst starts (R242, R245, R247, R260) -/

theorem State.refillTo_eq (s : State) (t : Nat) : ∃ tokens due, s.refillTo t = { s with tokens := tokens, tokenDue := due } := by
  unfold State.refillTo
  split
  · exact ⟨s.tokens, s.tokenDue, rfl⟩
  · exact ⟨_, _, rfl⟩

theorem ReadFrame.refillTo (s : State) (t : Nat) : ReadFrame s (s.refillTo t) := by
  obtain ⟨tokens, due, h⟩ := s.refillTo_eq t
  rw [h]
  rfl

theorem ReadFrame.debit (s : State) (p : Nat) (r : Req) : ReadFrame s (s.debit p r) := by
  unfold State.debit
  split
  · rfl
  · exact .refl s

/-- The reads that a start passes are counted and marked; nothing else of the pseudo-channel changes (R245). -/
theorem State.passes_spec (s : State) (p st : Nat) (r : Req) :
    ReadFrame s (s.passes_ p st r) ∧ (s.pchAt p).SameBank ((s.passes_ p st r).pchAt p) := by
  unfold State.passes_
  extract_lets c ahead bump over_ late mark marked counted
  have hcounted : ReadFrame s counted ∧ (s.pchAt p).SameBank (counted.pchAt p) := ⟨rfl, s.sameBank_setPch rfl⟩
  refine forAll_keeps (P := fun t => ReadFrame s t ∧ (s.pchAt p).SameBank (t.pchAt p)) (fun x _ t ht => ?_) hcounted
  split
  · rw [State.pchAt_voidSeq]
    exact ⟨ht.1.trans (.voidSeq _ _ _), ht.2⟩
  · exact ht

/-- A burst that starts holds its pseudo-channel for its occupancy, with what a read has of its words. -/
theorem State.serve_spec (s : State) (p st : Nat) (r : Req) : ReadFrame s (s.serve p st r) ∧
    (∃ whole, ((s.serve p st r).pchAt p).service = some (.burst r (s.readData r) whole)) ∧
    ((s.serve p st r).pchAt p).serviceEnd = st + r.time := by
  unfold State.serve
  extract_lets ws served covered counted
  have hcounted : ReadFrame s counted ∧ counted.pchAt p = served.pchAt p := by
    dsimp only [counted]
    split
    · exact ⟨rfl, rfl⟩
    · exact ⟨rfl, rfl⟩
  have hserved : (∃ whole, (served.pchAt p).service = some (.burst r (s.readData r) whole)) ∧ (served.pchAt p).serviceEnd = st + r.time := by
    rw [State.pchAt_occupy]
    exact ⟨⟨_, rfl⟩, rfl⟩
  rw [← hcounted.2] at hserved
  split
  · obtain ⟨hframe, hbank⟩ := counted.passes_spec p st r
    rw [hbank]
    exact ⟨hcounted.1.trans hframe, hserved⟩
  · exact ⟨hcounted.1, hserved⟩

/-- A free pseudo-channel, with no refresh and no copy owed, serves its candidate. -/
theorem exec_burstStart {r : Req} {c : PchState} {tok : Bool} {st : Nat} (hst : s.startAt (s.pchAt p) = st) (hfree : (s.pchAt p).service = none)
    (htrained : (s.pchAt p).trained = true) (htick : st < s.tickEnd) (hshut : s.stackShut (rowAddr p 0) = false)
    (hrefresh : s.refreshOwed p st = false) (hcopy : (s.pchAt p).copyOwed st = false)
    (hcand : (s.refillTo st).candidate p st (s.pchAt p) = some (r, c, tok)) (htgc : r.client ≠ .tgc) (howned : s.reqOwned r = true)
    (hjoin : r.write = false ∨ c.copy = none) :
    exec (.burstStart p) s = .next ((if tok then ((s.refillTo st).setPch p c).debit p r else (s.refillTo st).setPch p c).serve p st r) := by
  have howned' : ((s.refillTo st).setPch p c).reqOwned r = true := by
    obtain ⟨tokens, due, h⟩ := s.refillTo_eq st
    rw [h]
    exact howned
  have htgc' : (r.client == Client.tgc) = false := beq_eq_false_iff_ne.mpr htgc
  change execBurstStart p s = _
  subst hst
  simp only [execBurstStart, hfree, htrained, hshut, hrefresh, hcopy, hcand, htgc', howned', Option.isSome_none, Nat.not_le.mpr htick,
    decide_false, Bool.not_true, Bool.not_false, Bool.or_false, Bool.and_false, Bool.false_and, Bool.false_eq_true, if_false]
  split
  next k hk =>
    have hread : r.write = false := hjoin.resolve_right (by simp [hk])
    simp [hread]
  · rfl

theorem State.readData_of_read (s : State) {r : Req} (hwrite : r.write = false) (hmerge : r.client ≠ .merge) :
    s.readData r = s.bytes r.addr (64 * r.words) := by
  simp [State.readData, hwrite, hmerge]

/-! ### A burst ends (R238, R248, R263, R277) -/

theorem exec_burstComplete {r : Req} {data : List Byte} {whole : List Nat} (hservice : (s.pchAt p).service = some (.burst r data whole))
    (hend : (s.pchAt p).serviceEnd ≤ s.tickEnd) (errs : List WordErr) :
    exec (.burstComplete p errs) s = .next (s.burstDone p r (s.pchAt p).serviceEnd data whole errs) := by
  change Host.Outcome.next (s.serviceEnds p errs) = _
  simp [State.serviceEnds, hservice, Nat.not_lt.mpr hend]

/-- A read whose service has ended leaves its pseudo-channel free and waits, counted, for its sequence. -/
structure Freed (s t : State) (p : Nat) : Prop where
  reads : ReadFrame s t
  service : (t.pchAt p).service = none
  seqs : t.seqs = s.seqs

theorem Freed.setPch (s : State) {p : Nat} {c : PchState} (h : c.service = none) : Freed s (s.setPch p c) p :=
  ⟨rfl, by rw [State.pchAt_setPch]; exact h, rfl⟩

theorem Freed.count {s t u : State} {p : Nat} (h : Freed s t p) (htu : CountFrame t u) : Freed s u p :=
  ⟨h.reads.trans htu.reads, (htu.service p).trans h.service, htu.seqs.trans h.seqs⟩

theorem Freed.act {s t : State} {p : Nat} (h : Freed s t p) (c owner n : Nat) : Freed s (t.act c owner n) p := by
  have hact := SendFrame.act t c owner n
  refine ⟨h.reads.trans (.act _ _ _ _), ?_, hact.seqs.trans h.seqs⟩
  rw [hact]
  exact h.service

/-- A merge read that comes back gives its entry the old word, and no byte reads otherwise (R263). -/
theorem Freed.sameMemory_merged {t : State} {p : Nat} (h : Freed s t p) (a : Nat) (data : List Byte) :
    SameMemory s { t with wcb := t.wcb.map (fun (x : Nat × WcbEntry) => if 64 * x.1 = a && x.2.drain = 1 then
      (x.1, { x.2 with drain := 4, merged := data }) else x) } := by
  have hwcb : t.wcb = s.wcb := by rw [h.reads]
  have hmap : (fun (x : Nat × WcbEntry) => if 64 * x.1 = a && x.2.drain = 1 then (x.1, { x.2 with drain := 4, merged := data }) else x) =
      fun x => (x.1, if 64 * x.1 = a && x.2.drain = 1 then { x.2 with drain := 4, merged := data } else x.2) := by
    funext x
    split <;> rfl
  refine h.reads.sameMemory_wcb fun w => ?_
  rw [hmap, Tab.find_mapVal t.wcb (fun k e => if 64 * k = a && e.drain = 1 then { e with drain := 4, merged := data } else e), hwcb, Option.map_map]
  congr 1
  funext e
  dsimp only [Function.comp]
  split <;> rfl

/-- What comes back of a read: the pseudo-channel is free, and the sequence that issued it has the data. -/
theorem State.burstDone_read (s : State) (p : Nat) {r : Req} (hwrite : r.write = false) (htgc : r.client ≠ .tgc) (end_ : Nat)
    (data : List Byte) (whole : List Nat) (errs : List WordErr) : SameMemory s (s.burstDone p r end_ data whole errs) ∧
    ((s.burstDone p r end_ data whole errs).pchAt p).service = none ∧
    ∀ e q, r.client.seq = some e → Tab.find s.seqs e = some q → q.issue = r.issue →
      ∃ x l, Tab.find (s.burstDone p r end_ data whole errs).seqs e = some x ∧ x.landed = q.landed ++ [l] ∧ l.addr = r.addr ∧ l.data = data ∧
        l.kind = r.client.kind := by
  unfold State.burstDone
  extract_lets bank freed vf met
  have hfreed : Freed s freed p := .setPch s (PchState.service_promote _ 96)
  have hmet : Freed s met p := by
    dsimp only [met]
    split
    · exact (hfreed.act _ _ _).count (.meetErrors _ _)
    · exact (hfreed.act _ _ _).count (.meetErrors _ _)
  simp only [hwrite, Bool.false_eq_true, if_false, beq_eq_false_iff_ne.mpr htgc]
  split_ifs with hmerge hscrub
  · have hclient : r.client = .merge := by simpa using hmerge
    exact ⟨hmet.sameMemory_merged _ _, hmet.service, fun e q he => by simp [hclient, Client.seq] at he⟩
  · have hclient : r.client = .scrub := by simpa using hscrub
    exact ⟨hmet.reads.sameMemory, hmet.service, fun e q he => by simp [hclient, Client.seq] at he⟩
  · have hcounted := hmet.count (.countWords met (wordsOf r.addr (64 * r.words)))
    unfold State.land
    split
    next e he =>
      refine ⟨(hcounted.reads.trans (.onSeq _ _ _)).sameMemory, ?_, fun j q hj hq hissue => ?_⟩
      · rw [State.pchAt_onSeq]
        exact hcounted.service
      · obtain rfl : e = j := Option.some.inj (he.symm.trans hj)
        have hfind : Tab.find (met.countWords (wordsOf r.addr (64 * r.words))).seqs e = some q := by rw [hcounted.seqs, hq]
        rw [State.onSeq_of_find hfind, if_pos hissue]
        exact ⟨_, _, State.find_setSeq _ _ _, rfl, rfl, rfl, rfl⟩
    next he => exact ⟨hcounted.reads.sameMemory, hcounted.service, fun e q h => by simp [he] at h⟩

/-! ### Refresh and displacement (R244, R287) -/

theorem exec_refreshDue {d : Nat} (hevery : s.refreshEvery (p.val / 32) = some d) (htrained : (s.pchAt p).trained = true)
    (hfree : (s.pchAt p).service = none) (hdue : max (s.freeFrom (s.pchAt p)) ((s.pchAt p).lastRefresh + d) < s.tickEnd) :
    exec (.refreshDue p) s = .next (s.setPch p { s.pchAt p with
      service := some .refresh,
      serviceEnd := max (s.freeFrom (s.pchAt p)) ((s.pchAt p).lastRefresh + d) + nsec 26,
      lastRefresh := max (s.freeFrom (s.pchAt p)) ((s.pchAt p).lastRefresh + d),
      refreshDue := max (s.freeFrom (s.pchAt p)) ((s.pchAt p).lastRefresh + d) + d }) := by
  change execRefreshDue p s = _
  simp [execRefreshDue, hevery, htrained, hfree, hdue]

theorem exec_displace {a : Nat} {r v : Req} (hfind : (s.pchAt p).backlog.find? (fun r => r.lc && r.addr == a) = some r)
    (hroom : (s.pchAt p).roomFor r = false) (hvictim : (s.pchAt p).victim r.big = some v) :
    exec (.displace p a) s = .next ((s.setPch p ({ s.pchAt p with backlog := (s.pchAt p).backlog.erase r }.displace v r)).count
      (Reg.HMC_DISPLACE p) 1) := by
  change execDisplace p a s = _
  simp [execDisplace, hfind, hroom, hvictim]

/-- The queues that a displacement by an LC read leaves. -/
theorem PchState.displace_lc (c : PchState) (v : Req) {r : Req} (h : r.lc = true) :
    (c.displace v r).lcr = lcrInsert r c.lcr ∧ (c.displace v r).ber = dropLast1 v c.ber := by
  simp [PchState.displace, PchState.enqueue, h]

/-- Settles O20, row by row. -/
theorem pseudoChannelServesByRow : Obligations.PseudoChannelServesByRow := by
  refine ⟨fun s p r c tok hfree htrained => ?_, fun s p errs r data whole hservice hend hwrite htgc => ?_, fun s p d hevery htrained hfree => ?_,
    fun s p a r v hfind hroom hvictim => ?_⟩
  · intro st htick hshut hrefresh hcopy hcand htgc howned hjoin
    have hexec := exec_burstStart rfl hfree htrained htick hshut hrefresh hcopy hcand htgc howned hjoin
    generalize hu : (if tok then _ else _) = u at hexec
    have hframe : ReadFrame s u := by
      rw [← hu]
      have hset : ReadFrame s ((s.refillTo st).setPch p c) := (ReadFrame.refillTo s st).trans (.setPch _ _ _)
      split
      · exact hset.trans (.debit _ _ _)
      · exact hset
    obtain ⟨hserved, ⟨whole, hservice⟩, hend⟩ := u.serve_spec p st r
    refine ⟨_, u.readData r, whole, hexec, (hframe.trans hserved).sameMemory, hservice, hend, fun hwrite hmerge => ?_⟩
    rw [State.readData_of_read u hwrite hmerge, hframe.bytes]
  · exact ⟨_, exec_burstComplete hservice hend errs, s.burstDone_read p hwrite htgc _ data whole errs⟩
  · intro st hdue
    refine ⟨_, exec_refreshDue hevery htrained hfree hdue, (ReadFrame.setPch _ _ _).sameMemory, fun _ _ => rfl, ?_⟩
    rw [State.pchAt_setPch]
    exact ⟨rfl, rfl, rfl, rfl, rfl, rfl, rfl, fun k hk => State.pchAt_setPch_other s p _ k hk⟩
  · have hlc : r.lc = true := (Bool.and_eq_true _ _ ▸ List.find?_some hfind).1
    obtain ⟨hlcr, hber⟩ := PchState.displace_lc { s.pchAt p with backlog := (s.pchAt p).backlog.erase r } v hlc
    refine ⟨_, exec_displace hfind hroom hvictim, (ReadFrame.trans (.setPch _ _ _) (.count _ _ _)).sameMemory, fun b hb => ?_, ?_, ?_⟩
    · exact State.reg_setReg_other _ _ _ _ (by simpa using hb)
    · exact State.reg_setReg _ _ _
    · have hcount : ∀ (t : State), (t.count (Reg.HMC_DISPLACE p) 1).pchAt p = t.pchAt p := fun _ => rfl
      rw [hcount, State.pchAt_setPch]
      exact ⟨hlcr, hber⟩

end Sys2Proof.Machine
end

section
/-! The traffic generator (R271 to R273): what a write of TGC_CTL starts or refuses, and how a run ends. -/

namespace Sys2Proof.Machine

variable {s : State} {p : Pch}

/-! ### A read that arrives (R244) -/

/-- A read that arrives takes its slot, displaces another or waits: its pseudo-channel's queues and the count of displacements
change. -/
structure ReadArrives (s t : State) (p : Nat) : Prop where
  reads : ReadFrame s t
  bank : (s.pchAt p).SameBank (t.pchAt p)
  regs : SameRegs s t [Reg.HMC_DISPLACE p]
  seqs : t.seqs = s.seqs

theorem ReadArrives.setPch (s : State) {p : Nat} {c : PchState} (h : (s.pchAt p).SameBank c) : ReadArrives s (s.setPch p c) p :=
  ⟨rfl, s.sameBank_setPch h, fun _ _ => rfl, rfl⟩

theorem ReadArrives.arrive (s : State) (p : Nat) (r : Req) : ReadArrives s (s.arrive p r) p := by
  unfold State.arrive
  extract_lets c
  split_ifs
  · exact .setPch s (c.sameBank_enqueue r)
  · split
    next v _ =>
      have h := ReadArrives.setPch s (c.sameBank_displace v r)
      exact ⟨h.reads.trans (.count _ _ _), h.bank, fun a ha => State.reg_setReg_other _ _ _ _ (by simpa using ha), h.seqs⟩
    · exact .setPch s rfl
  · exact .setPch s rfl

/-! ### The registers of a run (R271 to R273) -/

/-- What TGC_CTL keeps of a written value: GO, PATTERN, BURST, PRIO and MODE. -/
def tgcKept (v : Nat) : Nat :=
  setBits (setBits (setBits (setBits (setBits 0 31 31 (bits v 31 31)) 15 12 (bits v 15 12)) 10 8 (bits v 10 8)) 5 4 (bits v 5 4)) 2 0 (bits v 2 0)

theorem bits_tgcKept_mode (v : Nat) : bits (tgcKept v) 2 0 = bits v 2 0 := by
  rw [tgcKept, bits_setBits]
  exact Nat.mod_eq_of_lt (Nat.mod_lt _ (by decide))

theorem bits_tgcKept_go (v : Nat) : bits (tgcKept v) 31 31 = bits v 31 31 := by
  refine Nat.eq_of_testBit_eq fun i => ?_
  simp only [testBit_bits, tgcKept, testBit_setBits]
  by_cases hi : i < 1
  · have : i = 0 := by omega
    subst this
    simp
  · have : ¬ i < 31 + 1 - 31 := hi
    simp [this]

/-- Bits above 63 of a stored value make no difference. -/
theorem State.setReg_mod (s : State) (a v : Nat) : s.setReg a (v % 2 ^ 64) = s.setReg a v := by
  have hword : BitVec.ofNat 64 (v % 2 ^ 64) = BitVec.ofNat 64 v := BitVec.eq_of_toNat_eq (by simp)
  rw [State.setReg, State.setReg, hword, Nat.mod_mod]

theorem State.tgcReason_le (s : State) (p : Nat) : s.tgcReason p ≤ 3 := by
  unfold State.tgcReason
  dsimp only
  split_ifs <;> omega

theorem State.tgcReason_dropHeld (s : State) (f a v p : Nat) : ((s.dropHeld f).setReg a v).tgcReason p = (s.setReg a v).tgcReason p := rfl

theorem State.tgcWords_dropHeld (s : State) (f a v p : Nat) : ((s.dropHeld f).setReg a v).tgcWords p = (s.setReg a v).tgcWords p := rfl

theorem State.reg_tgcState (s : State) (p : Nat) {st : Nat} (h : st < 4) : (s.tgcState p st 0).reg (Reg.TGC_STATUS p) = st := by
  rw [State.tgcState, State.reg_setReg]
  omega

/-- The registers of a run stand apart from each other and from the count of displacements. -/
theorem tgc_regs_ne (p : Pch) : Reg.TGC_CTL p ≠ Reg.TGC_OPS p ∧ Reg.TGC_CTL p ≠ Reg.TGC_LATMAX p ∧ Reg.TGC_CTL p ≠ Reg.TGC_STATUS p ∧
    Reg.TGC_CTL p ≠ Reg.HMC_DISPLACE p ∧ Reg.TGC_STATUS p ≠ Reg.TGC_OPS p ∧ Reg.TGC_STATUS p ≠ Reg.TGC_LATMAX p ∧
    Reg.TGC_STATUS p ≠ Reg.HMC_DISPLACE p ∧ Reg.TGC_LEN p ≠ Reg.TGC_OPS p ∧ Reg.TGC_LEN p ≠ Reg.TGC_LATMAX p ∧
    Reg.TGC_LEN p ≠ Reg.TGC_STATUS p := by
  have hp := p.isLt
  unfold Reg.TGC_CTL Reg.TGC_OPS Reg.TGC_LATMAX Reg.TGC_STATUS Reg.HMC_DISPLACE Reg.TGC_LEN
  omega

/-! ### Bursts of a run (R272) -/

/-- The next burst of a run is counted and queued; the run stands as it stood. -/
structure TgcQueued (s t : State) (p : Nat) : Prop where
  reads : ReadFrame s t
  tgc : (t.pchAt p).tgc = (s.pchAt p).tgc
  regs : SameRegs s t [Reg.TGC_OPS p, Reg.HMC_DISPLACE p]

theorem TgcQueued.count {s t : State} {p : Nat} (h : ReadArrives (s.count64 (Reg.TGC_OPS p) 1) t p) : TgcQueued s t p where
  reads := ReadFrame.trans (.count64 _ _ _) h.reads
  tgc := by
    rw [h.bank]
    rfl
  regs a ha := by
    simp only [List.mem_cons, List.not_mem_nil, or_false, not_or] at ha
    exact (h.regs a (by simpa using ha.2)).trans (State.reg_setReg_other _ _ _ _ ha.1)

theorem TgcQueued.tgcNext (s : State) (p at_ : Nat) : TgcQueued s (s.tgcNext p at_) p := by
  unfold State.tgcNext
  split
  · exact ⟨.refl s, rfl, fun _ _ => rfl⟩
  next t _ =>
    dsimp only
    split
    · exact .count (.setPch _ rfl)
    · split
      · exact .count (.setPch _ (PchState.sameBank_enqueue _ _))
      · exact .count (.arrive _ p _)

/-! ### GO (R271) -/

/-- A run that starts: RUNNING, its counts cleared, its mode set. -/
def State.tgcStarted (s : State) (p mode : Nat) : State :=
  (((s.tgcState p 1 0).setReg (Reg.TGC_OPS p) 0).setReg (Reg.TGC_LATMAX p) 0).setPch p { s.pchAt p with tgc := some { mode := mode } }

/-- What setting GO of a stopped generator comes to, once TGC_CTL holds what it keeps. -/
theorem State.tgcWrite_go {s u : State} {p v : Nat} (hwas : s.fld (Reg.TGC_CTL p) (31, 31) = 0) (hgo : bit v 31 = true)
    (hu : s.setReg (Reg.TGC_CTL p) (tgcKept v) = u) : s.tgcWrite p v =
      if u.tgcReason p = 0 then
        if bits v 2 0 = 0 || 4 < bits v 2 0 then u
        else if (u.tgcStarted p (bits v 2 0)).tgcWords p = 0 then
          ((u.tgcStarted p (bits v 2 0)).setPch p { u.pchAt p with tgc := none }).tgcState p 2 0
        else (u.tgcStarted p (bits v 2 0)).tgcNext p (u.tgcStarted p (bits v 2 0)).now
      else u.tgcState p 3 (u.tgcReason p) := by
  unfold tgcKept at hu
  have hstart : (decide (s.fld (Reg.TGC_CTL p) (31, 31) = 0) && bit v 31) = true := by rw [hgo, Bool.and_true, decide_eq_true hwas]
  simp only [State.tgcWrite, hu, hstart, if_true, State.tgcStarted]
  split
  next h => rw [if_pos h]; rfl
  next h => rw [if_neg h]

theorem exec_tgcCtl {x : Word32} : exec (.tgcCtl p x) s = .next ((s.dropHeld 0).tgcWrite p x.toNat) := rfl

/-- A run that starts leaves TGC_CTL and the range, and stands RUNNING in its mode. -/
theorem State.tgcStarted_spec (s : State) (p : Pch) (mode : Nat) : ReadFrame s (s.tgcStarted p mode) ∧
    (s.tgcStarted p mode).reg (Reg.TGC_CTL p) = s.reg (Reg.TGC_CTL p) ∧ (s.tgcStarted p mode).tgcWords p = s.tgcWords p ∧
    (s.tgcStarted p mode).reg (Reg.TGC_STATUS p) = 1 ∧ ((s.tgcStarted p mode).pchAt p).tgc = some { mode := mode } := by
  obtain ⟨hctlOps, hctlLat, hctlStatus, -, hstatusOps, hstatusLat, -, hlenOps, hlenLat, hlenStatus⟩ := tgc_regs_ne p
  have hkeeps : ∀ a, a ≠ Reg.TGC_OPS p → a ≠ Reg.TGC_LATMAX p → (s.tgcStarted p mode).reg a = (s.tgcState p 1 0).reg a := fun a hops hlat =>
    (State.reg_setReg_other _ _ _ _ hlat).trans (State.reg_setReg_other _ _ _ _ hops)
  have hlen : (s.tgcStarted p mode).reg (Reg.TGC_LEN p) = s.reg (Reg.TGC_LEN p) :=
    (hkeeps _ hlenOps hlenLat).trans (State.reg_setReg_other _ _ _ _ hlenStatus)
  refine ⟨(((ReadFrame.setReg s _ _).trans (.setReg _ _ _)).trans (.setReg _ _ _)).trans (.setPch _ _ _), (hkeeps _ hctlOps hctlLat).trans (State.reg_setReg_other _ _ _ _ hctlStatus), ?_,
    (hkeeps _ hstatusOps hstatusLat).trans (State.reg_tgcState _ _ (by decide)), ?_⟩
  · rw [State.tgcWords, hlen, State.tgcWords]
  · exact congrArg PchState.tgc (State.pchAt_setPch _ _ _)

/-- What a write that sets GO of a stopped generator leaves: TGC_CTL as stored, and a refusal or a run. -/
theorem State.tgcWrite_go_spec {s u : State} {p : Pch} {v : Nat} (hwas : s.fld (Reg.TGC_CTL p) (31, 31) = 0) (hgo : bit v 31 = true)
    (hu : s.setReg (Reg.TGC_CTL p) (tgcKept v) = u) : ReadFrame u (s.tgcWrite p v) ∧
    (s.tgcWrite p v).reg (Reg.TGC_CTL p) = u.reg (Reg.TGC_CTL p) ∧
    (u.tgcReason p ≠ 0 → (s.tgcWrite p v).reg (Reg.TGC_STATUS p) = u.tgcReason p * 16 + 3 ∧ (s.tgcWrite p v).pch = u.pch) ∧
    (u.tgcReason p = 0 → bits v 2 0 ≠ 0 → bits v 2 0 ≤ 4 → u.tgcWords p ≠ 0 →
      (s.tgcWrite p v).reg (Reg.TGC_STATUS p) = 1 ∧ ((s.tgcWrite p v).pchAt p).tgc = some { mode := bits v 2 0 }) := by
  obtain ⟨hctlOps, -, hctlStatus, hctlDisplace, hstatusOps, -, hstatusDisplace, -⟩ := tgc_regs_ne p
  obtain ⟨hstarted, hctl, hwords, hstatus, htgc⟩ := u.tgcStarted_spec p (bits v 2 0)
  rw [State.tgcWrite_go hwas hgo hu]
  split
  next hreason =>
    split
    next hmode =>
      refine ⟨.refl u, rfl, fun h => absurd hreason h, fun _ hlo hhi _ => ?_⟩
      simp only [Bool.or_eq_true, decide_eq_true_eq] at hmode
      omega
    · split
      next hnone =>
        exact ⟨(hstarted.trans (.setPch _ _ _)).trans (.setReg _ _ _), (State.reg_setReg_other _ _ _ _ hctlStatus).trans ((State.setPch_reg _ _ _ _).trans hctl),
          fun h => absurd hreason h, fun _ _ _ h => absurd (hwords.symm.trans hnone) h⟩
      next hsome =>
        obtain ⟨hreads, hrun, hregs⟩ := TgcQueued.tgcNext (u.tgcStarted p (bits v 2 0)) p (u.tgcStarted p (bits v 2 0)).now
        exact ⟨hstarted.trans hreads, (hregs _ (by simp [hctlOps, hctlDisplace])).trans hctl, fun h => absurd hreason h,
          fun _ _ _ _ => ⟨(hregs _ (by simp [hstatusOps, hstatusDisplace])).trans hstatus, hrun.trans htgc⟩⟩
  next hreason =>
    refine ⟨.setReg _ _ _, State.reg_setReg_other _ _ _ _ hctlStatus, fun _ => ⟨?_, State.setReg_pch _ _ _⟩, fun h => absurd h hreason⟩
    have hle := u.tgcReason_le p
    exact (State.reg_setReg _ _ _).trans (Nat.mod_eq_of_lt (by omega))

/-! ### The end of a run (R272) -/

theorem exec_tgcRunDone {x : TgcRun} (hrun : (s.pchAt p).tgc = some x)
    (hservice : ∀ r data whole, (s.pchAt p).service = some (.burst r data whole) → r.client ≠ .tgc) (errs : List WordErr) :
    exec (.tgcRunDone p errs) s =
      .next (if s.tgcOver p x then (s.setPch p { s.pchAt p with tgc := none }).tgcState p 2 0 else s) := by
  change execTgcRunDone p errs s = _
  unfold execTgcRunDone
  extract_lets last done c
  have hlast : last = false := by
    dsimp only [last]
    split
    next r data whole h => exact decide_eq_false (hservice r data whole h)
    · rfl
  have hdone : done = s := if_neg (by simp [hlast])
  dsimp only [c]
  rw [hdone, hrun]

/-- Settles O24: GO comes to a refusal or a run, and a run that has gone over its range is done. -/
theorem trafficGeneratorRuns : Obligations.TrafficGeneratorRuns := by
  refine ⟨fun s p x hwas hgo => ?_, fun s p errs x hrun hservice => ⟨fun hover => ?_, fun hover => ?_⟩⟩
  · have hstopped : (s.dropHeld 0).fld (Reg.TGC_CTL p) (31, 31) = 0 := by rw [State.fld, State.dropHeld_reg, ← State.fld, hwas]
    obtain ⟨hreads, hctl, hrefused, hruns⟩ := State.tgcWrite_go_spec (p := p) hstopped hgo rfl
    have hreg := hctl.trans (State.reg_setReg _ _ _)
    have hfld : ∀ hi lo, hi < 64 → ((s.dropHeld 0).tgcWrite p x.toNat).fld (Reg.TGC_CTL p) (hi, lo) = bits (tgcKept x.toNat) hi lo :=
      fun hi lo h => by rw [State.fld, hreg, bits_mod_two_pow_64 _ h]
    refine ⟨_, exec_tgcCtl, (AccessFrame.dropHeld s 0).sameMemory.trans rfl ((ReadFrame.setReg _ _ _).trans hreads).sameMemory, ?_, ?_, fun u hu => ?_⟩
    · rw [hfld 31 31 (by decide), bits_tgcKept_go]
      simpa [bit, bits] using hgo
    · rw [hfld 2 0 (by decide), bits_tgcKept_mode]
    · rw [hreg, State.setReg_mod] at hu
      rw [hu, ← State.tgcReason_dropHeld s 0, ← State.tgcWords_dropHeld s 0]
      exact ⟨fun h => ⟨(hrefused h).1, (hrefused h).2.trans (State.setReg_pch _ _ _)⟩, hruns⟩
  · rw [exec_tgcRunDone hrun hservice errs, if_pos hover]
    refine ⟨_, rfl, ?_, State.reg_tgcState _ _ (by decide), fun a ha => ?_, ((ReadFrame.setPch s _ _).trans (.setReg _ _ _)).sameMemory⟩
    · exact congrArg PchState.tgc (State.pchAt_setPch _ _ _)
    · exact (State.reg_setReg_other _ _ _ _ (by simpa using ha)).trans (State.setPch_reg _ _ _ _)
  · rw [exec_tgcRunDone hrun hservice errs, if_neg (by simp [hover])]

end Sys2Proof.Machine
end

section
/-! Tokens and drains (R246, R258 to R263): the refills of the buckets, and how an entry of the write-combining buffer comes to its
drain burst, is made whole by a merge, and leaves. -/

namespace Sys2Proof.Machine

variable {s t u : State}

/-! ### Tokens (R246) -/

theorem Tab.find_filter_of_none {α : Type} {t : Tab α} {k : Nat} (p : Nat × α → Bool) (h : Tab.find t k = none) :
    Tab.find (t.filter p) k = none := by
  induction t with
  | nil => rfl
  | cons x t ih =>
    obtain ⟨j, v⟩ := x
    by_cases hj : j = k
    · simp [Tab.find, hj] at h
    · have ht : Tab.find (t.filter p) k = none := ih (by simpa [Tab.find, hj] using h)
      by_cases hp : p (j, v) = true <;> simp [hp, Tab.find, hj, ht]

theorem State.bucketTokens_of_unlisted {c r : Nat} (h : Tab.find s.tokens (16 * c + r) = none) :
    s.bucketTokens c r = s.fld Reg.HMC_BEDEPTH (15, 0) := by
  simp [State.bucketTokens, Tab.read, h]

/-- The buckets after k refills of r tokens each: those that are full are not listed. -/
def refilled (tokens : Tab Nat) (d k r : Nat) : Tab Nat :=
  (tokens.map (fun (x : Nat × Nat) => (x.1, min d (x.2 + k * r)))).filter (fun x => x.2 != d)

theorem State.refillTo_of_due {at_ : Nat} (hdue : s.tokenDue ≤ at_) {d k r : Nat} (hd : s.fld Reg.HMC_BEDEPTH (15, 0) = d)
    (hr : s.fld Reg.HMC_BERATE (7, 0) = r) (hk : (at_ - s.tokenDue) / nsec 40 + 1 = k) :
    s.refillTo at_ = { s with tokenDue := s.tokenDue + k * nsec 40, tokens := refilled s.tokens d k r } := by
  subst hd hr hk
  rw [State.refillTo, if_neg (Nat.not_lt.mpr hdue)]
  rfl

theorem refilled_lt {tokens : Tab Nat} {d k r : Nat} {x : Nat × Nat} (hx : x ∈ refilled tokens d k r) : x.2 < d := by
  obtain ⟨hmap, hne⟩ := List.mem_filter.mp hx
  obtain ⟨y, -, rfl⟩ := List.mem_map.mp hmap
  simp only [bne_iff_ne, ne_eq] at hne
  dsimp only
  omega

theorem mem_refilled {tokens : Tab Nat} {d k r : Nat} {x : Nat × Nat} (hx : x ∈ tokens) (hlt : x.2 + k * r < d) :
    (x.1, x.2 + k * r) ∈ refilled tokens d k r := by
  have hmin : min d (x.2 + k * r) = x.2 + k * r := Nat.min_eq_right hlt.le
  exact List.mem_filter.mpr ⟨List.mem_map.mpr ⟨x, hx, by rw [hmin]⟩, by simpa using hlt.ne⟩

theorem find_refilled_of_none {tokens : Tab Nat} {j : Nat} (d k r : Nat) (h : Tab.find tokens j = none) :
    Tab.find (refilled tokens d k r) j = none :=
  Tab.find_filter_of_none _ ((Tab.find_mapVal tokens (fun _ n => min d (n + k * r)) j).trans (by rw [h]; rfl))

/-! ### What a drain leaves unchanged (R258, R262) -/

/-- The buffer's entry of a word is another. -/
def State.setEntry (s : State) (w : Nat) (e : WcbEntry) : State := { s with wcb := Tab.insert s.wcb w e }

theorem State.find_setEntry (s : State) (w : Nat) (e : WcbEntry) : Tab.find (s.setEntry w e).wcb w = some e := Tab.find_insert_self _ _ _

theorem State.reg_setEntry (s : State) (w : Nat) (e : WcbEntry) (a : Nat) : (s.setEntry w e).reg a = s.reg a := rfl

/-- A drain's steps change how far each entry has come, registers and the queues: every entry shows the bytes it showed. -/
structure DrainFrame (s t : State) : Prop where
  frame : ReadFrame { s with wcb := t.wcb } t
  shown : ∀ w, (Tab.find t.wcb w).map WcbEntry.shown = (Tab.find s.wcb w).map WcbEntry.shown

namespace DrainFrame

theorem refl (s : State) : DrainFrame s s := ⟨rfl, fun _ => rfl⟩

theorem ofRead (h : ReadFrame s t) : DrainFrame s t := by
  have hwcb : t.wcb = s.wcb := by rw [h]
  exact ⟨by rw [hwcb]; exact h, fun w => by rw [hwcb]⟩

theorem trans (hst : DrainFrame s t) (htu : DrainFrame t u) : DrainFrame s u := by
  refine ⟨?_, fun w => (htu.shown w).trans (hst.shown w)⟩
  have hs := hst.frame
  have ht := htu.frame
  unfold ReadFrame at *
  rw [ht, hs]

theorem sameMemory (h : DrainFrame s t) : SameMemory s t := fun a =>
  (h.frame.sameMemory a).trans (State.byte_wcb h.shown a)

theorem setWcb {b : Tab WcbEntry} (h : ∀ w, (Tab.find b w).map WcbEntry.shown = (Tab.find s.wcb w).map WcbEntry.shown) :
    DrainFrame s { s with wcb := b } := ⟨rfl, h⟩

/-- An entry that comes further shows what it showed. -/
theorem setEntry {w : Nat} {e : WcbEntry} (e' : WcbEntry) (hw : Tab.find s.wcb w = some e) (he : e'.shown = e.shown) : DrainFrame s (s.setEntry w e') := by
  refine .setWcb fun x => ?_
  rw [Tab.find_insert]
  split
  next h =>
    subst h
    rw [hw]
    exact congrArg some he
  · rfl

end DrainFrame

/-! ### The run of a word (R262) -/

theorem State.mem_wordRun {ok : WcbEntry → Bool} {w x : Nat} (hx : x ∈ s.wordRun ok w) :
    x / 16 = w / 16 ∧ ∃ e, Tab.find s.wcb x = some e ∧ ok e = true := by
  unfold State.wordRun at hx
  extract_lets row yes up down at hx
  have hyes : ∀ y, yes y = true → ∃ e, Tab.find s.wcb y = some e ∧ ok e = true := by
    intro y hy
    cases hfind : Tab.find s.wcb y with
    | none => simp [yes, hfind] at hy
    | some e => exact ⟨e, rfl, by simpa [yes, hfind] using hy⟩
  rcases List.mem_append.mp hx with hdown | hup
  · have hdown := List.mem_reverse.mp hdown
    obtain ⟨k, hk, rfl⟩ := List.mem_map.mp (List.takeWhile_subset _ hdown)
    have hk := List.mem_range.mp hk
    exact ⟨by simp only [row] at hk; omega, hyes _ (List.mem_takeWhile_imp hdown)⟩
  · obtain ⟨k, hk, rfl⟩ := List.mem_map.mp (List.takeWhile_subset _ hup)
    have hk := List.mem_range.mp hk
    exact ⟨by simp only [row] at hk; omega, hyes _ (List.mem_takeWhile_imp hup)⟩

theorem State.self_mem_wordRun {ok : WcbEntry → Bool} {w : Nat} {e : WcbEntry} (hw : Tab.find s.wcb w = some e) (hok : ok e = true) :
    w ∈ s.wordRun ok w := by
  unfold State.wordRun
  extract_lets row yes up down
  have hyes : yes w = true := by simp [yes, hw, hok]
  obtain ⟨n, hn⟩ : ∃ n, 16 * row + 16 - w = n + 1 := ⟨16 * row + 15 - w, by simp only [row]; omega⟩
  have hup : w ∈ up := by
    simp only [up, hn, List.range_succ_eq_map, List.map_cons, Nat.zero_add]
    rw [List.takeWhile_cons_of_pos hyes]
    exact List.mem_cons_self
  exact List.mem_append_right _ hup

theorem pchOf_of_half {x w : Nat} (h : x / 16 = w / 16) : pchOf (64 * x) = pchOf (64 * w) := by
  unfold pchOf granuleOf
  have : 64 * x / 2 ^ 21 = 64 * w / 2 ^ 21 := by omega
  rw [this]

/-! ### A drain burst (R260, R262) -/

/-- An entry once the burst of some words has been formed. -/
def drainMark (ws : List Nat) (w : Nat) (e : WcbEntry) : WcbEntry :=
  if ws.contains w then { e with drain := 2, rewritten := e.rewritten && e.drain == 5 } else e

theorem drainMark_shown (ws : List Nat) (w : Nat) (e : WcbEntry) : (drainMark ws w e).shown = e.shown := by
  unfold drainMark
  split <;> rfl

theorem State.formDrain_cons (s : State) (w : Nat) (ws : List Nat) :
    ∃ (r : Req) (marked : State), r.client = .drain ∧ r.write = true ∧ r.words = (w :: ws).length ∧
      marked = { s with wcb := s.wcb.map (fun x => (x.1, drainMark (w :: ws) x.1 x.2)) } ∧
      s.formDrain (w :: ws) = (marked.setPch (pchOf (64 * w)) { marked.pchAt (pchOf (64 * w)) with
        wr := (marked.pchAt (pchOf (64 * w))).wr ++ [r] }).count64 Reg.WCB_DRAINS 1 := by
  have hmap : s.wcb.map (fun x => if (w :: ws).contains x.1 then (x.1, { x.2 with drain := 2, rewritten := x.2.rewritten && x.2.drain == 5 }) else x) =
      s.wcb.map (fun x => (x.1, drainMark (w :: ws) x.1 x.2)) := by
    refine List.map_congr_left fun x _ => ?_
    unfold drainMark
    split <;> rfl
  unfold State.formDrain
  rw [hmap]
  exact ⟨_, _, rfl, rfl, rfl, rfl, rfl⟩

theorem State.find_formDrain (s : State) (ws : List Nat) (k : Nat) :
    Tab.find (s.formDrain ws).wcb k = (Tab.find s.wcb k).map (drainMark ws k) := by
  cases ws with
  | nil => exact (Option.map_id_apply).symm
  | cons w ws =>
    obtain ⟨r, marked, -, -, -, hmarked, hform⟩ := s.formDrain_cons w ws
    have hwcb : (s.formDrain (w :: ws)).wcb = marked.wcb := by rw [hform]; rfl
    rw [hwcb, hmarked]
    exact Tab.find_mapVal _ _ _

theorem DrainFrame.formDrain (s : State) (ws : List Nat) : DrainFrame s (s.formDrain ws) := by
  cases ws with
  | nil => exact .refl s
  | cons w ws =>
    obtain ⟨r, marked, -, -, -, hmarked, hform⟩ := s.formDrain_cons w ws
    have hframe : DrainFrame s marked := by
      rw [hmarked]
      refine .setWcb fun k => ?_
      rw [Tab.find_mapVal, Option.map_map]
      exact congrFun (congrArg Option.map (funext fun e => drainMark_shown (w :: ws) k e)) _
    rw [hform]
    exact hframe.trans (.ofRead ((ReadFrame.setPch _ _ _).trans (.count64 _ _ _)))

theorem State.formDrain_regs (s : State) (ws : List Nat) : SameRegs s (s.formDrain ws) [Reg.WCB_DRAINS] := by
  intro a ha
  cases ws with
  | nil => rfl
  | cons w ws =>
    obtain ⟨r, marked, -, -, -, hmarked, hform⟩ := s.formDrain_cons w ws
    rw [hform]
    refine (State.reg_setReg_other _ _ _ _ (by simpa using ha)).trans ((State.setPch_reg _ _ _ _).trans ?_)
    rw [hmarked]
    rfl

/-- The burst of a run is queued in the pseudo-channel of its half-frame. -/
theorem State.formDrain_queued (s : State) {ws : List Nat} {w : Nat} (hne : ws ≠ []) (hhalf : ∀ x ∈ ws, x / 16 = w / 16) :
    ∃ r : Req, ((s.formDrain ws).pchAt (pchOf (64 * w))).wr = (s.pchAt (pchOf (64 * w))).wr ++ [r] ∧ r.client = .drain ∧ r.write = true ∧
      r.words = ws.length := by
  obtain ⟨x, xs, rfl⟩ := List.exists_cons_of_ne_nil hne
  obtain ⟨r, marked, hclient, hwrite, hwords, hmarked, hform⟩ := s.formDrain_cons x xs
  refine ⟨r, ?_, hclient, hwrite, hwords⟩
  have hpch : marked.pchAt (pchOf (64 * w)) = s.pchAt (pchOf (64 * w)) := by rw [hmarked]; rfl
  rw [hform, pchOf_of_half (hhalf x List.mem_cons_self)]
  refine (congrArg PchState.wr (State.pchAt_setPch _ _ _)).trans ?_
  rw [hpch]

/-! ### Merges (R263) -/

/-- An entry whose merge read is due. -/
def WcbEntry.mergeDue (e : WcbEntry) : WcbEntry := { e with drain := 1, rewritten := false }

/-- The merge read of a word is asked for: its entry says so and its read is queued. -/
def State.MergeAsked (s : State) (w : Nat) (e : WcbEntry) : Prop :=
  Tab.find s.wcb w = some e.mergeDue ∧
    ∃ r ∈ (s.pchAt (pchOf (64 * w))).wr, r.client = .merge ∧ r.write = false ∧ r.addr = 64 * w ∧ r.words = 1

theorem State.mergeRead_some {w : Nat} {e : WcbEntry} (hw : Tab.find s.wcb w = some e) :
    ∃ r : Req, r.client = .merge ∧ r.write = false ∧ r.addr = 64 * w ∧ r.words = 1 ∧
      s.mergeRead w = (s.setEntry w e.mergeDue).setPch (pchOf (64 * w))
        { s.pchAt (pchOf (64 * w)) with wr := (s.pchAt (pchOf (64 * w))).wr ++ [r] } := by
  unfold State.mergeRead
  rw [hw]
  exact ⟨_, rfl, rfl, rfl, rfl, rfl⟩

theorem State.mergeRead_none {w : Nat} (hw : Tab.find s.wcb w = none) : s.mergeRead w = s := by
  unfold State.mergeRead
  rw [hw]

theorem DrainFrame.mergeRead (s : State) (w : Nat) : DrainFrame s (s.mergeRead w) := by
  cases hw : Tab.find s.wcb w with
  | none => exact (State.mergeRead_none hw).symm ▸ .refl s
  | some e =>
    obtain ⟨r, -, -, -, -, h⟩ := State.mergeRead_some hw
    rw [h]
    exact (DrainFrame.setEntry e.mergeDue hw rfl).trans (.ofRead (.setPch _ _ _))

theorem State.mergeRead_regs (s : State) (w : Nat) : SameRegs s (s.mergeRead w) [] := by
  intro a _
  cases hw : Tab.find s.wcb w with
  | none => rw [State.mergeRead_none hw]
  | some e =>
    obtain ⟨r, -, -, -, -, h⟩ := State.mergeRead_some hw
    rw [h]
    rfl

/-- A merge read of a word touches no other word's entry. -/
theorem State.find_mergeRead_other {x w : Nat} (hne : x ≠ w) : Tab.find (s.mergeRead x).wcb w = Tab.find s.wcb w := by
  cases hx : Tab.find s.wcb x with
  | none => rw [State.mergeRead_none hx]
  | some e =>
    obtain ⟨r, -, -, -, -, h⟩ := State.mergeRead_some hx
    have hwcb : (s.mergeRead x).wcb = Tab.insert s.wcb x e.mergeDue := by rw [h]; rfl
    rw [hwcb, Tab.find_insert_ne _ _ hne]

/-- A merge read queues behind what is queued. -/
theorem State.wr_mergeRead (s : State) (x p : Nat) : ∀ r ∈ (s.pchAt p).wr, r ∈ ((s.mergeRead x).pchAt p).wr := by
  intro r hr
  cases hx : Tab.find s.wcb x with
  | none => rwa [State.mergeRead_none hx]
  | some e =>
    obtain ⟨r', -, -, -, -, h⟩ := State.mergeRead_some hx
    rw [h]
    by_cases hp : p = pchOf (64 * x)
    · subst hp
      rw [State.pchAt_setPch]
      exact List.mem_append_left _ hr
    · rw [State.pchAt_setPch_other _ _ _ _ hp]
      exact hr

theorem State.mergeAsked_mergeRead {w : Nat} {e d : WcbEntry} (hw : Tab.find s.wcb w = some d) (hd : d.mergeDue = e.mergeDue) :
    (s.mergeRead w).MergeAsked w e := by
  obtain ⟨r, hclient, hwrite, haddr, hwords, h⟩ := State.mergeRead_some hw
  rw [h]
  refine ⟨?_, r, ?_, hclient, hwrite, haddr, hwords⟩
  · rw [← hd]
    exact Tab.find_insert_self _ _ _
  · rw [State.pchAt_setPch]
    exact List.mem_append_right _ List.mem_cons_self

theorem State.MergeAsked.mergeRead {w : Nat} {e : WcbEntry} (h : s.MergeAsked w e) (x : Nat) : (s.mergeRead x).MergeAsked w e := by
  obtain ⟨hentry, r, hr, hread⟩ := h
  by_cases hx : x = w
  · subst hx
    exact State.mergeAsked_mergeRead hentry rfl
  · exact ⟨(State.find_mergeRead_other hx).trans hentry, r, s.wr_mergeRead x _ r hr, hread⟩

/-- What the merge reads of some words come to. -/
theorem State.mergeReads_spec {ws : List Nat} {w : Nat} {e : WcbEntry} (hw : Tab.find s.wcb w = some e) (hmem : w ∈ ws) :
    DrainFrame s (forAll ws (fun x s => s.mergeRead x) s) ∧ SameRegs s (forAll ws (fun x s => s.mergeRead x) s) [] ∧
      (forAll ws (fun x s => s.mergeRead x) s).MergeAsked w e := by
  refine ⟨?_, fun a ha => ?_, ?_⟩
  · exact forAll_keeps (P := DrainFrame s) (fun x _ t ht => ht.trans (.mergeRead t x)) (.refl s)
  · exact forAll_keeps (P := fun t => t.reg a = s.reg a) (fun x _ t ht => (t.mergeRead_regs x a ha).trans ht) rfl
  · refine forAll_reaches (P := fun t => Tab.find t.wcb w = some e ∨ t.MergeAsked w e) (Q := fun t => t.MergeAsked w e) (fun x _ t ht => ?_) (fun x _ t ht => ht.mergeRead x) hmem
      (fun t ht => ?_) (Or.inl hw)
    · by_cases hx : x = w
      · subst hx
        exact Or.inr (ht.elim (fun h => State.mergeAsked_mergeRead h rfl) (fun h => h.mergeRead x))
      · exact ht.imp (fun h => (State.find_mergeRead_other hx).trans h) (fun h => h.mergeRead x)
    · exact ht.elim (fun h => State.mergeAsked_mergeRead h rfl) (fun h => h.mergeRead w)

/-- Words of a run whose entries are not whole. -/
def State.partialWords (s : State) (ws : List Nat) : List Nat :=
  ws.filter (fun w => match Tab.find s.wcb w with | some e => !e.full | none => false)

theorem exec_drainEligible {w : Nat} {e : WcbEntry} (hw : Tab.find s.wcb w = some e) (helig : s.eligibleEntry e = true) :
    exec (.drainEligible w) s = .next (if (s.partialWords (s.wordRun s.eligibleEntry w)).isEmpty then s.formDrain (s.wordRun s.eligibleEntry w)
      else forAll (s.partialWords (s.wordRun s.eligibleEntry w)) (fun w s => s.mergeRead w) s) := by
  change execDrainEligible w s = _
  unfold execDrainEligible
  rw [hw]
  dsimp only
  rw [if_pos helig]
  rfl

theorem State.partialWords_of_full {ws : List Nat} (h : ∀ x ∈ ws, ∀ y, Tab.find s.wcb x = some y → y.full = true) : s.partialWords ws = [] := by
  refine List.filter_eq_nil_iff.mpr fun x hx => ?_
  cases hfind : Tab.find s.wcb x with
  | none => simp
  | some y => simp [h x hx y hfind]

theorem State.mem_partialWords {ws : List Nat} {w : Nat} {e : WcbEntry} (hmem : w ∈ ws) (hw : Tab.find s.wcb w = some e) (hpart : e.full = false) :
    w ∈ s.partialWords ws :=
  List.mem_filter.mpr ⟨hmem, by simp [hw, hpart]⟩

/-! ### A merge that has come back (R263) -/

theorem State.countWord_clean {w : Nat} (h : s.rawOutcome w = .clean) (track : Bool) : s.countWord track w = s := by
  unfold State.countWord
  rw [h]

theorem State.rawOutcome_count64 (s : State) {a : Nat} (ha : Reg.HMC_REFRATE ≠ a) (n w : Nat) : (s.count64 a n).rawOutcome w = s.rawOutcome w := by
  have hshut : (s.count64 a n).stackShut (64 * w) = s.stackShut (64 * w) := by
    rw [State.stackShut, State.fld, State.count64, State.reg_setReg_other _ _ _ _ ha, ← State.fld, ← State.stackShut]
  rw [State.rawOutcome, hshut]
  rfl

theorem exec_drainMerge_clean {w : Nat} {e : WcbEntry} (hw : Tab.find s.wcb w = some e) (hback : e.drain = 4) (hclean : s.rawOutcome w = .clean) :
    exec (.drainMerge w []) s = .next (((s.count64 Reg.WCB_MERGES 1).setEntry w { e with drain := 5 }).tryDrain w) := by
  have hout : (s.count64 Reg.WCB_MERGES 1).rawOutcome w = .clean := (s.rawOutcome_count64 (by decide) 1 w).trans hclean
  change execDrainMerge w [] s = _
  unfold execDrainMerge
  rw [hw]
  simp only [hback, bne_self_eq_false, Bool.false_eq_true, if_false, List.isEmpty_nil, if_true, hout, State.countWord_clean hout]
  rfl

theorem exec_drainMerge_waits {w : Nat} {e : WcbEntry} (hw : Tab.find s.wcb w = some e) (hwait : e.drain = 1) (errs : List (Nat × Byte)) :
    exec (.drainMerge w errs) s = .next s := by
  change execDrainMerge w errs s = _
  unfold execDrainMerge
  rw [hw]
  simp [hwait]

/-- A drain that is tried forms a burst, or waits for a merge and changes nothing. -/
theorem State.tryDrain_cases (s : State) (w : Nat) : s.tryDrain w = s ∨ ∃ ws, s.tryDrain w = s.formDrain ws := by
  unfold State.tryDrain
  dsimp only
  split
  · exact Or.inr ⟨_, rfl⟩
  · exact Or.inl rfl

theorem State.tryDrain_spec (s : State) (w : Nat) : DrainFrame s (s.tryDrain w) ∧ SameRegs s (s.tryDrain w) [Reg.WCB_DRAINS] ∧
    ∃ ws, Tab.find (s.tryDrain w).wcb w = (Tab.find s.wcb w).map (drainMark ws w) := by
  rcases s.tryDrain_cases w with h | ⟨ws, h⟩
  · rw [h]
    exact ⟨.refl s, fun _ _ => rfl, [], (Option.map_id_apply).symm⟩
  · rw [h]
    exact ⟨.formDrain s ws, s.formDrain_regs ws, ws, s.find_formDrain ws w⟩

/-! ### An entry that leaves (R260) -/

theorem State.byte_eraseWcb (s : State) (w a : Nat) :
    ({ s with wcb := Tab.erase s.wcb w } : State).byte a = if a / 64 = w then s.dram a else s.byte a := by
  have hdram : ({ s with wcb := Tab.erase s.wcb w } : State).dram a = s.dram a := rfl
  unfold State.byte
  rw [hdram, Tab.find_erase]
  by_cases hw : a / 64 = w
  · simp [hw]
  · simp [hw, Ne.symm hw]

theorem exec_drainComplete {w : Nat} {e : WcbEntry} (hw : Tab.find s.wcb w = some e) (hdone : e.drain = 3) :
    exec (.drainComplete w) s = if e.rewritten then .next (s.setEntry w { e with drain := 0, rewritten := false, merged := [] })
      else .next { s with wcb := Tab.erase s.wcb w } := by
  change execDrainComplete w s = _
  unfold execDrainComplete
  rw [hw]
  simp only [hdone, bne_self_eq_false, Bool.false_eq_true, if_false, State.setEntry]

/-- Settles O21: buckets refill to the depth; entries drain by runs, merge and leave, and no byte reads otherwise but for a word
that leaves. -/
theorem tokensAndDrains : Obligations.TokensAndDrains := by
  refine ⟨fun s hdue => ?_, fun s w e hw helig => ⟨fun hfull => ?_, fun hpart => ?_⟩, fun s w e hw => ⟨fun hback hclean => ?_, fun hwait errs => ?_⟩,
    fun s w e hw hdone => ?_⟩
  · refine ⟨_, congrArg Host.Outcome.next (State.refillTo_of_due hdue rfl rfl rfl), rfl, fun _ _ => rfl, fun _ => rfl, fun x hx => refilled_lt hx, fun x hx => ?_,
      fun c r hnone => ?_⟩
    · exact or_iff_not_imp_left.mpr fun hlt => mem_refilled hx (Nat.not_le.mp hlt)
    · rw [State.bucketTokens_of_unlisted hnone, State.bucketTokens_of_unlisted (find_refilled_of_none _ _ _ hnone)]
      rfl
  · have hself := State.self_mem_wordRun hw helig
    obtain ⟨r, hwr, hclient, hwrite, hwords⟩ := s.formDrain_queued (List.ne_nil_of_mem hself) fun x hx => (State.mem_wordRun hx).1
    refine ⟨_, r, (exec_drainEligible hw helig).trans (by rw [State.partialWords_of_full hfull]; rfl), (DrainFrame.formDrain _ _).sameMemory, ?_,
      hwr, hclient, hwrite, hwords, s.formDrain_regs _⟩
    rw [State.find_formDrain, hw]
    simp [drainMark, hself]
  · have hmem := State.mem_partialWords (State.self_mem_wordRun hw helig) hw hpart
    obtain ⟨hframe, hregs, hentry, r, hr, hread⟩ := State.mergeReads_spec hw hmem
    refine ⟨_, r, (exec_drainEligible hw helig).trans (by rw [if_neg]; simpa using List.ne_nil_of_mem hmem), hframe.sameMemory, hregs, hentry, hr, hread⟩
  · obtain ⟨hframe, hregs, ws, hentry⟩ :=
      State.tryDrain_spec ((s.count64 Reg.WCB_MERGES 1).setEntry w { e with drain := 5 }) w
    have hmerged : DrainFrame (s.count64 Reg.WCB_MERGES 1) ((s.count64 Reg.WCB_MERGES 1).setEntry w { e with drain := 5 }) := .setEntry _ hw rfl
    have hmemory := ((DrainFrame.ofRead (.count64 s Reg.WCB_MERGES 1)).trans (hmerged.trans hframe)).sameMemory
    refine ⟨_, drainMark ws w { e with drain := 5 }, exec_drainMerge_clean hw hback hclean, hmemory, ?_, ?_, ?_, ?_, ?_, ?_, fun a ha => ?_⟩
    · rw [hentry]
      rw [State.find_setEntry]
      rfl
    · unfold drainMark
      split <;> simp
    · unfold drainMark
      split <;> rfl
    · unfold drainMark
      split <;> rfl
    · unfold drainMark
      split <;> rfl
    · rw [hregs _ (by decide), State.reg_setEntry]
      exact State.reg_setReg _ _ _
    · simp only [List.mem_cons, List.not_mem_nil, or_false, not_or] at ha
      rw [hregs _ (by simpa using ha.2), State.reg_setEntry]
      exact State.reg_setReg_other _ _ _ _ ha.1
  · exact exec_drainMerge_waits hw hwait errs
  · rw [exec_drainComplete hw hdone]
    cases e.rewritten with
    | true =>
      refine ⟨_, rfl, fun _ _ => rfl, State.find_setEntry _ _ _, fun a => ?_⟩
      exact (State.byte_wcb (DrainFrame.setEntry { e with drain := 0, rewritten := false, merged := [] } hw rfl).shown a).trans (by simp)
    | false =>
      refine ⟨_, rfl, fun _ _ => rfl, Tab.find_erase_self _ _, fun a => ?_⟩
      rw [State.byte_eraseWcb]
      simp

end Sys2Proof.Machine
end

section
/-! Whole words that firmware streams (R264, R278), and pool atomics (R268, R269). -/

namespace Sys2Proof.Machine

variable {s t u : State}

/-! ### Bytes and words -/

theorem getD_slice (l : List Byte) (off : Nat) {n k : Nat} (hk : k < n) : (slice l off n).getD k 0 = l.getD (off + k) 0 := by
  simp only [slice, List.getD_eq_getElem?_getD, List.getElem?_append, List.length_take, List.length_drop]
  split_ifs with h
  · rw [List.getElem?_take, if_pos hk, List.getElem?_drop]
  · rw [List.getElem?_replicate, if_pos (by omega), List.getElem?_eq_none (by omega : l.length ≤ off + k)]
    rfl

theorem getD_drop (l : List Byte) (i j : Nat) : (l.drop i).getD j 0 = l.getD (i + j) 0 := by simp [List.getD_eq_getElem?_getD]

theorem leBytes_leNat (l : List Byte) : leBytes l.length (leNat l) = l := by
  induction l with
  | nil => rfl
  | cons b l ih =>
    have hb := b.isLt
    have hhead : BitVec.ofNat 8 (b.toNat + 256 * leNat l) = b := BitVec.eq_of_toNat_eq (by simp; omega)
    have htail : (b.toNat + 256 * leNat l) / 256 = leNat l := by omega
    rw [List.length_cons, leBytes, leNat, hhead, htail, ih]

theorem State.length_bytes (s : State) (a n : Nat) : (s.bytes a n).length = n := by simp [State.bytes]

theorem State.getElem_bytes (s : State) {a n k : Nat} (hk : k < (s.bytes a n).length) : (s.bytes a n)[k] = s.byte (a + k) := by simp [State.bytes]

theorem State.leBytes_num (s : State) (a n : Nat) : leBytes n (s.num a n) = s.bytes a n := by
  have h := leBytes_leNat (s.bytes a n)
  rwa [State.length_bytes] at h

theorem mem_wordsOf {x m w : Nat} : w ∈ wordsOf (64 * x) (64 * m) ↔ x ≤ w ∧ w < x + m := by
  unfold wordsOf
  split_ifs with hm
  · simp only [List.not_mem_nil, false_iff]
    omega
  · simp only [List.mem_map, List.mem_range]
    constructor
    · rintro ⟨i, hi, rfl⟩
      omega
    · intro hw
      exact ⟨w - x, by omega, by omega⟩

/-! ### Bytes stored in the cells -/

theorem State.byte_setBytes_out (s : State) {a b : Nat} {bs : List Byte} (hb : b < a ∨ a + bs.length ≤ b) : (s.setBytes a bs).byte b = s.byte b := by
  refine State.byte_congr ?_ rfl
  have hread : Tab.read (s.setBytes a bs).mem 0 b = Tab.read s.mem 0 b := Tab.read_writeList_out _ _ _ _ _ hb
  unfold State.dram
  rw [hread]
  rfl

theorem State.dram_setBytes {a j : Nat} {bs : List Byte} (hj : j < bs.length) (hclear : s.inClear (a + j) = true) :
    (s.setBytes a bs).dram (a + j) = bs[j] :=
  (State.dram_of_inClear (s := s.setBytes a bs) hclear).trans (Tab.read_writeList_in _ _ _ _ _ hj)

theorem State.byte_of_unbuffered {a : Nat} (h : Tab.find s.wcb (a / 64) = none) : s.byte a = s.dram a := by
  unfold State.byte
  rw [h]

theorem State.byte_of_buffered {a : Nat} {e : WcbEntry} (h : Tab.find s.wcb (a / 64) = some e) : s.byte a = e.over (a % 64) (s.dram a) := by
  unfold State.byte
  rw [h]

theorem State.byte_setBytes_in {a j : Nat} {bs : List Byte} (hj : j < bs.length) (hclear : s.inClear (a + j) = true)
    (hwcb : Tab.find s.wcb ((a + j) / 64) = none) : (s.setBytes a bs).byte (a + j) = bs[j] :=
  (State.byte_of_unbuffered (s := s.setBytes a bs) hwcb).trans (State.dram_setBytes hj hclear)

/-! ### A stream's pieces (R262, R264) -/

/-- The pieces of whole words: each of consecutive words of one half-frame, within the range. -/
theorem mem_halfFrames {lo n : Nat} (hn : 0 < n) {b : Nat × Nat} (hb : b ∈ halfFrames (64 * lo) (64 * n)) :
    ∃ x m, b = (64 * x, m) ∧ 0 < m ∧ lo ≤ x ∧ x + m ≤ lo + n ∧ x + m ≤ 16 * (x / 16) + 16 := by
  unfold halfFrames cdiv at hb
  obtain ⟨k, hk, rfl⟩ := List.mem_map.mp hb
  have hk := List.mem_range.mp hk
  have hlo : 64 * lo / 64 = lo := by omega
  have hhi : (64 * lo + 64 * n) / 64 = lo + n := by omega
  rw [hlo, hhi] at hk ⊢
  exact ⟨_, _, rfl, by omega, by omega, by omega, by omega⟩

/-- Every word of a range lies in a piece. -/
theorem exists_halfFrame {lo n w : Nat} (hlo : lo ≤ w) (hhi : w < lo + n) : ∃ x m, (64 * x, m) ∈ halfFrames (64 * lo) (64 * n) ∧ x ≤ w ∧ w < x + m := by
  have h1 : 64 * lo / 64 = lo := by omega
  have h2 : (64 * lo + 64 * n) / 64 = lo + n := by omega
  unfold halfFrames cdiv
  rw [h1, h2]
  exact ⟨_, _, List.mem_map.mpr ⟨w / 16 - lo / 16, List.mem_range.mpr (by omega), rfl⟩, by omega, by omega⟩

/-- Words of one half-frame are one piece. -/
theorem halfFrames_one {x m : Nat} (hm : 0 < m) (hhalf : x + m ≤ 16 * (x / 16) + 16) : halfFrames (64 * x) (64 * m) = [(64 * x, m)] := by
  have h1 : 64 * x / 64 = x := by omega
  have h2 : (64 * x + 64 * m) / 64 = x + m := by omega
  have h3 : cdiv (x + m) 16 - x / 16 = 1 := by
    unfold cdiv
    omega
  unfold halfFrames
  simp only [h1, h2, h3, List.range_one, List.map_cons, List.map_nil, List.cons.injEq, Prod.mk.injEq, and_true]
  omega

theorem forAll_singleton {α : Type} (x : α) (f : α → State → State) (s : State) : forAll [x] f s = f x s := rfl

theorem State.find_coverWcb_other (s : State) {w n k : Nat} (data : Nat → List Byte) (hk : k < w ∨ w + n ≤ k) :
    Tab.find (s.coverWcb w n data).wcb k = Tab.find s.wcb k := by
  unfold State.coverWcb
  dsimp only
  induction s.wcb with
  | nil => rfl
  | cons x t ih =>
    obtain ⟨j, e⟩ := x
    rw [List.map_cons]
    by_cases hj : j = k
    · subst hj
      rw [if_neg (by simp only [Bool.and_eq_true, decide_eq_true_eq]; omega)]
      simp [Tab.find]
    · split <;> simp only [Tab.find, if_neg hj] <;> exact ih

/-- A stream changes entries and queues. -/
def StreamFrame (s t : State) : Prop := t = { s with wcb := t.wcb, pch := t.pch }

theorem StreamFrame.refl (s : State) : StreamFrame s s := rfl

theorem StreamFrame.trans (hst : StreamFrame s t) (htu : StreamFrame t u) : StreamFrame s u := by
  unfold StreamFrame at *
  rw [htu, hst]

theorem StreamFrame.dram (h : StreamFrame s t) (a : Nat) : t.dram a = s.dram a := by
  rw [h]
  rfl

theorem StreamFrame.reg (h : StreamFrame s t) (a : Nat) : t.reg a = s.reg a := by
  rw [h]
  rfl

theorem StreamFrame.mem (h : StreamFrame s t) : t.mem = s.mem := by rw [h]

theorem StreamFrame.keySlotAt (h : StreamFrame s t) (a : Nat) : t.keySlotAt a = s.keySlotAt a := by
  rw [h]
  rfl

/-- The burst of one piece of a stream. -/
structure StreamBurst (r : Req) (x m : Nat) (bs : List Byte) (slot : Nat) : Prop where
  client : r.client = .stream
  write : r.write = true
  addr : r.addr = 64 * x
  words : r.words = m
  data : r.data = bs
  keySlot : r.keySlot = slot

theorem State.queueStream_one (s : State) {x m slot : Nat} {bs : List Byte} (hm : 0 < m) (hhalf : x + m ≤ 16 * (x / 16) + 16)
    (hlen : bs.length = 64 * m) : ∃ (r : Req) (covered : State), StreamBurst r x m bs slot ∧
      covered = s.coverWcb x m (fun w => slice (bs.drop (64 * w - 64 * x)) 0 64) ∧
      s.queueStream slot (64 * x) bs = covered.setPch (pchOf (64 * x)) { covered.pchAt (pchOf (64 * x)) with
        wr := (covered.pchAt (pchOf (64 * x))).wr ++ [r] } := by
  have h1 : 64 * x / 64 = x := by omega
  have h2 : 64 * m / 64 = m := by omega
  have h3 : slice (bs.drop (64 * x - 64 * x)) 0 (64 * m) = bs := by
    rw [Nat.sub_self, List.drop_zero, ← hlen, slice_all]
  unfold State.queueStream
  rw [hlen, halfFrames_one hm hhalf, forAll_singleton, h1, h2]
  exact ⟨_, _, ⟨rfl, rfl, rfl, rfl, h3, rfl⟩, rfl, rfl⟩

/-- What a stream's data gives a word. -/
def streamWord (lo : Nat) (data : List Byte) (w : Nat) : List Byte := slice (data.drop (64 * w - 64 * lo)) 0 64

/-- What the entry of a word shows once a stream has given it the word. -/
def streamShown (lo : Nat) (data : List Byte) (w : Nat) (o : Option (Nat × List Byte)) : Option (Nat × List Byte) :=
  o.map (fun _ => (2 ^ 128 - 1, streamWord lo data w))

theorem streamShown_streamShown (lo : Nat) (data : List Byte) (w : Nat) (o : Option (Nat × List Byte)) :
    streamShown lo data w (streamShown lo data w o) = streamShown lo data w o := by
  cases o <;> rfl

/-- What the entry of a word shows, if there is one. -/
def State.shownAt (s : State) (w : Nat) : Option (Nat × List Byte) := (Tab.find s.wcb w).map WcbEntry.shown

/-- One piece of a stream, as WHOLE_WORD_STREAM queues it. -/
def State.streamPiece (s : State) (a : Nat) (data : List Byte) (b : Nat × Nat) : State :=
  s.queueStream (s.keySlotAt b.1) b.1 (slice (data.drop (b.1 - a)) 0 (64 * b.2))

theorem slice_streamWord {lo x m w : Nat} (data : List Byte) (hlo : lo ≤ x) (hx : x ≤ w) (hw : w < x + m) :
    slice ((slice (data.drop (64 * x - 64 * lo)) 0 (64 * m)).drop (64 * w - 64 * x)) 0 64 = streamWord lo data w := by
  have hget : ∀ k, k < 64 → (slice ((slice (data.drop (64 * x - 64 * lo)) 0 (64 * m)).drop (64 * w - 64 * x)) 0 64).getD k 0 =
      (streamWord lo data w).getD k 0 := by
    intro k hk
    have hin : 64 * w - 64 * x + (0 + k) < 64 * m := by omega
    have hoff : 64 * x - 64 * lo + (0 + (64 * w - 64 * x + (0 + k))) = 64 * w - 64 * lo + (0 + k) := by omega
    rw [streamWord, getD_slice _ _ hk, getD_slice _ _ hk, getD_drop, getD_slice _ _ hin, getD_drop, getD_drop, hoff]
  refine List.ext_getElem (by rw [streamWord, length_slice, length_slice]) fun k h1 h2 => ?_
  have h := hget k (by rwa [length_slice] at h1)
  rwa [List.getD_eq_getElem _ _ h1, List.getD_eq_getElem _ _ h2] at h

theorem State.shownAt_coverWcb (s : State) {w n k : Nat} (data : Nat → List Byte) : (s.coverWcb w n data).shownAt k =
    if w ≤ k ∧ k < w + n then (s.shownAt k).map (fun _ => (2 ^ 128 - 1, data k)) else s.shownAt k := by
  unfold State.shownAt
  split_ifs with h
  · rw [State.find_coverWcb s data h.1 h.2, Option.map_map, Option.map_map]
    rfl
  · rw [State.find_coverWcb_other s data (by omega)]

/-- What one piece of a stream leaves: the entries of its words show its data, and its burst is queued behind the others. -/
theorem State.streamPiece_spec (s : State) {lo x m : Nat} (data : List Byte) (hm : 0 < m) (hlo : lo ≤ x) (hhalf : x + m ≤ 16 * (x / 16) + 16) :
    StreamFrame s (s.streamPiece (64 * lo) data (64 * x, m)) ∧
    (∀ w, (s.streamPiece (64 * lo) data (64 * x, m)).shownAt w =
      if x ≤ w ∧ w < x + m then streamShown lo data w (s.shownAt w) else s.shownAt w) ∧
    (∀ p, ∀ r ∈ (s.pchAt p).wr, r ∈ ((s.streamPiece (64 * lo) data (64 * x, m)).pchAt p).wr) ∧
    ∃ r ∈ ((s.streamPiece (64 * lo) data (64 * x, m)).pchAt (pchOf (64 * x))).wr,
      StreamBurst r x m (slice (data.drop (64 * x - 64 * lo)) 0 (64 * m)) (s.keySlotAt (64 * x)) := by
  obtain ⟨r, covered, hburst, hcovered, hqueue⟩ := s.queueStream_one (slot := s.keySlotAt (64 * x))
    (bs := slice (data.drop (64 * x - 64 * lo)) 0 (64 * m)) hm hhalf (length_slice _ _ _)
  have hpch : covered.pch = s.pch := by rw [hcovered]; rfl
  have hframe : StreamFrame s covered := by rw [hcovered]; rfl
  have hat : ∀ p, covered.pchAt p = s.pchAt p := fun p => by rw [State.pchAt, hpch]; rfl
  unfold State.streamPiece
  rw [hqueue]
  refine ⟨hframe.trans rfl, fun w => ?_, fun p r' hr' => ?_, r, ?_, hburst⟩
  · have hshown : ∀ p c, (covered.setPch p c).shownAt w = covered.shownAt w := fun _ _ => rfl
    rw [hshown, hcovered, State.shownAt_coverWcb]
    by_cases hw : x ≤ w ∧ w < x + m
    · rw [if_pos hw, if_pos hw, slice_streamWord data hlo hw.1 hw.2, streamShown]
    · rw [if_neg hw, if_neg hw]
  · by_cases hp : p = pchOf (64 * x)
    · subst hp
      rw [State.pchAt_setPch, hat]
      exact List.mem_append_left _ hr'
    · rw [State.pchAt_setPch_other _ _ _ _ hp, hat]
      exact hr'
  · rw [State.pchAt_setPch]
    exact List.mem_append_right _ List.mem_cons_self

/-- What a whole stream leaves. -/
structure Streamed (s t : State) (lo n : Nat) (data : List Byte) : Prop where
  frame : StreamFrame s t
  outside : ∀ w, w < lo ∨ lo + n ≤ w → t.shownAt w = s.shownAt w
  within : ∀ w, lo ≤ w → w < lo + n → t.shownAt w = streamShown lo data w (s.shownAt w)
  queued : ∀ x m, (64 * x, m) ∈ halfFrames (64 * lo) (64 * n) →
    ∃ r ∈ (t.pchAt (pchOf (64 * x))).wr, StreamBurst r x m (slice (data.drop (64 * x - 64 * lo)) 0 (64 * m)) (s.keySlotAt (64 * x))

theorem State.streamed (s : State) {lo n : Nat} (hn : 0 < n) (data : List Byte) :
    Streamed s (forAll (halfFrames (64 * lo) (64 * n)) (fun b s => s.streamPiece (64 * lo) data b) s) lo n data := by
  have hpiece : ∀ b ∈ halfFrames (64 * lo) (64 * n), ∀ t : State, StreamFrame s t → StreamFrame s (t.streamPiece (64 * lo) data b) := by
    intro b hb t ht
    obtain ⟨x, m, rfl, hm, hlo, -, hhalf⟩ := mem_halfFrames hn hb
    exact ht.trans (t.streamPiece_spec data hm hlo hhalf).1
  refine ⟨forAll_keeps (P := StreamFrame s) hpiece (.refl s), fun w hw => ?_, fun w hlow hwn => ?_, fun x m hb => ?_⟩
  · refine forAll_keeps (P := fun t => t.shownAt w = s.shownAt w) (fun b hb t ht => ?_) rfl
    obtain ⟨x, m, rfl, hm, hlo, hhi, hhalf⟩ := mem_halfFrames hn hb
    rw [(t.streamPiece_spec data hm hlo hhalf).2.1 w, if_neg (by omega), ht]
  · obtain ⟨x, m, hb, hxw, hwm⟩ := exists_halfFrame hlow hwn
    obtain ⟨x', m', heq, hm, hlo, -, hhalf⟩ := mem_halfFrames hn hb
    obtain ⟨rfl, rfl⟩ : x = x' ∧ m = m' := by simpa using heq
    have hstep : ∀ b ∈ halfFrames (64 * lo) (64 * n), ∀ t : State, (t.streamPiece (64 * lo) data b).shownAt w = t.shownAt w ∨
        (t.streamPiece (64 * lo) data b).shownAt w = streamShown lo data w (t.shownAt w) := by
      intro b hb t
      obtain ⟨x, m, rfl, hm, hlo, -, hhalf⟩ := mem_halfFrames hn hb
      rw [(t.streamPiece_spec data hm hlo hhalf).2.1 w]
      split_ifs
      · exact Or.inr rfl
      · exact Or.inl rfl
    refine forAll_reaches (P := fun t => t.shownAt w = s.shownAt w ∨ t.shownAt w = streamShown lo data w (s.shownAt w))
      (Q := fun t => t.shownAt w = streamShown lo data w (s.shownAt w)) (fun b hb t ht => ?_) (fun b hb t ht => ?_) hb (fun t ht => ?_) (Or.inl rfl)
    · rcases hstep b hb t with h | h
      · rwa [h]
      · rw [h]
        exact Or.inr (ht.elim (congrArg _) fun ht => by rw [ht, streamShown_streamShown])
    · rcases hstep b hb t with h | h
      · rwa [h]
      · rw [h, ht, streamShown_streamShown]
    · rw [(t.streamPiece_spec data hm hlo hhalf).2.1 w, if_pos ⟨hxw, hwm⟩]
      exact ht.elim (congrArg _) fun ht => by rw [ht, streamShown_streamShown]
  · obtain ⟨x', m', heq, hm, hlo, -, hhalf⟩ := mem_halfFrames hn hb
    obtain ⟨rfl, rfl⟩ : x = x' ∧ m = m' := by simpa using heq
    refine forAll_reaches (P := StreamFrame s) (Q := fun t => ∃ r ∈ (t.pchAt (pchOf (64 * x))).wr,
      StreamBurst r x m (slice (data.drop (64 * x - 64 * lo)) 0 (64 * m)) (s.keySlotAt (64 * x))) hpiece (fun b hb t ht => ?_) hb (fun t ht => ?_) (.refl s)
    · obtain ⟨x', m', rfl, hm', hlo', -, hhalf'⟩ := mem_halfFrames hn hb
      obtain ⟨r, hr, hburst⟩ := ht
      exact ⟨r, (t.streamPiece_spec data hm' hlo' hhalf').2.2.1 _ r hr, hburst⟩
    · rw [← ht.keySlotAt]
      exact (t.streamPiece_spec data hm hlo hhalf).2.2.2

theorem exec_wholeWordStream {a n : Nat} {data : List Byte} (hlen : data.length = 64 * n) (hn : 0 < n) (hfit : 64 * a + 64 * n ≤ stackedEnd) :
    exec (.wholeWordStream (64 * a) data) s = .next (forAll (halfFrames (64 * a) (64 * n)) (fun b s => s.streamPiece (64 * a) data b) s) := by
  have h1 : 64 * a / 64 * 64 = 64 * a := by omega
  have h2 : 64 * n / 64 * 64 = 64 * n := by omega
  have h3 : ¬ (64 * n = 0 || decide (stackedEnd < 64 * a + 64 * n)) = true := by
    simp only [Bool.or_eq_true, decide_eq_true_eq]
    omega
  change execWholeWordStream (64 * a) data s = _
  unfold execWholeWordStream
  rw [hlen, h1, h2]
  exact if_neg h3

/-- A byte of a word that an entry held reads as the stream's data, any other as before. -/
theorem Streamed.byte_within {lo n k : Nat} {data : List Byte} (h : Streamed s t lo n data) (hlen : data.length = 64 * n) (hk : k < data.length) :
    if (Tab.find s.wcb ((64 * lo + k) / 64)).isSome then some (t.byte (64 * lo + k)) = data[k]? else t.byte (64 * lo + k) = s.byte (64 * lo + k) := by
  have hshown := h.within ((64 * lo + k) / 64) (by omega) (by omega)
  unfold State.shownAt at hshown
  cases hs : Tab.find s.wcb ((64 * lo + k) / 64) with
  | none =>
    rw [hs] at hshown
    exact State.byte_congr (h.frame.dram _) (by rw [hs]; exact hshown)
  | some e0 =>
    rw [hs] at hshown
    cases ht : Tab.find t.wcb ((64 * lo + k) / 64) with
    | none => rw [ht] at hshown; exact absurd hshown (by simp [streamShown])
    | some e =>
      rw [ht] at hshown
      obtain ⟨hmask, hdata⟩ : e.mask = 2 ^ 128 - 1 ∧ e.data = streamWord lo data ((64 * lo + k) / 64) := by
        simpa only [Option.map_some, streamShown, WcbEntry.shown, Option.some.injEq, Prod.mk.injEq] using hshown
      have hoff : 64 * ((64 * lo + k) / 64) - 64 * lo + (0 + (64 * lo + k) % 64) = k := by omega
      have hmod : (64 * lo + k) % 64 < 64 := Nat.mod_lt _ (by decide)
      rw [Option.isSome_some, if_pos rfl, State.byte_of_buffered ht, WcbEntry.over_full hmask hmod, hdata, streamWord, getD_slice _ _ hmod, getD_drop, hoff,
        List.getD_eq_getElem _ _ hk, List.getElem?_eq_getElem hk]

theorem Streamed.byte_outside {lo n b : Nat} {data : List Byte} (h : Streamed s t lo n data) (hb : b < 64 * lo ∨ 64 * lo + 64 * n ≤ b) :
    t.byte b = s.byte b :=
  State.byte_congr (h.frame.dram b) (h.outside (b / 64) (by omega))

/-! ### The end of a stream's burst (R256, R278) -/

/-- A write of whole words that no entry holds stores them and nothing else. -/
theorem State.endWrite_unbuffered {r : Req} (hclient : r.client = .stream) (h : ∀ w ∈ wordsOf r.addr (64 * r.words), Tab.find s.wcb w = none) :
    s.endWrite r = s.storeBurst r := by
  unfold State.endWrite
  extract_lets marked stored kept
  have hmarked : marked = [] := List.filter_eq_nil_iff.mpr fun w hw => by rw [h w hw]; simp
  have hkept : kept = stored := by
    dsimp only [kept]
    rw [hmarked]
    exact forAll_nil _ _
  rw [if_neg (by simp [hclient]), hkept]

theorem State.act_eq (s : State) (c owner n : Nat) : ∃ m, s.act c owner n = { s with meter := m } := by
  unfold State.act State.addModel
  split
  · exact ⟨s.meter, rfl⟩
  · dsimp only
    split
    · exact ⟨_, rfl⟩
    · exact ⟨s.meter, rfl⟩

/-- Marks and errors of words go, and nothing else. -/
theorem State.cleanWords_spec (s : State) (ws : List Nat) : (∃ p u, forAll ws (fun w s => s.cleanWord w) s = { s with poison := p, upsets := u }) ∧
    ∀ w ∈ ws, Tab.find (forAll ws (fun w s => s.cleanWord w) s).poison w = none ∧ Tab.find (forAll ws (fun w s => s.cleanWord w) s).upsets w = none := by
  refine ⟨forAll_keeps (P := fun t => ∃ p u, t = { s with poison := p, upsets := u }) (fun w _ t ht => ?_) ⟨s.poison, s.upsets, rfl⟩, fun w hw =>
    forAll_of_mem (P := fun t => Tab.find t.poison w = none ∧ Tab.find t.upsets w = none) (fun x _ t ht => ?_) hw (fun t => ?_) s⟩
  · obtain ⟨p, u, rfl⟩ := ht
    exact ⟨_, _, rfl⟩
  · simp only [State.cleanWord, Tab.find_erase, ht.1, ht.2, ite_self, and_self]
  · simp only [State.cleanWord, Tab.find_erase_self, and_self]

/-- The keys of words once a range has been written under one: those that differ from their block's are listed. -/
theorem Tab.find_inkFold (k : List Byte) (c : Nat → Prop) [DecidablePred c] (tab : Tab (List Byte)) (x n w : Nat) :
    Tab.find ((List.range n).foldl (fun t i => if c (x + i) then Tab.erase t (x + i) else Tab.insert t (x + i) k) tab) w =
      if x ≤ w ∧ w < x + n then (if c w then none else some k) else Tab.find tab w := by
  induction n with
  | zero => rw [if_neg (by omega)]; rfl
  | succ n ih =>
    rw [List.range_succ, List.foldl_append, List.foldl_cons, List.foldl_nil]
    by_cases hw : x + n = w
    · subst hw
      by_cases hc : c (x + n) <;> simp [hc]
    · have hiff : (x ≤ w ∧ w < x + (n + 1)) ↔ (x ≤ w ∧ w < x + n) := by omega
      rw [if_congr hiff rfl rfl, ← ih]
      split_ifs
      · exact Tab.find_erase_ne _ hw
      · exact Tab.find_insert_ne _ _ hw

theorem State.stackInk_inkWords (s : State) (x n w : Nat) (k : List Byte) :
    (s.inkWords x n k).stackInk w = if x ≤ w ∧ w < x + n then k else s.stackInk w := by
  have hfold := Tab.find_inkFold k (fun j => Tab.read s.blockInks [] (j / 8192) = k) s.far.inks x n w
  simp only [State.stackInk, State.inkWords, hfold]
  split_ifs with hw hk
  · exact hk
  · rfl
  · rfl

theorem State.legible_inkWords (s : State) (x n w : Nat) (k : List Byte) :
    (s.inkWords x n k).legible w = if x ≤ w ∧ w < x + n then k == (s.keyOf (s.keySlotAt (64 * w))).key else s.legible w := by
  have hkey : ((s.inkWords x n k).keyOf ((s.inkWords x n k).keySlotAt (64 * w))).key = (s.keyOf (s.keySlotAt (64 * w))).key := rfl
  rw [State.legible, hkey, State.stackInk_inkWords]
  split_ifs <;> rfl

/-- Memory once a burst's words stand under the key of its slot. -/
def State.burstCells (s : State) (r : Req) : State :=
  (s.inkWords (r.addr / 64) r.words (s.keyOf r.keySlot).key).setBytes r.addr r.data

theorem State.storeBurst_eq (s : State) (r : Req) : (∃ m p u, s.storeBurst r = { s.burstCells r with meter := m, poison := p, upsets := u }) ∧
    ∀ w ∈ wordsOf r.addr (64 * r.words), Tab.find (s.storeBurst r).poison w = none ∧ Tab.find (s.storeBurst r).upsets w = none := by
  obtain ⟨m, hact⟩ := (s.burstCells r).act_eq 10 (s.ownerVf (granuleOf r.addr)) r.words
  have hstore : s.storeBurst r = forAll (wordsOf r.addr (64 * r.words)) (fun w s => s.cleanWord w) { s.burstCells r with meter := m } :=
    congrArg (forAll (wordsOf r.addr (64 * r.words)) (fun w s => s.cleanWord w)) hact
  rw [hstore]
  obtain ⟨⟨p, u, hclean⟩, hgone⟩ := ({ s.burstCells r with meter := m } : State).cleanWords_spec (wordsOf r.addr (64 * r.words))
  exact ⟨⟨m, p, u, hclean⟩, hgone⟩

theorem State.byte_burstCells_in {r : Req} {k : Nat} (haddr : r.addr % 64 = 0) (hlen : r.data.length = 64 * r.words) (hk : k < r.data.length)
    (hwcb : Tab.find s.wcb ((r.addr + k) / 64) = none) (hslot : s.keySlotAt (r.addr + k) = r.keySlot) : (s.burstCells r).byte (r.addr + k) = r.data[k] := by
  have hword : granuleOf (64 * ((r.addr + k) / 64)) = granuleOf (r.addr + k) := by
    unfold granuleOf
    omega
  have hkey : s.keySlotAt (64 * ((r.addr + k) / 64)) = r.keySlot := by rw [State.keySlotAt, hword, ← State.keySlotAt, hslot]
  have hlegible : (s.inkWords (r.addr / 64) r.words (s.keyOf r.keySlot).key).legible ((r.addr + k) / 64) = true := by
    rw [State.legible_inkWords, if_pos ⟨by omega, by omega⟩, hkey, beq_self_eq_true]
  have hclear : (s.inkWords (r.addr / 64) r.words (s.keyOf r.keySlot).key).inClear (r.addr + k) = true := by rw [State.inClear, hlegible, Bool.or_true]
  exact State.byte_setBytes_in hk hclear hwcb

theorem State.byte_burstCells_out {r : Req} {b : Nat} (haddr : r.addr % 64 = 0) (hlen : r.data.length = 64 * r.words)
    (hb : b < r.addr ∨ r.addr + 64 * r.words ≤ b) : (s.burstCells r).byte b = s.byte b := by
  have hlegible : (s.inkWords (r.addr / 64) r.words (s.keyOf r.keySlot).key).legible (b / 64) = s.legible (b / 64) := by
    rw [State.legible_inkWords, if_neg (by omega)]
  refine (State.byte_setBytes_out _ (by omega)).trans (State.byte_congr ?_ rfl)
  unfold State.dram
  rw [hlegible]
  rfl

/-- Whole words of a stream's burst reach the cells: their bytes and no other, and no mark or error is left on them. -/
theorem State.storeBurst_spec {r : Req} (haddr : r.addr % 64 = 0) (hlen : r.data.length = 64 * r.words)
    (hwords : ∀ k, k < 64 * r.words → Tab.find s.wcb ((r.addr + k) / 64) = none ∧ s.keySlotAt (r.addr + k) = r.keySlot) :
    (∀ a, (s.storeBurst r).reg a = s.reg a) ∧ (s.storeBurst r).pch = s.pch ∧
    (∀ k, k < r.data.length → some ((s.storeBurst r).byte (r.addr + k)) = r.data[k]?) ∧
    (∀ b, b < r.addr ∨ r.addr + 64 * r.words ≤ b → (s.storeBurst r).byte b = s.byte b) ∧
    (∀ w, r.addr / 64 ≤ w → w < r.addr / 64 + r.words → Tab.find (s.storeBurst r).poison w = none ∧ Tab.find (s.storeBurst r).upsets w = none) := by
  obtain ⟨⟨m, p, u, hstore⟩, hgone⟩ := s.storeBurst_eq r
  have hbyte : ∀ b, (s.storeBurst r).byte b = (s.burstCells r).byte b := fun b => by rw [hstore]; rfl
  refine ⟨fun a => by rw [hstore]; rfl, by rw [hstore]; rfl, fun k hk => ?_, fun b hb => ?_, fun w hlo hhi => hgone w ?_⟩
  · obtain ⟨hwcb, hslot⟩ := hwords k (by omega)
    rw [hbyte, State.byte_burstCells_in haddr hlen hk hwcb hslot, List.getElem?_eq_getElem hk]
  · rw [hbyte, State.byte_burstCells_out haddr hlen hb]
  · rw [show r.addr = 64 * (r.addr / 64) by omega]
    exact mem_wordsOf.mpr ⟨hlo, hhi⟩

theorem State.burstDone_stream (s : State) {p end_ : Nat} {r : Req} (hwrite : r.write = true) (hclient : r.client = .stream) (data : List Byte)
    (whole : List Nat) (errs : List WordErr) : s.burstDone p r end_ data whole errs = (s.setPch p ({ s.pchAt p with service := none }.promote 96)).endWrite r := by
  unfold State.burstDone
  dsimp only
  rw [if_pos hwrite, if_neg (by simp [hclient])]

theorem State.sameMemory_of_byte (hfree : t.free = s.free) (hbyte : ∀ b, t.byte b = s.byte b) : SameMemory s t := by
  intro b
  have hsame : ({ t with free := s.free } : State) = t := by rw [← hfree]
  rw [hsame, hbyte]

/-! ### Pool atomics (R268, R269) -/

theorem State.inClear_of_pool (s : State) {a : Nat} (h : stackedEnd ≤ a) : s.inClear a = true := by simp [State.inClear, h]

theorem stackedEnd_le_pool (off : Nat) : stackedEnd ≤ poolBase + off := by
  unfold stackedEnd poolBase
  omega

/-- Bytes of a pool word that no entry covers read as they are stored. -/
theorem State.bytes_setNum (s : State) {a n : Nat} (v : Nat) (hpool : stackedEnd ≤ a) (hone : a % 64 + n ≤ 64) (hwcb : Tab.find s.wcb (a / 64) = none) :
    (s.setNum a n v).bytes a n = leBytes n v := by
  refine List.ext_getElem (by rw [State.length_bytes, length_leBytes]) fun k h1 h2 => ?_
  have hk : k < n := by rwa [State.length_bytes] at h1
  have hword : (a + k) / 64 = a / 64 := by omega
  rw [State.getElem_bytes]
  exact State.byte_setBytes_in h2 (s.inClear_of_pool (by omega)) (by rw [hword, hwcb])

theorem exec_poolAdd {off n : Nat} {wide : Bool} {x y : Word64} (hn : n = if wide then 8 else 4) (halign : off % n = 0) (hfit : off + n ≤ 2 ^ 28) :
    exec (.poolAtomic .add off wide x y []) s = .next ((s.emit (.atomic [s.num (poolBase + off) n])).setNum (poolBase + off) n
      ((s.num (poolBase + off) n + x.toNat) % 2 ^ (8 * n))) := by
  subst hn
  change execPoolAtomic .add off wide x y [] s = _
  unfold execPoolAtomic
  dsimp only
  rw [halign, if_neg (by simp)]
  exact if_neg (by simpa using hfit)

/-- Nibbles laid over a byte twice are laid over it once. -/
theorem WcbEntry.over_over (e : WcbEntry) (k : Nat) (b : Byte) : e.over k (e.over k b) = e.over k b := by
  have hnew := (e.data.getD k 0).isLt
  have hb := b.isLt
  unfold WcbEntry.over
  refine BitVec.eq_of_toNat_eq ?_
  simp only [BitVec.toNat_ofNat]
  split_ifs <;> omega

/-- Writing back what a pool range reads as changes nothing that memory reads as. -/
theorem State.byte_writeBack (s : State) {a n : Nat} (hpool : stackedEnd ≤ a) (b : Nat) : (s.setBytes a (s.bytes a n)).byte b = s.byte b := by
  by_cases hb : a ≤ b ∧ b < a + n
  · obtain ⟨j, rfl⟩ := Nat.exists_eq_add_of_le hb.1
    have hclear : s.inClear (a + j) = true := s.inClear_of_pool (by omega)
    have hj : j < (s.bytes a n).length := by
      rw [State.length_bytes]
      omega
    have hdram := (State.dram_setBytes hj hclear).trans (s.getElem_bytes hj)
    cases hwcb : Tab.find s.wcb ((a + j) / 64) with
    | none => exact (State.byte_of_unbuffered (s := s.setBytes a (s.bytes a n)) hwcb).trans hdram
    | some e =>
      refine (State.byte_of_buffered (s := s.setBytes a (s.bytes a n)) hwcb).trans ?_
      rw [hdram, State.byte_of_buffered hwcb, WcbEntry.over_over]
  · exact State.byte_setBytes_out s (by rw [State.length_bytes]; omega)

/-- A run of write-backs leaves memory as it read. -/
theorem State.writeBacks_spec (s : State) {n : Nat} {ws : List (Nat × Nat)} (hpool : ∀ w ∈ ws, stackedEnd ≤ w.1) (hold : ∀ w ∈ ws, w.2 = s.num w.1 n) :
    (forAll ws (fun w s => s.setNum w.1 n w.2) s).free = s.free ∧ ∀ b, (forAll ws (fun w s => s.setNum w.1 n w.2) s).byte b = s.byte b := by
  refine forAll_keeps (P := fun t => t.free = s.free ∧ ∀ b, t.byte b = s.byte b) (fun w hw t ht => ?_) ⟨rfl, fun _ => rfl⟩
  obtain ⟨hfree, hbyte⟩ := ht
  have hback : t.setNum w.1 n w.2 = t.setBytes w.1 (t.bytes w.1 n) := by
    rw [State.setNum, hold w hw, State.leBytes_num, State.bytes, State.bytes]
    exact congrArg _ (List.map_congr_left fun _ _ => (hbyte _).symm)
  rw [hback]
  exact ⟨hfree, fun b => (t.byte_writeBack (hpool w hw) b).trans (hbyte b)⟩

/-- A bit that is set in a word is set below the word's width. -/
theorem and_mod_of_lt {v m w : Nat} (hv : v < 2 ^ w) : v &&& (m % 2 ^ w) = v &&& m := by
  refine Nat.eq_of_testBit_eq fun i => ?_
  rw [Nat.testBit_and, Nat.testBit_and, Nat.testBit_mod_two_pow]
  by_cases hi : i < w
  · simp [hi]
  · rw [Nat.testBit_lt_two_pow (hv.trans_le (Nat.pow_le_pow_right (by decide) (Nat.not_lt.mp hi)))]
    simp

theorem State.num_lt (s : State) (a n : Nat) : s.num a n < 2 ^ (8 * n) := by
  have h := leNat_lt (s.bytes a n)
  rwa [State.length_bytes, show 256 = 2 ^ 8 from rfl, ← Nat.pow_mul] at h

/-- SETALL over masks of which one is met writes back what its words hold. -/
theorem State.poolWords_setall_of_set {a n x y j : Nat} {ms : List Word64} {m : Word64} (hm : ms[j]? = some m) (hset : s.num (a + n * j) n &&& m.toNat ≠ 0)
    {ws : List (Nat × Nat)} (hws : s.poolWords .setall a n x y ms = some ws) : ∀ w ∈ ws, a ≤ w.1 ∧ w.2 = s.num w.1 n := by
  have hmod := and_mod_of_lt (m := m.toNat) (s.num_lt (a + n * j) n)
  have hmem : (a + n * j, m.toNat % 2 ^ (8 * n)) ∈ ms.zipIdx.map (fun m => (a + n * m.2, m.1.toNat % 2 ^ (8 * n))) :=
    List.mem_map.mpr ⟨(m, j), List.mem_zipIdx_iff_getElem?.mpr hm, rfl⟩
  have hclear : (ms.zipIdx.map (fun m => (a + n * m.2, m.1.toNat % 2 ^ (8 * n)))).all (fun m => s.num m.1 n &&& m.2 == 0) = false := by
    refine Bool.eq_false_iff.mpr fun h => hset ?_
    have h0 := List.all_eq_true.mp h _ hmem
    rw [← hmod]
    simpa using h0
  dsimp only [State.poolWords] at hws
  split at hws
  · exact absurd hws (by simp)
  · obtain rfl := Option.some.inj hws
    intro w hw
    obtain ⟨x, hx, rfl⟩ := List.mem_map.mp hw
    obtain ⟨y, -, rfl⟩ := List.mem_map.mp hx
    exact ⟨Nat.le_add_right _ _, if_neg (by simp only [hclear, Bool.false_eq_true, not_false_eq_true])⟩

theorem exec_poolAtomic_cases (s : State) (op : PoolOp) (off : Nat) (wide : Bool) (x y : Word64) (ms : List Word64) :
    exec (.poolAtomic op off wide x y ms) s = .next s ∨
    ∃ ws o, s.poolWords op (poolBase + off) (if wide then 8 else 4) x.toNat y.toNat ms = some ws ∧
      exec (.poolAtomic op off wide x y ms) s = .next (forAll ws (fun w s => s.setNum w.1 (if wide then 8 else 4) w.2) (s.emit o)) := by
  change execPoolAtomic op off wide x y ms s = _ ∨ ∃ ws o, _ ∧ execPoolAtomic op off wide x y ms s = _
  unfold execPoolAtomic
  dsimp only
  generalize (if wide then 8 else 4) = n
  split
  · exact Or.inl rfl
  · split
    · exact Or.inl rfl
    next ws hws =>
      split
      · exact Or.inl rfl
      · exact Or.inr ⟨ws, _, hws, rfl⟩

/-- Settles O22: a stream queues its bursts and shows at once what entries hold of it, its burst's end stores its words and cleans
them, and a pool atomic changes its own word or nothing. -/
theorem firmwareStreamsAndPoolAtomics : Obligations.FirmwareStreamsAndPoolAtomics := by
  refine ⟨fun s a data ha hlen hne hfit => ?_, fun s p errs r data whole hservice hend hclient hwrite haddr hlen hfit hwords => ?_,
    fun s off wide x y halign hfit hwcb => ?_, fun s off wide x y ms j m hm hset => ?_⟩
  · obtain ⟨lo, rfl⟩ : ∃ lo, a = 64 * lo := ⟨a / 64, by omega⟩
    obtain ⟨n, hn⟩ : ∃ n, data.length = 64 * n := ⟨data.length / 64, by omega⟩
    have hpos : 0 < n := by
      have := List.length_pos_of_ne_nil hne
      omega
    have h := s.streamed (lo := lo) hpos data
    refine ⟨_, exec_wholeWordStream hn hpos (by omega), fun a _ => h.frame.reg a, h.frame.mem, fun b hb => ?_, fun k hk => h.byte_within hn hk,
      fun b hb => h.byte_outside (by omega)⟩
    rw [hn] at hb
    obtain ⟨x, m, rfl, -⟩ := mem_halfFrames hpos hb
    obtain ⟨r, hr, hburst⟩ := h.queued x m hb
    exact ⟨r, hr, hburst.client, hburst.write, hburst.addr, hburst.words, hburst.data, hburst.keySlot⟩
  · have hunbuffered : ∀ w ∈ wordsOf r.addr (64 * r.words), Tab.find s.wcb w = none := by
      intro w hw
      rw [show r.addr = 64 * (r.addr / 64) by omega] at hw
      obtain ⟨hlo, hhi⟩ := mem_wordsOf.mp hw
      have h := (hwords (64 * (w - r.addr / 64)) (by omega)).1
      rwa [show (r.addr + 64 * (w - r.addr / 64)) / 64 = w by omega] at h
    obtain ⟨hregs, hpch, hin, hout, hgone⟩ := State.storeBurst_spec (s := s.setPch p ({ s.pchAt p with service := none }.promote 96)) haddr hlen hwords
    refine ⟨_, (exec_burstComplete hservice hend errs).trans (congrArg _ ((State.burstDone_stream _ hwrite hclient _ _ _).trans
      (State.endWrite_unbuffered hclient hunbuffered))), fun a _ => (hregs a).trans (State.setPch_reg _ _ _ _), ?_, hin,
      fun b hb => (hout b hb).trans (State.setPch_byte _ _ _ _), hgone⟩
    rw [State.pchAt, hpch, ← State.pchAt, State.pchAt_setPch]
    exact PchState.service_promote _ _
  · generalize hw : (if wide then 8 else 4) = n at *
    have hone : (poolBase + off) % 64 + n ≤ 64 := by
      unfold poolBase
      cases wide <;> simp at hw <;> subst hw <;> omega
    refine ⟨_, exec_poolAdd hw.symm halign hfit, fun _ _ => rfl, rfl, ?_, fun b hb => ?_⟩
    · rw [State.num, State.bytes_setNum (s.emit _) _ (stackedEnd_le_pool off) hone hwcb, leNat_leBytes, show 256 = 2 ^ 8 from rfl, ← Nat.pow_mul, Nat.mod_mod]
    · exact (State.byte_setBytes_out _ (by rw [length_leBytes]; exact hb)).trans rfl
  · rcases exec_poolAtomic_cases s .setall off wide x y ms with h | ⟨ws, o, hws, h⟩
    · exact ⟨s, h, fun _ => rfl⟩
    · have hold := State.poolWords_setall_of_set hm hset hws
      obtain ⟨hfree, hbyte⟩ := (s.emit o).writeBacks_spec (fun w hw => (stackedEnd_le_pool off).trans (hold w hw).1) (fun w hw => (hold w hw).2)
      exact ⟨_, h, State.sameMemory_of_byte hfree hbyte⟩

end Sys2Proof.Machine
end

section
/-! What an engine does with a read that has come back (R250 to R255, R653): the reads it asks for, the marks that damaged words
leave, the lines of the sequence cache, and how a frame leaves. -/

namespace Sys2Proof.Machine

variable {s t : State} {e : Nat} {q x : Sequence} {l : Landed}

/-! ### Reads asked for (R240, R251) -/

/-- A sequence has asked for further reads. -/
structure Asked (q x : Sequence) : Prop where
  seq : x = { q with pending := x.pending, lines := x.lines }
  pending : q.pending ≤ x.pending

theorem Asked.refl (q : Sequence) : Asked q q := ⟨rfl, le_refl _⟩

theorem Asked.ask (h : Asked q x) (n : Nat) (ls : List Nat) : Asked q { x with pending := x.pending + n, lines := ls } where
  seq := by rw [h.seq]
  pending := h.pending.trans (Nat.le_add_right _ _)

theorem State.seqs_ownerFault (s : State) (vf a : Nat) : (s.ownerFault vf a).seqs = s.seqs := by
  have h := (s.occur_reported { cause := Cause.ownerFault 4, func := vf, subject := pchOf a, addr := a }).frame
  unfold State.ownerFault State.record
  rw [h]

/-- One read is asked for, or the access is not the tenant's and is refused (R187, R240). -/
theorem State.issueRead_asked (hx : s.seqHas e (Asked q)) (client : Client) (a words expect : Nat) (from_ : Option Landed) :
    ReadFrame s (s.issueRead e client a words expect from_) ∧ (s.issueRead e client a words expect from_).seqHas e (Asked q) := by
  obtain ⟨x, hfind, hasked⟩ := hx
  unfold State.issueRead
  rw [hfind]
  dsimp only
  split
  · have harrive := ReadArrives.arrive (s.setSeq e { x with pending := x.pending + 1 }) (pchOf a)
    exact ⟨(ReadFrame.setSeq _ _ _).trans (harrive _).reads, State.seqHas_of_seqs (harrive _).seqs (State.seqHas_setSeq (hasked.ask 1 x.lines))⟩
  · exact ⟨.record _ _, State.seqHas_of_seqs (State.seqs_ownerFault _ _ _) ⟨x, hfind, hasked⟩⟩

theorem State.issueReads_asked {α : Type} {as : List α} {f : α → State → State}
    (hf : ∀ a t, State.seqHas t e (Asked q) → ReadFrame t (f a t) ∧ (f a t).seqHas e (Asked q)) (hx : s.seqHas e (Asked q)) :
    ReadFrame s (forAll as f s) ∧ (forAll as f s).seqHas e (Asked q) :=
  forAll_keeps (P := fun t => ReadFrame s t ∧ t.seqHas e (Asked q))
    (fun a _ t ht => ⟨ht.1.trans (hf a t ht.2).1, (hf a t ht.2).2⟩) ⟨.refl s, hx⟩

theorem State.issueLines_asked (hx : s.seqHas e (Asked q)) (client : Client) (ws : List Nat) (from_ : Option Landed) :
    ReadFrame s (s.issueLines e client ws from_) ∧ (s.issueLines e client ws from_).seqHas e (Asked q) := by
  refine State.issueReads_asked (fun w t ht => ?_) hx
  obtain ⟨x, hfind, hasked⟩ := ht
  rw [hfind]
  dsimp only
  split
  · exact ⟨.refl t, x, hfind, hasked⟩
  · obtain ⟨hreads, hseq⟩ := State.issueRead_asked (s := t.setSeq e { x with lines := x.lines ++ [w] })
      (State.seqHas_setSeq (hasked.ask 0 (x.lines ++ [w]))) client (64 * w) 1 0 from_
    exact ⟨(ReadFrame.setSeq _ _ _).trans hreads, hseq⟩

/-! ### A read taken (R127) -/

/-- While other reads are outstanding, taking one only counts it. -/
theorem State.readTaken_of_more (hq : Tab.find s.seqs e = some q) (hmore : 2 ≤ q.pending) :
    s.readTaken e = s.setSeq e { q with pending := q.pending - 1 } := by
  unfold State.readTaken
  rw [hq]
  exact if_neg (by simp; omega)

theorem State.readTaken_setSeq (s : State) (e : Nat) (x : Sequence) (hmore : 2 ≤ x.pending) :
    (s.setSeq e x).readTaken e = (s.setSeq e x).setSeq e { x with pending := x.pending - 1 } :=
  State.readTaken_of_more (State.find_setSeq _ _ _) hmore

/-! ### Damaged words (R252, R281) -/

/-- A sequence may have been marked POISON. -/
def Marked (q x : Sequence) : Prop := x = { q with poison := x.poison }

theorem State.markPoison_marked (hx : s.seqHas e (Marked q)) (n : Nat) : (s.markPoison e n).seqHas e (Marked q) := by
  refine State.seqHas_onSeq hx fun x hx => ?_
  split
  · exact hx
  · unfold Marked at *
    rw [hx]

theorem State.occur_seqs (s : State) (o : Occ) : (s.occur o).1.seqs = s.seqs := by rw [(s.occur_reported o).frame]

theorem State.useBad_spec (s : State) (q : Sequence) (w : Nat) : ReadFrame s (s.useBad q w).1 ∧ (s.useBad q w).1.seqs = s.seqs := by
  unfold State.useBad
  split
  · exact ⟨.refl s, rfl⟩
  · exact ⟨(CountFrame.settlePool s w).reads.trans (.occur _ _), (State.occur_seqs _ _).trans (CountFrame.settlePool s w).seqs⟩

theorem State.usesHeld_marked (hx : s.seqHas e (Marked q)) (ls : List Landed) (ws : List Nat) :
    ReadFrame s (s.usesHeld e ls ws) ∧ (s.usesHeld e ls ws).seqHas e (Marked q) := by
  refine forAll_keeps (P := fun t => ReadFrame s t ∧ t.seqHas e (Marked q)) (fun w _ t ht => ?_) ⟨.refl s, hx⟩
  obtain ⟨hreads, hmarked⟩ := ht
  split
  next y _ _ =>
    obtain ⟨hbad, hseqs⟩ := t.useBad_spec y w
    exact ⟨hreads.trans (hbad.trans (.onSeq _ _ _)), State.markPoison_marked (State.seqHas_of_seqs hseqs hmarked) _⟩
  · exact ⟨hreads.trans (.onSeq _ _ _), State.markPoison_marked hmarked _⟩
  · exact ⟨hreads, hmarked⟩

theorem State.headerFault_of_find (hx : Tab.find s.seqs e = some x) (a : Nat) :
    ∃ o, s.headerFault e a = (s.occur o).1.markPoison e (s.occur o).2 := by
  unfold State.headerFault
  rw [hx]
  dsimp only
  exact ⟨_, rfl⟩

theorem State.headerFault_marked (hx : s.seqHas e (Marked q)) (a : Nat) :
    ReadFrame s (s.headerFault e a) ∧ (s.headerFault e a).seqHas e (Marked q) := by
  obtain ⟨x, hfind, hmarked⟩ := hx
  obtain ⟨o, h⟩ := State.headerFault_of_find hfind a
  rw [h]
  exact ⟨(ReadFrame.occur _ _).trans (.onSeq _ _ _), State.markPoison_marked (State.seqHas_of_seqs (State.occur_seqs _ _) ⟨x, hfind, hmarked⟩) _⟩

/-! ### A frame that leaves (R250, R252) -/

/-- A scan marks its sequence at most. -/
theorem State.scanFrame_marked (hx : s.seqHas e (Marked q)) (l : Landed) :
    ReadFrame s (s.scanFrame e l).1 ∧ (s.scanFrame e l).1.seqHas e (Marked q) := by
  unfold State.scanFrame
  split
  · exact ⟨.refl s, hx⟩
  · dsimp only
    split
    · exact ⟨.refl s, hx⟩
    · split_ifs
      · exact State.usesHeld_marked hx _ _
      · exact State.headerFault_marked hx _
      · exact State.usesHeld_marked hx _ _
      · exact ⟨.refl s, hx⟩

/-- A scanned frame leaves its engine, and its list waits for the survivor collector. -/
theorem State.finishFrame_scan (hx : Tab.find s.seqs e = some x) (hkind : l.kind ≠ 1) : ReadFrame s (s.finishFrame e l) ∧
    (s.finishFrame e l).seqHas e (fun y => y.frames = x.frames.erase l ∧ y.landed = x.landed ∧ y.returned.length = x.returned.length + 1) := by
  unfold State.finishFrame
  rw [hx]
  dsimp only
  rw [if_neg hkind]
  obtain ⟨hreads, hmarked⟩ := State.scanFrame_marked (q := { x with frames := x.frames.erase l })
    (s := (s.setSeq e { x with frames := x.frames.erase l }).act 11 x.vf ((s.setSeq e { x with frames := x.frames.erase l }).frameSlots x l))
    (State.seqHas_of_seqs (SendFrame.act _ _ _ _).seqs (State.seqHas_setSeq rfl)) l
  refine ⟨(ReadFrame.setSeq _ _ _).trans ((ReadFrame.act _ _ _ _).trans (hreads.trans (.onSeq _ _ _))), State.seqHas_onSeq hmarked fun y hy => ?_⟩
  unfold Marked at hy
  rw [hy]
  exact ⟨rfl, rfl, by simp⟩

/-- A bushel that has landed stands in its engine, its line reads asked for. -/
theorem State.engineTakes_spec {a kind : Nat} (hq : Tab.find s.seqs e = some q) (hback : q.back kind a = some l) (client : Client) :
    ∃ t x, ReadFrame s t ∧ Tab.find t.seqs e = some x ∧ Asked { q with landed := q.landed.erase l, frames := q.frames ++ [l] } x ∧
      s.engineTakes e a kind client = if q.holdsLines (s.frameLines q l) then t.finishFrame e l else t := by
  have hset : (s.setSeq e { q with landed := q.landed.erase l, frames := q.frames ++ [l] }).seqHas e
    (Asked { q with landed := q.landed.erase l, frames := q.frames ++ [l] }) := State.seqHas_setSeq (.refl _)
  obtain ⟨hreads, x, hfind, hasked⟩ := State.issueLines_asked hset client (s.frameLines q l) (some l)
  refine ⟨_, x, (ReadFrame.setSeq _ _ _).trans hreads, hfind, hasked, ?_⟩
  have hholds : x.holdsLines (s.frameLines q l) = q.holdsLines (s.frameLines q l) := by
    rw [hasked.seq]
    rfl
  unfold State.engineTakes
  rw [hq]
  dsimp only
  rw [hback]
  dsimp only
  rw [hfind]
  dsimp only
  rw [hholds]

theorem Sequence.kind_of_back {kind a : Nat} (h : q.back kind a = some l) : l.kind = kind ∧ l.addr = a := by
  have hp := List.find?_some h
  simpa using hp

/-! ### Lines of the sequence cache (R123) -/

/-- The cache has taken or evicted lines of a sequence. -/
def Cached (q x : Sequence) : Prop := x = { q with cached := x.cached, spilled := x.spilled }

theorem Cached.refl (q : Sequence) : Cached q q := rfl

theorem Cached.move (h : Cached q x) (cs ss : List Nat) : Cached q { x with cached := cs, spilled := ss } := by
  unfold Cached at *
  rw [h]

theorem State.seqs_queueStream (s : State) (slot a : Nat) (bs : List Byte) : (s.queueStream slot a bs).seqs = s.seqs := by
  unfold State.queueStream
  refine (forAll_frame (g := State.seqs) ?_ _).trans rfl
  exact fun _ _ => rfl

theorem State.spill_cached (hx : s.seqHas e (Cached q)) (k n : Nat) : (s.spill k n).seqHas e (Cached q) := by
  unfold State.spill
  split
  · exact hx
  next y hy =>
    refine State.seqHas_of_seqs (State.seqs_queueStream _ _ _ _) ?_
    obtain ⟨x, hfind, hcached⟩ := hx
    by_cases hk : e = k
    · subst hk
      obtain rfl := Option.some.inj (hfind.symm.trans hy)
      exact State.seqHas_setSeq (hcached.move _ _)
    · exact ⟨x, (State.find_setSeq_other _ _ _ _ hk).trans hfind, hcached⟩

theorem State.evictTo_cached (hx : s.seqHas e (Cached q)) (vf n : Nat) : (s.evictTo vf n).seqHas e (Cached q) := by
  induction n generalizing s with
  | zero => exact hx
  | succ n ih =>
    unfold State.evictTo
    split
    · refine ih ?_
      unfold State.evictLine
      dsimp only
      split
      · exact State.spill_cached (State.seqHas_of_seqs (t := s.drew) rfl hx) _ _
      · exact hx
    · exact hx

theorem State.writeLists_cached (hx : s.seqHas e (Cached q)) : (s.writeLists e).seqHas e (Cached q) := by
  obtain ⟨x, hfind, hcached⟩ := hx
  unfold State.writeLists State.writeLines
  rw [hfind]
  exact State.evictTo_cached (State.seqHas_setSeq (hcached.move _ _)) _ _

/-! ### The reads of each kind -/

theorem exec_rawRequest {e : SeqNo} {a n : Nat} (hq : Tab.find s.seqs e = some q) (hback : q.back 2 a = some l) (hplace : q.stage = stPLACE)
    (hline : extLineOf e a = none) (hmore : 2 ≤ q.pending) : exec (.rawRequest e a n) s =
      .next (((s.setSeq e { q with landed := q.landed.erase l }).setSeq e { q with landed := q.landed.erase l, gotLines := q.gotLines ++ [l] }).setSeq e
        { q with landed := q.landed.erase l, gotLines := q.gotLines ++ [l], pending := q.pending - 1 }) := by
  obtain ⟨-, haddr⟩ := Sequence.kind_of_back hback
  change execRawRequest e a n s = _
  unfold execRawRequest State.rawTaken
  rw [hq]
  dsimp only
  rw [hback]
  dsimp only
  rw [haddr, hline]
  dsimp only
  rw [State.onSeq_of_find (State.find_setSeq _ _ _), if_pos (by simp [hplace]), State.readTaken_setSeq _ _ _ (by exact hmore)]

theorem exec_lineReadReturn {e : SeqNo} {w : Nat} (hq : Tab.find s.seqs e = some q) (hback : q.back 3 (64 * w) = some l) (hentry : q.stage ≠ stENTRY)
    (hframes : q.frames = []) (hmore : 2 ≤ q.pending) : exec (.lineReadReturn e w) s =
      .next ((s.setSeq e { q with landed := q.landed.erase l, gotLines := q.gotLines ++ [l] }).setSeq e
        { q with landed := q.landed.erase l, gotLines := q.gotLines ++ [l], pending := q.pending - 1 }) := by
  change execLineReadReturn e w s = _
  unfold execLineReadReturn
  rw [hq]
  dsimp only
  rw [hback]
  dsimp only
  rw [if_neg hentry, hframes, forAll_nil, State.readTaken_setSeq _ _ _ (by exact hmore)]

theorem State.heldBad_setSeq (s : State) (e : Nat) (q : Sequence) (ls : List Landed) (w : Nat) : (s.setSeq e q).heldBad ls w = s.heldBad ls w := rfl

/-- A good list line asks for the bushels that it names (R653). -/
theorem exec_listLineReturn {e : SeqNo} {i : Index} {w : Nat} (hq : Tab.find s.seqs e = some q) (hback : q.back 4 (64 * w) = some l)
    (hindex : s.indexOf q = some i) (hgood : s.heldBad [l] w = none) : ∃ t, ReadFrame s t ∧
      t.seqHas e (Asked { q with landed := q.landed.erase l, listWait := q.listWait.filter (fun y => y.2 != w) }) ∧
      exec (.listLineReturn e w) s = .next (t.readTaken e) := by
  have hset : (s.setSeq e { q with landed := q.landed.erase l, listWait := q.listWait.filter (fun y => y.2 != w) }).seqHas e
    (Asked { q with landed := q.landed.erase l, listWait := q.listWait.filter (fun y => y.2 != w) }) := State.seqHas_setSeq (.refl _)
  obtain ⟨hreads, hasked⟩ := State.issueReads_asked (as := q.listWait.filter (fun y => y.2 == w))
    (f := fun y u => forAll ((u.seen [l]).lineBushels i l.expect y.1 y.2) (fun a u => u.issueRead e (.scan e) a 32 y.1) u)
    (fun y t ht => State.issueReads_asked (fun a u hu => State.issueRead_asked hu _ _ _ _ _) ht) hset
  refine ⟨_, (ReadFrame.setSeq _ _ _).trans hreads, hasked, ?_⟩
  change execListLineReturn e w s = _
  unfold execListLineReturn
  rw [hq]
  dsimp only
  rw [hback, hindex]
  dsimp only
  rw [State.heldBad_setSeq, hgood]
  rfl

theorem exec_survivorCollect {e : SeqNo} {c : Nat} {cs : List Cand} {rest : List (Nat × List Cand)} (hq : Tab.find s.seqs e = some q)
    (hreturned : q.returned = (c, cs) :: rest) : ∃ t : State,
      t.seqHas e (Cached { q with returned := rest, survivors := Tab.insert q.survivors c (collect (Tab.read q.survivors [] c) cs) }) ∧
      exec (.survivorCollect e) s = .next (t.readTaken e) := by
  refine ⟨_, State.writeLists_cached (State.seqHas_setSeq (s := s.setSeq e { q with returned := rest }) (.refl _)), ?_⟩
  change execSurvivorCollect e s = _
  unfold execSurvivorCollect
  rw [hq]
  dsimp only
  rw [hreturned]
  dsimp only
  rw [State.collectInto, State.onSeq_of_find (State.find_setSeq _ _ _)]

/-- Settles O18: a read that has come back is taken, its bushel waits for its lines or leaves the engine. -/
theorem engineTakesLandedBursts : Obligations.EngineTakesLandedBursts := by
  refine ⟨fun s e q a n l hq hback hplace hline hmore => ?_, fun s e q w l hq hback hentry hframes hmore => ?_,
    fun s e q i w l hq hback hindex hgood hmore => ?_, fun s e q c cs rest hq hreturned hmore => ?_,
    fun s e q a l hq => ⟨fun hback hlacks => ?_, fun hback hholds => ?_, fun hback hlacks => ?_⟩⟩
  · exact ⟨_, exec_rawRequest hq hback hplace hline hmore, fun _ _ => rfl, ReadFrame.sameMemory rfl, State.find_setSeq _ _ _⟩
  · exact ⟨_, exec_lineReadReturn hq hback hentry hframes hmore, fun _ _ => rfl, ReadFrame.sameMemory rfl, State.find_setSeq _ _ _⟩
  · obtain ⟨t, hreads, ⟨x, hfind, hasked⟩, hexec⟩ := exec_listLineReturn hq hback hindex hgood
    have hpending : q.pending ≤ x.pending := hasked.pending
    rw [State.readTaken_of_more hfind (hmore.trans hpending)] at hexec
    refine ⟨_, _, hexec, (hreads.trans (.setSeq _ _ _)).sameMemory, State.find_setSeq _ _ _, ?_, ?_, Nat.sub_le_sub_right hpending 1, ?_⟩ <;>
      rw [hasked.seq]
  · obtain ⟨t, ⟨x, hfind, hcached⟩, hexec⟩ := exec_survivorCollect hq hreturned
    unfold Cached at hcached
    have hpending : x.pending = q.pending := by rw [hcached]
    rw [State.readTaken_of_more hfind (by omega)] at hexec
    refine ⟨_, _, hexec, State.find_setSeq _ _ _, ?_, ?_, ?_⟩ <;> rw [hcached]
  · obtain ⟨t, x, hreads, hfind, hasked, htakes⟩ := State.engineTakes_spec hq hback (.line e)
    rw [if_neg (by simp [hlacks])] at htakes
    refine ⟨t, x, congrArg Host.Outcome.next htakes, hreads.sameMemory, hfind, ?_, ?_, ?_⟩ <;> rw [hasked.seq]
  · obtain ⟨t, x, hreads, hfind, hasked, htakes⟩ := State.engineTakes_spec hq hback (.line e)
    rw [if_pos hholds] at htakes
    obtain ⟨hkind, -⟩ := Sequence.kind_of_back hback
    obtain ⟨hdone, y, hy, hframes, hlanded, hreturned⟩ := State.finishFrame_scan hfind (l := l) (by omega)
    refine ⟨_, y, congrArg Host.Outcome.next htakes, (hreads.trans hdone).sameMemory, hy, ?_, ?_, ?_⟩
    · rw [hframes, hasked.seq, List.length_erase_of_mem (by simp)]
      simp
    · rw [hlanded, hasked.seq]
    · rw [hreturned, hasked.seq]
  · obtain ⟨t, x, hreads, hfind, hasked, htakes⟩ := State.engineTakes_spec hq hback (.line e)
    rw [if_neg (by simp [hlacks])] at htakes
    refine ⟨t, x, congrArg Host.Outcome.next htakes, hreads.sameMemory, hfind, ?_, ?_⟩ <;> rw [hasked.seq]

end Sys2Proof.Machine
end
